-- ==== Sys2Proof/Word.lean ====
section
/-! DEFINITION. The plainest data of the model: a byte, a keyed store held as a list, and 64-bit and 32-bit words where the spec
works on bits. Records, descriptors and registers of the spec are natural numbers read through named bit fields. -/

namespace Sys2Proof

/-- One byte of memory or of a message. -/
abbrev Byte := BitVec 8

/-- Sparse data by number: pairs of a key and a value. Its canonical form has strictly rising keys. -/
abbrev KMap (α : Type) := List (Nat × α)

/-- The largest value of `n` bits plus one. -/
abbrev pow2 (n : Nat) : Nat := 2 ^ n

end Sys2Proof
end

