-- ==== Sys2Proof/Operand.lean ====
section
/-! DEFINITION. What commands carry as operands beside numbers and bytes: a message as a link delivers it, the reach a dictionary
request comes by, and the planner's decisions.
Choices of the model here, by the assumption log: log 18 (DESIGN CHOICE); log 17 (DEDUCED). -/

namespace Sys2Proof.Machine

/-- A message between devices: virtual channel, kind (0 management, 1 queue-pair packet, 2 tray, 3 coherence, 4 clasp datagram), the
other end's device number (the receiver of one that is sent, the sender of one received), header, its bytes, data as carried on the
wire (received: a codec block header and coded bytes where the message has a block), the stream or queue pair it belongs to, and the
tenant whose key it travels under (4,096 where it was received in clear). -/
structure Msg where
  vc : Nat
  kind : Nat
  dest : Nat
  hdr : Nat
  hlen : Nat
  data : List Byte
  stream : Nat
  tenant : Nat
  deriving DecidableEq, Repr

/-- The reach of a dictionary request (R371 to R375, R477): a BAR0 mailbox, a management-bus endpoint, a source device on the fabric. -/
inductive Reach where
  | mailbox (m : Nat)
  | bus (endpoint : Nat)
  | fabric (dev : Nat)
  deriving DecidableEq, Repr

end Sys2Proof.Machine

namespace Sys2Proof

/-- A decision of the planner (R12, R13): carried as an operand by TABLE_SEAL, TICK and the other commands within which the planner
builds. A place names a strand's header and its eight segments. -/
inductive PlanAct where
  /-- Bytes the planner writes for its own steps to read: descriptors, entry tables, token lists. -/
  | put (addr : Nat) (data : List Byte)
  /-- R20, R21: the hits a PREFIX_WALK wrote at `out` shared by an admitted row. -/
  | share (row out : Nat) (place : List Nat)
  /-- R134, R154: beads and budget reserved for the next step of a row: a decode step up to provisional length `prov`; `first` is 1 where a
  prefill step selects the first token. -/
  | plan (row prov first : Nat) (place : List Nat)
  /-- R139: the bead of ordinal `ord` of a row replaced by a fresh one, whose COPY is planned. -/
  | cow (row ord : Nat)
  /-- R133: larger segments taken for a row, their copy planned. -/
  | grow (row : Nat) (place : List Nat)
  /-- R133: the copy has completed: the header names them. -/
  | grown (row : Nat)
  /-- R141: a step that did not issue given up: beads beyond the committed length returned. -/
  | back (row : Nat)
  /-- R136: the bead of ordinal `ord` of a row registered under its block hash. -/
  | register (row ord : Nat)
  /-- R137: a retained registration evicted. -/
  | evict (entry : Nat)
  /-- R188 to R190: a row offered for a purpose, its pass area at `area`. -/
  | offer (row purpose area : Nat)
  /-- R135: a step of a row deferred for want of beads on a stack; a victim parked, its pass area at `area`. -/
  | short (row stack area : Nat)
  /-- R440: the strand of a parked row coded into groups. -/
  | code (row : Nat)
  /-- R441: a shard offered to its member. -/
  | place (row group index : Nat)
  /-- R440: a row whose shards are all held gets its group table at `area`. -/
  | whole (row area : Nat)
  /-- R442: a lost shard computed again into a fresh bead, to be placed. -/
  | rebuild (row group index : Nat)
  /-- R442: a read of a placed shard has failed. -/
  | lose (row group index : Nat)
  /-- R147: a row fails whose step ended with FAULT. -/
  | fail (row : Nat)
  /-- R13: what governs a queue pair's share of VC1. -/
  | vc1 (qp priority quantum wicketEn wicket spray : Nat)
  deriving DecidableEq, Repr

end Sys2Proof
end

