-- ==== Sys2Proof/Syntax.lean ====
section
/-! DEFINITION. The commands of the block: one constructor for every row of spec/opcode_table.json, with the row's operands as the
rules give them. A message is its header as one number and its data bytes; a planner decision is an operand.
Choices of the model here, by the assumption log: log 18, 60 (DESIGN CHOICE). -/

namespace Sys2Proof

open Machine (Msg Reach)

/-- The commands (spec/opcode_table.json). Each constructor's docstring names its row's mnemonic, its rule and the row's summary. -/
inductive Instr where
  /-- TICK (R26). A tick ends one frame and starts the next: the frame number increments, carried steps drain, a named overlay applies and issue starts from the new table. -/
  | tick (off : Int) (acts : List PlanAct)
  /-- TICK_SOURCE_ENABLE (R27). Enabling the tick source in CONFIG opens capture at any phase and moves the tick state from UNLOCKED to LOCKING. -/
  | tickSourceEnable
  /-- TICK_OUT_OF_WINDOW (R27). A tick outside the capture window is ignored and counted in TICK_SLIPS; a third such tick at one phase ends the frame and adopts the new phase. -/
  | tickOutOfWindow (off : Int) (acts : List PlanAct)
  /-- HOLDOVER_TICK (R27). When no tick arrives by the expected time plus TICK_CAPTURE_CLK, the device generates the tick itself and enters or stays in HOLDOVER. -/
  | holdoverTick (acts : List PlanAct)
  /-- TICK_LOST (R27). After TICK_HOLDOVER_MAX frames without an in-window tick, the device raises ALERT_N with TICK_LOST, withdraws from barriers and goes UNLOCKED. -/
  | tickLost
  /-- FRAME_SYNC (R28). A received FRAME_SYNC message assigns the frame number to a LOCKING device, or is compared with the own number on a LOCKED or HOLDOVER device. -/
  | frameSync (frame : Nat) (periodClk : Nat)
  /-- TICK_MESSAGE (R28). A TICK message received on the tick link gives the receiver the frame number of the forwarded tick. -/
  | tickMessage (link : Nat) (frame : Nat)
  /-- TABLE_SEAL (R34). At the seal clock PERIOD_CLK minus SEAL_MARGIN_CLK the planner seals the table for the next frame. -/
  | tableSeal (hdr : Nat) (planned : List Nat) (acts : List PlanAct)
  /-- STEP_ISSUE (R32). The sequencer issues a step once its START_CLK, awaited events and earlier steps on its unit allow, at most 4 per clk. -/
  | stepIssue
  /-- DRAIN_END (R39). When every carried step has completed, the drain ends and steps of the new frame become eligible in merged order. -/
  | drainEnd
  /-- DRAIN_WATCHDOG (R427). A carried step still running DRAIN_LIMIT_CLK after the tick is ended with FAULT and its unit is fenced or reset. -/
  | drainWatchdog (unit : Nat)
  /-- SEQ_POST (R31). A SEQ POST step completes as soon as it issues and posts its DONE_EVENT. -/
  | seqPost
  /-- BARRIER (R43). A BARRIER step sends an arrival message on VC3 to every device of BARRIER_GROUP. -/
  | barrier
  /-- BARRIER_ARRIVE (R43). A received barrier arrival is recorded, and when arrivals from every member are in the barrier completes with last-arrival statistics. -/
  | barrierArrive (slot : Nat) (frame : Nat)
  /-- VC0_REQUEST (R41). A PASS VC0_REQUEST step sends requests for VC0 receive slots for the next frame. -/
  | vc0Request (port : Nat)
  /-- VC0_GRANT (R41). A PASS VC0_GRANT step answers requests with grants within the free slots of each link's VC0 pool. -/
  | vc0Grant (port : Nat)
  /-- VC0_REQUEST_RECEIVE (R41). A received VC0_REQUEST management message is held for the receiver's grant step. -/
  | vc0RequestReceive (fromDev : Nat) (frame : Nat) (recs : List Nat)
  /-- VC0_GRANT_RECEIVE (R41). A received VC0_GRANT management message gives the sender the slots it may fill in the next frame. -/
  | vc0GrantReceive (fromDev : Nat) (frame : Nat) (recs : List Nat)
  /-- VC0_GRANT_DEADLINE (R41). A request still unanswered at VC0_GRANT_PM of the period counts as granted zero. -/
  | vc0GrantDeadline
  /-- CTX (R93). A CORE CTX step saves the named window ranges and accumulator rows to HBM and restores others. -/
  | ctx (core : Nat)
  /-- OVERLAY_APPLY_COMPLETE (R382). When the apply has run T_apply, ROLE is set, opened functions open, the tray read cache is invalidated and held writes are released. -/
  | overlayApplyComplete
  /-- RUN (R73). A CORE RUN step checks and loads its program and runs it from the first op word to END. -/
  | run (core : Nat)
  /-- NOP (R81). The NOP op does nothing for one clock. -/
  | nop (core : Nat)
  /-- END (R81). The END op ends the program after an implicit FENCE. -/
  | endOp (core : Nat)
  /-- LOOP (R80). The LOOP op repeats the following op words a count read from X or a parameter register. -/
  | loop (core : Nat)
  /-- SETAD (R81). The SETAD op sets an address register to an immediate. -/
  | setad (core : Nat)
  /-- ADDAD (R81). The ADDAD op adds a signed immediate to an address register. -/
  | addad (core : Nat)
  /-- ADDP (R81). The ADDP op adds a sign-extended immediate to a parameter register. -/
  | addp (core : Nat)
  /-- MOVPA (R81). The MOVPA op copies the low 32 bits of a parameter register into an address register. -/
  | movpa (core : Nat)
  /-- EVT_POST (R86). The EVT_POST op waits for every earlier op to finish and then posts its event. -/
  | evtPost (core : Nat)
  /-- EVT_WAIT (R86). The EVT_WAIT op waits until its event is posted in the current frame or its limit passes. -/
  | evtWait (core : Nat)
  /-- EVT_WAIT_EXPIRE (R86). An EVT_WAIT whose Y × 64 clk limit passes ends, sets WAIT_EXPIRED and the program continues. -/
  | evtWaitExpire (core : Nat)
  /-- FENCE (R83). The FENCE op waits until every asynchronous op of the step has finished. -/
  | fenceOp (core : Nat)
  /-- WLOAD (R81). The WLOAD op starts an asynchronous load from memory into window memory. -/
  | wload (core : Nat)
  /-- WSTORE (R81). The WSTORE op starts an asynchronous store from window memory to memory. -/
  | wstore (core : Nat)
  /-- WCOPY (R81). The WCOPY op copies window memory to window memory. -/
  | wcopy (core : Nat)
  /-- TRANSP (R81). The TRANSP op transposes one block in window memory. -/
  | transp (core : Nat)
  /-- MMA (R59). The MMA op multiplies A by B and accumulates into the accumulator under the chunk rule. -/
  | mmaOp (core : Nat)
  /-- MMAT (R59). The MMAT op multiplies A by B transposed and accumulates into the accumulator. -/
  | mmat (core : Nat)
  /-- VADD (R63). The VADD op adds two vector operands element by element. -/
  | vadd (core : Nat)
  /-- VSUB (R63). The VSUB op subtracts two vector operands element by element. -/
  | vsub (core : Nat)
  /-- VMUL (R63). The VMUL op multiplies two vector operands element by element. -/
  | vmul (core : Nat)
  /-- VFMA (R63). The VFMA op computes A × B + D with one rounding. -/
  | vfma (core : Nat)
  /-- VMAX (R63). The VMAX op takes the element-wise maximum of two operands. -/
  | vmax (core : Nat)
  /-- VMIN (R63). The VMIN op takes the element-wise minimum of two operands. -/
  | vmin (core : Nat)
  /-- VAFF (R81). The VAFF op computes A × c + d with one rounding. -/
  | vaff (core : Nat)
  /-- VROWSUB (R81). The VROWSUB op scales each row and subtracts a per-row value, with optional causal masking. -/
  | vrowsub (core : Nat)
  /-- VROWMUL (R81). The VROWMUL op multiplies each row by a per-row value. -/
  | vrowmul (core : Nat)
  /-- RSUM (R64). The RSUM op sums each row along a fixed binary tree. -/
  | rsum (core : Nat)
  /-- RMAX (R64). The RMAX op takes the maximum of each row. -/
  | rmax (core : Nat)
  /-- RMIN (R64). The RMIN op takes the minimum of each row. -/
  | rmin (core : Nat)
  /-- RSSQ (R64). The RSSQ op sums the squares of each row along a fixed tree. -/
  | rssq (core : Nat)
  /-- SFN (R65). The SFN op applies the selected special function to each element. -/
  | sfn (core : Nat)
  /-- IDXBUILD (R88). The IDXBUILD op builds fixed-capacity expert index vectors and gates, dropping assignments beyond capacity. -/
  | idxbuild (core : Nat)
  /-- GATHER (R89). The GATHER op asynchronously gathers memory rows by index into window memory, padding indices giving zero rows. -/
  | gather (core : Nat)
  /-- GATHERW (R89). The GATHERW op gathers window rows by index. -/
  | gatherw (core : Nat)
  /-- SCATTER (R90). The SCATTER op writes or gate-adds rows to destination rows by index, skipping padding slots. -/
  | scatter (core : Nat)
  /-- TOPK (R91). The TOPK op writes each row's k largest values and their indices. -/
  | topk (core : Nat)
  /-- QUANT (R66). The QUANT op converts FP32 values to a narrower format under the conversion rules. -/
  | quant (core : Nat)
  /-- DEQUANT (R81). The DEQUANT op decodes a narrow format exactly to FP32. -/
  | dequant (core : Nat)
  /-- CREDUCE (R92). The CREDUCE op reads S partials and sums them along a fixed tree. -/
  | creduce (core : Nat)
  /-- ASYNC_OP_COMPLETE (R83). An outstanding WLOAD, WSTORE or GATHER finishes, its data or write responses having returned, errors filling zeros under R84. -/
  | asyncOpComplete (core : Nat) (k : Nat)
  /-- CORE_STEP_COMPLETE (R85). A core step completes when END has run and every asynchronous op has finished; its completion record is written and DONE_EVENT posted. -/
  | coreStepComplete (core : Nat)
  /-- CORE_CHECK_FAIL (R426). A failed core check ends the running step with FAULT, fences the core and adds its rows to the containment set. -/
  | coreCheckFail (core : Nat) (block : Nat)
  /-- ATTEND (R105). A SETTING ATTEND job optionally appends, then attends every entry over its stack segment and returns (m, l, o) triples. -/
  | attend (k : Nat)
  /-- APPEND (R102). A SETTING APPEND job writes new key and value positions into the beads of one layer. -/
  | append (k : Nat)
  /-- COPY (R113). A SETTING COPY job writes a private copy of a shared bead on the same stack. -/
  | copy (k : Nat)
  /-- GFCOMB (R114). A SETTING GFCOMB job computes GF(2^8) combinations of inputs into one or two outputs. -/
  | gfcomb (k : Nat)
  /-- BEAD_CLEAR_UNIT (R127). The base die zeroes one 204,800-byte unit of a CLEARING bead when no setting job runs on the stack. -/
  | beadClearUnit (cls : Nat) (stack : Nat)
  /-- ALLOC (R125). The pool manager ALLOC command takes n READY beads of a class and stack, or none. -/
  | alloc (cls : Nat) (stack : Nat) (n : Nat) (o0 : Nat) (row : Nat) (tenant : Nat)
  /-- REF (R128). The REF command adds a reference to a HELD bead with matching GEN, or answers STALE. -/
  | ref (b : Nat) (gen : Nat)
  /-- UNREF (R124). The UNREF command drops a reference, moving the bead to PENDING when it was the last. -/
  | unref (b : Nat)
  /-- SHARD (R124). The SHARD command moves a bead with one reference from HELD to SHARD. -/
  | shard (b : Nat)
  /-- AUDIT (R143). The AUDIT command starts a walk of every descriptor of one class on one stack. -/
  | audit (cls : Nat) (stack : Nat)
  /-- AUDIT_REQ (R143). A host write of AUDIT_REQ starts a bead audit of the named class and stack, or is refused with BAD_VALUE. -/
  | auditReq (r : Reach) (tag : Nat) (off : Nat) (data : List Byte)
  /-- AUDIT_WALK_DONE (R143). When the audit walk has visited every slot, AUDIT_RESULT reports OK or MISMATCH and the first disagreeing slot. -/
  | auditWalkDone (cls : Nat) (stack : Nat)
  /-- ADMISSION_RECORD (R148). An admission record arriving on a client queue pair is screened and checked, and the request is admitted, deferred, rejected or answered DUPLICATE. -/
  | admissionRecord (q : Nat) (msg : List Byte) (place : List Nat)
  /-- CANCEL (R152). A CANCEL control record sets FLAGS.CANCEL so the row completes once no step is in flight. -/
  | cancel (q : Nat) (rid : Nat)
  /-- CONTINUE (R152). A CONTINUE control record adds prompt tokens to a HELD or PARKED request, or is rejected or deferred. -/
  | continue (q : Nat) (rid : Nat) (toks : List Nat)
  /-- CLOSE (R152). A CLOSE control record sets FLAGS.CLOSE so the row completes. -/
  | close (q : Nat) (rid : Nat)
  /-- SUSPEND (R147). A ROW_CONTROL SUSPEND moves an owned row to SUSPENDED, or sets FLAGS.SUSPEND on a HANDING row. -/
  | suspend (r : Reach) (tag : Nat) (row : Nat)
  /-- RESUME (R147). A ROW_CONTROL RESUME returns a SUSPENDED row to PRIOR_STATE. -/
  | resume (r : Reach) (tag : Nat) (row : Nat)
  /-- DEADLINE_MISS (R151). When the frame passes DEADLINE_FRAME before the first output token, DEADLINE_MISSES counts and a hard deadline fails the row. -/
  | deadlineMiss (r : Nat)
  /-- PARK_IDLE (R147). A HELD row idle for PARK_IDLE_FRAMES on a GENERATE or MIXED node is offered to a cache node. -/
  | parkIdle (r : Nat) (area : Nat)
  /-- HOLD_LIMIT (R24). A PARKED row whose idle time reaches the tenant's hold limit completes as DONE with HOLD_EXPIRED. -/
  | holdLimit (r : Nat)
  /-- ROW_COMPLETION (R25). A finishing request frees its beads, settles charges, waits for its reply queue pair, writes its final status and frees its row. -/
  | rowCompletion (r : Nat)
  /-- MODEL_SLOTS (R159). A write of a model slot record loads, makes resident or drains a model slot at the next boundary. -/
  | modelSlots (r : Reach) (tag : Nat) (off : Nat) (data : List Byte)
  /-- ADAPTER_LOAD (R163). A write of ADAPTER_LOAD takes a FREE version record as LOADING with the slot's next version, or is refused VERSIONS_FULL. -/
  | adapterLoad (r : Reach) (tag : Nat) (off : Nat) (data : List Byte)
  /-- ADAPTER_COMMIT (R163). A write of ADAPTER_COMMIT makes the new version CURRENT and the old RETIRING at the frame boundary. -/
  | adapterCommit (r : Reach) (tag : Nat) (off : Nat) (data : List Byte)
  /-- SELECT (R176). A TSU SELECT step masks, samples and verifies drafts for each entry, writes the row and sends the token message. -/
  | select (lane : Nat)
  /-- GRAMMARS (R177). A write of a grammar record loads or readies a grammar at the next boundary, or is refused IN_USE. -/
  | grammars (r : Reach) (tag : Nat) (off : Nat) (data : List Byte)
  /-- OFFER (R191). A received OFFER is tested in order and refused, or accepted with beads reserved, row taken and ACCEPT sent. -/
  | offer (m : Msg) (place : List Nat) (land : Nat) (pull : Nat × Nat)
  /-- ACCEPT (R197). A received ACCEPT moves the source record from OFFERED to ACCEPTED with FIRST_FRAME and LIMIT_FRAME. -/
  | accept (m : Msg)
  /-- REFUSE (R197). A received REFUSE frees the source record, deregisters keys and returns the row to its prior state. -/
  | refuse (m : Msg)
  /-- TAKE (R196). A received TAKE(e + 1) makes the source release its row under R196, or be answered RELEASED from a departure record. -/
  | take (m : Msg)
  /-- RELEASED (R196). A received RELEASED makes the destination apply the carried FLAGS and free its clasp record. -/
  | released (m : Msg)
  /-- QUERY (R198). A received QUERY is answered at once with TAKE, ABANDONED or RELEASED under the higher-epoch rule. -/
  | query (m : Msg)
  /-- ABANDONED (R197). A received ABANDONED frees the source record, deregisters keys and returns the row to its prior state. -/
  | abandoned (m : Msg)
  /-- CLASP_RESEND (R197). After CLASP_RESEND_FRAMES without an answer an OFFER or TAKE is sent again. -/
  | claspResend (c : Nat)
  /-- CLASP_QUERY_TIMER (R197). When sends are exhausted or LIMIT_FRAME has passed, a QUERY is sent every CLASP_QUERY_FRAMES. -/
  | claspQueryTimer (c : Nat)
  /-- CLASP_STUCK (R197). A clasp record open longer than CLASP_STUCK_FRAMES writes one CLASP_STUCK telemetry record. -/
  | claspStuck (c : Nat)
  /-- CLASP_NO_DATA (R197). A pull with no byte landed for CLASP_NO_DATA_FRAMES is abandoned with NO_DATA. -/
  | claspNoData (c : Nat)
  /-- COMMIT (R195). A CLASP COMMIT step writes each fully landed row from its final image, commits e + 1 and sends TAKE. -/
  | commit
  /-- PEER_LOST (R201). A PEER_LOST write resolves every open clasp record with that peer by committing e + 2 as the rule gives. -/
  | peerLost (r : Reach) (tag : Nat) (off : Nat) (data : List Byte)
  /-- MAP_NEXT (R185). A write of MAP_NEXT makes a later-epoch map PENDING, or is refused STALE_MAP. -/
  | mapNext (r : Reach) (tag : Nat) (off : Nat) (data : List Byte)
  /-- SCRUB (R210). A MEMORY SCRUB step reads lines of one stack and writes corrected lines back atomically. -/
  | scrub (k : Nat)
  /-- REMAP (R213). A MEMORY REMAP step copies queued rows to spare rows and installs remap entries. -/
  | remap (k : Nat)
  /-- MIGRATE (R221). A MEMORY MIGRATE step moves granules between HBM and commons and flips the granule map. -/
  | migrate (k : Nat)
  /-- REFRESH_MANAGEMENT (R211). A bank whose activation count reaches ACT_THRESHOLD receives a refresh-management command and its count returns to 0. -/
  | refreshManagement (k : Nat) (bank : Nat)
  /-- LINK_ENABLE_SET (R231). Setting a LINK_ENABLE bit starts lane equalisation and moves the link to TRAINING. -/
  | linkEnableSet (l : Nat)
  /-- LINK_ENABLE_CLEAR (R231). Clearing a LINK_ENABLE bit makes the lanes electrically idle and the link DISABLED. -/
  | linkEnableClear (l : Nat)
  /-- LINK_TRAINED (R231). When training completes the peer record is checked and the link becomes ACTIVE with credits set, or MISWIRED. -/
  | linkTrained (l : Nat) (part : Nat) (device : Nat) (slot : Nat) (link : Nat) (profile : Nat) (bufs : List Nat) (occ : List Nat) (freed : List Nat) (delay : Nat)
  /-- TRAINING_TIMEOUT (R231). A training attempt not ACTIVE within 100 ms restarts, or fences the link when attempts reach TRAIN_ATTEMPTS. -/
  | trainingTimeout (l : Nat)
  /-- GROUP_ACK_TIMEOUT (R238). A numbered group unacknowledged 2 µs after its first transmission exhausts retry and both ends enter RECOVERY. -/
  | groupAckTimeout (l : Nat)
  /-- FEC_LOCK_LOST (R231). Loss of FEC lock on an ACTIVE link moves it to RECOVERY. -/
  | fecLockLost (l : Nat)
  /-- PEER_TRAINING_RECORD (R231). A training record received from the peer on an ACTIVE link moves it to RECOVERY. -/
  | peerTrainingRecord (l : Nat)
  /-- RECOVERY_COMPLETE (R231). A link realigned with delay re-measured and credits resynchronised returns to ACTIVE, or is fenced at RECOVERY_LIMIT. -/
  | recoveryComplete (l : Nat) (occ : List Nat) (freed : List Nat) (delay : Nat)
  /-- RECOVERY_TIMEOUT (R231). A link not ACTIVE within 20 µs of entering RECOVERY returns to TRAINING. -/
  | recoveryTimeout (l : Nat)
  /-- FENCE_LINK (R247). A write of FENCE_LINK idles the named link, discards its groups and removes it from spray sets and routes. -/
  | fenceLink (v : Nat)
  /-- FLIT_GROUP_RECEIVE (R230). A received flit group is accepted and its payload delivered, or rejected whole, and its control header fields are taken. -/
  | flitGroupReceive (l : Nat) (hdr : Nat) (descs : List Nat) (data : List (List Byte)) (corrected : Nat) (uncorrected : Nat)
  /-- CHUNK_FORWARD (R241). An intermediate device forwards a HOP chunk whole on its direct link to DEST once a link with credits is ACTIVE. -/
  | chunkForward (l : Nat)
  /-- QP_CONTEXTS (R252). A write of a queue-pair context sets its fields and moves it between RESET, INIT and READY. -/
  | qpContexts (r : Reach) (tag : Nat) (off : Nat) (data : List Byte)
  /-- QP_DRAINED (R251). A DRAINING queue pair with an empty send queue and every PSN acknowledged becomes CLOSED. -/
  | qpDrained (q : Nat)
  /-- POST (R254). A PASS POST step places its work requests on the named queue pairs. -/
  | post (port : Nat)
  /-- SEND (R253). A SEND work request sends a message into the peer's next receive buffer. -/
  | send (q : Nat)
  /-- WRITE (R253). A WRITE work request writes bytes into a keyed region at the peer. -/
  | write (q : Nat)
  /-- READ (R253). A READ work request reads bytes from a keyed region at the peer. -/
  | read (q : Nat)
  /-- FETCH_ADD (R253). A FETCH_ADD work request adds to an 8-byte word at the peer and returns the prior value. -/
  | fetchAdd (q : Nat)
  /-- CMP_SWAP (R253). A CMP_SWAP work request compares and swaps an 8-byte word at the peer and returns the prior value. -/
  | cmpSwap (q : Nat)
  /-- SEND_PACKET (R259). A received SEND packet is classified by PSN and placed into the receive buffer by offset. -/
  | sendPacket (m : Msg)
  /-- WRITE_PACKET (R262). A received WRITE packet is classified, key-checked and placed at its offset. -/
  | writePacket (m : Msg)
  /-- READ_REQ (R258). A received READ_REQ is key-checked and answered with READ_RESP packets, again on a duplicate. -/
  | readReq (m : Msg)
  /-- READ_RESP (R258). A received READ_RESP places data for an outstanding READ, or is discarded. -/
  | readResp (m : Msg)
  /-- ATOMIC (R258). A received ATOMIC packet is executed once and answered, duplicates from the result store. -/
  | atomic (m : Msg)
  /-- ATOMIC_RESP (R258). A received ATOMIC_RESP returns the prior value of an outstanding atomic, or is discarded. -/
  | atomicResp (m : Msg)
  /-- ACK (R260). A received ACK advances ACK_PSN and completes work requests whose last PSN it passes. -/
  | ack (m : Msg)
  /-- NAK (R264). A received NAK completes the work request with its status, schedules a RETRY_AFTER re-send, or moves the queue pair to ERROR. -/
  | nak (m : Msg)
  /-- ACK_TIMER (R260). An ACK is sent 1 µs after an unacknowledged advance of the cumulative PSN. -/
  | ackTimer (q : Nat)
  /-- QP_TIMEOUT (R265). When the queue-pair timer reaches TIMEOUT every unacknowledged packet is re-sent, or the queue pair enters ERROR after RETRY_MAX. -/
  | qpTimeout (q : Nat)
  /-- RETRY_AFTER_RESEND (R264). After the HINT delay a packet answered RETRY_AFTER is sent again with the same PSN. -/
  | retryAfterResend (q : Nat) (psn : Nat)
  /-- STALL_LIMIT (R263). A packet held for a non-resident page past STALL_LIMIT is answered NAK RETRY_AFTER. -/
  | stallLimit (q : Nat) (psn : Nat)
  /-- PAGE_RESIDENT (R263). A packet held in the fault buffer executes when its page's residency bit becomes 1. -/
  | pageResident (q : Nat) (psn : Nat)
  /-- CQ_ENTRY (R255). A completion-queue entry is written when the completion queue has room. -/
  | cqEntry (cq : Nat)
  /-- MR_REGISTER (R261). A write of MR_REGISTER makes a region record VALID and returns its key. -/
  | mrRegister (r : Reach) (tag : Nat) (off : Nat) (data : List Byte)
  /-- MR_DEREGISTER (R261). A write of MR_DEREGISTER clears a region record's VALID and advances its generation. -/
  | mrDeregister (r : Reach) (tag : Nat) (off : Nat) (data : List Byte)
  /-- WICKET_FILL (R271). Each wicket's C and P buckets fill by one sixteenth of CIR and PIR every 64 clk, capped at CBS and PBS. -/
  | wicketFill
  /-- WICKETS (R272). A write of wicket records applies new rates and resets the buckets at the boundary as RESET_FULL selects. -/
  | wickets (r : Reach) (tag : Nat) (off : Nat) (data : List Byte)
  /-- TRAY_READ (R280). A received tray READ is export-checked and answered with READ_RESP data. -/
  | trayRead (m : Msg)
  /-- TRAY_WRITE (R280). A received tray WRITE is export-checked, applied line by line and answered once visible. -/
  | trayWrite (m : Msg)
  /-- TRAY_ATOMIC (R287). A received tray ATOMIC is run as an atomic read-modify-write of its line and answered with the prior value. -/
  | trayAtomic (m : Msg)
  /-- TRAY_READ_RESP (R284). A received tray READ_RESP completes the read and fills the tray read cache when cacheable. -/
  | trayReadResp (m : Msg)
  /-- TRAY_WRITE_RESP (R280). A received tray WRITE_RESP completes the outstanding write. -/
  | trayWriteResp (m : Msg)
  /-- TRAY_ATOMIC_RESP (R287). A received tray ATOMIC_RESP returns the prior value of the outstanding atomic. -/
  | trayAtomicResp (m : Msg)
  /-- TRAY_TIMEOUT (R281). A tray request without a response after TRAY_TIMEOUT_CLK gets TIMEOUT and its tag generation advances. -/
  | trayTimeout (tag : Nat)
  /-- TRAY_SLOT_DEAD (R282). A write of TRAY_SLOT_DEAD fails every request to the slot with SLOT_DEAD and drops its cached lines. -/
  | traySlotDead (r : Reach) (tag : Nat) (off : Nat) (data : List Byte)
  /-- TRAY_MEMBERS (R282). A write of TRAY_MEMBERS sets the tray's member slots and revives a dead slot whose bit it sets. -/
  | trayMembers (r : Reach) (tag : Nat) (off : Nat) (data : List Byte)
  /-- TRC_INVAL_ALL (R284). Any write of TRC_INVAL_ALL invalidates the whole tray read cache. -/
  | trcInvalAll (r : Reach) (tag : Nat) (off : Nat) (data : List Byte)
  /-- FABRIC_ATOMIC (R287). A FABRIC ATOMIC step issues its atomic entries to bulk space, the control window or apertures. -/
  | fabricAtomic (port : Nat)
  /-- INVAL (R285). A FABRIC INVAL step invalidates every tray read cache line that meets its ranges. -/
  | inval (port : Nat)
  /-- GET_S (R291). A GET_S at the home is answered from backing or forwarded to the owner, and the directory entry updated. -/
  | getS (m : Msg)
  /-- GET_M (R291). A GET_M at the home is answered with data and invalidations or forwarded, making the requester exclusive. -/
  | getM (m : Msg)
  /-- PUT_M (R291). A PUT_M from the owner writes the line to backing and is answered PUT_ACK. -/
  | putM (m : Msg)
  /-- PUT_E (R291). A PUT_E from the owner makes the line UNCACHED and is answered PUT_ACK. -/
  | putE (m : Msg)
  /-- FWD_S (R293). A FWD_S at the owner sends DATA to the requester and COPY_BACK to the home after its hold. -/
  | fwdS (m : Msg)
  /-- FWD_M (R293). A FWD_M at the owner sends DATA to the requester and invalidates the line after its hold. -/
  | fwdM (m : Msg)
  /-- INV (R293). An INV at a sharer invalidates the line and is answered INV_ACK at once. -/
  | inv (m : Msg)
  /-- RECALL (R293). A RECALL at the owner sends COPY_BACK to the home and invalidates the line. -/
  | recall (m : Msg)
  /-- DATA (R293). A received DATA gives the requester its line, completing the access once every counted INV_ACK is in. -/
  | dataOp (m : Msg)
  /-- DATA_E (R291). A received DATA_E gives the requester the line exclusive. -/
  | dataE (m : Msg)
  /-- INV_ACK (R293). A received INV_ACK counts toward the acknowledgements an access or eviction awaits. -/
  | invAck (m : Msg)
  /-- COPY_BACK (R291). A COPY_BACK at the home ends a BUSY entry and updates the backing. -/
  | copyBack (m : Msg)
  /-- PUT_ACK (R291). A received PUT_ACK frees the evicted line from the write-back buffer. -/
  | putAck (m : Msg)
  /-- COH_HOLD_END (R293). When a 250 clk ownership hold ends, a waiting FWD or RECALL for the line is answered. -/
  | cohHoldEnd (key : Nat)
  /-- COH_TIMEOUT (R297). No answer to a FWD, RECALL or INV within COH_TIMEOUT_CLK takes the member's domain DOWN. -/
  | cohTimeout (line : Nat)
  /-- DOMAIN_DOWN (R297). A DOMAIN_DOWN message, or any other down cause, discards cache and directory and fails control-window accesses. -/
  | domainDown (fromDev : Nat) (epoch : Nat)
  /-- COH_RESET (R298). A write of COH_RESET clears cache and directory, adopts the epoch, enters RESETTING and sends READY. -/
  | cohReset (r : Reach) (tag : Nat) (off : Nat) (data : List Byte)
  /-- COH_READY (R298). A received READY with the same epoch is counted, and the member enters UP when all members have sent it. -/
  | cohReady (fromDev : Nat) (epoch : Nat)
  /-- APERTURE_TIMEOUT (R301). An aperture access without a result after APERTURE_TIMEOUT_CLK gets a TIMEOUT error response. -/
  | apertureTimeout (id : Nat)
  /-- DMA_RUN (R304). A DMA RUN step starts a channel's chain of descriptors. -/
  | dmaRun (ch : Nat)
  /-- DMA_RESUME (R314). A DMA RESUME step continues a PAUSED or HALTED channel from its saved state. -/
  | dmaResume (ch : Nat)
  /-- DMA_RESET (R314). A DMA RESET step discards a channel's saved state and returns it to IDLE. -/
  | dmaReset (ch : Nat)
  /-- DMA_TRIGGER (R307). A descriptor whose trigger is met starts moving its rows. -/
  | dmaTrigger (ch : Nat) (n : Nat)
  /-- TRIGGER_EXPIRED (R307). A trigger not met within TRIG_LIMIT ends the DMA step with TRIGGER_EXPIRED. -/
  | triggerExpired (ch : Nat)
  /-- DMA_DESCRIPTOR_COMPLETE (R310). A descriptor completes under its POSTED or ACKED mode, completing the step if it was the last. -/
  | dmaDescriptorComplete (ch : Nat)
  /-- DMA_ERROR_RESPONSE (R311). A DMA access error is retried on TIMEOUT up to RETRY_COUNT, otherwise halts the channel, or is logged as a late write error. -/
  | dmaErrorResponse (ch : Nat)
  /-- CHANNEL_PAUSE (R313). Setting a channel's CHANNEL_PAUSE bit makes it stop reading and pause. -/
  | channelPause (ch : Nat) (v : Bool)
  /-- DMA_PAUSE_COMPLETE (R313). When every byte read is written and acknowledged, the paused channel records its position and completes the step PAUSED. -/
  | dmaPauseComplete (ch : Nat)
  /-- TABLE_DEF (R321). A received TABLE_DEF installs a built codec table and is answered TABLE_ACK, or refused. -/
  | tableDef (dev : Nat) (id : Nat) (gen : Nat) (lengths : Nat)
  /-- TABLE_ACK (R320). A received TABLE_ACK makes the peer code with the new generation and may make it CURRENT. -/
  | tableAck (dev : Nat) (id : Nat) (gen : Nat)
  /-- TABLE_REFUSED (R321). A received TABLE_REFUSED makes the sender code toward that peer with fixed table 0. -/
  | tableRefused (dev : Nat) (id : Nat) (gen : Nat)
  /-- TABLE_DROP (R323). A received TABLE_DROP frees the receiver's table slot and is answered DROP_ACK. -/
  | tableDrop (dev : Nat) (id : Nat) (gen : Nat)
  /-- DROP_ACK (R322). A received DROP_ACK counts toward freeing a retiring generation. -/
  | dropAck (dev : Nat) (id : Nat) (gen : Nat)
  /-- TABLE_BUILD (R319). Once BUILD_BYTES bytes are counted for a built profile, the builder forms a table from the histogram. -/
  | tableBuild (id : Nat)
  /-- TABLE_REBUILD (R319). Every REBUILD_FRAMES frames the builder forms a new table and proposes it if it gains enough. -/
  | tableRebuild (id : Nat)
  /-- TABLE_DEF_RESEND (R321). An unanswered TABLE_DEF is sent again each frame, up to 16 times, then counts as refused. -/
  | tableDefResend (dev : Nat) (id : Nat)
  /-- TABLE_DROP_RESEND (R322). An unanswered TABLE_DROP is sent again each frame until DROP_ACK arrives. -/
  | tableDropResend (dev : Nat) (id : Nat)
  /-- TABLE_RETIRE (R322). When a retiring generation takes no packets and its reference count reaches 0, TABLE_DROP is sent to its peers. -/
  | tableRetire (id : Nat)
  /-- LOOKUP (R333). A LOCKET LOOKUP step searches each record's key and returns the entry and value on a hit. -/
  | lookup (b : Nat)
  /-- INSERT (R335). A LOCKET INSERT step inserts each key, answering EXISTS, FULL or the inserted entry. -/
  | insert (b : Nat)
  /-- LOCKET_WRITE (R334). A LOCKET WRITE step replaces the value of a matching or indexed entry. -/
  | locketWrite (b : Nat)
  /-- REMOVE (R334). A LOCKET REMOVE step removes a matching or indexed entry. -/
  | remove (b : Nat)
  /-- PREFIX_WALK (R336). A LOCKET PREFIX_WALK step hashes prompt blocks and looks them up until the first miss. -/
  | prefixWalk (b : Nat)
  /-- LOCKET_SCRUB (R339). A LOCKET SCRUB step compares units with their shadow records, repairs differences and removes expired entries. -/
  | locketScrub (b : Nat)
  /-- DIRECT_COMMAND (R334). A direct removal or departure rewrite from the pool manager or clasp unit is applied to a bank between records. -/
  | directCommand (u : Nat) (value : Option Nat)
  /-- ALLOWANCE_UJ (R343). A write of ALLOWANCE_UJ sets the per-frame grant for tables sealed after it and renews the lease, or is refused. -/
  | allowanceUj (r : Reach) (tag : Nat) (off : Nat) (data : List Byte)
  /-- PEAK_UJ (R344). A write of PEAK_UJ sets the largest spend per frame, or is refused ABOVE_PEAK. -/
  | peakUj (r : Reach) (tag : Nat) (off : Nat) (data : List Byte)
  /-- LEASE_EXPIRY (R345). After ALLOWANCE_LEASE_FRAMES without an allowance write the allowance falls to the floor and ALERT_N is raised with LEASE. -/
  | leaseExpiry
  /-- IDLE_REQUEST (R359). A POWER_STATE_REQ IDLE stops admission and clasps and moves the device to ENTERING_IDLE. -/
  | idleRequest (r : Reach) (tag : Nat)
  /-- IDLE_DRAIN_TIMEOUT (R359). ENTERING_IDLE lasting IDLE_DRAIN_FRAMES returns to ACTIVE with status DRAIN_TIMEOUT. -/
  | idleDrainTimeout
  /-- ACTIVE_REQUEST (R359). A POWER_STATE_REQ ACTIVE in IDLE ungates the device and moves it to EXITING_IDLE. -/
  | activeRequest (r : Reach) (tag : Nat)
  /-- DORMANT_REQUEST (R359). A POWER_STATE_REQ DORMANT in IDLE turns the regulators off, or is refused NOT_IDLE in ACTIVE. -/
  | dormantRequest (r : Reach) (tag : Nat)
  /-- WAKE_N (R362). WAKE_N held low for 10 µs wakes the device from IDLE, or starts a cold boot from DORMANT. -/
  | wakeN
  /-- DOORBELL (R373). A write of 1 to a mailbox DOORBELL submits its dictionary request, which is answered with DONE and an MSI-X. -/
  | doorbell (m : Nat) (req : Nat) (data : List Byte)
  /-- DICT_WRITE (R365). A dictionary write to an entry without its own row is checked and applied at once or at the next boundary. -/
  | dictWrite (r : Reach) (tag : Nat) (entry : Nat) (off : Nat) (data : List Byte)
  /-- DICT_INFO (R371). A dictionary INFO request returns an entry's type, access class and sizes. -/
  | dictInfo (r : Reach) (tag : Nat) (entry : Nat)
  /-- DICT_REQUEST (R375). A DICT_REQUEST management message is executed once per source and TAG and answered with DICT_RESPONSE. -/
  | dictRequest (fromDev : Nat) (data : List Byte)
  /-- DICT_RESPONSE (R375). A received DICT_RESPONSE completes the requester's dictionary request. -/
  | dictResponse (fromDev : Nat) (data : List Byte)
  /-- ENTDAA (R374). The I3C ENTDAA procedure gives the device its dynamic address. -/
  | entdaa (addr : Nat)
  /-- SET_ENDPOINT_ID (R374). The MCTP Set Endpoint ID command sets the device's endpoint ID. -/
  | setEndpointId (eid : Nat)
  /-- GET_ENDPOINT_ID (R374). The MCTP Get Endpoint ID command returns the device's endpoint ID. -/
  | getEndpointId
  /-- GET_MCTP_VERSION_SUPPORT (R374). The MCTP Get MCTP Version Support command returns supported versions. -/
  | getMctpVersionSupport
  /-- GET_MESSAGE_TYPE_SUPPORT (R374). The MCTP Get Message Type Support command returns supported message types. -/
  | getMessageTypeSupport
  /-- BASE_IMAGE (R378). A complete base image written in CONFIG is checked and applied whole, or abandoned with BASE_FAULT. -/
  | baseImage (r : Reach) (tag : Nat) (off : Nat) (data : List Byte)
  /-- CYCLIC_STEPS (R30). A CYCLIC_STEPS write is checked and replaces records from OFFSET, ending the cyclic section, at the next boundary. -/
  | cyclicSteps (r : Reach) (tag : Nat) (off : Nat) (data : List Byte)
  /-- PROG_IMAGE (R76). A PROG_IMAGE write stores program bytes and empties every instruction buffer at the boundary where it takes effect. -/
  | progImage (r : Reach) (tag : Nat) (off : Nat) (data : List Byte)
  /-- OVERLAY_LOAD (R380). A complete overlay image is checked and stored in the slot its header names. -/
  | overlayLoad (r : Reach) (tag : Nat) (off : Nat) (data : List Byte)
  /-- OVERLAY_ERASE (R380). A write of OVERLAY_ERASE empties a slot unless it is PENDING. -/
  | overlayErase (r : Reach) (tag : Nat) (off : Nat) (data : List Byte)
  /-- OVERLAY_REQUEST (R382). A write of OVERLAY_REQUEST checks the overlay and starts a role switch, holding writes and closing functions. -/
  | overlayRequest (r : Reach) (tag : Nat) (off : Nat) (data : List Byte)
  /-- SWITCH_LIMIT (R382). A switch still CLOSING or DRAINING after SWITCH_LIMIT_FRAMES raises ALERT_N with SWITCH_STUCK once. -/
  | switchLimit
  /-- RUN_REQUEST (R379). A write of RUN_REQUEST checks the base image and initial overlay and waits for the tick to lock. -/
  | runRequest (r : Reach) (tag : Nat) (off : Nat) (data : List Byte)
  /-- RUN_ENTRY (R379). At the tick after lock the initial overlay applies, every entry-to-RUN action runs and the entry frame starts. -/
  | runEntry (acts : List PlanAct)
  /-- ALERT_CLEAR (R460). A write of ALERT_CLEAR clears the alert bits written and releases ALERT_N when none remains. -/
  | alertClear (r : Reach) (tag : Nat) (off : Nat) (data : List Byte)
  /-- BAR2_WINDOW (R451). A write of BAR2_WINDOW moves the base of the BAR2 window. -/
  | bar2Window (r : Reach) (tag : Nat) (off : Nat) (data : List Byte)
  /-- BOOT_ROM_START (R386). The boot ROM tries the boot sources in order and runs the first image accepted under R385. -/
  | bootRomStart (a : List Byte) (b : List Byte)
  /-- FIRST_STAGE_LOAD (R388). The first stage loads and verifies planner and base-die firmware while HBM trains and cores self-test. -/
  | firstStageLoad (plannerA : List Byte) (plannerB : List Byte) (base : List Byte) (failed : List Nat)
  /-- BOOT_COMMIT (R472). A write of BOOT_COMMIT verifies the image staged in BOOT_LOAD and runs it, or empties the staging area. -/
  | bootCommit (r : Reach) (tag : Nat) (off : Nat) (data : List Byte)
  /-- SVN_COMMIT (R387). A write of SVN_COMMIT burns the fused SVN up to the value, or is refused. -/
  | svnCommit (r : Reach) (tag : Nat) (off : Nat) (data : List Byte)
  /-- DEBUG_UNLOCK (R390). A debug token is verified and, if accepted, keys and partitions are zeroised before the debug scope opens. -/
  | debugUnlock (r : Reach) (tag : Nat) (off : Nat) (data : List Byte)
  /-- KEY_INSTALL (R403). An install record is unwrapped with the KEM key and the tenant key is placed in its slot, or refused. -/
  | keyInstall (r : Reach) (tag : Nat) (off : Nat) (data : List Byte)
  /-- KEY_REVOKE (R406). A write of KEY_REVOKE zeroises a slot's key, advances its generation and moves it to REVOKING. -/
  | keyRevoke (r : Reach) (tag : Nat) (off : Nat) (data : List Byte)
  /-- ATTEST_REQUEST (R395). A write of a nonce to ATTEST_REQUEST asks for a signed attestation report. -/
  | attestRequest (r : Reach) (tag : Nat) (off : Nat) (data : List Byte)
  /-- ATTEST_SIGNED (R395). When signing ends the report is placed in ATTEST_REPORT and ATTEST_STATE reads READY. -/
  | attestSigned
  /-- GET_VERSION (R396). The SPDM GET_VERSION request is answered with the supported version. -/
  | getVersion
  /-- GET_CAPABILITIES (R396). The SPDM GET_CAPABILITIES request is answered with the responder's capabilities. -/
  | getCapabilities
  /-- NEGOTIATE_ALGORITHMS (R396). The SPDM NEGOTIATE_ALGORITHMS request fixes RSA-PSS-3072 and SHA-384. -/
  | negotiateAlgorithms (asym : Nat) (hash : Nat)
  /-- GET_DIGESTS (R396). The SPDM GET_DIGESTS request returns the digests of the certificate chains. -/
  | getDigests (chain0 : List Byte) (chain1 : List Byte)
  /-- GET_CERTIFICATE (R392). The SPDM GET_CERTIFICATE request returns a certificate chain when it certifies the derived key. -/
  | getCertificate (slot : Nat) (off : Nat) (len : Nat) (chain : List Byte)
  /-- CHALLENGE (R396). The SPDM CHALLENGE request is answered with a signed challenge response. -/
  | challenge (slot : Nat) (nonce : List Byte) (chain : List Byte)
  /-- GET_MEASUREMENTS (R396). The SPDM GET_MEASUREMENTS request returns the measurement blocks, signed. -/
  | getMeasurements (index : Nat) (nonce : List Byte)
  /-- CHUNK_GET (R396). The SPDM CHUNK_GET request returns the next chunk of a large response. -/
  | chunkGet
  /-- SPDM_UNSUPPORTED_REQUEST (R396). An SPDM request the device does not support is answered ERROR UnsupportedRequest. -/
  | spdmUnsupportedRequest
  /-- PARTITION_CREATE (R397). A write of PARTITION_CREATE makes the lowest FREE partition record ACTIVE, or is refused. -/
  | partitionCreate (r : Reach) (tag : Nat) (off : Nat) (data : List Byte)
  /-- PARTITION_RELEASE (R401). A write of PARTITION_RELEASE moves a record to ERASING and the base dies start zeroing its range. -/
  | partitionRelease (r : Reach) (tag : Nat) (off : Nat) (data : List Byte)
  /-- PARTITION_ERASED (R401). When every byte of an ERASING partition is zero the record becomes FREE. -/
  | partitionErased (idx : Nat)
  /-- AUDIT_REQUEST (R412). A write of AUDIT_REQUEST names laws and a snapshot frame for a self-audit. -/
  | auditRequest (r : Reach) (tag : Nat) (off : Nat) (data : List Byte)
  /-- AUDIT_DONE (R413). When the laws are evaluated the results are written and a mismatch raises ALERT_N with AUDIT_MISMATCH. -/
  | auditDone
  /-- SLICE (R421). A BIST SLICE step runs one slice of the self-test of the core under test. -/
  | slice (block : Nat)
  /-- ENGINE_CHECK_FAIL (R430). A setting-engine self-check failure fences the engine and the device drains its rows and becomes DEGRADED. -/
  | engineCheckFail (k : Nat)
  /-- FENCE_REGION (R429). A write of FENCE_REGION fences a stack region so no bead is allocated in it. -/
  | fenceRegion (r : Reach) (tag : Nat) (off : Nat) (data : List Byte)
  /-- HEALTH_WINDOW_CLOSE (R432). After 1,024 barriers a health record is written, SELF_FLAGS set and suspect peers marked. -/
  | healthWindowClose
  /-- DERATE_ENTER (R434). A write of 1 to DERATE enters suspect mode and sets HEALTH to SUSPECT. -/
  | derateEnter (r : Reach) (tag : Nat)
  /-- DERATE_LEAVE (R434). A write of 0 to DERATE ends suspect mode from the next table built. -/
  | derateLeave (r : Reach) (tag : Nat)
  /-- FENCE_COMMAND (R436). A fence command is verified for nonce and quorum and honoured as an expulsion, or derates the device over budget. -/
  | fenceCommand (r : Reach) (tag : Nat) (off : Nat) (data : List Byte)
  /-- EXPELLED (R437). A received EXPELLED notice counts the sender as expelled in the current window. -/
  | expelled (fromDev : Nat)
  /-- EXPEL_DRAIN_END (R438). When the expelled device's steps in flight complete or DRAIN_LIMIT_CLK passes, it clears every LINK_ENABLE bit and goes DOWN. -/
  | expelDrainEnd
  /-- FATAL_ERROR (R445). A fatal error sets DEVICE_STATE FATAL, stops the sequencer, clasp and Pass, clears links and reports under AER. -/
  | fatalError (cause : Nat) (detail : Nat)
  /-- SHARD_OFFER (R441). A received SHARD_OFFER makes a member allocate a shard bead and answer SHARD_GRANT or a refusal. -/
  | shardOffer (dev : Nat) (msg : Nat)
  /-- SHARD_GRANT (R441). A received SHARD_GRANT lets the owner write the shard bead, or place it on the next member after a refusal. -/
  | shardGrant (dev : Nat) (msg : Nat)
  /-- SHARD_SEAL (R441). A received SHARD_SEAL moves the member's bead to SHARD, registers a read key and answers SHARD_HELD. -/
  | shardSeal (dev : Nat) (msg : Nat)
  /-- SHARD_HELD (R441). A received SHARD_HELD records the shard as placed at the owner. -/
  | shardHeld (dev : Nat) (msg : Nat)
  /-- SHARD_FREE (R441). A received SHARD_FREE makes the member drop the shard and answer SHARD_FREED. -/
  | shardFree (dev : Nat) (msg : Nat)
  /-- SHARD_FREED (R441). A received SHARD_FREED confirms the shard is released. -/
  | shardFreed (dev : Nat) (msg : Nat)
  /-- COLD_BOOT (R470). With both rails in range a cold boot starts the start-up sequence. -/
  | coldBoot
  /-- PWR_GOOD_RELEASE (R459). When every regulator is in regulation PWR_GOOD is released and the straps are sampled. -/
  | pwrGoodRelease (straps : Nat)
  /-- CONFIG_ENTRY (R471). When boot steps 4 and 5 have ended the device enters CONFIG and loads the flash images. -/
  | configEntry (base : List Byte) (overlays : List (List Byte))
  /-- PERST_N (R454). PERST_N low resets the PCIe interface only, returning mailboxes to IDLE and emptying BOOT_LOAD. -/
  | perstN
  /-- HOT_RESET (R454). A hot reset resets the PCIe interface only. -/
  | hotReset
  /-- FUNCTION_LEVEL_RESET (R454). A Function Level Reset resets the PCIe interface only. -/
  | functionLevelReset
  /-- HOST_LINK_DOWN (R454). A host link-down resets the PCIe interface, counts HOST_LINK_DOWNS and raises ALERT_N with HOST_LINK. -/
  | hostLinkDown
  /-- BAR2_READ (R451). A BAR2 read is translated through the window and served as a host access, or completes as Completer Abort. -/
  | bar2Read (tag : Nat) (off : Nat) (n : Nat)
  /-- BAR2_WRITE (R452). A BAR2 write is applied in arrival order, each line whole, or dropped. -/
  | bar2Write (off : Nat) (data : List Byte)
  /-- THERMTRIP (R467). A sensor at 115 °C turns the regulators off and drives THERMTRIP_N low. -/
  | thermtrip
  /-- P48V_OUT_OF_RANGE (R463). P48V below 36 V or above 62 V for 10 µs turns the regulators off and releases PWR_GOOD. -/
  | p48vOutOfRange
  /-- FLIT_GROUP_SEND (R229). At each group time on an ACTIVE link the sender assembles and sends the next group: replays first, then flits by VC priority, credits, VC0 slots and spray choice, numbered and with any tick mark set. -/
  | flitGroupSend (l : Nat)
  /-- TEMPERATURE_SAMPLE (R357). Each temperature sensor takes a sample at least every 10 µs, updating the frame maximum used for throttling, the doubled refresh above 85 °C and GUARANTEE_CONDITIONS bit 2 above 105 °C. -/
  | temperatureSample (sensor : Nat) (value : Int)
  /-- P48V_OUTSIDE_OPERATING_RANGE (R410). P48V measured outside 40 V to 60 V for more than 1 ms sets GUARANTEE_CONDITIONS bit 3 while the device keeps running. -/
  | p48vOutsideOperatingRange
  /-- THERMTRIP_N_RELEASE (R467). THERMTRIP_N is released once P48V has been below 36 V for at least 100 ms after a thermal trip. -/
  | thermtripNRelease
  /-- PERST_N_RISE (R454). PERST_N rising takes the PCIe interface out of reset, and it answers configuration requests within 100 ms of the later of this and PWR_GOOD release. -/
  | perstNRise
  /-- HOST_LINK_UP (R454). The PCIe link reaching L0 sets the link-up bit of HOST_LINK and lets the device report errors on it again. -/
  | hostLinkUp (rate : Nat) (width : Nat) (flit : Bool)
  /-- CONFIGURATION_WRITE (R447). A PCIe configuration write sets BAR assignments, MSI-X enable or the power state, D3hot disabling the BARs. -/
  | configurationWrite (reg : Nat) (v : Nat)
  /-- MSI_X_TABLE_WRITE (R453). A BAR0 write to the MSI-X table or its mask bits changes a vector, and unmasking a vector with its pending bit set sends the message. -/
  | msiXTableWrite (vector : Nat) (value : Nat)
  /-- UNSUPPORTED_REQUEST (R453). A PCIe memory request outside both BARs is answered Unsupported Request and logged under AER. -/
  | unsupportedRequest (tag : Nat)
  deriving DecidableEq, Repr

end Sys2Proof
end

