-- ==== Sys2Proof/Decode.lean ====
section
/-! DEFINITION. Commands read from a word. No row of spec/opcode_table.json gives bits: commands reach the part as messages, register
writes, pins and its own units' events, each named by a constructor of Instr, and no word spells one.
Choices of the model here, by the assumption log: log 61 (DESIGN CHOICE). -/

namespace Sys2Proof

/-- The command that a word of `nbits` bits spells by the table's bits: none, since the table gives no row any bits. -/
def decodeTableWord (_nbits _w : Nat) : Option Instr := none

end Sys2Proof
end

