-- ==== Sys2Proof/Config.lean ====
section
/-! DEFINITION. What an implementation fixes and the spec leaves open. Every constant here has no body: nothing can be proved about
its value, so a statement that holds holds for whatever the hardware does. Notes: assumption log 3.
Choices of the model here, by the assumption log: log 3, 16, 19, 21, 22, 69, 71 (DESIGN CHOICE). -/

namespace Sys2Proof.Config

/-- R65: the result bits of a special function (code 0 to 5: exp2, log2, reciprocal square root, reciprocal, sigmoid, tanh) on the
operand bits; the spec bounds the error and does not give the bits. -/
opaque sfn : Nat → Nat → Nat

/-- R63: which of two operands that compare equal a maximum (true) or minimum (false) answers; it matters for ±0 only. -/
opaque zeroFirst : Bool → Nat → Nat → Bool

/-- R66, R81: FP32 to INT32 of a NaN or of a value out of range: the spec states no result. -/
opaque int32Of : Nat → Nat

/-- A value the spec leaves open, fresh at each use: applied to the state's counter. -/
opaque free : Nat → Nat

/-- Bytes the spec leaves open, fresh at each use (nonces, ciphertexts, keys drawn by the part): counter, then byte index. -/
opaque freeByte : Nat → Nat → Byte

/-- Whether a signature scheme accepts (R385, R390, R436): scheme (0 RSA-PSS-3072, 1 SLH-DSA), key bytes, message, signature. -/
opaque sigOk : Nat → List Byte → List Byte → List Byte → Bool

/-- A signature the part makes (R395, R396): scheme, message. -/
opaque signature : Nat → List Byte → List Byte

/-- R403: the tenant key an install record wraps, or none where its unwrapping fails: KEM ciphertext, wrapped key and tag, header. -/
opaque kemUnwrap : List Byte → List Byte → List Byte → Option (List Byte)

/-- R245: AES-256-GCM encryption of a segment: key, initial value, additional data, plaintext; ciphertext and tag. -/
opaque gcmSeal : List Byte → Nat → Nat → List Byte → List Byte × Nat

/-- R245: AES-256-GCM decryption: key, initial value, additional data, ciphertext, tag; none where the tag does not verify. -/
opaque gcmOpen : List Byte → Nat → Nat → List Byte → Nat → Option (List Byte)

/-- R317: the code lengths of the 16 fixed tables in ROM: table, symbol. -/
opaque fixedLength : Nat → Nat → Nat

/-- R319: the code lengths the table builder forms from 256 counts; the spec asks only that they minimise the coded size. -/
opaque builtLengths : List Nat → List Nat

/-- R385: the public keys of the ROM's root pairs: scheme (0 RSA, 1 SLH-DSA), index. -/
opaque rootKey : Nat → Nat → List Byte

/-- R388: the digest of the boot ROM, which the spec does not state. -/
opaque romDigest : List Byte

/-- R392: the public key that a certificate chain certifies; the spec leaves the reading of a chain to X.509. -/
opaque certifiedKey : List Byte → List Byte

/-- R391: public key material derived from the fused seed by the security block: lifecycle, key (0 RSA, 1 SLH-DSA, 2 KEM), byte. -/
opaque derivedKey : Nat → Nat → Nat → Byte

/-- R426, R208: the corrections counted by a clk that no command reports: 0 of a core in its own memories, 1 of a stack's inner code; then
core or stack, and clk. The errors come from outside the part's rules. -/
opaque corrections : Nat → Nat → Nat → Nat

/-- R26: whether the device is set to forward the tick on a link; no entry of the dictionary says so. -/
opaque tickForward : Nat → Bool

/-- R240: the tray slot of a device of the tray under the Switched profile, whose training names only switches; none where the device
is not in the tray. -/
opaque traySlotOf : Nat → Option Nat

/-- R177: the TAG of a grammar on a device that offers a row: no message carries it. -/
opaque grammarTag : Nat → Nat → Nat

/-- R159: whether an overlay (by its slot) names a model slot as its draft model; no entry of the dictionary
says so. -/
opaque draftModel : Nat → Nat → Bool

end Sys2Proof.Config
end

