-- ==== Sys2Proof/Machine/Bits.lean ====
section
/-! DEFINITION. Bit fields of records held as natural numbers, little-endian bytes, and keyed stores: the helpers every other file
of the machine uses. -/

namespace Sys2Proof.Machine

/-- A bit field [hi:lo] of a record (R7: bit 0 is the least significant bit of byte 0). -/
structure Fld where
  hi : Nat
  lo : Nat
  deriving DecidableEq, Repr

/-- How many bits a field has. -/
abbrev Fld.width (f : Fld) : Nat := f.hi + 1 - f.lo

/-- The value of field `f` in record `w`. -/
def getF (w : Nat) (f : Fld) : Nat := w / 2 ^ f.lo % 2 ^ f.width

/-- Record `w` with field `f` replaced by the low bits of `v`. -/
def setF (w : Nat) (f : Fld) (v : Nat) : Nat :=
  w / 2 ^ (f.lo + f.width) * 2 ^ (f.lo + f.width) + (v % 2 ^ f.width) * 2 ^ f.lo + w % 2 ^ f.lo

/-- A record with several fields set, over `w`. -/
def setFs (w : Nat) (l : List (Fld × Nat)) : Nat := l.foldl (fun a p => setF a p.1 p.2) w

/-- A record built from its fields; every bit no field names is zero. -/
abbrev mkRec (l : List (Fld × Nat)) : Nat := setFs 0 l

/-- One bit of a number. -/
def bitOf (w i : Nat) : Bool := w / 2 ^ i % 2 == 1

/-- Bit `i` of `w` set to `b`. -/
def setBit (w i : Nat) (b : Bool) : Nat := setF w ⟨i, i⟩ b.toNat

/-- Truth as a bit. -/
abbrev b2n (b : Bool) : Nat := b.toNat

/-- A field at bits [hi:lo] computed at run time. -/
abbrev fld (hi lo : Nat) : Fld := ⟨hi, lo⟩

/-- The little-endian number of a byte list (R7). -/
def leNat : List Byte → Nat
  | [] => 0
  | b :: t => b.toNat + 256 * leNat t

/-- The `n` little-endian bytes of `v` (R7). -/
def leBytes : Nat → Nat → List Byte
  | 0, _ => []
  | n + 1, v => BitVec.ofNat 8 v :: leBytes n (v / 256)

/-- The two's complement value of the low `n` bits. -/
def sext (n v : Nat) : Int :=
  if v % 2 ^ n < 2 ^ (n - 1) then (v % 2 ^ n : Nat) else ((v % 2 ^ n : Nat) : Int) - 2 ^ n

/-- An integer as an `n`-bit two's complement number. -/
def ofInt (n : Nat) (i : Int) : Nat := (i % (2 ^ n : Int)).toNat

/-- R9: comparison of 32-bit frame numbers that wrap: how far `b` lies after `a`. -/
def frameDiff (a b : Nat) : Nat := (b + 2 ^ 32 - a % 2 ^ 32) % 2 ^ 32

/-- R9: frame `a` lies at or after frame `b`. -/
def frameGe (a b : Nat) : Bool := frameDiff b a < 2 ^ 31

/-- R9: is frame `a` later than frame `b`? -/
def frameLater (a b : Nat) : Bool := frameDiff b a != 0 && decide (frameDiff b a < 2 ^ 31)

/-- Quotient rounded up. -/
def cdiv (a b : Nat) : Nat := (a + b - 1) / b

/-- The value a keyed store lists at `k`. -/
def kfind {α : Type} (m : KMap α) (k : Nat) : Option α :=
  (List.find? (fun p => p.1 == k) m).map Prod.snd

/-- The value at `k`, or `d` where the store lists none. -/
def kget {α : Type} (m : KMap α) (k : Nat) (d : α) : α := (kfind m k).getD d

/-- `v` stored at `k`, the keys kept rising. -/
def kput {α : Type} (m : KMap α) (k : Nat) (v : α) : KMap α :=
  m.filter (fun p => p.1 < k) ++ (k, v) :: m.filter (fun p => k < p.1)

/-- The store without `k`. -/
def kdel {α : Type} (m : KMap α) (k : Nat) : KMap α := m.filter (fun p => p.1 != k)

/-- `v` stored at `k` in a store whose unlisted keys read `d`: an entry equal to `d` is not listed. -/
def kputD {α : Type} [DecidableEq α] (m : KMap α) (k : Nat) (v d : α) : KMap α :=
  if v = d then kdel m k else kput m k v

/-- The keys rise strictly. -/
def kwf {α : Type} : KMap α → Bool
  | [] => true
  | [_] => true
  | p :: q :: t => decide (p.1 < q.1) && kwf (q :: t)

/-- No bytes of `m` at keys in [a, a + n): the range erased. -/
def kerase {α : Type} (m : KMap α) (a n : Nat) : KMap α :=
  m.filter (fun p => p.1 < a || a + n ≤ p.1)

/-- The list with its element at `i` replaced; unchanged past its end. -/
def lset {α : Type} (l : List α) (i : Nat) (v : α) : List α := l.set i v

/-- `x` put before the first element it may precede. -/
def insertBy {α : Type} (le : α → α → Bool) (x : α) : List α → List α
  | [] => [x]
  | y :: t => if le x y then x :: y :: t else y :: insertBy le x t

/-- A list in the order of `le`, equal elements in the order they stood. -/
def sortBy {α : Type} (le : α → α → Bool) (l : List α) : List α := l.foldr (insertBy le) []

/-- The numbers from `a` on, `n` of them. -/
def span (a n : Nat) : List Nat := (List.range n).map (a + ·)

end Sys2Proof.Machine
end

