-- ==== Sys2Proof/Machine/Arith.lean ====
section
/-! DEFINITION. Chapter 03: number formats and arithmetic. A value is a sign, a natural significand and a power of two, or an
infinity, or NaN; every operation is exact on such values and rounds once, explicitly.
Choices of the model here, by the assumption log: log 21, 32, 67 (DESIGN CHOICE). -/

namespace Sys2Proof.Machine

/-- A number as the formats of R48 encode it: NaN, an infinity, or ±m·2^e (with a signed zero). -/
inductive Val where
  | nan
  | inf (neg : Bool)
  | fin (neg : Bool) (m : Nat) (e : Int)
  deriving DecidableEq, Repr

/-- A binary floating-point format (R48): kept mantissa bits, exponent of the smallest subnormal, largest finite code without its
sign, place of the sign bit, code of infinity where the format has one, code of the NaN written (R49). -/
structure FFmt where
  man : Nat
  emin : Int
  maxBits : Nat
  sign : Nat
  infBits : Option Nat
  nanBits : Option Nat
  deriving DecidableEq, Repr

/-- The FP32 format (R48, R49). -/
def fp32 : FFmt := ⟨23, -149, 0x7F7FFFFF, 31, some 0x7F800000, some 0x7FC00000⟩
/-- The BF16 format (R48, R49). -/
def bf16 : FFmt := ⟨7, -133, 0x7F7F, 15, some 0x7F80, some 0x7FC0⟩
/-- The FP16 format (R48, R49). -/
def fp16 : FFmt := ⟨10, -24, 0x7BFF, 15, some 0x7C00, some 0x7E00⟩
/-- The FP8 E4M3 format (R48, R49): no infinity, NaN at S.1111.111 only. -/
def e4m3 : FFmt := ⟨3, -9, 0x7E, 7, none, some 0x7F⟩
/-- The FP8 E5M2 format (R48, R49). -/
def e5m2 : FFmt := ⟨2, -16, 0x7B, 7, some 0x7C, some 0x7F⟩
/-- The FP6 E2M3 format (R48). -/
def e2m3 : FFmt := ⟨3, -3, 0x1F, 5, none, none⟩
/-- The FP6 E3M2 format (R48). -/
def e3m2 : FFmt := ⟨2, -4, 0x1F, 5, none, none⟩
/-- The FP4 E2M1 format (R48). -/
def e2m1 : FFmt := ⟨1, -1, 7, 3, none, none⟩

/-- The canonical NaN of FP32 (R49). -/
abbrev nan32 : Nat := 0x7FC00000

/-- The value a code of format `f` encodes (R48, R49: every NaN encoding is NaN). -/
def decodeF (f : FFmt) (w : Nat) : Val :=
  let neg := bitOf w f.sign
  let mag := w % 2 ^ f.sign
  if mag ≤ f.maxBits then
    let ex := mag / 2 ^ f.man
    let fr := mag % 2 ^ f.man
    if ex = 0 then .fin neg fr f.emin else .fin neg (fr + 2 ^ f.man) (f.emin + (ex - 1 : Nat))
  else if f.infBits = some mag then .inf neg
  else .nan

/-- Position of the leading bit of a positive significand: ⌊log2 m⌋. -/
def ilog2 (m : Nat) : Nat := m.log2

/-- m·2^e with its significand cut at the quantum 2^q: the kept part, and the discarded part over 2^(q−e). -/
def cutAt (m : Nat) (e q : Int) : Nat × Nat × Nat :=
  if q ≤ e then (m * 2 ^ (e - q).toNat, 0, 1)
  else
    let d := 2 ^ (q - e).toNat
    (m / d, m % d, d)

/-- Round to nearest, ties to even: kept part, discarded numerator and denominator. -/
def rneUp (k r d : Nat) : Nat := if 2 * r > d ∨ (2 * r = d ∧ k % 2 = 1) then k + 1 else k

/-- R67: stochastic rounding by the first 16 discarded bits and the draw `rnd`. -/
def srUp (rnd k r d : Nat) : Nat := if r * 65536 / d + rnd % 65536 ≥ 65536 then k + 1 else k

/-- The quantum exponent at which a format rounds ±m·2^e. -/
def quantum (f : FFmt) (m : Nat) (e : Int) : Int :=
  if m = 0 then f.emin else max f.emin ((ilog2 m : Int) + e - f.man)

/-- The code of magnitude k·2^q in a format, q its quantum (k at most 2^(man+1)); it may exceed the largest finite code. -/
def packMag (f : FFmt) (k : Nat) (q : Int) : Nat := (q - f.emin).toNat * 2 ^ f.man + k

/-- ±m·2^e rounded to format `f`, by RNE or (given a draw) by R67, before any saturation: the magnitude code. -/
def roundMag (f : FFmt) (rnd : Option Nat) (m : Nat) (e : Int) : Nat :=
  let q := quantum f m e
  let c := cutAt m e q
  let k := match rnd with
    | none => rneUp c.1 c.2.1 c.2.2
    | some r => srUp r c.1 c.2.1 c.2.2
  packMag f k q

/-- A code with its sign. -/
def withSign (f : FFmt) (neg : Bool) (mag : Nat) : Nat := mag + b2n neg * 2 ^ f.sign

/-- A value as FP32 bits, rounded once by RNE (R59, R63). -/
def toF32 : Val → Nat
  | .nan => nan32
  | .inf n => withSign fp32 n 0x7F800000
  | .fin n m e =>
    let c := roundMag fp32 none m e
    withSign fp32 n (if c > fp32.maxBits then 0x7F800000 else c)

/-- The value of FP32 bits. -/
def ofF32 (w : Nat) : Val := decodeF fp32 w

/-- An exact product (R59, R60: ±Inf × 0 is NaN). -/
def vmul : Val → Val → Val
  | .nan, _ => .nan
  | _, .nan => .nan
  | .inf a, .inf b => .inf (a != b)
  | .inf a, .fin b m _ => if m = 0 then .nan else .inf (a != b)
  | .fin a m _, .inf b => if m = 0 then .nan else .inf (a != b)
  | .fin a m e, .fin b k f => .fin (a != b) (m * k) (e + f)

/-- A finite value's signed significand on the grid 2^g, which is at or below its exponent. -/
def gridInt (neg : Bool) (m : Nat) (e g : Int) : Int :=
  let v : Int := ((m * 2 ^ (e - g).toNat : Nat) : Int)
  if neg then -v else v

/-- An exact sum with IEEE signs of zero: equal signs keep theirs, an exact cancellation gives +0. -/
def vadd : Val → Val → Val
  | .nan, _ => .nan
  | _, .nan => .nan
  | .inf a, .inf b => if a = b then .inf a else .nan
  | .inf a, _ => .inf a
  | _, .inf b => .inf b
  | .fin a m e, .fin b k f =>
    let g := min e f
    let t := gridInt a m e g + gridInt b k f g
    if t = 0 then .fin (a && b) 0 g else .fin (decide (t < 0)) t.natAbs g

/-- The value negated. -/
def vneg : Val → Val
  | .nan => .nan
  | .inf a => .inf (!a)
  | .fin a m e => .fin (!a) m e

/-- A value times 2^k. -/
def vscale (v : Val) (k : Int) : Val :=
  match v with
  | .fin a m e => .fin a m (e + k)
  | x => x

/-- Is the value NaN? -/
def vIsNan (v : Val) : Bool := decide (v = .nan)

/-- FP32 addition, one rounding (R63). -/
def f32add (a b : Nat) : Nat := toF32 (vadd (ofF32 a) (ofF32 b))
/-- FP32 subtraction, one rounding (R63). -/
def f32sub (a b : Nat) : Nat := toF32 (vadd (ofF32 a) (vneg (ofF32 b)))
/-- FP32 multiplication, one rounding (R63). -/
def f32mul (a b : Nat) : Nat := toF32 (vmul (ofF32 a) (ofF32 b))
/-- FP32 fused multiply-add a·b + c, one rounding (R63). -/
def f32fma (a b c : Nat) : Nat := toF32 (vadd (vmul (ofF32 a) (ofF32 b)) (ofF32 c))

/-- Is FP32 `w` a NaN? -/
def f32isNan (w : Nat) : Bool := decide (w % 2 ^ 31 > 0x7F800000)
/-- Is FP32 `w` an infinity? -/
def f32isInf (w : Nat) : Bool := decide (w % 2 ^ 31 = 0x7F800000)
/-- FP32 negated. -/
def f32neg (w : Nat) : Nat := withSign fp32 (!bitOf w 31) (w % 2 ^ 31)

/-- An order key of non-NaN FP32 bits: −0 and +0 share it. -/
def f32key (w : Nat) : Int := if bitOf w 31 then -((w % 2 ^ 31 : Nat) : Int) else ((w % 2 ^ 31 : Nat) : Int)
/-- a < b for FP32 bits neither of which is NaN. -/
def f32lt (a b : Nat) : Bool := decide (f32key a < f32key b)

/-- R63: the maximum; the non-NaN operand where exactly one is NaN. Which zero of ±0 is answered is left open. -/
def f32max (a b : Nat) : Nat :=
  if f32isNan a then (if f32isNan b then nan32 else b)
  else if f32isNan b then a
  else if f32lt a b then b else if f32lt b a then a
  else if Config.zeroFirst true a b then a else b

/-- R63: the minimum; the non-NaN operand where exactly one is NaN. Which zero of ±0 is answered is left open. -/
def f32min (a b : Nat) : Nat :=
  if f32isNan a then (if f32isNan b then nan32 else b)
  else if f32isNan b then a
  else if f32lt a b then a else if f32lt b a then b
  else if Config.zeroFirst false a b then a else b

/-- One level of the reduction tree: neighbours joined, an unpaired last element passing up unchanged, as R92 has it; R64 gives the depth
alone (log 67). -/
def treeLevel (f : Nat → Nat → Nat) : List Nat → List Nat
  | a :: b :: t => f a b :: treeLevel f t
  | l => l

/-- A list reduced along the fixed binary tree of R64 and R92. -/
def treeFold (f : Nat → Nat → Nat) : Nat → List Nat → Nat
  | 0, l => l.headD 0
  | fuel + 1, l =>
    match l with
    | [] => 0
    | [a] => a
    | l => treeFold f fuel (treeLevel f l)

/-- The sum of FP32 values along the tree (R64, R92). -/
def treeSum (l : List Nat) : Nat := treeFold f32add l.length l

/-- ⌊log2⌋ of a non-zero term's magnitude, as a power of two; none for zero and non-finite terms. -/
def vExp : Val → Option Int
  | .fin _ m e => if m = 0 then none else some ((ilog2 m : Int) + e)
  | _ => none

/-- The largest of a list of exponents. -/
def maxExp (l : List Val) : Option Int :=
  l.foldl (fun acc v => match acc, vExp v with
    | none, x => x
    | some a, none => some a
    | some a, some b => some (max a b)) none

/-- R59: a finite term truncated toward −∞ onto the grid 2^g, in units of the grid. -/
def truncGrid (v : Val) (g : Int) : Int :=
  match v with
  | .fin n m e =>
    if g ≤ e then gridInt n m e g
    else
      let d : Int := 2 ^ (g - e).toNat
      (if n then -(m : Int) else (m : Int)) / d
  | _ => 0

/-- R59, R60: the terms of a chunk (its products and the accumulator's value) summed and rounded once to FP32. -/
def chunkSum (terms : List Val) : Nat :=
  if terms.any vIsNan then nan32
  else
    let p := terms.any (fun v => decide (v = .inf false))
    let n := terms.any (fun v => decide (v = .inf true))
    if p && n then nan32
    else if p then toF32 (.inf false)
    else if n then toF32 (.inf true)
    else
      match maxExp terms with
      | none => 0
      | some e =>
        let g := e - 31
        let t := terms.foldl (fun acc v => acc + truncGrid v g) (0 : Int)
        if t = 0 then 0 else toF32 (.fin (decide (t < 0)) t.natAbs g)

/-- Sticky flags of R66: NAN_OUT, INF_OUT, SAT, INT_SAT, KV_CLIP, highest bit first. -/
structure SFlags where
  nanOut : Bool
  infOut : Bool
  sat : Bool
  intSat : Bool
  kvClip : Bool
  deriving DecidableEq, Repr

/-- No flag set. -/
def SFlags.none : SFlags := ⟨false, false, false, false, false⟩

/-- Flags ORed (R66). -/
def SFlags.or (a b : SFlags) : SFlags :=
  ⟨a.nanOut || b.nanOut, a.infOut || b.infOut, a.sat || b.sat, a.intSat || b.intSat, a.kvClip || b.kvClip⟩

/-- The flags as the five bits of a completion record, NAN_OUT highest (R95). -/
def SFlags.bits (a : SFlags) : Nat :=
  16 * b2n a.nanOut + 8 * b2n a.infOut + 4 * b2n a.sat + 2 * b2n a.intSat + b2n a.kvClip

/-- The flags an FP32 result sets (R60). -/
def f32flags (w : Nat) : SFlags := { SFlags.none with nanOut := f32isNan w, infOut := f32isInf w }

/-- R66: a finite or infinite FP32 value converted to a narrower floating-point format: code and whether SAT is set. -/
def cvtF (f : FFmt) (rnd : Option Nat) (sat : Bool) (v : Val) : Nat × Bool :=
  match v with
  | .nan => (f.nanBits.getD 0, false)
  | .inf n =>
    if sat then (withSign f n f.maxBits, true)
    else match f.infBits with
      | some i => (withSign f n i, false)
      | none => (f.nanBits.getD 0, false)
  | .fin n m e =>
    let c := roundMag f rnd m e
    if c ≤ f.maxBits then (withSign f n c, false)
    else if sat then (withSign f n f.maxBits, true)
    else match f.infBits with
      | some i => (withSign f n i, true)
      | none => (f.nanBits.getD 0, true)

/-- A finite value rounded to the nearest integer, ties to even. -/
def roundInt (n : Bool) (m : Nat) (e : Int) : Int :=
  let c := cutAt m e 0
  let k : Int := (rneUp c.1 c.2.1 c.2.2 : Nat)
  if n then -k else k

/-- R66: FP32 to INT8, saturating: NaN gives 0. -/
def cvtInt8 (v : Val) : Nat × Bool :=
  match v with
  | .nan => (0, false)
  | .inf n => (ofInt 8 (if n then -128 else 127), true)
  | .fin n m e =>
    let i := roundInt n m e
    if i > 127 then (127, true) else if i < -128 then (128, true) else (ofInt 8 i, false)

/-- FP32 to INT32: the nearest integer; NaN and a value out of range give a result the spec does not state. -/
def cvtInt32 (w : Nat) : Nat :=
  match ofF32 w with
  | .fin n m e =>
    let i := roundInt n m e
    if -(2 ^ 31 : Int) ≤ i ∧ i < 2 ^ 31 then ofInt 32 i else Config.int32Of w % 2 ^ 32
  | _ => Config.int32Of w % 2 ^ 32

/-- The value of an E8M0 scale (R50): code 0xFF is NaN. -/
def e8m0 (x : Nat) : Option Int := if x = 0xFF then none else some ((x : Int) - 127)

/-- The element format of an MX format code 0x7 to 0xB (R77); MXINT8 (0xC) is not one of these. -/
def mxFmt (c : Nat) : FFmt :=
  if c = 7 then e4m3 else if c = 8 then e5m2 else if c = 9 then e2m3 else if c = 10 then e3m2 else e2m1

/-- R51's emax_elem of a format code. -/
def mxEmax (c : Nat) : Int :=
  if c = 7 then 8 else if c = 8 then 15 else if c = 9 then 2 else if c = 10 then 4 else if c = 11 then 2 else 0

/-- R51's max_elem of a format code, as m·2^e. -/
def mxMax (c : Nat) : Nat × Int :=
  if c = 7 then (7, 6) else if c = 8 then (7, 13) else if c = 9 then (15, -1) else if c = 10 then (7, 2)
  else if c = 11 then (3, 1) else (127, -6)

/-- Compare m·2^e ≤ k·2^f. -/
def magLe (m : Nat) (e : Int) (k : Nat) (f : Int) : Bool :=
  let g := min e f
  decide (m * 2 ^ (e - g).toNat ≤ k * 2 ^ (f - g).toNat)

/-- ⌈log2 (m·2^e / (k·2^f))⌉ for positive m, k. -/
def ceilLog2Ratio (m : Nat) (e : Int) (k : Nat) (f : Int) : Int :=
  let x : Int := (ilog2 m : Int) + e - ((ilog2 k : Int) + f)
  if magLe m e k (f + x - 1) then x - 1 else if magLe m e k (f + x) then x else x + 1

/-- The largest magnitude of a list of finite values. -/
def amaxOf (l : List Val) : Nat × Int :=
  l.foldl (fun a v => match v with
    | .fin _ m e => if magLe m e a.1 a.2 then a else (m, e)
    | _ => a) (0, 0)

/-- R51: the scale exponent of a block whose largest magnitude is m·2^e. -/
def mxScaleExp (c : Nat) (ceil : Bool) (m : Nat) (e : Int) : Int :=
  let x := if ceil then ceilLog2Ratio m e (mxMax c).1 (mxMax c).2 else (ilog2 m : Int) + e - mxEmax c
  max (-127) (min 127 x)

/-- An MX element of v·2^−x: code and whether it saturated. -/
def mxElem (c : Nat) (rnd : Option Nat) (x : Int) (v : Val) : Nat × Bool :=
  if c = 12 then
    match vscale v (6 - x) with
    | .fin n m e =>
      let cut := cutAt m e 0
      let k : Nat := match rnd with
        | none => rneUp cut.1 cut.2.1 cut.2.2
        | some r => srUp r cut.1 cut.2.1 cut.2.2
      if k > 127 then (ofInt 8 (if n then -127 else 127), true)
      else (ofInt 8 (if n then -(k : Int) else k), false)
    | _ => (0, false)
  else cvtF (mxFmt c) rnd true (vscale v (-x))

/-- R51: an MX block quantised: the scale code, the element codes, and whether any element saturated. -/
def mxQuant (c : Nat) (ceil : Bool) (rnds : List (Option Nat)) (vs : List Val) : Nat × List Nat × Bool :=
  if vs.any (fun v => match v with | .fin _ _ _ => false | _ => true) then (0xFF, vs.map (fun _ => 0), false)
  else
    let a := amaxOf vs
    if a.1 = 0 then (0, vs.map (fun _ => 0), false)
    else
      let x := mxScaleExp c ceil a.1 a.2
      let r := (vs.zip rnds).map (fun p => mxElem c p.2 x p.1)
      ((x + 127).toNat, r.map Prod.fst, r.any Prod.snd)

/-- The value of an MX element under its block's scale (R50). -/
def mxDecode (c x code : Nat) : Val :=
  match e8m0 x with
  | none => .nan
  | some k =>
    if c = 12 then
      let i := sext 8 code
      .fin (decide (i < 0)) i.natAbs (k - 6)
    else vscale (decodeF (mxFmt c) code) k

/-- R52: a bead-scaled FP4 element: the sign bit of the scale is ignored, 0x7F makes it NaN. -/
def kvDecode (sc code : Nat) : Val :=
  if sc % 128 = 0x7F then .nan else vmul (decodeF e4m3 (sc % 128)) (decodeF e2m1 (code % 16))

/-- R53: the smallest E4M3 code at least m·2^e / 6, at most 448. -/
def kvScaleOf (m : Nat) (e : Int) : Nat :=
  if m = 0 then 0
  else ((List.range 0x7F).find? (fun c => match decodeF e4m3 c with
    | .fin _ k f => magLe m e (6 * k) f
    | _ => false)).getD 0x7E

/-- R53: x / s rounded to E2M1 by RNE, saturated to ±6: code and whether it saturated. Under an amax of 0 s is 0 and every code 0 (log 67). -/
def kvElem (sc : Nat) (v : Val) : Nat × Bool :=
  match v, decodeF e4m3 sc with
  | .fin n m e, .fin _ k f =>
    if k = 0 then (0, false) else if m = 0 then (b2n n * 8, false)
    else
      -- the code is the one whose value v satisfies RNE: compare 2·|x| with the midpoints s·(c + c')
      let le := fun (c : Nat) => magLe (2 * m) e (k * c) (f - 1)
      let lt := fun (c : Nat) => magLe (2 * m) e (k * c) (f - 1) && !magLe (k * c) (f - 1) (2 * m) e
      -- midpoints in halves of an E2M1 unit, doubled: 0.25, 0.75, 1.25, 1.75, 2.5, 3.5, 5, and 7 beyond which 6 saturates
      let code :=
        if le 1 then 0 else if lt 3 then 1 else if le 5 then 2 else if lt 7 then 3
        else if le 10 then 4 else if lt 14 then 5 else if le 20 then 6 else 7
      (code + b2n n * 8, !(le 28 && lt 28))
  | .inf n, _ => (7 + b2n n * 8, true)
  | _, _ => (0, false)

/-- What a write into a bead-scaled FP4 head block leaves: scale code, codes of the elements already there, codes of the new
elements, whether it rescaled, how many elements saturated, whether it became NaN. -/
structure KvWrite where
  scale : Nat
  old : List Nat
  new : List Nat
  rescaled : Bool
  clipped : Nat
  nonfinite : Bool
  deriving DecidableEq, Repr

/-- R53, R54, R55: new elements written into a head block with scale `sc` and written codes `old` (`first`: none is written). In a block
that is NaN their codes are 0 (log 67). -/
def kvWrite (first : Bool) (sc : Nat) (old : List Nat) (vs : List Val) : KvWrite :=
  let odd := vs.any (fun v => match v with | .fin _ _ _ => false | _ => true)
  if odd || (!first && sc % 128 = 0x7F) then ⟨0x7F, old, vs.map (fun _ => 0), false, 0, odd⟩
  else
    let a := amaxOf vs
    let s1 := kvScaleOf a.1 a.2
    let sNew := if first then s1 else if s1 > sc % 128 then s1 else sc % 128
    let resc := !first && decide (s1 > sc % 128)
    let old' := if resc then old.map (fun c => (kvElem sNew (kvDecode sc c)).1) else old
    let r := vs.map (kvElem sNew)
    ⟨sNew, old', r.map Prod.fst, resc, (r.filter Prod.snd).length, false⟩

/-- The bits an element of a format code takes (R77). -/
def fmtBits (c : Nat) : Nat :=
  if c = 0 ∨ c = 6 ∨ c = 15 then 32 else if c = 1 ∨ c = 2 ∨ c = 14 then 16
  else if c = 9 ∨ c = 10 then 6 else if c = 11 ∨ c = 13 then 4 else 8

/-- The value of a code of a format 0x0 to 0x6 (R63: conversions to FP32 are exact; INT32 rounds to FP32). -/
def decodeFmt (c w : Nat) : Val :=
  if c = 0 then ofF32 w else if c = 1 then decodeF bf16 w else if c = 2 then decodeF fp16 w
  else if c = 3 then decodeF e4m3 w else if c = 4 then decodeF e5m2 w
  else if c = 5 then (let i := sext 8 w; .fin (decide (i < 0)) i.natAbs 0)
  else (let i := sext 32 w; ofF32 (toF32 (.fin (decide (i < 0)) i.natAbs 0)))

/-- FP32 bits converted to format code 0x0 to 0x6 (R66, R67): code and whether SAT is set. -/
def encodeFmt (c : Nat) (rnd : Option Nat) (sat : Bool) (w : Nat) : Nat × Bool :=
  if c = 0 then (if f32isNan w then nan32 else w, false)
  else if c = 1 then cvtF bf16 rnd sat (ofF32 w) else if c = 2 then cvtF fp16 rnd sat (ofF32 w)
  else if c = 3 then cvtF e4m3 rnd sat (ofF32 w) else if c = 4 then cvtF e5m2 rnd sat (ofF32 w)
  else if c = 5 then cvtInt8 (ofF32 w)
  else (cvtInt32 w, false)

/-- R58: the width rank of an MMA operand's format: 1 FP4, 2 FP6, 3 FP8, 4 sixteen bits, 0 none of these. -/
def pairRank (c : Nat) : Nat :=
  if c = 11 then 1 else if c = 9 ∨ c = 10 then 2 else if c = 3 ∨ c = 4 ∨ c = 7 ∨ c = 8 then 3
  else if c = 1 ∨ c = 2 then 4 else 0

/-- R58: may one MMA pair these two formats? -/
def pairOk (a b : Nat) : Bool :=
  (pairRank a != 0 && pairRank b != 0) || (a == 5 && b == 5) || (a == 12 && b == 12)

/-- R57: K_c, the terms folded into one accumulator rounding. -/
def chunkLen (a b : Nat) : Nat :=
  if pairRank a = 1 ∧ pairRank b = 1 then 64 else if pairRank a = 4 ∨ pairRank b = 4 then 16 else 32

/-- R65: subnormal inputs read as zero of the same sign. -/
def flushSub (w : Nat) : Nat := if w % 2 ^ 31 < 0x00800000 then w / 2 ^ 31 * 2 ^ 31 else w

/-! The bounds of R65. A real number is held as an integer count of 2^-128, and an accurate value of each function, good to better than
2^-90 of itself, is what a result is measured against. -/

/-- ln 2 as a count of 2^-128. -/
abbrev ln2Fix : Nat := 235865763225513294137944142764154484399
/-- log2 e as a count of 2^-128. -/
abbrev log2eFix : Nat := 490923683258796565746369346286093237521

/-- 2^f for a fraction f of 2^-128 counts, as a count of 2^-128: the power series of exp at f · ln 2, 48 terms. -/
def exp2Frac (f : Nat) : Nat :=
  let t := f * ln2Fix / 2 ^ 128
  ((List.range 48).foldl (fun (a : Nat × Nat) n => (a.1 + a.2, a.2 * t / 2 ^ 128 / (n + 1))) (0, 2 ^ 128)).1

/-- The value m·2^e as a count of 2^-128, cut toward minus infinity. -/
def toFix (m : Int) (e : Int) : Int := if 0 ≤ e + 128 then m * 2 ^ (e + 128).toNat else m / 2 ^ (-(e + 128)).toNat

/-- 2^x for x in counts of 2^-128: a count of a power of two. -/
def exp2Ref (x : Int) : Int × Int := ((exp2Frac (x % 2 ^ 128).toNat : Int), x / 2 ^ 128 - 128)

/-- log2 of y in [1, 2), y and the answer in counts of 2^-128, bit by bit. -/
def log2Frac (y : Nat) : Nat :=
  (List.range 120).foldl (fun acc i => if exp2Frac (acc + 2 ^ (127 - i)) ≤ y then acc + 2 ^ (127 - i) else acc) 0

/-- e^-|x| for a magnitude in counts of 2^-128, as such a count. -/
def expNeg (x : Nat) : Nat :=
  if 2 ^ 135 ≤ x then 0
  else
    let y := x * log2eFix / 2 ^ 128
    exp2Frac ((2 ^ 128 - y % 2 ^ 128) % 2 ^ 128) / 2 ^ (y / 2 ^ 128 + (if y % 2 ^ 128 = 0 then 0 else 1))

/-- An accurate value of function `code` at the operand m·2^e of sign `neg`: an integer and a power of two. -/
def sfnRef (code : Nat) (neg : Bool) (m : Nat) (e : Int) : Int × Int :=
  let sg := fun (v : Int) => if neg then -v else v
  let fix := toFix m e
  match code with
  | 0 => exp2Ref (sg fix)
  | 1 => ((ilog2 m + e) * 2 ^ 128 + log2Frac (m * 2 ^ 128 / 2 ^ ilog2 m), -128)
  | 2 => let d := (e % 2).toNat
         ((Nat.sqrt (2 ^ 300 / (m * 2 ^ d)) : Int), -150 - (e - d) / 2)
  | 3 => (sg (2 ^ 200 / m : Nat), -200 - e)
  | 4 => let u := expNeg fix.toNat
         (((if neg then u else 2 ^ 128) * 2 ^ 128 / (2 ^ 128 + u) : Nat), -128)
  | _ => let u := expNeg (2 * fix.toNat)
         (sg ((2 ^ 128 - u) * 2 ^ 128 / (2 ^ 128 + u) : Nat), -128)

/-- R65: the most a result m·2^e of function `code` may lie from the true value, for a result whose ulp is 2^u: a count of a power of two. -/
def sfnBound (code : Nat) (mag : Nat) (u : Int) : Nat × Int :=
  match code with
  | 0 | 2 => (2, u)
  | 1 => if 0x3F000000 ≤ mag ∧ mag ≤ 0x40000000 then (1, -22) else (2, u)
  | 3 => (1, u)
  | 4 => (1, -23)
  | _ => (1, -22)

/-- R65: does a result keep the bound of function `code` at an operand of sign `neg`, magnitude bits `mag` and value m·2^e? The bound is
taken 2^-40 of itself short, for the reference's own error. -/
def sfnKeeps (code : Nat) (neg : Bool) (mag m : Nat) (e : Int) (r : Nat) : Bool :=
  match ofF32 r with
  | .fin rn rm re =>
    let x := sfnRef code neg m e
    let b := sfnBound code mag re
    let base := min (min re x.2) (b.2 - 40)
    let at_ := fun (v : Int) (p : Int) => v * 2 ^ (p - base).toNat
    decide ((at_ (if rn then -(rm : Int) else rm) re - at_ x.1 x.2).natAbs ≤ (at_ (b.1 * (2 ^ 40 - 1)) (b.2 - 40)).natAbs)
  | _ => false

/-- R65: the special functions, code 0 exp2, 1 log2, 2 rsqrt, 3 reciprocal, 4 sigmoid, 5 tanh. The special cases are the
table's; every other result is a fixed function of the operand bits that keeps the table's accuracy and is not given otherwise: the free
constant's value where that is accurate enough, else the nearest FP32 number. -/
def sfn (code x : Nat) : Nat :=
  let w := flushSub x
  let neg := bitOf w 31
  let mag := w % 2 ^ 31
  let r := match ofF32 w with
    | .fin _ m e =>
      let free := Config.sfn code w % 2 ^ 32
      let v := sfnRef code neg m e
      if sfnKeeps code neg mag m e free then free else toF32 (.fin (decide (v.1 < 0)) v.1.natAbs v.2)
    | _ => 0
  if f32isNan w then nan32
  else match code with
  | 0 => if !neg && mag ≥ 0x43000000 then 0x7F800000 else if neg && mag > 0x42FC0000 then 0 else r
  | 1 => if mag = 0 then 0xFF800000 else if neg then nan32 else if mag = 0x7F800000 then mag else r
  | 2 => if mag = 0 then withSign fp32 neg 0x7F800000 else if neg then nan32 else if mag = 0x7F800000 then 0 else r
  | 3 => if mag = 0 then withSign fp32 neg 0x7F800000
         else if mag = 0x7F800000 ∨ mag > 0x7E800000 then withSign fp32 neg 0 else r
  | 4 => if mag = 0x7F800000 then (if neg then 0 else 0x3F800000) else r
  | _ => if mag = 0x7F800000 then withSign fp32 neg 0x3F800000 else r

/-- R87, R173: Philox4x32-10: the first output word of ten rounds under a two-word key on a four-word counter. -/
def philoxRounds : Nat → Nat → Nat → Nat → Nat → Nat → Nat → Nat
  | 0, _, _, c0, _, _, _ => c0
  | n + 1, k0, k1, c0, c1, c2, c3 =>
    let p0 := 0xD2511F53 * c0
    let p1 := 0xCD9E8D57 * c2
    philoxRounds n ((k0 + 0x9E3779B9) % 2 ^ 32) ((k1 + 0xBB67AE85) % 2 ^ 32)
      (((p1 / 2 ^ 32) ^^^ c1) ^^^ k0) (p1 % 2 ^ 32) (((p0 / 2 ^ 32) ^^^ c3) ^^^ k1) (p0 % 2 ^ 32)

/-- Philox4x32-10, output word 0: key SEED, counter words. -/
def philox (seed c0 c1 c2 c3 : Nat) : Nat :=
  philoxRounds 10 (seed % 2 ^ 32) (seed / 2 ^ 32 % 2 ^ 32) (c0 % 2 ^ 32) (c1 % 2 ^ 32) (c2 % 2 ^ 32) (c3 % 2 ^ 32)

end Sys2Proof.Machine
end

