-- ==== Sys2Proof/Machine/Fields.lean ====
section
/-! DEFINITION. The bit fields of every record, descriptor and message header the spec lays down, one namespace a record:
the field's name is the spec's, its range [hi:lo] is the spec's table. -/

namespace Sys2Proof.Machine

/-! TableHdr: spec/02_frames.md, Frame table header (64 bytes). -/
namespace TableHdr
abbrev FRAME : Fld := ⟨511, 480⟩
abbrev STEP_COUNT : Fld := ⟨479, 467⟩
abbrev CYCLIC_COUNT : Fld := ⟨466, 454⟩
abbrev SEALED : Fld := ⟨453, 453⟩
abbrev PERIOD_CLK : Fld := ⟨447, 428⟩
abbrev PRICE_TOTAL : Fld := ⟨415, 384⟩
abbrev MAP_EPOCH : Fld := ⟨383, 368⟩
abbrev OVERLAY_APPLY : Fld := ⟨367, 367⟩
abbrev OVERLAY_SLOT : Fld := ⟨366, 363⟩
abbrev OVERLAY_ENTRIES : Fld := ⟨362, 352⟩
end TableHdr

/-! StepRec: spec/02_frames.md, Step record (32 bytes). -/
namespace StepRec
abbrev START_CLK : Fld := ⟨255, 236⟩
abbrev UNIT_CLASS : Fld := ⟨235, 232⟩
abbrev UNIT_INDEX : Fld := ⟨231, 224⟩
abbrev OPCODE : Fld := ⟨223, 208⟩
abbrev DONE_EVENT : Fld := ⟨207, 196⟩
abbrev WAIT_WINDOW : Fld := ⟨195, 190⟩
abbrev POST_EN : Fld := ⟨189, 189⟩
abbrev TENANT_VALID : Fld := ⟨188, 188⟩
abbrev TENANT : Fld := ⟨187, 176⟩
abbrev PRICE : Fld := ⟨175, 152⟩
abbrev WAIT_MASK : Fld := ⟨127, 64⟩
abbrev ROW_VALID : Fld := ⟨63, 63⟩
abbrev ROW : Fld := ⟨62, 48⟩
abbrev DESC_ADDR : Fld := ⟨41, 0⟩
end StepRec

/-! OverrunRec: spec/02_frames.md, Overrun record (16 bytes). -/
namespace OverrunRec
abbrev FRAME : Fld := ⟨127, 96⟩
abbrev STEP_SLOT : Fld := ⟨95, 84⟩
abbrev UNIT_CLASS : Fld := ⟨83, 80⟩
abbrev UNIT_INDEX : Fld := ⟨79, 72⟩
abbrev REASON : Fld := ⟨71, 68⟩
abbrev UNMET : Fld := ⟨63, 0⟩
end OverrunRec

/-! RunDesc: spec/04_step_programs.md, RUN descriptor (192 bytes). -/
namespace RunDesc
abbrev P0 : Fld := ⟨575, 512⟩
abbrev PROG_ADDR : Fld := ⟨511, 470⟩
abbrev PROG_TAG : Fld := ⟨447, 416⟩
abbrev SEED : Fld := ⟨415, 352⟩
end RunDesc

/-! ProgHdr: spec/04_step_programs.md, Program header (64 bytes). -/
namespace ProgHdr
abbrev HDR_VERSION : Fld := ⟨511, 496⟩
abbrev OP_WORDS : Fld := ⟨495, 480⟩
abbrev PROG_TAG : Fld := ⟨479, 448⟩
abbrev CLK_BASE : Fld := ⟨447, 416⟩
abbrev SLOPE_PARAM_0 : Fld := ⟨415, 412⟩
abbrev SLOPE_CLK_0 : Fld := ⟨411, 392⟩
abbrev TOOL_VERSION : Fld := ⟨319, 288⟩
end ProgHdr

/-! OpWord: spec/04_step_programs.md, Op word (128 bits). -/
namespace OpWord
abbrev OP : Fld := ⟨127, 120⟩
abbrev FA : Fld := ⟨119, 116⟩
abbrev FB : Fld := ⟨115, 112⟩
abbrev FD : Fld := ⟨111, 108⟩
abbrev RND : Fld := ⟨107, 106⟩
abbrev SAT : Fld := ⟨105, 105⟩
abbrev SMODE : Fld := ⟨104, 104⟩
abbrev SEL : Fld := ⟨103, 100⟩
abbrev A_ACC : Fld := ⟨99, 99⟩
abbrev B_ACC : Fld := ⟨98, 98⟩
abbrev D_ACC : Fld := ⟨97, 97⟩
abbrev FLAG : Fld := ⟨96, 96⟩
abbrev X : Fld := ⟨95, 80⟩
abbrev Y : Fld := ⟨79, 64⟩
abbrev OPA : Fld := ⟨62, 42⟩
abbrev OPB : Fld := ⟨41, 21⟩
abbrev OPD : Fld := ⟨20, 0⟩
end OpWord

/-! CtxDesc: spec/04_step_programs.md, CTX descriptor (64 bytes). -/
namespace CtxDesc
abbrev SAVE_ADDR : Fld := ⟨511, 470⟩
abbrev RESTORE_ADDR : Fld := ⟨469, 428⟩
abbrev ZERO_REST : Fld := ⟨427, 427⟩
abbrev SAVE_N : Fld := ⟨423, 421⟩
abbrev RESTORE_N : Fld := ⟨420, 418⟩
abbrev ACC_SAVE_ROWS : Fld := ⟨417, 408⟩
abbrev ACC_SAVE_FIRST : Fld := ⟨407, 399⟩
abbrev ACC_RESTORE_ROWS : Fld := ⟨398, 389⟩
abbrev ACC_RESTORE_FIRST : Fld := ⟨388, 380⟩
abbrev SAVE_RANGE_0 : Fld := ⟨379, 240⟩
abbrev RESTORE_RANGE_0 : Fld := ⟨239, 100⟩
end CtxDesc

/-! CoreComp: spec/04_step_programs.md, Core completion record (32 bytes). -/
namespace CoreComp
abbrev FRAME : Fld := ⟨255, 224⟩
abbrev STEP_SLOT : Fld := ⟨223, 212⟩
abbrev CORE : Fld := ⟨211, 204⟩
abbrev STATUS : Fld := ⟨203, 196⟩
abbrev OP_INDEX : Fld := ⟨195, 180⟩
abbrev CARRIED : Fld := ⟨179, 179⟩
abbrev WAIT_EXPIRED : Fld := ⟨173, 173⟩
abbrev PROG_CACHED : Fld := ⟨172, 172⟩
abbrev CLOCKS : Fld := ⟨167, 136⟩
abbrev DROPPED : Fld := ⟨135, 104⟩
abbrev FAIL_ADDR : Fld := ⟨103, 62⟩
abbrev FLAGS5 : Fld := ⟨178, 174⟩
end CoreComp

/-! AppendDesc: spec/05_setting_engines.md, APPEND descriptor (64 bytes). -/
namespace AppendDesc
abbrev ENTRIES : Fld := ⟨511, 501⟩
abbrev LAYER : Fld := ⟨500, 493⟩
abbrev L_LOCAL : Fld := ⟨492, 485⟩
abbrev HKV : Fld := ⟨484, 480⟩
abbrev DHEAD : Fld := ⟨479, 478⟩
abbrev KV_FMT : Fld := ⟨477, 477⟩
abbrev ENTRY_ADDR : Fld := ⟨468, 446⟩
abbrev KV_IN_ADDR : Fld := ⟨445, 423⟩
end AppendDesc

/-! AttendDesc: spec/05_setting_engines.md, ATTEND descriptor (128 bytes). -/
namespace AttendDesc
abbrev ENTRIES : Fld := ⟨1023, 1013⟩
abbrev LAYER : Fld := ⟨1012, 1005⟩
abbrev L_LOCAL : Fld := ⟨1004, 997⟩
abbrev HKV : Fld := ⟨996, 992⟩
abbrev GROUP_M1 : Fld := ⟨991, 986⟩
abbrev QPOS_N_M1 : Fld := ⟨985, 982⟩
abbrev DHEAD : Fld := ⟨981, 980⟩
abbrev KV_FMT : Fld := ⟨979, 979⟩
abbrev SCORE_BASE : Fld := ⟨978, 978⟩
abbrev APPEND_EN : Fld := ⟨977, 977⟩
abbrev PROB_EN : Fld := ⟨976, 976⟩
abbrev WINDOW_EN : Fld := ⟨975, 975⟩
abbrev BITMAP_EN : Fld := ⟨974, 974⟩
abbrev GLOBAL_N : Fld := ⟨973, 967⟩
abbrev QSCALE : Fld := ⟨959, 928⟩
abbrev WINDOW : Fld := ⟨927, 910⟩
abbrev ENTRY_ADDR : Fld := ⟨895, 873⟩
abbrev Q_ADDR : Fld := ⟨872, 850⟩
abbrev KV_IN_ADDR : Fld := ⟨849, 827⟩
abbrev OUT_ADDR : Fld := ⟨826, 804⟩
abbrev GLOBAL_ADDR : Fld := ⟨803, 781⟩
abbrev PROB_ADDR : Fld := ⟨767, 731⟩
abbrev PROB_BUDGET : Fld := ⟨730, 694⟩
end AttendDesc

/-! SetEntry: spec/05_setting_engines.md, Entry record (32 bytes), shared by ATTEND and APPEND. -/
namespace SetEntry
abbrev QPOS0 : Fld := ⟨255, 232⟩
abbrev PROV_LEN : Fld := ⟨231, 207⟩
abbrev SEG_ADDR : Fld := ⟨206, 170⟩
abbrev SEG_COUNT : Fld := ⟨169, 152⟩
abbrev ORD0 : Fld := ⟨151, 149⟩
abbrev BITMAP_ADDR : Fld := ⟨148, 126⟩
abbrev ROW : Fld := ⟨125, 111⟩
abbrev ESTATUS : Fld := ⟨110, 103⟩
end SetEntry

/-! CopyDesc: spec/05_setting_engines.md, COPY descriptor (64 bytes). -/
namespace CopyDesc
abbrev SRC_BEAD : Fld := ⟨511, 488⟩
abbrev DST_BEAD : Fld := ⟨487, 464⟩
abbrev POSITIONS : Fld := ⟨463, 459⟩
abbrev L_LOCAL : Fld := ⟨458, 451⟩
abbrev HKV : Fld := ⟨450, 446⟩
abbrev DHEAD : Fld := ⟨445, 444⟩
abbrev KV_FMT : Fld := ⟨443, 443⟩
end CopyDesc

/-! GfDesc: spec/05_setting_engines.md, GFCOMB descriptor (64 bytes). -/
namespace GfDesc
abbrev N_IN : Fld := ⟨511, 507⟩
abbrev N_OUT : Fld := ⟨506, 505⟩
abbrev ACC : Fld := ⟨504, 504⟩
abbrev LENGTH : Fld := ⟨503, 484⟩
abbrev IN_ADDR : Fld := ⟨483, 461⟩
abbrev OUT0_ADDR : Fld := ⟨460, 424⟩
abbrev OUT1_ADDR : Fld := ⟨423, 387⟩
end GfDesc

/-! GfIn: spec/05_setting_engines.md, GFCOMB input record (8 bytes). -/
namespace GfIn
abbrev ADDR : Fld := ⟨63, 27⟩
abbrev C0 : Fld := ⟨26, 19⟩
abbrev C1 : Fld := ⟨18, 11⟩
end GfIn

/-! SetComp: spec/05_setting_engines.md, Setting completion record (32 bytes). -/
namespace SetComp
abbrev FRAME : Fld := ⟨255, 224⟩
abbrev STEP_SLOT : Fld := ⟨223, 212⟩
abbrev STACK : Fld := ⟨211, 209⟩
abbrev STATUS : Fld := ⟨208, 201⟩
abbrev CARRIED : Fld := ⟨200, 200⟩
abbrev CLOCKS : Fld := ⟨191, 160⟩
abbrev BYTES_READ : Fld := ⟨159, 128⟩
abbrev ENTRIES_SKIPPED : Fld := ⟨127, 117⟩
abbrev FIRST_SKIPPED : Fld := ⟨116, 106⟩
abbrev FAIL_ADDR : Fld := ⟨105, 69⟩
abbrev FLAGS4 : Fld := ⟨199, 196⟩
end SetComp

/-! BeadClass: spec/06_beads_and_strands.md, Bead class record (32 bytes). -/
namespace BeadClass
abbrev BASE : Fld := ⟨255, 219⟩
abbrev FIRST_SLOT : Fld := ⟨218, 198⟩
abbrev SLOTS : Fld := ⟨197, 177⟩
abbrev STRIDE_4K : Fld := ⟨176, 161⟩
abbrev L_LOCAL : Fld := ⟨160, 153⟩
abbrev HKV : Fld := ⟨152, 148⟩
abbrev DHEAD : Fld := ⟨147, 146⟩
abbrev KV_FMT : Fld := ⟨145, 145⟩
abbrev VALID : Fld := ⟨144, 144⟩
end BeadClass

/-! BeadDesc: spec/06_beads_and_strands.md, Bead descriptor (32 bytes). -/
namespace BeadDesc
abbrev REFS : Fld := ⟨255, 240⟩
abbrev STATE : Fld := ⟨239, 237⟩
abbrev GEN : Fld := ⟨236, 229⟩
abbrev PREFIX : Fld := ⟨228, 228⟩
abbrev LOCKET_ENTRY : Fld := ⟨227, 212⟩
abbrev ORDINAL : Fld := ⟨211, 192⟩
abbrev TENANT : Fld := ⟨191, 180⟩
abbrev CLASS : Fld := ⟨179, 177⟩
abbrev ROW : Fld := ⟨176, 162⟩
abbrev NEXT : Fld := ⟨161, 138⟩
abbrev FRAME_FREED : Fld := ⟨137, 106⟩
end BeadDesc

/-! StrandHdr: spec/06_beads_and_strands.md, Strand header (64 bytes). -/
namespace StrandHdr
abbrev BEAD_COUNT : Fld := ⟨511, 491⟩
abbrev CLASS : Fld := ⟨490, 488⟩
abbrev ROW : Fld := ⟨487, 473⟩
abbrev SEG_CAP_LOG2 : Fld := ⟨472, 468⟩
end StrandHdr

/-! Row: spec/07_scoreboard.md, Scoreboard row (128 bytes). -/
namespace Row
abbrev REQUEST_ID : Fld := ⟨1023, 960⟩
abbrev TENANT : Fld := ⟨959, 948⟩
abbrev STATE : Fld := ⟨947, 944⟩
abbrev PRIORITY : Fld := ⟨943, 940⟩
abbrev MODEL_SLOT : Fld := ⟨939, 934⟩
abbrev ADAPTER_SLOT : Fld := ⟨933, 924⟩
abbrev ADAPTER_EN : Fld := ⟨923, 923⟩
abbrev ADAPTER_VER : Fld := ⟨922, 907⟩
abbrev OWNER_EPOCH : Fld := ⟨906, 875⟩
abbrev PEER_DEVICE : Fld := ⟨874, 862⟩
abbrev MAP_EPOCH : Fld := ⟨861, 846⟩
abbrev REPLY_NODE : Fld := ⟨845, 833⟩
abbrev REPLY_QP : Fld := ⟨832, 817⟩
abbrev PROMPT_LEN : Fld := ⟨816, 792⟩
abbrev COMMITTED_LEN : Fld := ⟨791, 767⟩
abbrev PROV_LEN : Fld := ⟨766, 742⟩
abbrev STRAND_ROOT : Fld := ⟨741, 706⟩
abbrev BEAD_COUNT : Fld := ⟨705, 685⟩
abbrev DEADLINE_FRAME : Fld := ⟨684, 653⟩
abbrev ADMIT_FRAME : Fld := ⟨652, 621⟩
abbrev LAST_COMMIT_FRAME : Fld := ⟨620, 589⟩
abbrev RESERVED : Fld := ⟨588, 557⟩
abbrev PREFILL_SPENT : Fld := ⟨556, 525⟩
abbrev DECODE_SPENT : Fld := ⟨524, 493⟩
abbrev ENERGY_SPENT : Fld := ⟨492, 445⟩
abbrev SEED : Fld := ⟨444, 381⟩
abbrev DRAW_COUNT : Fld := ⟨380, 349⟩
abbrev GRAMMAR_STATE : Fld := ⟨348, 325⟩
abbrev FINAL_STATUS : Fld := ⟨324, 317⟩
abbrev FLAGS : Fld := ⟨316, 309⟩
abbrev PRIOR_STATE : Fld := ⟨308, 305⟩
end Row

/-! AdmRec: spec/07_scoreboard.md, Admission record (64 bytes). -/
namespace AdmRec
abbrev REQUEST_ID : Fld := ⟨511, 448⟩
abbrev TENANT : Fld := ⟨447, 436⟩
abbrev PRIORITY : Fld := ⟨435, 432⟩
abbrev MODEL_SLOT : Fld := ⟨431, 426⟩
abbrev ADAPTER_SLOT : Fld := ⟨425, 416⟩
abbrev ADAPTER_EN : Fld := ⟨415, 415⟩
abbrev DEADLINE_EN : Fld := ⟨414, 414⟩
abbrev FORK : Fld := ⟨413, 413⟩
abbrev PROMPT_LEN : Fld := ⟨412, 388⟩
abbrev DEADLINE_FRAME : Fld := ⟨387, 356⟩
abbrev REPLY_NODE : Fld := ⟨355, 343⟩
abbrev REPLY_QP : Fld := ⟨342, 327⟩
abbrev SEED : Fld := ⟨326, 263⟩
abbrev PARENT_ID : Fld := ⟨262, 199⟩
end AdmRec

/-! AdmReply: spec/07_scoreboard.md, Admission reply (16 bytes), sent on the client queue pair. -/
namespace AdmReply
abbrev REQUEST_ID : Fld := ⟨127, 64⟩
abbrev STATUS : Fld := ⟨63, 56⟩
abbrev REASON : Fld := ⟨55, 48⟩
abbrev STATE : Fld := ⟨47, 44⟩
abbrev DEVICE : Fld := ⟨43, 31⟩
abbrev ROW : Fld := ⟨30, 16⟩
end AdmReply

/-! CtlRec: spec/07_scoreboard.md, Control record (16 bytes), followed by TOKENS U32 token IDs for CONTINUE. -/
namespace CtlRec
abbrev REQUEST_ID : Fld := ⟨127, 64⟩
abbrev KIND : Fld := ⟨63, 56⟩
abbrev TOKENS : Fld := ⟨55, 31⟩
end CtlRec

/-! Tenant: spec/07_scoreboard.md, Tenant record (32 bytes). -/
namespace Tenant
abbrev SHARE : Fld := ⟨255, 240⟩
abbrev BUDGET_RATE : Fld := ⟨239, 208⟩
abbrev BUDGET_CAP : Fld := ⟨207, 176⟩
abbrev WICKET : Fld := ⟨175, 164⟩
abbrev DEDUPE_WINDOW : Fld := ⟨163, 132⟩
abbrev HOLD_LIMIT : Fld := ⟨131, 100⟩
abbrev KEY_SLOT : Fld := ⟨99, 92⟩
abbrev ENABLED : Fld := ⟨91, 91⟩
abbrev DEADLINE_HARD : Fld := ⟨90, 90⟩
abbrev MODEL_PERMIT : Fld := ⟨89, 26⟩
end Tenant

/-! ModelSlot: spec/07_scoreboard.md, Model slot record (64 bytes). -/
namespace ModelSlot
abbrev WEIGHT_BASE : Fld := ⟨511, 465⟩
abbrev WEIGHT_BYTES : Fld := ⟨464, 423⟩
abbrev BEAD_CLASS : Fld := ⟨422, 420⟩
abbrev PREFILL_FACTOR : Fld := ⟨419, 404⟩
abbrev L_LOCAL : Fld := ⟨403, 396⟩
abbrev STATE : Fld := ⟨395, 394⟩
abbrev PINS : Fld := ⟨393, 378⟩
abbrev MODEL_TAG : Fld := ⟨377, 346⟩
abbrev VOCAB : Fld := ⟨345, 325⟩
end ModelSlot

/-! AdVer: spec/07_scoreboard.md, Adapter version record (32 bytes). -/
namespace AdVer
abbrev SLOT : Fld := ⟨255, 246⟩
abbrev VERSION : Fld := ⟨245, 230⟩
abbrev STATE : Fld := ⟨229, 228⟩
abbrev MODEL_SLOT : Fld := ⟨227, 222⟩
abbrev TENANT : Fld := ⟨221, 210⟩
abbrev RANK : Fld := ⟨209, 201⟩
abbrev BASE : Fld := ⟨200, 159⟩
abbrev BYTES : Fld := ⟨158, 127⟩
abbrev PINS : Fld := ⟨126, 111⟩
abbrev FRAME_RETIRED : Fld := ⟨110, 79⟩
end AdVer

/-! SelDesc: spec/08_token_selection.md, SELECT descriptor (64 bytes). -/
namespace SelDesc
abbrev ENTRIES : Fld := ⟨511, 501⟩
abbrev LOGIT_FMT : Fld := ⟨500, 500⟩
abbrev ENTRY_ADDR : Fld := ⟨499, 458⟩
end SelDesc

/-! SelEntry: spec/08_token_selection.md, SELECT entry record (32 bytes). -/
namespace SelEntry
abbrev ROW : Fld := ⟨255, 241⟩
abbrev DRAFTS : Fld := ⟨240, 237⟩
abbrev FIRST : Fld := ⟨236, 236⟩
abbrev LOGITS_ADDR : Fld := ⟨235, 194⟩
abbrev DRAFT_ADDR : Fld := ⟨193, 152⟩
abbrev ESTATUS : Fld := ⟨151, 144⟩
abbrev EMITTED : Fld := ⟨143, 139⟩
abbrev ACCEPTED : Fld := ⟨138, 134⟩
abbrev CONT : Fld := ⟨133, 129⟩
abbrev CONT_LAST : Fld := ⟨128, 128⟩
end SelEntry

/-! SelRec: spec/08_token_selection.md, Selection record (64 bytes). -/
namespace SelRec
abbrev MODE : Fld := ⟨511, 511⟩
abbrev END_TOKEN : Fld := ⟨510, 490⟩
abbrev MAX_OUTPUT : Fld := ⟨489, 466⟩
abbrev LAST_TOKEN : Fld := ⟨465, 446⟩
abbrev OUTPUT_COUNT : Fld := ⟨445, 422⟩
abbrev PARAMS : Fld := ⟨255, 0⟩
end SelRec

/-! SelNat: spec/08_token_selection.md, Native parameters, bits [255:0] with MODE = 0. -/
namespace SelNat
abbrev INV_TEMP : Fld := ⟨255, 224⟩
abbrev TOPK : Fld := ⟨223, 213⟩
abbrev TOP_P : Fld := ⟨212, 181⟩
abbrev MIN_P : Fld := ⟨180, 149⟩
abbrev GRAMMAR_EN : Fld := ⟨148, 148⟩
abbrev GRAMMAR_ID : Fld := ⟨147, 136⟩
abbrev START_STATE : Fld := ⟨135, 112⟩
abbrev ALLOW_EN : Fld := ⟨111, 111⟩
abbrev ALLOW_ADDR : Fld := ⟨110, 69⟩
end SelNat

/-! TokMsg: spec/08_token_selection.md, Token message (16 bytes), followed by COUNT U32 token IDs. -/
namespace TokMsg
abbrev REQUEST_ID : Fld := ⟨127, 64⟩
abbrev FIRST_INDEX : Fld := ⟨63, 40⟩
abbrev COUNT : Fld := ⟨39, 35⟩
abbrev END : Fld := ⟨34, 34⟩
abbrev END_CAUSE : Fld := ⟨33, 30⟩
end TokMsg

/-! Grammar: spec/08_token_selection.md, Grammar record (32 bytes). -/
namespace Grammar
abbrev BASE : Fld := ⟨255, 214⟩
abbrev STATE_COUNT : Fld := ⟨213, 189⟩
abbrev MASK_COUNT : Fld := ⟨188, 165⟩
abbrev VOCAB : Fld := ⟨164, 144⟩
abbrev TENANT : Fld := ⟨143, 132⟩
abbrev ANY_TENANT : Fld := ⟨131, 131⟩
abbrev STATE : Fld := ⟨130, 129⟩
abbrev PINS : Fld := ⟨128, 113⟩
abbrev MASK_OFFSET : Fld := ⟨112, 81⟩
abbrev TAG : Fld := ⟨80, 49⟩
end Grammar

/-! GrState: spec/08_token_selection.md, State record (16 bytes) and transition record (8 bytes). -/
namespace GrState
abbrev MASK_INDEX : Fld := ⟨127, 104⟩
abbrev DEFAULT_NEXT : Fld := ⟨103, 80⟩
abbrev TRANS_OFFSET : Fld := ⟨79, 48⟩
abbrev TRANS_COUNT : Fld := ⟨47, 32⟩
abbrev T_TOKEN : Fld := ⟨63, 44⟩
abbrev T_NEXT : Fld := ⟨43, 20⟩
end GrState

/-! Dn5420: spec/08_token_selection.md, DN5420 sampling descriptor (32 bytes). -/
namespace Dn5420
abbrev MAGIC : Fld := ⟨255, 240⟩
abbrev TEMP : Fld := ⟨239, 208⟩
abbrev TOPK : Fld := ⟨207, 192⟩
abbrev TOP_P : Fld := ⟨191, 176⟩
abbrev EOS : Fld := ⟨175, 144⟩
abbrev MAX_NEW : Fld := ⟨143, 112⟩
abbrev SEED : Fld := ⟨111, 48⟩
end Dn5420

/-! TsuComp: spec/08_token_selection.md, TSU completion record (32 bytes). -/
namespace TsuComp
abbrev FRAME : Fld := ⟨255, 224⟩
abbrev STEP_SLOT : Fld := ⟨223, 212⟩
abbrev LANE : Fld := ⟨211, 210⟩
abbrev STATUS : Fld := ⟨209, 202⟩
abbrev CARRIED : Fld := ⟨201, 201⟩
abbrev CLOCKS : Fld := ⟨191, 160⟩
abbrev ENTRIES_SKIPPED : Fld := ⟨159, 149⟩
abbrev FIRST_SKIPPED : Fld := ⟨148, 138⟩
abbrev TOKENS_WRITTEN : Fld := ⟨137, 106⟩
abbrev FAIL_ADDR : Fld := ⟨105, 64⟩
end TsuComp

/-! MapHdr: spec/09_clasp_and_pass.md, Composition map header (64 bytes). -/
namespace MapHdr
abbrev MAP_EPOCH : Fld := ⟨511, 496⟩
abbrev MEMBERS : Fld := ⟨495, 482⟩
end MapHdr

/-! Member: spec/09_clasp_and_pass.md, Member record (8 bytes). -/
namespace Member
abbrev DEVICE : Fld := ⟨63, 51⟩
abbrev POOL : Fld := ⟨50, 48⟩
abbrev WEIGHT : Fld := ⟨47, 40⟩
abbrev CACHE_GROUP : Fld := ⟨39, 32⟩
end Member

/-! PassEntry: spec/09_clasp_and_pass.md, Pass-list entry (16 bytes). -/
namespace PassEntry
abbrev DEVICE : Fld := ⟨127, 115⟩
abbrev KEY : Fld := ⟨114, 83⟩
abbrev OFFSET : Fld := ⟨41, 0⟩
end PassEntry

/-! ClaspMsg: spec/09_clasp_and_pass.md, Clasp message header (64 bytes). -/
namespace ClaspMsg
abbrev KIND : Fld := ⟨511, 504⟩
abbrev REASON : Fld := ⟨503, 496⟩
abbrev MAP_EPOCH : Fld := ⟨495, 480⟩
abbrev EPOCH : Fld := ⟨479, 448⟩
abbrev REQUEST_ID : Fld := ⟨447, 384⟩
abbrev FROM_DEVICE : Fld := ⟨383, 371⟩
abbrev TO_DEVICE : Fld := ⟨370, 358⟩
abbrev FROM_ROW : Fld := ⟨357, 343⟩
abbrev TO_ROW : Fld := ⟨342, 328⟩
abbrev PURPOSE : Fld := ⟨327, 326⟩
abbrev FROM_SIDE : Fld := ⟨325, 325⟩
abbrev BEAD_COUNT : Fld := ⟨324, 304⟩
abbrev LIST_KEY : Fld := ⟨303, 272⟩
abbrev LIST_ADDR : Fld := ⟨271, 230⟩
abbrev TOKENS : Fld := ⟨229, 188⟩
abbrev L_LOCAL : Fld := ⟨187, 180⟩
abbrev HKV : Fld := ⟨179, 175⟩
abbrev DHEAD : Fld := ⟨174, 173⟩
abbrev KV_FMT : Fld := ⟨172, 172⟩
abbrev MODEL_TAG : Fld := ⟨171, 140⟩
abbrev FIRST_FRAME : Fld := ⟨139, 108⟩
abbrev PULL_FRAMES : Fld := ⟨107, 84⟩
abbrev FLAGS : Fld := ⟨83, 78⟩
end ClaspMsg

/-! CommitDesc: spec/09_clasp_and_pass.md, COMMIT descriptor (64 bytes) and entry (8 bytes). -/
namespace CommitDesc
abbrev ENTRIES : Fld := ⟨511, 501⟩
abbrev ENTRY_ADDR : Fld := ⟨500, 459⟩
abbrev E_RECORD : Fld := ⟨63, 53⟩
abbrev E_ESTATUS : Fld := ⟨52, 45⟩
end CommitDesc

/-! ClaspComp: spec/09_clasp_and_pass.md, Clasp completion record (32 bytes). -/
namespace ClaspComp
abbrev FRAME : Fld := ⟨255, 224⟩
abbrev STEP_SLOT : Fld := ⟨223, 212⟩
abbrev STATUS : Fld := ⟨211, 204⟩
abbrev CARRIED : Fld := ⟨203, 203⟩
abbrev CLOCKS : Fld := ⟨191, 160⟩
abbrev ENTRIES_SKIPPED : Fld := ⟨159, 149⟩
abbrev FIRST_SKIPPED : Fld := ⟨148, 138⟩
abbrev COMMITS : Fld := ⟨137, 127⟩
end ClaspComp

/-! ClaspRec: spec/09_clasp_and_pass.md, Clasp record (32 bytes), OD 0x9820.01. -/
namespace ClaspRec
abbrev SIDE : Fld := ⟨255, 255⟩
abbrev STATE : Fld := ⟨254, 252⟩
abbrev PURPOSE : Fld := ⟨251, 250⟩
abbrev EPOCH : Fld := ⟨249, 218⟩
abbrev MAP_EPOCH : Fld := ⟨217, 202⟩
abbrev PEER : Fld := ⟨201, 189⟩
abbrev ROW : Fld := ⟨188, 174⟩
abbrev PRIOR_STATE : Fld := ⟨173, 170⟩
abbrev SENDS : Fld := ⟨169, 166⟩
abbrev LAST_SEND_FRAME : Fld := ⟨165, 134⟩
abbrev BYTES_EXPECTED : Fld := ⟨133, 86⟩
abbrev BYTES_LANDED : Fld := ⟨85, 38⟩
abbrev LIMIT_FRAME : Fld := ⟨37, 6⟩
end ClaspRec

/-! StackAddr: spec/10_memory.md, Stack-local address fields. -/
namespace StackAddr
abbrev ROW : Fld := ⟨36, 20⟩
abbrev BANK : Fld := ⟨19, 14⟩
abbrev COL : Fld := ⟨13, 10⟩
abbrev PAIR : Fld := ⟨9, 7⟩
abbrev LINE : Fld := ⟨6, 6⟩
abbrev BYTE : Fld := ⟨5, 0⟩
end StackAddr

/-! RemapEnt: spec/10_memory.md, Remap entry (8 bytes). -/
namespace RemapEnt
abbrev VALID : Fld := ⟨63, 63⟩
abbrev STACK : Fld := ⟨62, 60⟩
abbrev CHANNEL_PAIR : Fld := ⟨59, 57⟩
abbrev BANK : Fld := ⟨56, 51⟩
abbrev ROW : Fld := ⟨50, 34⟩
abbrev SPARE : Fld := ⟨33, 20⟩
end RemapEnt

/-! ContRec: spec/10_memory.md, Containment record (32 bytes). -/
namespace ContRec
abbrev FRAME : Fld := ⟨255, 224⟩
abbrev STACK : Fld := ⟨223, 221⟩
abbrev LOCAL_ADDR : Fld := ⟨220, 184⟩
abbrev READER_CLASS : Fld := ⟨183, 180⟩
abbrev READER_INDEX : Fld := ⟨179, 172⟩
abbrev OWNER_KIND : Fld := ⟨171, 169⟩
abbrev OWNER_ID : Fld := ⟨168, 145⟩
abbrev ROW : Fld := ⟨144, 130⟩
abbrev ROW_VALID : Fld := ⟨129, 129⟩
abbrev MODEL_SLOT : Fld := ⟨128, 123⟩
abbrev SLOT_VALID : Fld := ⟨122, 122⟩
end ContRec

/-! OwnerRange: spec/10_memory.md, Owner-range record (32 bytes). -/
namespace OwnerRange
abbrev BASE : Fld := ⟨255, 214⟩
abbrev SIZE : Fld := ⟨213, 172⟩
abbrev KIND : Fld := ⟨171, 169⟩
abbrev ID : Fld := ⟨168, 163⟩
abbrev REPLICA_VALID : Fld := ⟨162, 162⟩
abbrev REPLICA : Fld := ⟨161, 115⟩
end OwnerRange

/-! MemDesc: spec/10_memory.md, MEMORY descriptors (64 bytes) and migrate entry (8 bytes). -/
namespace MemDesc
abbrev SCRUB_AUTO : Fld := ⟨511, 511⟩
abbrev SCRUB_LINES : Fld := ⟨510, 495⟩
abbrev SCRUB_START_LINE : Fld := ⟨494, 464⟩
abbrev REMAP_ROWS : Fld := ⟨511, 507⟩
abbrev MIGRATE_ENTRIES : Fld := ⟨511, 501⟩
abbrev MIGRATE_ENTRY_ADDR : Fld := ⟨500, 459⟩
abbrev E_DIR : Fld := ⟨63, 63⟩
abbrev E_FRAME : Fld := ⟨62, 52⟩
abbrev E_GRANULE : Fld := ⟨51, 28⟩
abbrev E_ESTATUS : Fld := ⟨27, 20⟩
end MemDesc

/-! MemComp: spec/10_memory.md, Memory completion record (32 bytes). -/
namespace MemComp
abbrev FRAME : Fld := ⟨255, 224⟩
abbrev STEP_SLOT : Fld := ⟨223, 212⟩
abbrev STACK : Fld := ⟨211, 209⟩
abbrev STATUS : Fld := ⟨208, 201⟩
abbrev CARRIED : Fld := ⟨200, 200⟩
abbrev CLOCKS : Fld := ⟨191, 160⟩
abbrev DONE : Fld := ⟨159, 128⟩
abbrev CORRECTED : Fld := ⟨127, 112⟩
abbrev UNCORRECTABLE : Fld := ⟨111, 96⟩
abbrev ENTRIES_SKIPPED : Fld := ⟨95, 85⟩
abbrev FAIL_ADDR : Fld := ⟨84, 48⟩
end MemComp

/-! CtlFlit: spec/11_olaskad_links.md, Control flit header (16 bytes). -/
namespace CtlFlit
abbrev GSEQ : Fld := ⟨127, 118⟩
abbrev ACK_GSEQ : Fld := ⟨117, 108⟩
abbrev NAK : Fld := ⟨107, 107⟩
abbrev REPLAY : Fld := ⟨106, 106⟩
abbrev TICK : Fld := ⟨105, 105⟩
abbrev TICK_OFFSET : Fld := ⟨104, 95⟩
abbrev VC0_HOLD : Fld := ⟨94, 94⟩
abbrev VC1_FREED : Fld := ⟨93, 82⟩
abbrev VC2_FREED : Fld := ⟨81, 70⟩
abbrev VC3_FREED : Fld := ⟨69, 58⟩
abbrev CTRL_CRC : Fld := ⟨31, 0⟩
end CtlFlit

/-! PayDesc: spec/11_olaskad_links.md, Payload descriptor (16 bytes). -/
namespace PayDesc
abbrev VC : Fld := ⟨127, 126⟩
abbrev PAYLOAD : Fld := ⟨125, 125⟩
abbrev HOP : Fld := ⟨124, 124⟩
abbrev ENC : Fld := ⟨123, 123⟩
abbrev SEG_FIRST : Fld := ⟨122, 122⟩
abbrev SEG_POS : Fld := ⟨121, 118⟩
abbrev DEST : Fld := ⟨117, 105⟩
abbrev SRC : Fld := ⟨104, 92⟩
abbrev LEN_M1 : Fld := ⟨91, 84⟩
abbrev STREAM : Fld := ⟨83, 68⟩
abbrev SEG_WORD : Fld := ⟨67, 36⟩
abbrev FLIT_CRC : Fld := ⟨31, 0⟩
end PayDesc

/-! MgmtHdr: spec/11_olaskad_links.md, Management message header (32 bytes). -/
namespace MgmtHdr
abbrev MKIND : Fld := ⟨255, 248⟩
abbrev FROM_DEVICE : Fld := ⟨247, 235⟩
abbrev TO_DEVICE : Fld := ⟨234, 222⟩
abbrev FRAME : Fld := ⟨221, 190⟩
abbrev PAYLOAD_BYTES : Fld := ⟨189, 178⟩
end MgmtHdr

/-! SegHdr: spec/11_olaskad_links.md, Segment header (32 bytes). -/
namespace SegHdr
abbrev COUNTER : Fld := ⟨255, 192⟩
abbrev TENANT : Fld := ⟨191, 180⟩
abbrev KEY_GEN : Fld := ⟨179, 172⟩
abbrev FLITS_M1 : Fld := ⟨171, 168⟩
abbrev TAG : Fld := ⟨127, 0⟩
end SegHdr

/-! QpCtx: spec/12_queue_pairs.md, Queue-pair context (128 bytes). -/
namespace QpCtx
abbrev STATE : Fld := ⟨1023, 1020⟩
abbrev TYPE : Fld := ⟨1019, 1019⟩
abbrev FUNCTION : Fld := ⟨1018, 1016⟩
abbrev TENANT : Fld := ⟨1015, 1004⟩
abbrev PRIORITY : Fld := ⟨1003, 1001⟩
abbrev QUANTUM : Fld := ⟨1000, 985⟩
abbrev SPRAY_SET : Fld := ⟨984, 979⟩
abbrev WICKET_EN : Fld := ⟨978, 978⟩
abbrev WICKET : Fld := ⟨977, 966⟩
abbrev PEER_DEVICE : Fld := ⟨965, 953⟩
abbrev PEER_QP : Fld := ⟨952, 937⟩
abbrev SEND_PSN : Fld := ⟨936, 913⟩
abbrev ACK_PSN : Fld := ⟨912, 889⟩
abbrev RECV_PSN : Fld := ⟨888, 865⟩
abbrev SEND_MSN : Fld := ⟨864, 841⟩
abbrev RECV_MSN : Fld := ⟨840, 817⟩
abbrev TIMEOUT : Fld := ⟨816, 801⟩
abbrev RETRY_MAX : Fld := ⟨800, 798⟩
abbrev RETRY_AFTER_MAX : Fld := ⟨797, 792⟩
abbrev CQ : Fld := ⟨791, 780⟩
abbrev SQ_BASE : Fld := ⟨779, 738⟩
abbrev SQ_LOG2 : Fld := ⟨737, 734⟩
abbrev RQ_BASE : Fld := ⟨733, 692⟩
abbrev RQ_LOG2 : Fld := ⟨691, 688⟩
abbrev SQ_PI : Fld := ⟨687, 672⟩
abbrev SQ_CI : Fld := ⟨671, 656⟩
abbrev RQ_PI : Fld := ⟨655, 640⟩
abbrev RQ_CI : Fld := ⟨639, 624⟩
end QpCtx

/-! Sqe: spec/12_queue_pairs.md, Send-queue entry (64 bytes). -/
namespace Sqe
abbrev OP : Fld := ⟨511, 504⟩
abbrev SIGNAL : Fld := ⟨503, 503⟩
abbrev FENCE : Fld := ⟨502, 502⟩
abbrev LENGTH : Fld := ⟨501, 470⟩
abbrev LOCAL_ADDR : Fld := ⟨469, 428⟩
abbrev REMOTE_KEY : Fld := ⟨427, 396⟩
abbrev REMOTE_OFFSET : Fld := ⟨395, 354⟩
abbrev WR_ID : Fld := ⟨353, 290⟩
abbrev OPERAND_A : Fld := ⟨289, 226⟩
abbrev OPERAND_B : Fld := ⟨225, 162⟩
end Sqe

/-! Rqe: spec/12_queue_pairs.md, Receive-queue entry (32 bytes). -/
namespace Rqe
abbrev ADDR : Fld := ⟨255, 214⟩
abbrev LENGTH : Fld := ⟨213, 182⟩
abbrev WR_ID : Fld := ⟨181, 118⟩
end Rqe

/-! PassDesc: spec/12_queue_pairs.md, PASS descriptors (64 bytes). -/
namespace PassDesc
abbrev ENTRIES : Fld := ⟨511, 501⟩
abbrev ENTRY_ADDR : Fld := ⟨500, 459⟩
abbrev WAIT_DONE : Fld := ⟨458, 458⟩
end PassDesc

/-! Cqe: spec/12_queue_pairs.md, Completion-queue entry (32 bytes). -/
namespace Cqe
abbrev WR_ID : Fld := ⟨255, 192⟩
abbrev QP : Fld := ⟨191, 176⟩
abbrev STATUS : Fld := ⟨175, 168⟩
abbrev SIDE : Fld := ⟨167, 167⟩
abbrev BYTES : Fld := ⟨166, 135⟩
abbrev MSN : Fld := ⟨134, 111⟩
abbrev FRAME : Fld := ⟨110, 79⟩
end Cqe

/-! Pkt: spec/12_queue_pairs.md, Packet header (32 bytes). -/
namespace Pkt
abbrev OPCODE : Fld := ⟨255, 248⟩
abbrev DEST_QP : Fld := ⟨247, 232⟩
abbrev SRC_QP : Fld := ⟨231, 216⟩
abbrev PSN : Fld := ⟨215, 192⟩
abbrev MSN : Fld := ⟨191, 168⟩
abbrev MSG_LEN : Fld := ⟨167, 136⟩
abbrev OFFSET : Fld := ⟨135, 104⟩
abbrev KEY : Fld := ⟨103, 72⟩
abbrev REMOTE_OFFSET : Fld := ⟨71, 30⟩
abbrev STATUS : Fld := ⟨29, 22⟩
abbrev HINT : Fld := ⟨21, 10⟩
abbrev LAST : Fld := ⟨9, 9⟩
abbrev RESEND : Fld := ⟨8, 8⟩
end Pkt

/-! Mr: spec/12_queue_pairs.md, Memory region record (32 bytes). -/
namespace Mr
abbrev GEN : Fld := ⟨255, 248⟩
abbrev VALID : Fld := ⟨247, 247⟩
abbrev RIGHTS : Fld := ⟨246, 243⟩
abbrev TENANT : Fld := ⟨242, 231⟩
abbrev ANY_PEER : Fld := ⟨230, 230⟩
abbrev PEER_DEVICE : Fld := ⟨229, 217⟩
abbrev PAGED : Fld := ⟨216, 216⟩
abbrev FAULT_MODE : Fld := ⟨215, 215⟩
abbrev STALL_LIMIT : Fld := ⟨214, 203⟩
abbrev BASE : Fld := ⟨202, 161⟩
abbrev LENGTH : Fld := ⟨160, 119⟩
abbrev RESIDENT_MAP : Fld := ⟨118, 77⟩
end Mr

/-! PageFault: spec/12_queue_pairs.md, Page fault record (16 bytes), PAGE_FAULT_RING. -/
namespace PageFault
abbrev FRAME : Fld := ⟨127, 96⟩
abbrev QP : Fld := ⟨95, 80⟩
abbrev KEY_INDEX : Fld := ⟨79, 56⟩
abbrev PAGE : Fld := ⟨55, 35⟩
abbrev MODE : Fld := ⟨34, 34⟩
end PageFault

/-! Wicket: spec/12_queue_pairs.md, Wicket record (32 bytes), OD 0x7810.01 WICKETS. -/
namespace Wicket
abbrev UNIT : Fld := ⟨255, 254⟩
abbrev RESET_FULL : Fld := ⟨253, 253⟩
abbrev CIR : Fld := ⟨252, 229⟩
abbrev PIR : Fld := ⟨228, 205⟩
abbrev CBS : Fld := ⟨204, 173⟩
abbrev PBS : Fld := ⟨172, 141⟩
end Wicket

/-! ExportRec: spec/13_tray_fabric.md, Export record (32 bytes). -/
namespace ExportRec
abbrev BASE : Fld := ⟨255, 214⟩
abbrev SIZE : Fld := ⟨213, 172⟩
abbrev READ : Fld := ⟨171, 171⟩
abbrev WRITE : Fld := ⟨170, 170⟩
abbrev ATOMIC : Fld := ⟨169, 169⟩
abbrev CACHEABLE : Fld := ⟨168, 168⟩
abbrev ANY_TENANT : Fld := ⟨167, 167⟩
abbrev TENANT : Fld := ⟨166, 155⟩
abbrev VALID : Fld := ⟨154, 154⟩
end ExportRec

/-! TrayHdr: spec/13_tray_fabric.md, Tray request header (32 bytes). -/
namespace TrayHdr
abbrev OPCODE : Fld := ⟨255, 248⟩
abbrev STATUS : Fld := ⟨247, 240⟩
abbrev TAG : Fld := ⟨239, 228⟩
abbrev TAG_GEN : Fld := ⟨227, 224⟩
abbrev TENANT : Fld := ⟨223, 212⟩
abbrev TENANT_VALID : Fld := ⟨211, 211⟩
abbrev LENGTH_M1 : Fld := ⟨210, 199⟩
abbrev OFFSET : Fld := ⟨198, 157⟩
abbrev SRC_SLOT : Fld := ⟨156, 152⟩
abbrev ATOMIC_OP : Fld := ⟨151, 149⟩
abbrev CACHEABLE : Fld := ⟨148, 148⟩
end TrayHdr

/-! FabDesc: spec/13_tray_fabric.md, FABRIC descriptor (64 bytes), INVAL range (16 bytes) and ATOMIC entry (32 bytes). -/
namespace FabDesc
abbrev ENTRIES : Fld := ⟨511, 501⟩
abbrev ENTRY_ADDR : Fld := ⟨500, 459⟩
abbrev R_BASE : Fld := ⟨127, 81⟩
abbrev R_SIZE : Fld := ⟨80, 39⟩
abbrev E_ADDR : Fld := ⟨255, 209⟩
abbrev E_OP : Fld := ⟨208, 206⟩
abbrev E_ESTATUS : Fld := ⟨205, 198⟩
abbrev E_OPERAND_A : Fld := ⟨197, 134⟩
abbrev E_OPERAND_B : Fld := ⟨133, 70⟩
abbrev E_RESULT : Fld := ⟨69, 6⟩
end FabDesc

/-! FabComp: spec/13_tray_fabric.md, Fabric completion record (32 bytes). -/
namespace FabComp
abbrev FRAME : Fld := ⟨255, 224⟩
abbrev STEP_SLOT : Fld := ⟨223, 212⟩
abbrev PORT : Fld := ⟨211, 210⟩
abbrev STATUS : Fld := ⟨209, 202⟩
abbrev CARRIED : Fld := ⟨201, 201⟩
abbrev CLOCKS : Fld := ⟨191, 160⟩
abbrev ENTRIES_SKIPPED : Fld := ⟨159, 149⟩
abbrev FIRST_SKIPPED : Fld := ⟨148, 138⟩
abbrev LINES_INVALIDATED : Fld := ⟨137, 106⟩
abbrev FAIL_ADDR : Fld := ⟨105, 59⟩
end FabComp

/-! CohMsg: spec/13_tray_fabric.md, Coherence message header (32 bytes). -/
namespace CohMsg
abbrev MSG : Fld := ⟨255, 248⟩
abbrev EPOCH : Fld := ⟨247, 232⟩
abbrev FROM_SLOT : Fld := ⟨231, 227⟩
abbrev TO_SLOT : Fld := ⟨226, 222⟩
abbrev HOME_SLOT : Fld := ⟨221, 217⟩
abbrev REQ_SLOT : Fld := ⟨216, 212⟩
abbrev LINE : Fld := ⟨211, 190⟩
abbrev ACKS : Fld := ⟨189, 184⟩
end CohMsg

/-! Aperture: spec/13_tray_fabric.md, Aperture record (32 bytes). -/
namespace Aperture
abbrev VALID : Fld := ⟨255, 255⟩
abbrev RIGHTS : Fld := ⟨254, 252⟩
abbrev QP : Fld := ⟨251, 236⟩
abbrev REMOTE_KEY : Fld := ⟨235, 204⟩
abbrev REMOTE_OFFSET : Fld := ⟨203, 162⟩
abbrev SIZE : Fld := ⟨161, 131⟩
abbrev TENANT : Fld := ⟨130, 119⟩
end Aperture

/-! DmaDesc: spec/14_dma.md, DMA descriptor (64 bytes). -/
namespace DmaDesc
abbrev KIND : Fld := ⟨511, 510⟩
abbrev ACKED : Fld := ⟨509, 509⟩
abbrev LAST : Fld := ⟨508, 508⟩
abbrev TRIGGER : Fld := ⟨507, 506⟩
abbrev TRIG_CLK : Fld := ⟨505, 486⟩
abbrev TRIG_CHANNEL : Fld := ⟨485, 477⟩
abbrev TRIG_VALUE : Fld := ⟨476, 465⟩
abbrev TRIG_LIMIT : Fld := ⟨464, 453⟩
abbrev SRC : Fld := ⟨452, 406⟩
abbrev DST : Fld := ⟨405, 359⟩
abbrev LENGTH_M1 : Fld := ⟨358, 327⟩
abbrev ROWS_M1 : Fld := ⟨326, 311⟩
abbrev SRC_STRIDE : Fld := ⟨310, 279⟩
abbrev DST_STRIDE : Fld := ⟨278, 247⟩
abbrev PATTERN : Fld := ⟨246, 183⟩
end DmaDesc

/-! DmaSaved: spec/14_dma.md, Saved state (32 bytes), per channel in OD 0x8810.04. -/
namespace DmaSaved
abbrev CHAIN_ADDR : Fld := ⟨255, 214⟩
abbrev DESC_INDEX : Fld := ⟨213, 206⟩
abbrev ROW : Fld := ⟨205, 190⟩
abbrev BYTE : Fld := ⟨189, 158⟩
abbrev FAIL_ADDR : Fld := ⟨157, 111⟩
abbrev FAIL_STATUS : Fld := ⟨110, 103⟩
abbrev RETRIES : Fld := ⟨102, 100⟩
abbrev TENANT : Fld := ⟨99, 88⟩
abbrev TENANT_VALID : Fld := ⟨87, 87⟩
end DmaSaved

/-! DmaComp: spec/14_dma.md, DMA completion record (32 bytes). -/
namespace DmaComp
abbrev FRAME : Fld := ⟨255, 224⟩
abbrev STEP_SLOT : Fld := ⟨223, 212⟩
abbrev CHANNEL : Fld := ⟨211, 203⟩
abbrev STATUS : Fld := ⟨202, 195⟩
abbrev CARRIED : Fld := ⟨194, 194⟩
abbrev DESC_INDEX : Fld := ⟨193, 186⟩
abbrev CLOCKS : Fld := ⟨185, 154⟩
abbrev BYTES : Fld := ⟨153, 106⟩
abbrev FAIL_ADDR : Fld := ⟨105, 59⟩
abbrev FAIL_STATUS : Fld := ⟨58, 51⟩
abbrev RETRIES : Fld := ⟨50, 48⟩
end DmaComp

/-! CodecHdr: spec/15_compression.md, Codec block header (8 bytes). -/
namespace CodecHdr
abbrev MODE : Fld := ⟨63, 61⟩
abbrev BUILT : Fld := ⟨60, 60⟩
abbrev TABLE_ID : Fld := ⟨59, 56⟩
abbrev TABLE_GEN : Fld := ⟨55, 52⟩
abbrev ELEM : Fld := ⟨51, 51⟩
abbrev RAW_LEN : Fld := ⟨46, 34⟩
abbrev CODED_LEN : Fld := ⟨33, 21⟩
end CodecHdr

/-! Profile: spec/15_compression.md, Profile (16 bits). -/
namespace Profile
abbrev MODE : Fld := ⟨15, 14⟩
abbrev BUILT : Fld := ⟨13, 13⟩
abbrev FIXED_ID : Fld := ⟨12, 9⟩
abbrev ELEM : Fld := ⟨8, 8⟩
end Profile

/-! TableMsg: spec/15_compression.md, Table message (144 bytes), the payload of one CODEC_TABLE management message in one VC3 flit. -/
namespace TableMsg
abbrev KIND : Fld := ⟨1151, 1144⟩
abbrev FROM_DEVICE : Fld := ⟨1143, 1131⟩
abbrev TO_DEVICE : Fld := ⟨1130, 1118⟩
abbrev TABLE_ID : Fld := ⟨1117, 1114⟩
abbrev TABLE_GEN : Fld := ⟨1113, 1110⟩
abbrev LENGTHS : Fld := ⟨1023, 0⟩
end TableMsg

/-! BankCfg: spec/16_locket.md, Bank configuration record (8 bytes). -/
namespace BankCfg
abbrev KIND : Fld := ⟨63, 61⟩
abbrev WIDTH : Fld := ⟨60, 59⟩
abbrev FIRST : Fld := ⟨58, 54⟩
abbrev COUNT : Fld := ⟨53, 48⟩
end BankCfg

/-! LkDesc: spec/16_locket.md, Descriptor of opcodes 0x0001 to 0x0004 (64 bytes) and record (64 bytes). -/
namespace LkDesc
abbrev ENTRIES : Fld := ⟨511, 501⟩
abbrev ENTRY_ADDR : Fld := ⟨500, 459⟩
abbrev R_KEY : Fld := ⟨511, 256⟩
abbrev R_VALUE : Fld := ⟨255, 128⟩
abbrev R_ENTRY : Fld := ⟨127, 112⟩
abbrev R_ESTATUS : Fld := ⟨111, 104⟩
abbrev R_BY_INDEX : Fld := ⟨103, 103⟩
end LkDesc

/-! WalkDesc: spec/16_locket.md, PREFIX_WALK descriptor (64 bytes). -/
namespace WalkDesc
abbrev BLOCKS : Fld := ⟨511, 491⟩
abbrev TOKEN_ADDR : Fld := ⟨490, 449⟩
abbrev OUT_ADDR : Fld := ⟨448, 407⟩
abbrev TENANT : Fld := ⟨406, 395⟩
abbrev MODEL_SLOT : Fld := ⟨394, 389⟩
abbrev ADAPTER_SLOT : Fld := ⟨388, 379⟩
abbrev ADAPTER_EN : Fld := ⟨378, 378⟩
abbrev ADAPTER_VER : Fld := ⟨377, 362⟩
abbrev MODEL_TAG : Fld := ⟨361, 330⟩
end WalkDesc

/-! DedupeVal: spec/16_locket.md, DEDUPE value (128 bits). -/
namespace DedupeVal
abbrev FORM : Fld := ⟨127, 124⟩
abbrev STATE : Fld := ⟨123, 120⟩
abbrev ROW : Fld := ⟨119, 105⟩
abbrev DEVICE : Fld := ⟨104, 92⟩
abbrev EPOCH : Fld := ⟨91, 60⟩
abbrev EXPIRY_EN : Fld := ⟨59, 59⟩
abbrev EXPIRY : Fld := ⟨58, 27⟩
end DedupeVal

/-! LkScrubDesc: spec/16_locket.md, SCRUB descriptor (64 bytes). -/
namespace LkScrubDesc
abbrev UNITS : Fld := ⟨511, 500⟩
end LkScrubDesc

/-! LkUnit: spec/16_locket.md, Locket shadow record (64 bytes). -/
namespace LkUnit
abbrev KEY_WORD : Fld := ⟨511, 448⟩
abbrev VALUE : Fld := ⟨447, 320⟩
abbrev VALID : Fld := ⟨319, 319⟩
abbrev KIND : Fld := ⟨318, 316⟩
abbrev WIDTH : Fld := ⟨315, 314⟩
abbrev ENTRY : Fld := ⟨313, 298⟩
end LkUnit

/-! LkComp: spec/16_locket.md, Locket completion record (32 bytes). -/
namespace LkComp
abbrev FRAME : Fld := ⟨255, 224⟩
abbrev STEP_SLOT : Fld := ⟨223, 212⟩
abbrev BANK : Fld := ⟨211, 207⟩
abbrev STATUS : Fld := ⟨206, 199⟩
abbrev CARRIED : Fld := ⟨198, 198⟩
abbrev CLOCKS : Fld := ⟨191, 160⟩
abbrev HITS : Fld := ⟨159, 139⟩
abbrev MISSES : Fld := ⟨138, 118⟩
abbrev FAILED : Fld := ⟨117, 107⟩
abbrev REPAIRS : Fld := ⟨106, 96⟩
end LkComp

/-! LedgerRec: spec/17_energy_and_power.md, Ledger record (64 bytes), one per closed frame, OD 0xA030.01 LEDGER_RING. -/
namespace LedgerRec
abbrev FRAME : Fld := ⟨511, 480⟩
abbrev GRANTED : Fld := ⟨479, 448⟩
abbrev WITHHELD : Fld := ⟨447, 416⟩
abbrev CARRIED_IN : Fld := ⟨415, 384⟩
abbrev SPENT_BASE : Fld := ⟨383, 352⟩
abbrev SPENT_STEPS : Fld := ⟨351, 320⟩
abbrev CARRIED_OUT : Fld := ⟨319, 288⟩
abbrev RETURNED : Fld := ⟨287, 256⟩
abbrev METERED : Fld := ⟨255, 64⟩
abbrev THROTTLE : Fld := ⟨63, 60⟩
abbrev COLD : Fld := ⟨59, 59⟩
abbrev OVERSPEND : Fld := ⟨58, 58⟩
abbrev METER_INVALID : Fld := ⟨57, 52⟩
end LedgerRec

/-! DictReq: spec/18_object_dictionary.md, Dictionary request header (32 bytes). -/
namespace DictReq
abbrev OP : Fld := ⟨255, 248⟩
abbrev INDEX : Fld := ⟨247, 232⟩
abbrev SUBINDEX : Fld := ⟨231, 224⟩
abbrev OFFSET : Fld := ⟨223, 192⟩
abbrev LENGTH : Fld := ⟨191, 160⟩
abbrev TAG : Fld := ⟨159, 144⟩
end DictReq

/-! DictResp: spec/18_object_dictionary.md, Dictionary response header (16 bytes). -/
namespace DictResp
abbrev STATUS : Fld := ⟨127, 120⟩
abbrev REASON : Fld := ⟨119, 104⟩
abbrev TAG : Fld := ⟨103, 88⟩
abbrev LENGTH : Fld := ⟨87, 56⟩
abbrev EFFECTIVE_FRAME : Fld := ⟨55, 24⟩
end DictResp

/-! ImgHdr: spec/18_object_dictionary.md, Image header (64 bytes). -/
namespace ImgHdr
abbrev MAGIC : Fld := ⟨511, 480⟩
abbrev FORMAT : Fld := ⟨479, 464⟩
abbrev KIND : Fld := ⟨463, 460⟩
abbrev SLOT : Fld := ⟨459, 456⟩
abbrev ROLE : Fld := ⟨455, 453⟩
abbrev RECORDS : Fld := ⟨452, 432⟩
abbrev BYTES : Fld := ⟨431, 400⟩
abbrev TAG : Fld := ⟨399, 368⟩
end ImgHdr

/-! ImgRec: spec/18_object_dictionary.md, Entry record header (16 bytes), followed by LENGTH data bytes padded with zeros to a multiple of 8. -/
namespace ImgRec
abbrev INDEX : Fld := ⟨127, 112⟩
abbrev SUBINDEX : Fld := ⟨111, 104⟩
abbrev TYPE : Fld := ⟨103, 100⟩
abbrev OFFSET : Fld := ⟨95, 64⟩
abbrev LENGTH : Fld := ⟨63, 32⟩
end ImgRec

/-! OvSlot: spec/18_object_dictionary.md, Overlay slot record (32 bytes), OD 0x3010.01 OVERLAY_SLOTS. -/
namespace OvSlot
abbrev STATE : Fld := ⟨255, 254⟩
abbrev ROLE : Fld := ⟨253, 251⟩
abbrev ENTRIES : Fld := ⟨250, 241⟩
abbrev TAG : Fld := ⟨240, 209⟩
abbrev APPLIED_FRAME : Fld := ⟨208, 177⟩
end OvSlot

/-! BootHdr: spec/19_security.md,  (128 bytes), followed by BODY_BYTES of body, the 384-byte RSA signature and the 16,224-byte SLH-DSA signature. -/
namespace BootHdr
abbrev MAGIC : Fld := ⟨1023, 992⟩
abbrev FORMAT : Fld := ⟨991, 976⟩
abbrev SVN : Fld := ⟨975, 960⟩
abbrev ROOT_INDEX : Fld := ⟨959, 956⟩
abbrev VERSION : Fld := ⟨951, 920⟩
abbrev BODY_BYTES : Fld := ⟨919, 888⟩
abbrev BODY_DIGEST : Fld := ⟨887, 504⟩
end BootHdr

/-! DebugTok: spec/19_security.md, Debug token header (64 bytes). -/
namespace DebugTok
abbrev MAGIC : Fld := ⟨511, 480⟩
abbrev SERIAL_TAG : Fld := ⟨479, 416⟩
abbrev NONCE : Fld := ⟨415, 160⟩
abbrev SCOPE : Fld := ⟨159, 152⟩
abbrev ROOT_INDEX : Fld := ⟨151, 148⟩
end DebugTok

/-! ReportHdr: spec/19_security.md, Report header (128 bytes). -/
namespace ReportHdr
abbrev MAGIC : Fld := ⟨1023, 992⟩
abbrev FORMAT : Fld := ⟨991, 976⟩
abbrev BODY_BYTES : Fld := ⟨975, 944⟩
abbrev NONCE : Fld := ⟨943, 688⟩
abbrev FRAME : Fld := ⟨687, 656⟩
abbrev LIFECYCLE : Fld := ⟨655, 648⟩
abbrev DEBUG_STATE : Fld := ⟨647, 640⟩
abbrev FUSED_SVN : Fld := ⟨639, 624⟩
abbrev ROOT_REVOKED : Fld := ⟨623, 620⟩
abbrev ROLE : Fld := ⟨619, 612⟩
end ReportHdr

/-! Part: spec/19_security.md, Partition record (32 bytes). -/
namespace Part
abbrev BASE : Fld := ⟨255, 214⟩
abbrev SIZE : Fld := ⟨213, 172⟩
abbrev KIND : Fld := ⟨171, 170⟩
abbrev TENANT : Fld := ⟨169, 158⟩
abbrev HIDE_VIEWS : Fld := ⟨157, 157⟩
abbrev STATE : Fld := ⟨156, 155⟩
end Part

/-! KeySlot: spec/19_security.md, Key slot record (16 bytes). -/
namespace KeySlot
abbrev STATE : Fld := ⟨127, 126⟩
abbrev GEN : Fld := ⟨125, 118⟩
abbrev TENANT : Fld := ⟨117, 106⟩
abbrev BIND : Fld := ⟨105, 105⟩
abbrev IN_FLIGHT : Fld := ⟨104, 73⟩
abbrev KEY_ID : Fld := ⟨72, 9⟩
end KeySlot

/-! InstallRec: spec/19_security.md, Install record header (64 bytes). -/
namespace InstallRec
abbrev SLOT : Fld := ⟨511, 504⟩
abbrev TENANT : Fld := ⟨503, 492⟩
abbrev GEN : Fld := ⟨491, 484⟩
abbrev BIND : Fld := ⟨483, 483⟩
abbrev KEY_ID : Fld := ⟨482, 419⟩
abbrev NONCE : Fld := ⟨418, 163⟩
end InstallRec

/-! OwnSnap: spec/20_guarantees.md, Ownership snapshot record (16 bytes). -/
namespace OwnSnap
abbrev REQUEST_ID : Fld := ⟨127, 64⟩
abbrev EPOCH : Fld := ⟨63, 32⟩
abbrev KIND : Fld := ⟨31, 28⟩
abbrev STATE : Fld := ⟨27, 24⟩
abbrev DEVICE : Fld := ⟨23, 11⟩
end OwnSnap

/-! BistDesc: spec/21_faults.md, BIST descriptor (64 bytes). -/
namespace BistDesc
abbrev SLICE_CLK : Fld := ⟨511, 492⟩
end BistDesc

/-! BistComp: spec/21_faults.md, BIST completion record (32 bytes). -/
namespace BistComp
abbrev FRAME : Fld := ⟨255, 224⟩
abbrev STEP_SLOT : Fld := ⟨223, 212⟩
abbrev STATUS : Fld := ⟨211, 204⟩
abbrev CARRIED : Fld := ⟨203, 203⟩
abbrev TARGET : Fld := ⟨202, 195⟩
abbrev CLOCKS : Fld := ⟨191, 160⟩
abbrev SLICE : Fld := ⟨159, 152⟩
abbrev SLICES : Fld := ⟨151, 144⟩
abbrev FAIL_BLOCK : Fld := ⟨143, 136⟩
end BistComp

/-! FenceRec: spec/21_faults.md, Fence record (16 bytes). -/
namespace FenceRec
abbrev FRAME : Fld := ⟨127, 96⟩
abbrev KIND : Fld := ⟨95, 94⟩
abbrev INDEX : Fld := ⟨93, 84⟩
abbrev CAUSE : Fld := ⟨83, 80⟩
end FenceRec

/-! HealthRec: spec/21_faults.md, Health record (160 bytes). -/
namespace HealthRec
abbrev WINDOW : Fld := ⟨1279, 1248⟩
abbrev FRAME : Fld := ⟨1247, 1216⟩
abbrev LAST_COUNTS : Fld := ⟨1215, 704⟩
abbrev TIMEOUTS : Fld := ⟨703, 688⟩
abbrev MEM_CORR : Fld := ⟨687, 432⟩
abbrev UNCORRECTABLE : Fld := ⟨431, 400⟩
abbrev FEC_MAX : Fld := ⟨399, 368⟩
abbrev FEC_MAX_LINK : Fld := ⟨367, 362⟩
abbrev RECOVERIES : Fld := ⟨361, 346⟩
abbrev BIST_PASS : Fld := ⟨345, 338⟩
abbrev BIST_FAIL : Fld := ⟨337, 330⟩
abbrev CORE_CHECKS : Fld := ⟨329, 322⟩
abbrev WATCHDOGS : Fld := ⟨321, 314⟩
abbrev PEER_SUSPECT : Fld := ⟨313, 282⟩
end HealthRec

/-! FenceCmd: spec/21_faults.md, Fence command header (64 bytes), followed by APPROVALS records of 392 bytes. -/
namespace FenceCmd
abbrev MAGIC : Fld := ⟨511, 480⟩
abbrev TARGET : Fld := ⟨479, 467⟩
abbrev APPROVALS : Fld := ⟨466, 459⟩
abbrev NONCE : Fld := ⟨458, 203⟩
abbrev ISSUE_FRAME : Fld := ⟨202, 171⟩
end FenceCmd

/-! ShardMsg: spec/21_faults.md, Shard message (64 bytes). -/
namespace ShardMsg
abbrev KIND : Fld := ⟨511, 504⟩
abbrev STATUS : Fld := ⟨503, 496⟩
abbrev REQUEST_ID : Fld := ⟨495, 432⟩
abbrev OWNER : Fld := ⟨431, 419⟩
abbrev EPOCH : Fld := ⟨418, 387⟩
abbrev GROUP : Fld := ⟨386, 367⟩
abbrev SHARD : Fld := ⟨366, 363⟩
abbrev GEOMETRY : Fld := ⟨362, 347⟩
abbrev TENANT : Fld := ⟨346, 335⟩
abbrev KEY : Fld := ⟨334, 303⟩
abbrev OFFSET : Fld := ⟨302, 261⟩
end ShardMsg

end Sys2Proof.Machine
end

