-- ==== Sys2Proof/Machine/OdTable.lean ====
section
/-! DEFINITION. The object dictionary's entries: a name per entry (its value index·256 + subindex) and one row per entry of
the spec's dictionary tables, chapters 02 to 22.
Choices of the model here, by the assumption log: log 5 (DESIGN CHOICE). -/

namespace Sys2Proof.Machine

/-! The entry numbers, index·256 + subindex, under the names of the spec's dictionary tables (R364). -/
namespace OD
abbrev FRAME_NUMBER : Nat := 0x401001
abbrev FRAME_PERIOD_CLK : Nat := 0x401002
abbrev SEAL_MARGIN_CLK : Nat := 0x401003
abbrev GUARD_CLK : Nat := 0x401004
abbrev VC0_REQ_PM : Nat := 0x401005
abbrev VC0_GRANT_PM : Nat := 0x401006
abbrev TICK_SOURCE : Nat := 0x402001
abbrev TICK_LINK : Nat := 0x402002
abbrev TICK_STATE : Nat := 0x402003
abbrev TICK_CAPTURE_CLK : Nat := 0x402004
abbrev TICK_HOLDOVER_MAX : Nat := 0x402005
abbrev TICK_PHASE_NS : Nat := 0x402006
abbrev FRAME_MASTER : Nat := 0x402007
abbrev FRAME_START : Nat := 0x402008
abbrev CYCLIC_COUNT : Nat := 0x403001
abbrev CYCLIC_STEPS : Nat := 0x403002
abbrev OVERRUN_FRAMES : Nat := 0x404001
abbrev SKIPPED_STEPS : Nat := 0x404002
abbrev CARRIED_STEPS : Nat := 0x404003
abbrev TABLE_REJECTS : Nat := 0x404004
abbrev UNSEALED_FRAMES : Nat := 0x404005
abbrev TICK_SLIPS : Nat := 0x404006
abbrev HOLDOVER_FRAMES : Nat := 0x404007
abbrev FRAME_MISMATCHES : Nat := 0x404008
abbrev SEQ_BAD_OPS : Nat := 0x404009
abbrev OVERRUN_RING : Nat := 0x405001
abbrev BARRIER_GROUP : Nat := 0x406001
abbrev BARRIER_TIMEOUTS : Nat := 0x406002
abbrev LAST_ARRIVAL : Nat := 0x406003
abbrev COST_FORMS : Nat := 0x407001
abbrev UNIT_CLOCK_WEIGHT : Nat := 0x408001
abbrev TENANT_CORE_CLOCKS : Nat := 0x408002
abbrev CTX_SWITCHES : Nat := 0x409001
abbrev CTX_CLK_TOTAL : Nat := 0x409002
abbrev ROLE_DRAIN_EST_FRAMES : Nat := 0x409003
abbrev NAN_STEPS : Nat := 0x502001
abbrev SAT_STEPS : Nat := 0x502002
abbrev BAD_FORMAT_STEPS : Nat := 0x502003
abbrev KV_RESCALES : Nat := 0x583001
abbrev KV_CLIPPED : Nat := 0x583002
abbrev KV_NONFINITE : Nat := 0x583003
abbrev CORES_IN_SERVICE : Nat := 0x501001
abbrev CORE_MAP : Nat := 0x501002
abbrev DROPPED_ASSIGNMENTS : Nat := 0x502004
abbrev WAIT_EXPIRED_STEPS : Nat := 0x502005
abbrev MEM_ERROR_STEPS : Nat := 0x502006
abbrev BAD_PROGRAM_STEPS : Nat := 0x502007
abbrev BAD_OP_STEPS : Nat := 0x502008
abbrev PROG_REGION_BASE : Nat := 0x503001
abbrev PROG_REGION_SIZE : Nat := 0x503002
abbrev PROG_CACHE_HITS : Nat := 0x503003
abbrev PROG_LOADS : Nat := 0x503004
abbrev PROG_IMAGE : Nat := 0x503005
abbrev CORE_COMPLETION_RING : Nat := 0x504001
abbrev ENGINE_MAP : Nat := 0x581001
abbrev SETTING_SRAM_BASE : Nat := 0x581002
abbrev SETTING_SRAM_BCAST : Nat := 0x581003
abbrev PROB_BUDGET_MAX : Nat := 0x582001
abbrev ENTRIES_SKIPPED : Nat := 0x583004
abbrev SHARED_BEAD_SKIPS : Nat := 0x583005
abbrev PROB_BUDGET_JOBS : Nat := 0x583006
abbrev SETTING_COMPLETION_RING : Nat := 0x584001
abbrev JOBS_COMPLETED : Nat := 0x584002
abbrev INTERNAL_BYTES : Nat := 0x584003
abbrev BUSY_CLK : Nat := 0x584004
abbrev GF_POLY : Nat := 0x585001
abbrev BEAD_CLASSES : Nat := 0x681001
abbrev DESC_BASE : Nat := 0x682001
abbrev STRAND_HEADER_AREA : Nat := 0x682002
abbrev SEGMENT_AREA : Nat := 0x682003
abbrev CLASS_DEV_BASE : Nat := 0x682004
abbrev BEAD_STATE_COUNTS : Nat := 0x683001
abbrev REF_SUM : Nat := 0x683002
abbrev BEAD_DEFERRALS : Nat := 0x683003
abbrev PARKS_FOR_BEADS : Nat := 0x683004
abbrev COW_COPIES : Nat := 0x683005
abbrev SPEC_RETURNS : Nat := 0x683006
abbrev STALE_REFS : Nat := 0x683007
abbrev PREFIX_RETAIN : Nat := 0x684001
abbrev RETAIN_LOW_WATER : Nat := 0x684002
abbrev AUDIT_REQ : Nat := 0x685001
abbrev AUDIT_RESULT : Nat := 0x685002
abbrev ROWS_IN_USE : Nat := 0x601001
abbrev ROW_STATE_COUNTS : Nat := 0x601002
abbrev ROWS_TAKEN : Nat := 0x601003
abbrev ROWS_FREED : Nat := 0x601004
abbrev SCOREBOARD_VIEW : Nat := 0x602001
abbrev TENANTS : Nat := 0x603001
abbrev TENANT_LEDGER : Nat := 0x603002
abbrev BUDGET_WAITS : Nat := 0x603003
abbrev TENANT_VCLOCK : Nat := 0x603004
abbrev PARK_IDLE_FRAMES : Nat := 0x604001
abbrev CONTINUE_MAX : Nat := 0x604002
abbrev ADMIT_PER_FRAME : Nat := 0x604003
abbrev ROW_CONTROL : Nat := 0x604004
abbrev ADMIT_COUNTS : Nat := 0x605001
abbrev DEADLINE_MISSES : Nat := 0x605002
abbrev MODEL_SLOTS : Nat := 0x610001
abbrev ADAPTER_VERSIONS : Nat := 0x620001
abbrev ADAPTER_LOAD : Nat := 0x620002
abbrev ADAPTER_COMMIT : Nat := 0x620003
abbrev ADAPTER_POOL : Nat := 0x620004
abbrev ROWS_EVALUATED : Nat := 0x6C1001
abbrev TOKENS_EMITTED : Nat := 0x6C1002
abbrev DRAFTS_OFFERED : Nat := 0x6C1003
abbrev DRAFTS_ACCEPTED : Nat := 0x6C1004
abbrev MASK_EMPTY_ROWS : Nat := 0x6C1005
abbrev TRUNCATED_ROWS : Nat := 0x6C1006
abbrev NAN_LOGITS : Nat := 0x6C1007
abbrev COMPAT_CLAMPS : Nat := 0x6C1008
abbrev GRAMMARS : Nat := 0x6C2001
abbrev GRAMMAR_FAULTS : Nat := 0x6C2002
abbrev SELECTION_VIEW : Nat := 0x6C3001
abbrev TSU_COMPLETION_RING : Nat := 0x6C4001
abbrev MAP_CURRENT : Nat := 0x981001
abbrev MAP_NEXT : Nat := 0x981002
abbrev MAP_PREVIOUS : Nat := 0x981003
abbrev MAP_DRAIN : Nat := 0x981004
abbrev MAP_STATE : Nat := 0x981005
abbrev CLASP_RECORDS : Nat := 0x982001
abbrev CLASP_INBOX : Nat := 0x982002
abbrev CLASP_COMPLETION_RING : Nat := 0x982003
abbrev PASS_QPS : Nat := 0x983001
abbrev PASS_LIST_AREA : Nat := 0x983002
abbrev PEER_LOST : Nat := 0x984001
abbrev CLASP_RESEND_FRAMES : Nat := 0x985001
abbrev CLASP_RESEND_MAX : Nat := 0x985002
abbrev CLASP_QUERY_FRAMES : Nat := 0x985003
abbrev CLASP_TAKE_SLACK : Nat := 0x985004
abbrev CLASP_REFUSE_HOLD : Nat := 0x985005
abbrev CLASP_STUCK_FRAMES : Nat := 0x985006
abbrev CLASP_NO_DATA_FRAMES : Nat := 0x985007
abbrev CLASP_COUNTS : Nat := 0x986001
abbrev REFUSALS_BY_REASON : Nat := 0x986002
abbrev STALE_MESSAGES : Nat := 0x986003
abbrev CLASP_NO_DEST : Nat := 0x986004
abbrev CLASP_STUCK : Nat := 0x986005
abbrev STACK_MAP : Nat := 0x801001
abbrev REGION_MAP : Nat := 0x801002
abbrev INNER_CORR : Nat := 0x802001
abbrev OUTER_CORR : Nat := 0x802002
abbrev UNCORRECTABLE : Nat := 0x802003
abbrev SCRUB_POINTER : Nat := 0x802004
abbrev SCRUB_PASSES : Nat := 0x802005
abbrev ACT_THRESHOLD : Nat := 0x803001
abbrev RFM_ISSUED : Nat := 0x803002
abbrev CORR_REMAP_THRESHOLD : Nat := 0x803003
abbrev REMAP_QUEUE : Nat := 0x803004
abbrev REMAP_TABLE : Nat := 0x803005
abbrev REMAP_COUNTS : Nat := 0x803006
abbrev REMAP_LIST : Nat := 0x803007
abbrev OWNER_RANGES : Nat := 0x804001
abbrev TIER_FRAMES : Nat := 0x805001
abbrev GRANULE_MAP : Nat := 0x805002
abbrev MIGRATIONS : Nat := 0x805003
abbrev CONTAINMENT_RING : Nat := 0x806001
abbrev CONTAINED_BY_KIND : Nat := 0x806002
abbrev MEMORY_COMPLETION_RING : Nat := 0x807001
abbrev LINK_ENABLE : Nat := 0x701001
abbrev LINK_PROFILE : Nat := 0x701002
abbrev VC0_RESERVE_FLITS : Nat := 0x701003
abbrev VC3_CAP_FLITS : Nat := 0x701004
abbrev TRAIN_ATTEMPTS : Nat := 0x701005
abbrev RECOVERY_LIMIT : Nat := 0x701006
abbrev RECOVERY_WINDOW : Nat := 0x701007
abbrev FEC_WARN : Nat := 0x701008
abbrev FENCE_LINK : Nat := 0x701009
abbrev SPRAY_SETS : Nat := 0x70100A
abbrev LINK_STATE : Nat := 0x702001
abbrev LINK_PEER : Nat := 0x702002
abbrev LINK_DELAY : Nat := 0x702003
abbrev CODEC_RATIO : Nat := 0x702004
abbrev FEC_CORRECTED : Nat := 0x703001
abbrev FEC_UNCORRECTED : Nat := 0x703002
abbrev GROUPS_REJECTED : Nat := 0x703003
abbrev GROUPS_REPLAYED : Nat := 0x703004
abbrev EXHAUSTIONS : Nat := 0x703005
abbrev RECOVERIES : Nat := 0x703006
abbrev TRAIN_FAILS : Nat := 0x703007
abbrev CREDIT_STATE : Nat := 0x704001
abbrev VC0_HOLDS : Nat := 0x704002
abbrev REPLAY_FULL : Nat := 0x704003
abbrev FORWARDED : Nat := 0x704004
abbrev MISROUTED : Nat := 0x704005
abbrev MGMT_DISCARDS : Nat := 0x704006
abbrev DECRYPT_FAILS : Nat := 0x705001
abbrev SEGMENTS_ENCRYPTED : Nat := 0x705002
abbrev QP_CONTEXT_BASE : Nat := 0x710001
abbrev QP_CONTEXTS : Nat := 0x710002
abbrev ENDPOINTS : Nat := 0x710003
abbrev QP_FUNCTIONS_OPEN : Nat := 0x711001
abbrev ACK_COALESCE : Nat := 0x712001
abbrev RECV_RETRY_US : Nat := 0x712002
abbrev MR_TABLE_BASE : Nat := 0x720001
abbrev MR_TABLE_ENTRIES : Nat := 0x720002
abbrev MR_REGISTER : Nat := 0x720003
abbrev MR_DEREGISTER : Nat := 0x720004
abbrev CQ_TABLE : Nat := 0x730001
abbrev PAGE_FAULT_RING : Nat := 0x740001
abbrev FAULT_HINT_US : Nat := 0x740002
abbrev QP_COUNTS : Nat := 0x750001
abbrev QP_USAGE : Nat := 0x750002
abbrev REPLY_WAITS : Nat := 0x750003
abbrev WICKETS : Nat := 0x781001
abbrev WICKET_STATE : Nat := 0x781002
abbrev WICKET_HOLDS : Nat := 0x781003
abbrev QP_TELEMETRY : Nat := 0x783001
abbrev TRAY_SLOT : Nat := 0x988001
abbrev TRAY_MEMBERS : Nat := 0x988002
abbrev TRAY_SLOT_DEAD : Nat := 0x988003
abbrev DEAD_SLOTS : Nat := 0x988004
abbrev TRAY_TIMEOUT_CLK : Nat := 0x988005
abbrev EXPORTS : Nat := 0x988006
abbrev TRAY_COUNTS : Nat := 0x988007
abbrev TRC_INVAL_ALL : Nat := 0x989001
abbrev TRC_COUNTS : Nat := 0x989002
abbrev COH_STATE : Nat := 0x98A001
abbrev COH_MEMBERS : Nat := 0x98A002
abbrev COH_BACKING : Nat := 0x98A003
abbrev COH_HOP_CLK : Nat := 0x98A004
abbrev COH_TIMEOUT_CLK : Nat := 0x98A005
abbrev COH_RESET : Nat := 0x98A006
abbrev COH_EPOCH : Nat := 0x98A007
abbrev COH_COUNTS : Nat := 0x98A008
abbrev APERTURES : Nat := 0x98B001
abbrev APERTURE_TIMEOUT_CLK : Nat := 0x98B002
abbrev APERTURE_COUNTS : Nat := 0x98B003
abbrev FABRIC_FAULT_RING : Nat := 0x98C001
abbrev FABRIC_COMPLETION_RING : Nat := 0x98C002
abbrev CHANNEL_CONFIG : Nat := 0x881001
abbrev CHANNEL_PAUSE : Nat := 0x881002
abbrev CHANNEL_STATE : Nat := 0x881003
abbrev CHANNEL_SAVED : Nat := 0x881004
abbrev DMA_COMPLETION_RING : Nat := 0x882001
abbrev DMA_COUNTS : Nat := 0x882002
abbrev LATE_WRITE_RING : Nat := 0x882003
abbrev FIXED_TABLES : Nat := 0x901001
abbrev CODEC_PROFILES : Nat := 0x902001
abbrev STREAM_PROFILE : Nat := 0x902002
abbrev TRAY_PROFILE : Nat := 0x902003
abbrev BUILD_BYTES : Nat := 0x903001
abbrev REBUILD_FRAMES : Nat := 0x903002
abbrev REBUILD_GAIN_PM : Nat := 0x903003
abbrev BUILT_TABLES : Nat := 0x903004
abbrev PEER_ACKED : Nat := 0x903005
abbrev TABLE_STORE : Nat := 0x904001
abbrev CODEC_COUNTS : Nat := 0x905001
abbrev BANK_CONFIG : Nat := 0x941001
abbrev SHADOW_BASE : Nat := 0x941002
abbrev PREFIX_KEY : Nat := 0x941003
abbrev ENTRY_COUNTS : Nat := 0x942001
abbrev LOCKET_COUNTS : Nat := 0x942002
abbrev SCRUB_POINTERS : Nat := 0x942003
abbrev LOCKET_COMPLETION_RING : Nat := 0x943001
abbrev LOCKET_VIEW : Nat := 0x944001
abbrev ALLOWANCE_UJ : Nat := 0xA01001
abbrev PEAK_UJ : Nat := 0xA01002
abbrev ALLOWANCE_IN_FORCE : Nat := 0xA01003
abbrev MIN_ALLOWANCE_UJ : Nat := 0xA01004
abbrev ALLOWANCE_LEASE_FRAMES : Nat := 0xA01005
abbrev ALLOWANCE_FLOOR_UJ : Nat := 0xA01006
abbrev COEFFICIENTS : Nat := 0xA02001
abbrev FUSED_COEFFICIENTS : Nat := 0xA02002
abbrev RAIL_SCALES : Nat := 0xA02003
abbrev CAL_MARGIN_PM : Nat := 0xA02004
abbrev S_MIN_PM : Nat := 0xA02005
abbrev VALID_FRAMES : Nat := 0xA02006
abbrev LEDGER_RING : Nat := 0xA03001
abbrev LEDGER_TOTALS : Nat := 0xA03002
abbrev TENANT_ENERGY : Nat := 0xA03003
abbrev HOUSEKEEPING_ENERGY : Nat := 0xA03004
abbrev ENERGY_COUNTS : Nat := 0xA03005
abbrev POWER_STATE_REQ : Nat := 0xA04001
abbrev POWER_STATE : Nat := 0xA04002
abbrev POWER_REQ_STATUS : Nat := 0xA04003
abbrev IDLE_DRAIN_FRAMES : Nat := 0xA04004
abbrev IDLE_ENERGY : Nat := 0xA04005
abbrev THROTTLE_C : Nat := 0xA05001
abbrev THROTTLE_EIGHTHS : Nat := 0xA05002
abbrev PART_NUMBER : Nat := 0x101001
abbrev PRODUCT_NAME : Nat := 0x101002
abbrev STEPPING : Nat := 0x101003
abbrev SERIAL : Nat := 0x101004
abbrev FIRMWARE_VERSION : Nat := 0x101005
abbrev DICT_FORMAT : Nat := 0x101006
abbrev DEVICE_STATE : Nat := 0x102001
abbrev HEALTH : Nat := 0x102002
abbrev ALERT_CAUSES : Nat := 0x102003
abbrev ALERT_CLEAR : Nat := 0x102004
abbrev BASE_IMAGE_DIGEST : Nat := 0x103001
abbrev OVERLAY_DIGESTS : Nat := 0x103002
abbrev DEVICE_NUMBER : Nat := 0x201001
abbrev RUN_REQUEST : Nat := 0x201002
abbrev RUN_STATUS : Nat := 0x201003
abbrev BASE_IMAGE : Nat := 0x202001
abbrev BASE_STATE : Nat := 0x202002
abbrev BASE_FAULT : Nat := 0x202003
abbrev REACH_RIGHTS : Nat := 0x203001
abbrev MAILBOX_VECTORS : Nat := 0x203002
abbrev OVERLAY_SLOTS : Nat := 0x301001
abbrev OVERLAY_LOAD : Nat := 0x302001
abbrev OVERLAY_ERASE : Nat := 0x302002
abbrev OVERLAY_REQUEST : Nat := 0x303001
abbrev OVERLAY_ACTIVE : Nat := 0x303002
abbrev ROLE : Nat := 0x303003
abbrev SWITCH_STATE : Nat := 0x303004
abbrev SWITCH_RESULT : Nat := 0x303005
abbrev SWITCH_LIMIT_FRAMES : Nat := 0x303006
abbrev OVERLAY_COUNTS : Nat := 0x303007
abbrev LIFECYCLE : Nat := 0xB01001
abbrev FUSED_SVN : Nat := 0xB01002
abbrev BOOT_STATUS : Nat := 0xB01003
abbrev SVN_COMMIT : Nat := 0xB01004
abbrev ROOT_REVOKED : Nat := 0xB01005
abbrev DEBUG_STATE : Nat := 0xB01007
abbrev DEBUG_NONCE : Nat := 0xB01008
abbrev DEBUG_UNLOCK : Nat := 0xB01009
abbrev FW_DIGESTS : Nat := 0xB0100A
abbrev KEY_SLOTS : Nat := 0xB02001
abbrev KEY_NONCE : Nat := 0xB02002
abbrev KEY_INSTALL : Nat := 0xB02003
abbrev KEY_REVOKE : Nat := 0xB02004
abbrev KEM_PUBLIC : Nat := 0xB02005
abbrev KEY_COUNTS : Nat := 0xB02006
abbrev ID_PUBLIC_RSA : Nat := 0xB03001
abbrev ID_PUBLIC_SLH : Nat := 0xB03002
abbrev CODE_MEASURE : Nat := 0xB03003
abbrev MEASURE_EXTENDS : Nat := 0xB03004
abbrev ATTEST_REQUEST : Nat := 0xB03005
abbrev ATTEST_REPORT : Nat := 0xB03006
abbrev ATTEST_STATE : Nat := 0xB03007
abbrev PARTITIONS : Nat := 0xB04001
abbrev PARTITION_CREATE : Nat := 0xB04002
abbrev PARTITION_RELEASE : Nat := 0xB04003
abbrev PARTITION_DENIALS : Nat := 0xB04004
abbrev AUDIT_REQUEST : Nat := 0xC03001
abbrev AUDIT_STATE : Nat := 0xC03002
abbrev AUDIT_RESULTS : Nat := 0xC03003
abbrev AUDIT_FAILS : Nat := 0xC03004
abbrev OWNER_SNAPSHOT : Nat := 0xC03005
abbrev GUARANTEE_CONDITIONS : Nat := 0xC03006
abbrev AUDIT_TERMS : Nat := 0xC03007
abbrev HEALTH_RING : Nat := 0xC01001
abbrev PEER_SUSPECT : Nat := 0xC01002
abbrev SELF_FLAGS : Nat := 0xC01003
abbrev LAST_ARRIVAL_LIMIT : Nat := 0xC01004
abbrev TIMEOUT_LIMIT : Nat := 0xC01005
abbrev MEM_CORR_WARN : Nat := 0xC01006
abbrev CORE_CORRECTED : Nat := 0xC01007
abbrev DERATE : Nat := 0xC02001
abbrev FENCE_NONCE : Nat := 0xC02002
abbrev FENCE_COMMAND : Nat := 0xC02003
abbrev MANAGER_KEYS : Nat := 0xC02004
abbrev QUORUM : Nat := 0xC02005
abbrev EXPEL_BUDGET : Nat := 0xC02006
abbrev EXPEL_WINDOW_FRAMES : Nat := 0xC02007
abbrev EXPEL_STATE : Nat := 0xC02008
abbrev EXPEL_RESULT : Nat := 0xC02009
abbrev EXPELLED_IN_WINDOW : Nat := 0xC0200A
abbrev FENCE_RING : Nat := 0xC0200B
abbrev FENCE_REGION : Nat := 0xC0200C
abbrev REGION_AUTO_FENCE : Nat := 0xC0200D
abbrev REGION_UE_LIMIT : Nat := 0xC0200E
abbrev DRAIN_LIMIT_CLK : Nat := 0xC0200F
abbrev WATCHDOG_RESETS : Nat := 0xC02010
abbrev FATAL_CAUSE : Nat := 0xC02011
abbrev BIST_ENABLE : Nat := 0xC04001
abbrev BIST_NEXT : Nat := 0xC04002
abbrev BIST_RESULTS : Nat := 0xC04003
abbrev BIST_COMPLETION_RING : Nat := 0xC04004
abbrev GROUP_K : Nat := 0x985008
abbrev SHARD_COUNTS : Nat := 0x986006
abbrev SHARD_DIRECTORY : Nat := 0x986007
abbrev TELEMETRY_RING : Nat := 0xD01001
abbrev TELEMETRY_SOURCES : Nat := 0xD01002
abbrev STRAPS : Nat := 0x101007
abbrev PCI_VENDOR_ID : Nat := 0x101008
abbrev HOST_LINK : Nat := 0x102005
abbrev HOST_LINK_DOWNS : Nat := 0x102006
abbrev BAR2_WINDOW : Nat := 0x201004
abbrev BAR2_ERRORS : Nat := 0x201005
abbrev ALERT_VECTOR : Nat := 0x203003
abbrev TEMPERATURES : Nat := 0xA05003
abbrev INPUT_48V_MV : Nat := 0xA05004
abbrev THERMTRIP_C : Nat := 0xA05005
abbrev BOOT_LOAD : Nat := 0xB01006
abbrev BOOT_COMMIT : Nat := 0xB0100B
end OD

/-- One entry of the dictionary (R364): number, type code, access class (0 RO, 1 RW, 2 WO, 3 RWF, 4 RWI), the bytes of an
element, the number of elements and the default of an element. -/
structure OdRow where
  ent : Nat
  ty : Nat
  acc : Nat
  esz : Nat
  cnt : Nat
  dflt : Nat
  deriving DecidableEq, Repr

/-- Dictionary rows, part 1 (the dictionary tables of the spec, in its order). -/
def odRows0 : List OdRow := [
  ⟨OD.FRAME_NUMBER, 2, 0, 4, 1, 0⟩,
  ⟨OD.FRAME_PERIOD_CLK, 2, 3, 4, 1, 62500⟩,
  ⟨OD.SEAL_MARGIN_CLK, 2, 3, 4, 1, 6250⟩,
  ⟨OD.GUARD_CLK, 2, 3, 4, 1, 1250⟩,
  ⟨OD.VC0_REQ_PM, 1, 3, 2, 1, 200⟩,
  ⟨OD.VC0_GRANT_PM, 1, 3, 2, 1, 500⟩,
  ⟨OD.TICK_SOURCE, 0, 4, 1, 1, 0⟩,
  ⟨OD.TICK_LINK, 0, 4, 1, 1, 0⟩,
  ⟨OD.TICK_STATE, 0, 0, 1, 1, 0⟩,
  ⟨OD.TICK_CAPTURE_CLK, 1, 1, 2, 1, 64⟩,
  ⟨OD.TICK_HOLDOVER_MAX, 2, 1, 4, 1, 1024⟩,
  ⟨OD.TICK_PHASE_NS, 4, 0, 4, 1, 0⟩,
  ⟨OD.FRAME_MASTER, 0, 1, 1, 1, 0⟩,
  ⟨OD.FRAME_START, 2, 4, 4, 1, 0⟩,
  ⟨OD.CYCLIC_COUNT, 1, 0, 2, 1, 0⟩,
  ⟨OD.CYCLIC_STEPS, 9, 3, 32, 1024, 0⟩,
  ⟨OD.OVERRUN_FRAMES, 3, 0, 8, 1, 0⟩,
  ⟨OD.SKIPPED_STEPS, 3, 0, 8, 1, 0⟩,
  ⟨OD.CARRIED_STEPS, 3, 0, 8, 1, 0⟩,
  ⟨OD.TABLE_REJECTS, 2, 0, 4, 1, 0⟩,
  ⟨OD.UNSEALED_FRAMES, 2, 0, 4, 1, 0⟩,
  ⟨OD.TICK_SLIPS, 2, 0, 4, 1, 0⟩,
  ⟨OD.HOLDOVER_FRAMES, 2, 0, 4, 1, 0⟩,
  ⟨OD.FRAME_MISMATCHES, 2, 0, 4, 1, 0⟩]

/-- Dictionary rows, part 2 (the dictionary tables of the spec, in its order). -/
def odRows1 : List OdRow := [
  ⟨OD.SEQ_BAD_OPS, 2, 0, 4, 1, 0⟩,
  ⟨OD.OVERRUN_RING, 8, 0, 16, 4096, 0⟩,
  ⟨OD.BARRIER_GROUP, 6, 3, 4, 1, 1⟩,
  ⟨OD.BARRIER_TIMEOUTS, 2, 0, 4, 1, 0⟩,
  ⟨OD.LAST_ARRIVAL, 9, 0, 4, 32, 0⟩,
  ⟨OD.COST_FORMS, 9, 0, 8, 64, 0⟩,
  ⟨OD.UNIT_CLOCK_WEIGHT, 9, 3, 4, 16, 0⟩,
  ⟨OD.TENANT_CORE_CLOCKS, 9, 0, 8, 4096, 0⟩,
  ⟨OD.CTX_SWITCHES, 3, 0, 8, 1, 0⟩,
  ⟨OD.CTX_CLK_TOTAL, 3, 0, 8, 1, 0⟩,
  ⟨OD.ROLE_DRAIN_EST_FRAMES, 2, 0, 4, 1, 0⟩,
  ⟨OD.NAN_STEPS, 3, 0, 8, 1, 0⟩,
  ⟨OD.SAT_STEPS, 3, 0, 8, 1, 0⟩,
  ⟨OD.BAD_FORMAT_STEPS, 3, 0, 8, 1, 0⟩,
  ⟨OD.KV_RESCALES, 3, 0, 8, 1, 0⟩,
  ⟨OD.KV_CLIPPED, 3, 0, 8, 1, 0⟩,
  ⟨OD.KV_NONFINITE, 3, 0, 8, 1, 0⟩,
  ⟨OD.CORES_IN_SERVICE, 1, 0, 2, 1, 0⟩,
  ⟨OD.CORE_MAP, 9, 0, 1, 200, 0⟩,
  ⟨OD.DROPPED_ASSIGNMENTS, 3, 0, 8, 1, 0⟩,
  ⟨OD.WAIT_EXPIRED_STEPS, 3, 0, 8, 1, 0⟩,
  ⟨OD.MEM_ERROR_STEPS, 3, 0, 8, 1, 0⟩,
  ⟨OD.BAD_PROGRAM_STEPS, 2, 0, 4, 1, 0⟩,
  ⟨OD.BAD_OP_STEPS, 2, 0, 4, 1, 0⟩]

/-- Dictionary rows, part 3 (the dictionary tables of the spec, in its order). -/
def odRows2 : List OdRow := [
  ⟨OD.PROG_REGION_BASE, 3, 4, 8, 1, 0⟩,
  ⟨OD.PROG_REGION_SIZE, 3, 4, 8, 1, 268435456⟩,
  ⟨OD.PROG_CACHE_HITS, 3, 0, 8, 1, 0⟩,
  ⟨OD.PROG_LOADS, 3, 0, 8, 1, 0⟩,
  ⟨OD.PROG_IMAGE, 8, 3, 1, 268435456, 0⟩,
  ⟨OD.CORE_COMPLETION_RING, 8, 0, 32, 4096, 0⟩,
  ⟨OD.ENGINE_MAP, 9, 0, 1, 8, 0⟩,
  ⟨OD.SETTING_SRAM_BASE, 3, 0, 8, 1, 1924145348608⟩,
  ⟨OD.SETTING_SRAM_BCAST, 3, 0, 8, 1, 1924212457472⟩,
  ⟨OD.PROB_BUDGET_MAX, 3, 3, 8, 1, 17179869184⟩,
  ⟨OD.ENTRIES_SKIPPED, 3, 0, 8, 1, 0⟩,
  ⟨OD.SHARED_BEAD_SKIPS, 3, 0, 8, 1, 0⟩,
  ⟨OD.PROB_BUDGET_JOBS, 2, 0, 4, 1, 0⟩,
  ⟨OD.SETTING_COMPLETION_RING, 8, 0, 32, 4096, 0⟩,
  ⟨OD.JOBS_COMPLETED, 9, 0, 8, 8, 0⟩,
  ⟨OD.INTERNAL_BYTES, 9, 0, 8, 8, 0⟩,
  ⟨OD.BUSY_CLK, 9, 0, 8, 8, 0⟩,
  ⟨OD.GF_POLY, 1, 0, 2, 1, 285⟩,
  ⟨OD.BEAD_CLASSES, 9, 4, 32, 8, 0⟩,
  ⟨OD.DESC_BASE, 3, 4, 8, 1, 0⟩,
  ⟨OD.STRAND_HEADER_AREA, 9, 4, 8, 2, 0⟩,
  ⟨OD.SEGMENT_AREA, 9, 4, 8, 16, 0⟩,
  ⟨OD.CLASS_DEV_BASE, 9, 0, 8, 64, 0⟩,
  ⟨OD.BEAD_STATE_COUNTS, 9, 0, 4, 384, 0⟩]

/-- Dictionary rows, part 4 (the dictionary tables of the spec, in its order). -/
def odRows3 : List OdRow := [
  ⟨OD.REF_SUM, 9, 0, 8, 64, 0⟩,
  ⟨OD.BEAD_DEFERRALS, 3, 0, 8, 1, 0⟩,
  ⟨OD.PARKS_FOR_BEADS, 2, 0, 4, 1, 0⟩,
  ⟨OD.COW_COPIES, 3, 0, 8, 1, 0⟩,
  ⟨OD.SPEC_RETURNS, 3, 0, 8, 1, 0⟩,
  ⟨OD.STALE_REFS, 3, 0, 8, 1, 0⟩,
  ⟨OD.PREFIX_RETAIN, 0, 3, 1, 1, 0⟩,
  ⟨OD.RETAIN_LOW_WATER, 2, 3, 4, 1, 1024⟩,
  ⟨OD.AUDIT_REQ, 1, 2, 2, 1, 0⟩,
  ⟨OD.AUDIT_RESULT, 3, 0, 8, 1, 0⟩,
  ⟨OD.ROWS_IN_USE, 1, 0, 2, 1, 0⟩,
  ⟨OD.ROW_STATE_COUNTS, 9, 0, 2, 10, 0⟩,
  ⟨OD.ROWS_TAKEN, 3, 0, 8, 1, 0⟩,
  ⟨OD.ROWS_FREED, 3, 0, 8, 1, 0⟩,
  ⟨OD.SCOREBOARD_VIEW, 8, 0, 128, 32768, 0⟩,
  ⟨OD.TENANTS, 9, 3, 32, 4096, 0⟩,
  ⟨OD.TENANT_LEDGER, 9, 0, 8, 16384, 0⟩,
  ⟨OD.BUDGET_WAITS, 3, 0, 8, 1, 0⟩,
  ⟨OD.TENANT_VCLOCK, 9, 0, 8, 4096, 0⟩,
  ⟨OD.PARK_IDLE_FRAMES, 2, 3, 4, 1, 20000⟩,
  ⟨OD.CONTINUE_MAX, 1, 3, 2, 1, 256⟩,
  ⟨OD.ADMIT_PER_FRAME, 1, 3, 2, 1, 512⟩,
  ⟨OD.ROW_CONTROL, 2, 2, 4, 1, 0⟩,
  ⟨OD.ADMIT_COUNTS, 9, 0, 8, 8, 0⟩]

/-- Dictionary rows, part 5 (the dictionary tables of the spec, in its order). -/
def odRows4 : List OdRow := [
  ⟨OD.DEADLINE_MISSES, 3, 0, 8, 1, 0⟩,
  ⟨OD.MODEL_SLOTS, 9, 3, 64, 64, 0⟩,
  ⟨OD.ADAPTER_VERSIONS, 9, 0, 32, 4096, 0⟩,
  ⟨OD.ADAPTER_LOAD, 3, 2, 8, 1, 0⟩,
  ⟨OD.ADAPTER_COMMIT, 2, 3, 4, 1, 0⟩,
  ⟨OD.ADAPTER_POOL, 9, 4, 8, 2, 0⟩,
  ⟨OD.ROWS_EVALUATED, 3, 0, 8, 1, 0⟩,
  ⟨OD.TOKENS_EMITTED, 3, 0, 8, 1, 0⟩,
  ⟨OD.DRAFTS_OFFERED, 3, 0, 8, 1, 0⟩,
  ⟨OD.DRAFTS_ACCEPTED, 3, 0, 8, 1, 0⟩,
  ⟨OD.MASK_EMPTY_ROWS, 3, 0, 8, 1, 0⟩,
  ⟨OD.TRUNCATED_ROWS, 3, 0, 8, 1, 0⟩,
  ⟨OD.NAN_LOGITS, 3, 0, 8, 1, 0⟩,
  ⟨OD.COMPAT_CLAMPS, 2, 0, 4, 1, 0⟩,
  ⟨OD.GRAMMARS, 9, 3, 32, 4096, 0⟩,
  ⟨OD.GRAMMAR_FAULTS, 2, 0, 4, 1, 0⟩,
  ⟨OD.SELECTION_VIEW, 8, 0, 64, 32768, 0⟩,
  ⟨OD.TSU_COMPLETION_RING, 8, 0, 32, 4096, 0⟩,
  ⟨OD.MAP_CURRENT, 9, 0, 8, 8200, 0⟩,
  ⟨OD.MAP_NEXT, 9, 3, 8, 8200, 0⟩,
  ⟨OD.MAP_PREVIOUS, 9, 0, 8, 8200, 0⟩,
  ⟨OD.MAP_DRAIN, 2, 0, 4, 1, 0⟩,
  ⟨OD.MAP_STATE, 0, 0, 1, 1, 0⟩,
  ⟨OD.CLASP_RECORDS, 8, 0, 32, 2048, 0⟩]

/-- Dictionary rows, part 6 (the dictionary tables of the spec, in its order). -/
def odRows5 : List OdRow := [
  ⟨OD.CLASP_INBOX, 8, 0, 64, 4096, 0⟩,
  ⟨OD.CLASP_COMPLETION_RING, 8, 0, 32, 4096, 0⟩,
  ⟨OD.PASS_QPS, 9, 4, 2, 8192, 0⟩,
  ⟨OD.PASS_LIST_AREA, 9, 4, 8, 2, 0⟩,
  ⟨OD.PEER_LOST, 1, 2, 2, 1, 0⟩,
  ⟨OD.CLASP_RESEND_FRAMES, 1, 3, 2, 1, 4⟩,
  ⟨OD.CLASP_RESEND_MAX, 0, 3, 1, 1, 8⟩,
  ⟨OD.CLASP_QUERY_FRAMES, 1, 3, 2, 1, 16⟩,
  ⟨OD.CLASP_TAKE_SLACK, 2, 3, 4, 1, 64⟩,
  ⟨OD.CLASP_REFUSE_HOLD, 2, 3, 4, 1, 64⟩,
  ⟨OD.CLASP_STUCK_FRAMES, 2, 3, 4, 1, 20000⟩,
  ⟨OD.CLASP_NO_DATA_FRAMES, 1, 3, 2, 1, 256⟩,
  ⟨OD.CLASP_COUNTS, 9, 0, 8, 16, 0⟩,
  ⟨OD.REFUSALS_BY_REASON, 9, 0, 4, 16, 0⟩,
  ⟨OD.STALE_MESSAGES, 3, 0, 8, 1, 0⟩,
  ⟨OD.CLASP_NO_DEST, 3, 0, 8, 1, 0⟩,
  ⟨OD.CLASP_STUCK, 2, 0, 4, 1, 0⟩,
  ⟨OD.STACK_MAP, 9, 0, 1, 8, 0⟩,
  ⟨OD.REGION_MAP, 9, 0, 1, 1024, 0⟩,
  ⟨OD.INNER_CORR, 9, 0, 8, 8, 0⟩,
  ⟨OD.OUTER_CORR, 9, 0, 8, 8, 0⟩,
  ⟨OD.UNCORRECTABLE, 9, 0, 8, 8, 0⟩,
  ⟨OD.SCRUB_POINTER, 9, 0, 4, 8, 0⟩,
  ⟨OD.SCRUB_PASSES, 9, 0, 4, 8, 0⟩]

/-- Dictionary rows, part 7 (the dictionary tables of the spec, in its order). -/
def odRows6 : List OdRow := [
  ⟨OD.ACT_THRESHOLD, 2, 4, 4, 1, 4096⟩,
  ⟨OD.RFM_ISSUED, 9, 0, 8, 8, 0⟩,
  ⟨OD.CORR_REMAP_THRESHOLD, 0, 3, 1, 1, 3⟩,
  ⟨OD.REMAP_QUEUE, 8, 0, 8, 512, 0⟩,
  ⟨OD.REMAP_TABLE, 8, 0, 8, 524288, 0⟩,
  ⟨OD.REMAP_COUNTS, 9, 0, 4, 24, 0⟩,
  ⟨OD.REMAP_LIST, 8, 4, 8, 524288, 0⟩,
  ⟨OD.OWNER_RANGES, 9, 3, 32, 64, 0⟩,
  ⟨OD.TIER_FRAMES, 1, 4, 2, 1, 1024⟩,
  ⟨OD.GRANULE_MAP, 9, 0, 4, 2048, 0⟩,
  ⟨OD.MIGRATIONS, 3, 0, 8, 1, 0⟩,
  ⟨OD.CONTAINMENT_RING, 8, 0, 32, 4096, 0⟩,
  ⟨OD.CONTAINED_BY_KIND, 9, 0, 8, 8, 0⟩,
  ⟨OD.MEMORY_COMPLETION_RING, 8, 0, 32, 4096, 0⟩,
  ⟨OD.LINK_ENABLE, 6, 1, 8, 1, 0⟩,
  ⟨OD.LINK_PROFILE, 0, 4, 1, 1, 0⟩,
  ⟨OD.VC0_RESERVE_FLITS, 1, 3, 2, 1, 64⟩,
  ⟨OD.VC3_CAP_FLITS, 1, 3, 2, 1, 32⟩,
  ⟨OD.TRAIN_ATTEMPTS, 0, 1, 1, 1, 4⟩,
  ⟨OD.RECOVERY_LIMIT, 1, 1, 2, 1, 16⟩,
  ⟨OD.RECOVERY_WINDOW, 2, 1, 4, 1, 20000⟩,
  ⟨OD.FEC_WARN, 2, 1, 4, 1, 1000000⟩,
  ⟨OD.FENCE_LINK, 0, 2, 1, 1, 0⟩,
  ⟨OD.SPRAY_SETS, 9, 3, 8, 64, 0⟩]

/-- Dictionary rows, part 8 (the dictionary tables of the spec, in its order). -/
def odRows7 : List OdRow := [
  ⟨OD.LINK_STATE, 9, 0, 1, 64, 0⟩,
  ⟨OD.LINK_PEER, 9, 0, 4, 64, 0⟩,
  ⟨OD.LINK_DELAY, 9, 0, 2, 64, 0⟩,
  ⟨OD.CODEC_RATIO, 9, 0, 4, 64, 1065353216⟩,
  ⟨OD.FEC_CORRECTED, 9, 0, 8, 64, 0⟩,
  ⟨OD.FEC_UNCORRECTED, 9, 0, 8, 64, 0⟩,
  ⟨OD.GROUPS_REJECTED, 9, 0, 8, 64, 0⟩,
  ⟨OD.GROUPS_REPLAYED, 9, 0, 8, 64, 0⟩,
  ⟨OD.EXHAUSTIONS, 9, 0, 4, 64, 0⟩,
  ⟨OD.RECOVERIES, 9, 0, 4, 64, 0⟩,
  ⟨OD.TRAIN_FAILS, 9, 0, 4, 64, 0⟩,
  ⟨OD.CREDIT_STATE, 9, 0, 2, 576, 0⟩,
  ⟨OD.VC0_HOLDS, 9, 0, 4, 64, 0⟩,
  ⟨OD.REPLAY_FULL, 9, 0, 4, 64, 0⟩,
  ⟨OD.FORWARDED, 9, 0, 8, 64, 0⟩,
  ⟨OD.MISROUTED, 2, 0, 4, 1, 0⟩,
  ⟨OD.MGMT_DISCARDS, 2, 0, 4, 1, 0⟩,
  ⟨OD.DECRYPT_FAILS, 9, 0, 8, 3, 0⟩,
  ⟨OD.SEGMENTS_ENCRYPTED, 3, 0, 8, 1, 0⟩,
  ⟨OD.QP_CONTEXT_BASE, 3, 4, 8, 1, 0⟩,
  ⟨OD.QP_CONTEXTS, 8, 1, 128, 65536, 0⟩,
  ⟨OD.ENDPOINTS, 9, 1, 8, 4096, 0⟩,
  ⟨OD.QP_FUNCTIONS_OPEN, 6, 0, 1, 1, 0⟩,
  ⟨OD.ACK_COALESCE, 1, 3, 2, 1, 16⟩]

/-- Dictionary rows, part 9 (the dictionary tables of the spec, in its order). -/
def odRows8 : List OdRow := [
  ⟨OD.RECV_RETRY_US, 1, 3, 2, 1, 4⟩,
  ⟨OD.MR_TABLE_BASE, 3, 4, 8, 1, 0⟩,
  ⟨OD.MR_TABLE_ENTRIES, 2, 4, 4, 1, 1048576⟩,
  ⟨OD.MR_REGISTER, 8, 2, 36, 1, 0⟩,
  ⟨OD.MR_DEREGISTER, 2, 2, 4, 1, 0⟩,
  ⟨OD.CQ_TABLE, 9, 4, 16, 4096, 0⟩,
  ⟨OD.PAGE_FAULT_RING, 8, 0, 16, 4096, 0⟩,
  ⟨OD.FAULT_HINT_US, 1, 3, 2, 1, 20⟩,
  ⟨OD.QP_COUNTS, 9, 0, 8, 8, 0⟩,
  ⟨OD.QP_USAGE, 8, 0, 8, 196608, 0⟩,
  ⟨OD.REPLY_WAITS, 3, 0, 8, 1, 0⟩,
  ⟨OD.WICKETS, 9, 3, 32, 4096, 0⟩,
  ⟨OD.WICKET_STATE, 9, 0, 4, 8192, 0⟩,
  ⟨OD.WICKET_HOLDS, 3, 0, 8, 1, 0⟩,
  ⟨OD.QP_TELEMETRY, 8, 0, 8, 1048576, 0⟩,
  ⟨OD.TRAY_SLOT, 0, 0, 1, 1, 0⟩,
  ⟨OD.TRAY_MEMBERS, 6, 1, 4, 1, 0⟩,
  ⟨OD.TRAY_SLOT_DEAD, 0, 2, 1, 1, 0⟩,
  ⟨OD.DEAD_SLOTS, 6, 0, 4, 1, 0⟩,
  ⟨OD.TRAY_TIMEOUT_CLK, 2, 1, 4, 1, 12500⟩,
  ⟨OD.EXPORTS, 9, 3, 32, 64, 0⟩,
  ⟨OD.TRAY_COUNTS, 9, 0, 8, 8, 0⟩,
  ⟨OD.TRC_INVAL_ALL, 0, 2, 1, 1, 0⟩,
  ⟨OD.TRC_COUNTS, 9, 0, 8, 4, 0⟩]

/-- Dictionary rows, part 10 (the dictionary tables of the spec, in its order). -/
def odRows9 : List OdRow := [
  ⟨OD.COH_STATE, 0, 0, 1, 1, 0⟩,
  ⟨OD.COH_MEMBERS, 6, 1, 4, 1, 0⟩,
  ⟨OD.COH_BACKING, 3, 4, 8, 1, 0⟩,
  ⟨OD.COH_HOP_CLK, 1, 1, 2, 1, 400⟩,
  ⟨OD.COH_TIMEOUT_CLK, 2, 1, 4, 1, 62500⟩,
  ⟨OD.COH_RESET, 1, 2, 2, 1, 0⟩,
  ⟨OD.COH_EPOCH, 1, 0, 2, 1, 0⟩,
  ⟨OD.COH_COUNTS, 9, 0, 8, 6, 0⟩,
  ⟨OD.APERTURES, 9, 3, 32, 64, 0⟩,
  ⟨OD.APERTURE_TIMEOUT_CLK, 2, 3, 4, 1, 25000⟩,
  ⟨OD.APERTURE_COUNTS, 9, 0, 8, 3, 0⟩,
  ⟨OD.FABRIC_FAULT_RING, 8, 0, 32, 4096, 0⟩,
  ⟨OD.FABRIC_COMPLETION_RING, 8, 0, 32, 4096, 0⟩,
  ⟨OD.CHANNEL_CONFIG, 9, 3, 1, 512, 2⟩,
  ⟨OD.CHANNEL_PAUSE, 6, 1, 64, 1, 0⟩,
  ⟨OD.CHANNEL_STATE, 9, 0, 1, 512, 0⟩,
  ⟨OD.CHANNEL_SAVED, 8, 0, 32, 512, 0⟩,
  ⟨OD.DMA_COMPLETION_RING, 8, 0, 32, 4096, 0⟩,
  ⟨OD.DMA_COUNTS, 9, 0, 8, 6, 0⟩,
  ⟨OD.LATE_WRITE_RING, 8, 0, 32, 1024, 0⟩,
  ⟨OD.FIXED_TABLES, 9, 0, 128, 16, 0⟩,
  ⟨OD.CODEC_PROFILES, 9, 3, 2, 16, 0⟩,
  ⟨OD.STREAM_PROFILE, 9, 3, 1, 65536, 0⟩,
  ⟨OD.TRAY_PROFILE, 0, 3, 1, 1, 0⟩]

/-- Dictionary rows, part 11 (the dictionary tables of the spec, in its order). -/
def odRows10 : List OdRow := [
  ⟨OD.BUILD_BYTES, 2, 3, 4, 1, 262144⟩,
  ⟨OD.REBUILD_FRAMES, 2, 3, 4, 1, 20000⟩,
  ⟨OD.REBUILD_GAIN_PM, 1, 3, 2, 1, 20⟩,
  ⟨OD.BUILT_TABLES, 8, 0, 144, 32, 0⟩,
  ⟨OD.PEER_ACKED, 8, 0, 1, 131072, 0⟩,
  ⟨OD.TABLE_STORE, 8, 0, 160, 512, 0⟩,
  ⟨OD.CODEC_COUNTS, 9, 0, 8, 10, 0⟩,
  ⟨OD.BANK_CONFIG, 9, 4, 8, 32, 0⟩,
  ⟨OD.SHADOW_BASE, 3, 4, 8, 1, 0⟩,
  ⟨OD.PREFIX_KEY, 9, 4, 8, 2, 0⟩,
  ⟨OD.ENTRY_COUNTS, 9, 0, 2, 32, 0⟩,
  ⟨OD.LOCKET_COUNTS, 9, 0, 8, 9, 0⟩,
  ⟨OD.SCRUB_POINTERS, 9, 0, 2, 32, 0⟩,
  ⟨OD.LOCKET_COMPLETION_RING, 8, 0, 32, 4096, 0⟩,
  ⟨OD.LOCKET_VIEW, 8, 0, 64, 65536, 0⟩,
  ⟨OD.ALLOWANCE_UJ, 2, 3, 4, 1, 0⟩,
  ⟨OD.PEAK_UJ, 2, 3, 4, 1, 0⟩,
  ⟨OD.ALLOWANCE_IN_FORCE, 2, 0, 4, 1, 0⟩,
  ⟨OD.MIN_ALLOWANCE_UJ, 2, 0, 4, 1, 0⟩,
  ⟨OD.ALLOWANCE_LEASE_FRAMES, 2, 1, 4, 1, 20000⟩,
  ⟨OD.ALLOWANCE_FLOOR_UJ, 2, 1, 4, 1, 0⟩,
  ⟨OD.COEFFICIENTS, 9, 0, 4, 21, 0⟩,
  ⟨OD.FUSED_COEFFICIENTS, 9, 0, 4, 21, 0⟩,
  ⟨OD.RAIL_SCALES, 9, 0, 4, 6, 1065353216⟩]

/-- Dictionary rows, part 12 (the dictionary tables of the spec, in its order). -/
def odRows11 : List OdRow := [
  ⟨OD.CAL_MARGIN_PM, 1, 3, 2, 1, 50⟩,
  ⟨OD.S_MIN_PM, 1, 3, 2, 1, 500⟩,
  ⟨OD.VALID_FRAMES, 9, 0, 4, 6, 0⟩,
  ⟨OD.LEDGER_RING, 8, 0, 64, 4096, 0⟩,
  ⟨OD.LEDGER_TOTALS, 9, 0, 8, 4, 0⟩,
  ⟨OD.TENANT_ENERGY, 9, 0, 8, 4096, 0⟩,
  ⟨OD.HOUSEKEEPING_ENERGY, 3, 0, 8, 1, 0⟩,
  ⟨OD.ENERGY_COUNTS, 9, 0, 4, 4, 0⟩,
  ⟨OD.POWER_STATE_REQ, 0, 2, 1, 1, 0⟩,
  ⟨OD.POWER_STATE, 0, 0, 1, 1, 0⟩,
  ⟨OD.POWER_REQ_STATUS, 0, 0, 1, 1, 0⟩,
  ⟨OD.IDLE_DRAIN_FRAMES, 2, 1, 4, 1, 200000⟩,
  ⟨OD.IDLE_ENERGY, 3, 0, 8, 1, 0⟩,
  ⟨OD.THROTTLE_C, 0, 1, 1, 1, 100⟩,
  ⟨OD.THROTTLE_EIGHTHS, 0, 0, 1, 1, 8⟩,
  ⟨OD.PART_NUMBER, 7, 0, 64, 1, 53009429515844⟩,
  ⟨OD.PRODUCT_NAME, 7, 0, 64, 1, 107105586671446⟩,
  ⟨OD.STEPPING, 1, 0, 2, 1, 0⟩,
  ⟨OD.SERIAL, 7, 0, 64, 1, 0⟩,
  ⟨OD.FIRMWARE_VERSION, 2, 0, 4, 1, 0⟩,
  ⟨OD.DICT_FORMAT, 1, 0, 2, 1, 1⟩,
  ⟨OD.DEVICE_STATE, 0, 0, 1, 1, 0⟩,
  ⟨OD.HEALTH, 0, 0, 1, 1, 0⟩,
  ⟨OD.ALERT_CAUSES, 6, 0, 8, 1, 0⟩]

/-- Dictionary rows, part 13 (the dictionary tables of the spec, in its order). -/
def odRows12 : List OdRow := [
  ⟨OD.ALERT_CLEAR, 6, 2, 8, 1, 0⟩,
  ⟨OD.BASE_IMAGE_DIGEST, 8, 0, 1, 48, 0⟩,
  ⟨OD.OVERLAY_DIGESTS, 9, 0, 48, 16, 0⟩,
  ⟨OD.DEVICE_NUMBER, 1, 4, 2, 1, 0⟩,
  ⟨OD.RUN_REQUEST, 0, 2, 1, 1, 0⟩,
  ⟨OD.RUN_STATUS, 0, 0, 1, 1, 0⟩,
  ⟨OD.BASE_IMAGE, 8, 2, 1, 2147483648, 0⟩,
  ⟨OD.BASE_STATE, 0, 0, 1, 1, 0⟩,
  ⟨OD.BASE_FAULT, 3, 0, 8, 1, 0⟩,
  ⟨OD.REACH_RIGHTS, 9, 4, 1, 16, 0⟩,
  ⟨OD.MAILBOX_VECTORS, 9, 1, 2, 16, 65535⟩,
  ⟨OD.OVERLAY_SLOTS, 9, 0, 32, 16, 0⟩,
  ⟨OD.OVERLAY_LOAD, 8, 2, 1, 16777216, 0⟩,
  ⟨OD.OVERLAY_ERASE, 0, 2, 1, 1, 0⟩,
  ⟨OD.OVERLAY_REQUEST, 0, 2, 1, 1, 0⟩,
  ⟨OD.OVERLAY_ACTIVE, 0, 0, 1, 1, 255⟩,
  ⟨OD.ROLE, 0, 0, 1, 1, 0⟩,
  ⟨OD.SWITCH_STATE, 0, 0, 1, 1, 0⟩,
  ⟨OD.SWITCH_RESULT, 3, 0, 8, 1, 0⟩,
  ⟨OD.SWITCH_LIMIT_FRAMES, 2, 1, 4, 1, 200000⟩,
  ⟨OD.OVERLAY_COUNTS, 9, 0, 8, 4, 0⟩,
  ⟨OD.LIFECYCLE, 0, 0, 1, 1, 0⟩,
  ⟨OD.FUSED_SVN, 1, 0, 2, 1, 0⟩,
  ⟨OD.BOOT_STATUS, 2, 0, 4, 1, 0⟩]

/-- Dictionary rows, part 14 (the dictionary tables of the spec, in its order). -/
def odRows13 : List OdRow := [
  ⟨OD.SVN_COMMIT, 1, 2, 2, 1, 0⟩,
  ⟨OD.ROOT_REVOKED, 6, 0, 1, 1, 0⟩,
  ⟨OD.DEBUG_STATE, 0, 0, 1, 1, 0⟩,
  ⟨OD.DEBUG_NONCE, 8, 0, 1, 32, 0⟩,
  ⟨OD.DEBUG_UNLOCK, 8, 2, 1, 32768, 0⟩,
  ⟨OD.FW_DIGESTS, 9, 0, 48, 4, 0⟩,
  ⟨OD.KEY_SLOTS, 9, 0, 16, 256, 0⟩,
  ⟨OD.KEY_NONCE, 8, 0, 1, 32, 0⟩,
  ⟨OD.KEY_INSTALL, 8, 2, 1, 1680, 0⟩,
  ⟨OD.KEY_REVOKE, 0, 2, 1, 1, 0⟩,
  ⟨OD.KEM_PUBLIC, 8, 0, 1, 1568, 0⟩,
  ⟨OD.KEY_COUNTS, 9, 0, 8, 5, 0⟩,
  ⟨OD.ID_PUBLIC_RSA, 8, 0, 1, 384, 0⟩,
  ⟨OD.ID_PUBLIC_SLH, 8, 0, 1, 48, 0⟩,
  ⟨OD.CODE_MEASURE, 8, 0, 1, 48, 0⟩,
  ⟨OD.MEASURE_EXTENDS, 3, 0, 8, 1, 0⟩,
  ⟨OD.ATTEST_REQUEST, 8, 2, 1, 32, 0⟩,
  ⟨OD.ATTEST_REPORT, 8, 0, 1, 24208, 0⟩,
  ⟨OD.ATTEST_STATE, 0, 0, 1, 1, 0⟩,
  ⟨OD.PARTITIONS, 9, 0, 32, 64, 0⟩,
  ⟨OD.PARTITION_CREATE, 8, 2, 1, 32, 0⟩,
  ⟨OD.PARTITION_RELEASE, 0, 2, 1, 1, 0⟩,
  ⟨OD.PARTITION_DENIALS, 9, 0, 8, 4, 0⟩,
  ⟨OD.AUDIT_REQUEST, 3, 2, 8, 1, 0⟩]

/-- Dictionary rows, part 15 (the dictionary tables of the spec, in its order). -/
def odRows14 : List OdRow := [
  ⟨OD.AUDIT_STATE, 0, 0, 1, 1, 0⟩,
  ⟨OD.AUDIT_RESULTS, 9, 0, 8, 16, 0⟩,
  ⟨OD.AUDIT_FAILS, 9, 0, 4, 16, 0⟩,
  ⟨OD.OWNER_SNAPSHOT, 8, 0, 16, 1048576, 0⟩,
  ⟨OD.GUARANTEE_CONDITIONS, 6, 0, 1, 1, 0⟩,
  ⟨OD.AUDIT_TERMS, 8, 0, 8, 65536, 0⟩,
  ⟨OD.HEALTH_RING, 8, 0, 160, 256, 0⟩,
  ⟨OD.PEER_SUSPECT, 6, 0, 4, 1, 0⟩,
  ⟨OD.SELF_FLAGS, 6, 0, 1, 1, 0⟩,
  ⟨OD.LAST_ARRIVAL_LIMIT, 1, 1, 2, 1, 128⟩,
  ⟨OD.TIMEOUT_LIMIT, 1, 1, 2, 1, 4⟩,
  ⟨OD.MEM_CORR_WARN, 2, 1, 4, 1, 65536⟩,
  ⟨OD.CORE_CORRECTED, 9, 0, 4, 200, 0⟩,
  ⟨OD.DERATE, 0, 2, 1, 1, 0⟩,
  ⟨OD.FENCE_NONCE, 8, 0, 1, 32, 0⟩,
  ⟨OD.FENCE_COMMAND, 8, 2, 1, 3200, 0⟩,
  ⟨OD.MANAGER_KEYS, 9, 4, 392, 8, 0⟩,
  ⟨OD.QUORUM, 0, 4, 1, 1, 0⟩,
  ⟨OD.EXPEL_BUDGET, 0, 1, 1, 1, 2⟩,
  ⟨OD.EXPEL_WINDOW_FRAMES, 2, 1, 4, 1, 1200000⟩,
  ⟨OD.EXPEL_STATE, 0, 0, 1, 1, 0⟩,
  ⟨OD.EXPEL_RESULT, 0, 0, 1, 1, 0⟩,
  ⟨OD.EXPELLED_IN_WINDOW, 9, 0, 2, 8, 0⟩,
  ⟨OD.FENCE_RING, 8, 0, 16, 1024, 0⟩]

/-- Dictionary rows, part 16 (the dictionary tables of the spec, in its order). -/
def odRows15 : List OdRow := [
  ⟨OD.FENCE_REGION, 1, 2, 2, 1, 0⟩,
  ⟨OD.REGION_AUTO_FENCE, 0, 1, 1, 1, 1⟩,
  ⟨OD.REGION_UE_LIMIT, 1, 1, 2, 1, 16⟩,
  ⟨OD.DRAIN_LIMIT_CLK, 2, 1, 4, 1, 250000⟩,
  ⟨OD.WATCHDOG_RESETS, 3, 0, 8, 1, 0⟩,
  ⟨OD.FATAL_CAUSE, 2, 0, 4, 1, 0⟩,
  ⟨OD.BIST_ENABLE, 0, 3, 1, 1, 1⟩,
  ⟨OD.BIST_NEXT, 3, 0, 8, 1, 0⟩,
  ⟨OD.BIST_RESULTS, 9, 0, 4, 400, 0⟩,
  ⟨OD.BIST_COMPLETION_RING, 8, 0, 32, 4096, 0⟩,
  ⟨OD.GROUP_K, 0, 3, 1, 1, 8⟩,
  ⟨OD.SHARD_COUNTS, 9, 0, 8, 6, 0⟩,
  ⟨OD.SHARD_DIRECTORY, 8, 0, 64, 1048576, 0⟩,
  ⟨OD.TELEMETRY_RING, 8, 0, 8, 524288, 0⟩,
  ⟨OD.TELEMETRY_SOURCES, 6, 3, 1, 1, 255⟩,
  ⟨OD.STRAPS, 0, 0, 1, 1, 0⟩,
  ⟨OD.PCI_VENDOR_ID, 1, 0, 2, 1, 0⟩,
  ⟨OD.HOST_LINK, 2, 0, 4, 1, 0⟩,
  ⟨OD.HOST_LINK_DOWNS, 2, 0, 4, 1, 0⟩,
  ⟨OD.BAR2_WINDOW, 3, 1, 8, 1, 0⟩,
  ⟨OD.BAR2_ERRORS, 3, 0, 8, 1, 0⟩,
  ⟨OD.ALERT_VECTOR, 1, 1, 2, 1, 65535⟩,
  ⟨OD.TEMPERATURES, 9, 0, 4, 14, 0⟩,
  ⟨OD.INPUT_48V_MV, 2, 0, 4, 1, 0⟩]

/-- Dictionary rows, part 17 (the dictionary tables of the spec, in its order). -/
def odRows16 : List OdRow := [
  ⟨OD.THERMTRIP_C, 0, 0, 1, 1, 115⟩,
  ⟨OD.BOOT_LOAD, 8, 2, 1, 33554432, 0⟩,
  ⟨OD.BOOT_COMMIT, 0, 2, 1, 1, 0⟩]

/-- Every entry of the dictionary (R364). -/
def odTable : List OdRow :=
  odRows0 ++ odRows1 ++ odRows2 ++ odRows3 ++ odRows4 ++ odRows5 ++ odRows6 ++ odRows7 ++ odRows8 ++ odRows9 ++ odRows10 ++ odRows11 ++ odRows12 ++ odRows13 ++ odRows14 ++ odRows15 ++ odRows16

/-- The row of an entry; none where the manual assigns no entry (R364: NO_ENTRY). -/
def odFind (e : Nat) : Option OdRow := odTable.find? (fun r => r.ent == e)

/-- R44: the default weights of UNIT_CLOCK_WEIGHT, by unit class (CORE 1, SETTING 1, TSU 4, all others 0). -/
def unitClockWeightDefault (cls : Nat) : Nat :=
  if cls = 1 ∨ cls = 2 then 1 else if cls = 6 then 4 else 0

/-- R346: the fused coefficients as FP32 bits, 15 operation classes [pJ] and the bases of six rails [nJ per clk]: the binary32 value
nearest each figure of the table. -/
def fusedCoefficients : List Nat :=
  [0x3E3851EC, 0x3EA8F5C3, 0x3F19999A, 0x40000000, 0x40800000, 0x447A0000, 0x3F99999A, 0x3F4CCCCD, 0x40800000, 0x42000000, 0x42200000, 0x40400000, 0x40000000, 0x40A00000, 0x42480000, 0x43160000, 0x42700000, 0x41F00000, 0x42700000, 0x43480000, 0x42400000]

/-- R346: the fused coefficient of class or rail `i`. -/
def fusedCoefficient (i : Nat) : Nat := fusedCoefficients.getD i 0

end Sys2Proof.Machine
end

