-- ==== Sys2Proof/Machine/State.lean ====
section
/-! DEFINITION. The state of the part as plain data, the reasons a step can stop, and the state after reset.

Every value the object dictionary shows has its one home in the field `od` of State (a keyed store whose unlisted keys read the
entry's default); every byte of device memory in `mem`; what the engines hold beside those is in the structures below, a chapter each.
Choices of the model here, by the assumption log: log 2, 4, 7, 8 (DESIGN CHOICE). -/

namespace Sys2Proof.Machine

/-- Why a step stops with a fault. -/
inductive Fault where
  /-- R415 to R416's catalogue: an undefined case U`n` of the manual was met, for which it gives no effect. Raised by the meaning
  that detects it (named there). Safe: the model stops where the hardware may do anything. -/
  | undefinedCase (n : Nat)
  deriving DecidableEq, Repr

/-- Why a command is refused. -/
inductive Refusal where
  /-- A command that has no meaning yet, by its mnemonic. Raised by the dispatch alone. Safe. -/
  | notModelled (mnemonic : String)
  deriving DecidableEq, Repr

/-- A step in flight on a unit (R32): its record, slot and frame of issue, the clk of issue, and whether it is carried (R39). -/
structure Flight where
  step : Nat
  slot : Nat
  frame : Nat
  issued : Nat
  carried : Bool
  deriving DecidableEq, Repr

/-- Which part of the current table runs: all of it; the cyclic section because the table failed R35's check; because it was not
sealed; or because the frame began at entry to RUN (R35). -/
inductive TableMode where
  | whole
  | rejected
  | unsealed
  | entry
  deriving DecidableEq, Repr

/-- Chapter 02: the tick, the two tables, issue, events, barriers. -/
structure FrameSt where
  tickClk : Nat            -- clk at which the frame in progress began
  lockCount : Nat          -- consecutive in-window ticks counted in LOCKING
  adopted : Bool           -- LOCKING: the phase is adopted, the frame number awaited (R28)
  slipPhase : Int          -- phase of the last out-of-window tick
  slipCount : Nat          -- consecutive out-of-window ticks at that phase
  missed : Nat             -- frames without an in-window tick (HOLDOVER)
  numberNext : Bool        -- the next frame is numbered FRAME_START (R28)
  curHdr : Nat             -- header of the current table
  curSteps : KMap Nat      -- its step slots
  nextHdr : Nat            -- header of the table being built
  nextSteps : KMap Nat
  mode : TableMode
  slotState : KMap Nat     -- slot of the current table: 1 issued, 2 complete
  events : KMap Nat        -- event: clk at which its flag is set (R33)
  flights : KMap Flight    -- unit: the step in flight on it
  draining : Bool          -- R39
  applying : Bool          -- an overlay apply is in progress (R46)
  applyFrom : Nat          -- clk at which it started
  issueClk : Nat           -- last clk at which a step issued, and how many at it (R32: at most 4)
  issueCount : Nat
  fencedAtSeal : List Nat  -- what was fenced or under test at the seal of the current table (R36): unit keys, regions as
                           -- 65,536 + stack·128 + region, links as 131,072 + link
  fencedNext : List Nat
  frameClocks : KMap Nat   -- tenant: core-clocks of the frame in progress (R44); key 4096 is housekeeping
  lateClocks : KMap Nat    -- frame·8,192 + tenant (or 4,096): core-clocks of steps carried out of that frame, not yet reported (R39)
  markTick : Option Int    -- the time of the last tick mark received on TICK_LINK [0.01 ns] (R239)
  hkClocks : Nat           -- housekeeping core-clocks, running total (R44)
  arrivals : KMap Nat      -- barrier of the frame in progress: slot to clk of arrival (R43)
  earlyArrivals : KMap Nat -- arrivals received for a frame not yet begun: slot + 32·frame to clk
  barrierSent : Bool       -- the BARRIER step in flight has sent its arrivals
  barrierLast : Nat        -- last member to arrive, lag and missing slots of the last barrier (R43)
  barrierLag : Nat
  barrierMissing : Nat
  stopped : Bool           -- the sequencer is stopped (R438, R445)
  deriving DecidableEq, Repr

/-- Chapter 17: one frame the ledger has open, all terms in 4 nJ. -/
structure LedgerFrame where
  peakUj : Nat             -- PEAK_UJ in force with the grant (R352)
  granted : Nat       -- allowance in force at the seal
  aEff : Nat          -- A_eff after throttling
  carriedIn : Int     -- lots alive at its start
  base : Nat
  steps : Nat         -- prices charged
  throttle : Nat      -- factor f
  minUj : Nat
  metered : List Nat  -- six rails
  fused : List Nat    -- F of the six rails, from activity counts and base at fused coefficients
  invalid : Nat       -- meter-invalid bits, CORE highest
  ended : Bool        -- its tick has passed
  deriving DecidableEq, Repr

/-- Chapter 17: the ledger, calibration, throttle and power-state machinery. -/
structure EnergySt where
  lots : List Int          -- the unspent remainders of the last four closed frames, oldest first
  frames : KMap LedgerFrame
  sealed : Option LedgerFrame -- grant fixed at the seal of the next frame's table
  leaseFrame : Nat         -- frame of the last ALLOWANCE_UJ write (R345)
  lapsed : Bool            -- the lease has expired
  samples : List (List (Nat × Nat)) -- per rail: metered and fused energy of its last 256 valid frames, oldest first
  scaleNum : List Nat      -- s_r as a fraction: numerators
  scaleDen : List Nat      -- and denominators
  throttled : Bool         -- a frame with f below 8 has raised THROTTLE
  tempMax : Int            -- largest sample of the frame in progress [0.01 °C]
  tempEnded : Int          -- of the last frame that ended
  tempClosed : Int         -- and of the last frame that closed
  idleSince : Nat          -- frame of the IDLE request
  savedEnable : Nat        -- LINK_ENABLE as it stood on entry to IDLE (R359)
  exitSealed : Bool        -- EXITING_IDLE: the first table is sealed
  deriving DecidableEq, Repr

/-- One piece of an asynchronous access to memory: the access, its address, bytes, offset in the window range, whether it has
answered, the status and the bytes of its answer. -/
structure AsyncPart where
  acc : Nat
  addr : Nat
  len : Nat
  off : Nat
  done : Bool
  status : Nat
  data : List Byte
  deriving DecidableEq, Repr

/-- R83: an outstanding WLOAD, WSTORE or GATHER. -/
structure AsyncOp where
  store : Bool
  win : Nat            -- byte address in the window
  opIndex : Nat
  parts : List AsyncPart
  deriving DecidableEq, Repr

/-- R80: a loop being run: first and last op of the body, repetitions left after this one. -/
structure LoopSt where
  first : Nat
  last : Nat
  left : Nat
  deriving DecidableEq, Repr

/-- A program in an instruction buffer (R76). -/
structure Prog where
  addr : Nat
  tag : Nat
  words : List Nat
  deriving DecidableEq, Repr

/-- Chapter 04: one core. -/
structure CoreSt where
  running : Bool           -- a RUN step has been bound to its program
  ended : Bool             -- END has executed, or a rule has ended the step
  status : Nat             -- ending status of R95, 0 if none
  opIndex : Nat
  words : List Nat         -- the program of the running step
  pc : Nat
  loops : List LoopSt      -- innermost first
  ad : List Nat            -- AD0 to AD15
  pr : List Nat            -- P0 to P15
  seed : Nat
  executed : Nat           -- q of R87
  asyncs : List AsyncOp
  reduce : Option AsyncOp  -- the CREDUCE at pc that waits for its partials
  nanOut : Bool            -- sticky flags of R66
  infOut : Bool
  sat : Bool
  intSat : Bool
  kvClip : Bool
  waitExpired : Bool
  waitFrom : Option Nat    -- clk at which the EVT_WAIT at pc started
  cached : Bool
  dropped : Nat
  failAddr : Option Nat    -- first failing memory-side address (R84)
  buffer : List Prog       -- instruction buffer, most recently used first (R76)
  deriving DecidableEq, Repr

/-- Chapter 10: what the memory controllers and the tier mover hold beside the dictionary and the bytes. -/
structure MemSt where
  lineErr : KMap Nat        -- 64-byte line (device offset / 64): symbols in error, 1 to 4 correctable, above 4 uncorrectable
  acts : KMap Nat           -- bank (stack·512 + pair·64 + bank): activations since its last targeted refresh (R211)
  tracker : KMap (List (Nat × Nat)) -- stack: rows (pair·2^23 + bank·2^17 + row) and counts, oldest first, at most 512 (R212)
  remapQueue : KMap (List Nat)      -- stack: rows waiting, at most 64 (R212)
  retired : List Nat        -- spares retired (stack·2^20·... as spareKey) (R213)
  contained : KMap Nat      -- row, or 65,536 + model slot: frame it joined the containment set (R217)
  ueLines : List Nat        -- uncorrectable lines (device offset / 64) met in the scrub pass in progress (R429)
  fencedClk : KMap Nat      -- stack·128 + region: clk at which it was fenced (R115)
  samples : KMap Nat        -- granule: sampled line reads of the frame (R223)
  sampleTick : Nat          -- line reads through the granule map, counted for the 1-in-256 sampler
  deriving DecidableEq, Repr

/-- A bead audit in progress (R143): class and stack, and whether law L3 of an audit asked for it (R412). -/
structure AuditWalk where
  cls : Nat
  stack : Nat
  law : Bool
  deriving DecidableEq, Repr

/-- Chapter 06: the bead pool manager's lists and the areas of strands. -/
structure PoolSt where
  ready : KMap (List Nat)     -- class·8 + stack: slots of the READY list, head first (R124)
  clearing : KMap (List Nat)  -- class·8 + stack: slots of the CLEARING queue, head first
  clearPos : KMap Nat         -- bead index: bytes zeroed so far (R127)
  pend : List (Nat × Nat)     -- beads PENDING release: frame freed and bead index, in order
  walks : List AuditWalk      -- bead audits in progress
  headers : List Nat          -- strand headers taken (device offsets) (R474)
  segs : List (Nat × Nat)     -- segments taken: device offset and bytes
  freed : List (Nat × Nat)    -- frame and header (even code) or segment (odd code) awaiting the end of the drain (R133, R474)
  growing : KMap (List Nat)   -- row: the eight new segment addresses of a growth whose copy is planned (R133)
  answer : Nat                -- status of the last pool manager command: 0 OK, 1 NO_BEAD, 2 STALE, 3 REF_LIMIT (R125)
  answerBeads : List Nat      -- and the beads ALLOC returned
  retained : KMap Nat         -- Locket entry of a retained registration: frame it was last hit (R137)
  moves : List (Nat × Nat × Bool)  -- since the last tick: clk, bead, and whether the bead entered HELD or left HELD and SHARD (R130)
  deriving DecidableEq, Repr

/-- Chapter 16: what Locket holds beside its units (LOCKET_VIEW), counts and scrub pointers. -/
structure LocketSt where
  badUnits : List Nat       -- units that fail parity, by unit index (R339)
  badValues : List Nat      -- values that fail parity, by the entry's first unit (R339)
  deriving DecidableEq, Repr

/-- Chapter 21: self-test, watchdogs, health counting and expulsion. -/
structure FaultSt where
  aer : List Nat            -- errors logged under AER, oldest first: 1 Uncorrectable Internal Error, fatal; 2 advisory
                            -- Completer Abort; 3 Unsupported Request
  watchdogs : KMap Nat      -- unit: frame of its last watchdog (R427)
  bistCore : Nat            -- core under test, 200 if none (R422)
  bistAnnounced : Nat       -- core announced, 200 if none
  patterned : List Nat      -- cores whose window memory and accumulator hold test patterns (R70)
  bistSlices : Nat          -- slices of the test in progress that have passed
  bistTotal : Nat           -- N of the test in progress
  bistNextIdx : Nat         -- where the search for the next target starts
  winBarriers : Nat         -- barriers of the health window in progress
  winTimeouts : Nat         -- of these, ended with TIMEOUT
  winMissing : KMap Nat     -- slot: of these, how many it was missing from
  winBistPass : Nat
  winBistFail : Nat
  winChecks : Nat
  winWatchdogs : Nat
  winUncorr : Nat
  winFecWarn : Bool         -- a link passed FEC_WARN in a frame of the window
  winFecMax : Nat
  winFecLink : Nat
  winRecoveries : Nat
  winCorr : List Nat        -- MEM_CORR counts at the start of the window, per stack
  window : Nat              -- windows closed
  suspect : Bool            -- in suspect mode (R434)
  suspectEnding : Bool      -- DERATE 0 written, ends from the next table built
  expelled : List (Nat × Nat) -- expulsions counted in the window: device and frame (R437)
  windowStart : Nat         -- frame at which the expulsion window started
  expelFrame : Option Nat   -- clk of an expulsion honoured and draining (R438)
  promote : Nat             -- spares to promote from the next table built (R423)
  engineFault : KMap Nat    -- fenced engine: frame of the fence; its rows are drained by the planner (R430)
  deriving DecidableEq, Repr

/-- What the part has sent to the host or the board beside the links: MSI-X vectors, PCIe messages and completions, management-bus
answers, the pulses of TICK_OUT (kind 40); kind, number and bytes. -/
structure HostOut where
  kind : Nat
  num : Nat
  data : List Byte
  deriving DecidableEq, Repr

/-- Chapter 15: a generation of a built table at its sender (R320 to R322). -/
structure BuiltTable where
  id : Nat
  gen : Nat
  lengths : List Nat
  state : Nat                 -- 0 proposed, 1 CURRENT, 2 RETIRING
  refs : List (Nat × Nat)     -- packets that reference it: queue pair and sequence number
  acked : List Nat            -- peers that acknowledged it
  refused : List Nat          -- peers that refused it
  defs : List (Nat × Nat)     -- peers with a DEF unanswered: device and sends
  drops : List Nat            -- peers whose DROP_ACK is awaited
  dropping : Bool             -- TABLE_DROP has been sent
  lastSend : KMap Nat         -- peer: frame of the last DEF or DROP sent to it
  deriving DecidableEq, Repr

/-- Chapter 15: a receiver's table slot (R323): sending device, ID, generation, lengths. -/
structure StoredTable where
  dev : Nat
  id : Nat
  gen : Nat
  lengths : List Nat
  deriving DecidableEq, Repr

/-- Chapter 15: the codec's builders, its own tables and the tables it holds for others. -/
structure CodecSt where
  recent : KMap (List Byte)   -- profile: the last BUILD_BYTES bytes counted, oldest first (R319)
  counted : KMap Nat          -- profile: bytes counted
  lastBuild : KMap Nat        -- profile: frame of the last build
  lastGen : KMap Nat          -- profile: generation formed last
  tables : List BuiltTable
  peerAcked : KMap Nat        -- device·16 + ID: generation that peer acknowledged last
  store : List StoredTable    -- oldest first, at most 512
  deriving DecidableEq, Repr

/-- Chapter 11: one payload position of a group: its descriptor and its bytes. -/
structure Flit where
  desc : Nat
  data : List Byte
  deriving DecidableEq, Repr

/-- Chapter 11: a numbered group in the replay buffer (R237): GSEQ, positions, times sent, clk of its first transmission. -/
structure Group where
  gseq : Nat
  flits : List Flit
  sends : Nat
  first : Nat
  deriving DecidableEq, Repr

/-- Chapter 11: one link. -/
structure LinkSt where
  attempts : Nat
  since : Nat                 -- clk at which the training attempt or the recovery began
  recoveries : List Nat       -- frames of the recoveries of the window (R231)
  txSeq : Nat                 -- GSEQ of the next numbered group
  replay : List Group         -- unacknowledged groups, oldest first
  replayDue : List Nat        -- GSEQs waiting to be replayed
  nakSeen : Option Nat        -- ACK_GSEQ of the NAK last acted on
  rxSeq : Nat                 -- next expected GSEQ
  nak : Bool                  -- NAK is being sent
  buf : List Nat              -- the peer's buffer of VC1 to VC3 [flits]
  credits : List Nat          -- sender's credits of VC1 to VC3
  sentOut : List Nat          -- flits sent and not yet accepted
  freedSeen : List Nat        -- last FREED counters received
  occ : List Nat              -- own receive buffers' occupancy
  freed : List Nat            -- own FREED counters
  queue : KMap (List Flit)    -- VC: flits ready to be sent, oldest first
  asm : KMap (List Flit)      -- VC: flits of the chunk or message being received
  hopping : List (List Flit)  -- chunks received to be forwarded, oldest first (R241)
  peerHold : Bool             -- the peer sets VC0_HOLD
  staging : Nat               -- VC0 flits in the staging buffer
  hold : Bool                 -- VC0_HOLD is being sent
  vc3Sent : Nat               -- VC3 flits sent in this frame
  mark : Option Nat           -- clk of a tick to be marked (R239)
  raw : Nat                   -- raw and coded bytes of VC0 and VC1 in this frame (R244)
  coded : Nat
  fec : Nat                   -- symbols corrected in this frame
  tooLong : Bool              -- training reported TOO_LONG (R231)
  deriving DecidableEq, Repr

/-- Chapter 02, 11: a VC0 slot record (R41): link at the granting device, frame, the other device, slots, filled or taken. -/
structure Vc0Rec where
  link : Nat
  frame : Nat
  peer : Nat
  slots : Nat
  filled : Nat
  answered : Bool
  deriving DecidableEq, Repr

/-- What a work request serves (R254): the host or planner, the step on a PASS port, an access to an aperture, a row's reply or token
message (R269), a clasp pull's read (record, piece and the PASS step's unit, R193), a shard exchange (group·64 + shard, R441). -/
inductive Serve where
  | host
  | unit (u : Nat)
  | access (id : Nat)
  | row (r : Nat)
  | pull (rec piece u : Nat)
  | shard (k : Nat)
  deriving DecidableEq, Repr

/-- Chapter 12: a work request that has started: its entry, index in the send queue, first sequence number and count, message
number, READ or atomic answers that have landed, status if it has failed, what it serves. -/
structure Wqe where
  sqe : Nat
  idx : Nat
  posted : Nat
  psn : Nat
  count : Nat
  msn : Nat
  landed : List Nat
  bytes : Nat                 -- bytes of READ or atomic answers placed
  assigned : Nat              -- sequence numbers assigned so far
  status : Nat
  gen : Nat                   -- generation of the key slot it was sent under
  tenant : Nat                -- the tenant of the transfer (R405)
  inline : Option (List Byte)
  who : Serve
  finished : Bool
  deriving DecidableEq, Repr

/-- Chapter 12: a work request the part itself has put in a send queue: its index, clk of posting, tenant and what it serves. -/
structure Posted where
  idx : Nat
  clk : Nat
  tenant : Nat
  inline : Option (List Byte) -- the bytes of a message formed inside the part (a reply, a token message, a shard message)
  who : Serve
  deriving DecidableEq, Repr

/-- Chapter 12: a request packet sent and not yet acknowledged, the RETRY_AFTER answers it met and the clk of a re-send due. -/
structure SentPkt where
  psn : Nat
  last : Nat                  -- last sequence number it covers
  msg : Msg
  slot : Nat                  -- key slot it was encrypted under, 0 none or not yet on a link
  retryAfter : Nat
  due : Option Nat
  deriving DecidableEq, Repr

/-- Chapter 12: a message being received (R259): number, length, bytes placed, status, buffer address and room, the receive entry's
tag; a WRITE has no buffer. -/
structure RxMsg where
  msn : Nat
  len : Nat
  placed : Nat
  status : Nat
  send : Bool
  addr : Nat
  room : Nat
  wrId : Nat
  idx : Nat                   -- the receive buffer's index
  done : Bool
  deriving DecidableEq, Repr

/-- Chapter 12: the engine's state of one queue pair beside its context. -/
structure QpSt where
  bitmap : List Nat           -- sequence numbers received at or after RECV_PSN
  owed : List (Nat × Nat)     -- packets marked received that were answered RETRY_AFTER unexecuted: first number and count (R263)
  early : List (Msg × Bool)   -- SEND packets, decoded, that wait until every earlier message is known; did the block end short (R259)?
  atomics : List (Nat × Nat)  -- atomic result store: sequence number and prior value, oldest first, at most 16
  posted : List Posted
  wqes : List Wqe             -- in order of start
  sent : List SentPkt         -- in sequence order
  timer : Option Nat          -- clk at which the timer started
  retries : Nat
  rx : List RxMsg
  acked : Nat                 -- one past the highest sequence number an ACK has covered
  ackSent : Nat               -- RECV_PSN at the last ACK
  ackDue : Option Nat         -- clk of the first advance that has not been acknowledged
  dupAt : Option Nat          -- clk of the last ACK sent for a duplicate since the last advance
  deficit : Nat
  ctl : Option Nat            -- a context write of READY that waits for the boundary (R252)
  deriving DecidableEq, Repr

/-- Chapter 12: a packet in the fault buffer (R263): queue pair, packet with its data decoded, clk, whether its block ended with
LENGTH. -/
structure HeldPkt where
  qp : Nat
  msg : Msg
  clk : Nat
  short : Bool
  deriving DecidableEq, Repr

/-- Chapter 12: an admission reply or token message (R269): endpoint, bytes, the row it answers for. -/
structure Reply where
  dev : Nat
  qp : Nat
  data : List Byte
  row : Option Nat
  deriving DecidableEq, Repr

/-- Chapter 11: a message a link has delivered: the link, the message, and the buffer flits it holds. -/
structure RxEntry where
  link : Nat
  msg : Msg
  flits : Nat
  deriving DecidableEq, Repr

/-- Chapters 11, 12 and 15: links, queue pairs, completion queues, wickets and the codec. -/
structure NetSt where
  links : KMap LinkSt
  asked : List Vc0Rec         -- requests received (R41)
  given : List Vc0Rec         -- slots granted to senders
  mine : List Vc0Rec          -- slots granted to this device
  wanted : List Vc0Rec        -- requests sent
  qps : KMap QpSt
  cqPi : KMap Nat             -- completion queue: entries written
  cqCi : KMap Nat             -- completion queue: entries known to have been taken (R255: how that is told is free)
  passEnds : KMap Nat         -- PASS port: the status its last step ended with (R254)
  cqWait : List (Nat × Nat)   -- completions waiting: queue and entry, oldest first
  faults : List HeldPkt       -- the fault buffer, at most 256
  wicket : KMap (Nat × Nat)   -- wicket: C and P in sixteenths of a unit
  wicketClk : Nat             -- clk of the last fill step
  turn : KMap Nat             -- level: queue pair served last (R270)
  spray : KMap Nat            -- queue pair: link its last chunk used (R240)
  replies : List Reply        -- waiting for their endpoint
  pulls : List (Nat × Nat × Nat × Nat) -- clasp reads that have ended and are not yet taken: record, piece, status, bytes (R193)
  rxq : List RxEntry          -- messages the links have delivered and no command has handled, oldest first
  segCtr : KMap Nat           -- key slot: COUNTER of the next segment (R245)
  keys : KMap (List Byte)     -- key slot: the tenant key it holds (R403)
  redHeld : List (Nat × Nat)  -- packets a wicket holds: queue pair and sequence number (R271)
  fixed : KMap Nat            -- receiver: the link its VC2, VC3 and datagram traffic uses (R240)
  undelivered : List Nat      -- queue pairs whose VC0 transfer has been reported undelivered (R238), oldest first
  vc0Lost : KMap Nat          -- link: VC0 flits of this frame lost, whose slots are returned at its end (R238, R42)
  vc0Returned : Nat           -- VC0 slots returned unfilled (R42)
  vc0Sums : KMap (Nat × Nat × Nat) -- link: VC0 slots granted to this device, filled and returned, of frames that have ended (L2)
  codec : CodecSt
  deriving DecidableEq, Repr

/-- Chapter 13: who made an access: a core's asynchronous part, a DMA channel, a TSU lane, a FABRIC port's entry, the host. -/
inductive Owner13 where
  | core (c : Nat)
  | dma (ch : Nat)
  | tsu (lane : Nat)
  | port (p entry : Nat)
  | host (tag : Nat)
  | own
  deriving DecidableEq, Repr

/-- Chapter 13: an access in progress to a tray physical address: 0 read, 1 write, 2 atomic; its operands and how it travels. -/
structure Access where
  id : Nat
  who : Owner13
  kind : Nat
  addr : Nat
  len : Nat
  data : List Byte
  op : Nat
  a : Nat
  b : Nat
  tenant : Nat
  tenValid : Bool
  tag : Option Nat            -- tray request tag
  aperture : Option Nat
  line : Option Nat           -- control-window line: home·2^22 + LINE
  issued : Nat
  noFill : Bool               -- an INVAL covers it (R285)
  deriving DecidableEq, Repr

/-- Chapter 13: a line in the coherent cache: 1 S, 2 E, 3 M; its bytes; the clk until which it is held (R293). -/
structure CohLine where
  state : Nat
  data : List Byte
  hold : Nat
  deriving DecidableEq, Repr

/-- Chapter 13: an outstanding request for a line: for M or not, data received, acknowledgements awaited and counted. -/
structure CohReq where
  excl : Bool
  data : Option (List Byte)
  gotE : Bool
  acks : Nat
  got : Nat
  dropped : Bool              -- an INV arrived while it was outstanding
  deriving DecidableEq, Repr

/-- Chapter 13: a directory entry (R291): 1 SHARED, 2 EXCLUSIVE, 3 BUSY for a forward, 4 BUSY for an eviction. -/
structure DirEnt where
  state : Nat
  sharers : List Nat
  owner : Nat
  req : Nat
  waitAcks : Nat
  since : Nat
  queue : List Msg
  deriving DecidableEq, Repr

/-- Chapter 13: the tray fabric agent. -/
structure FabSt where
  next : Nat                        -- number of the next access
  live : List Access                -- accesses without an answer, oldest first
  results : KMap (Nat × List Byte)  -- access: status and bytes
  tags : KMap Nat                   -- tag in use: access
  tagGen : KMap Nat                 -- tag: generation
  trc : KMap (List (Nat × List Byte)) -- tray read cache, set: lines and bytes, most recently used first
  coh : KMap CohLine                -- coherent cache
  cohAge : List Nat                 -- its lines, least recently used first
  wb : KMap (List Byte)             -- write-back buffer: line and bytes
  reqs : KMap CohReq
  fwds : KMap (List Msg)            -- line: forwards and recalls that wait for the hold
  dir : KMap DirEnt
  dirAge : List Nat                 -- entries, least recently used first
  dirWait : List Msg                -- requests that wait for an entry
  ready : List Nat                  -- READY received: device·65,536 + epoch, the last of each device
  members : Nat                     -- COH_MEMBERS as adopted at the last COH_RESET
  ports : KMap (List (Nat × Nat))   -- FABRIC port: entries issued: index and access
  portDone : KMap (List (Nat × Nat)) -- FABRIC port: entries ended: index and ESTATUS
  portErr : KMap Nat                -- FABRIC port: its step met a read error: the address
  portDesc : KMap Nat       -- port: the descriptor of its step (R286)
  apBuf : KMap (List Byte)          -- aperture read: the bytes that have arrived
  inbox : List Msg                  -- coherence messages the device sends to itself, or takes up again, oldest first
  deriving DecidableEq, Repr

/-- Chapter 14: a read a DMA channel has issued: the access, its tray address, the destination piece it feeds and that piece's bytes
that an earlier access has read. -/
structure DmaRead where
  acc : Nat
  addr : Nat
  row : Nat
  byte : Nat
  len : Nat
  have_ : List Byte
  tries : Nat                 -- re-issues so far (R311)
  deriving DecidableEq, Repr

/-- Chapter 14: a write a DMA channel has issued: the access, its tray address, its place in the descriptor and its bytes. -/
structure DmaWrite where
  acc : Nat
  addr : Nat
  row : Nat
  byte : Nat
  data : List Byte
  tries : Nat                 -- re-issues so far (R311)
  deriving DecidableEq, Repr

/-- Chapter 14: an error response a DMA channel has met: address, status, place, and for a write its bytes. -/
structure DmaFail where
  addr : Nat
  status : Nat
  row : Nat
  byte : Nat
  len : Nat
  data : Option (List Byte)
  tries : Nat                 -- re-issues of the access before this error (R311)
  deriving DecidableEq, Repr

/-- Chapter 14: a DMA channel and its chain in progress. -/
structure DmaCh where
  chain : Nat                 -- device offset of the chain
  idx : Nat                   -- current descriptor
  desc : Nat                  -- its 512 bits
  row : Nat                   -- position
  byte : Nat
  started : Bool              -- its trigger has been met
  met : Bool                  -- the trigger of the saved state's descriptor had been met (R314)
  began : Nat                 -- clk at which the descriptor became current
  bytes : Nat                 -- bytes written by this step
  read : Option DmaRead       -- the read outstanding
  writes : List DmaWrite      -- writes outstanding
  posted : List (Nat × Nat)   -- writes of descriptors that completed POSTED: access and tray address
  fail : Option DmaFail       -- an error response not yet handled, or the one the channel halts on
  halting : Bool              -- R312: waiting for what was issued
  pausing : Bool
  doneInFrame : Nat           -- descriptors completed in the current frame (R307)
  deriving DecidableEq, Repr

/-- Chapters 07 and 09: an admission or CONTINUE that waits (R18, R152): client queue pair, message, whether it has been answered
DEFERRED, whether it has been taken up in this frame; a CONTINUE names its request and tokens in the message. -/
structure Waiting where
  qp : Nat
  control : Bool
  msg : List Byte
  told : Bool
  tried : Bool
  deriving DecidableEq, Repr

/-- Chapter 09: what the clasp unit and the planner hold of a clasp record beside the record: frame it was opened, whether it was
reported stuck; the pass area (at a source) or the landing area (at a destination) and its bytes; the region records of its keys, LIST_KEY
first; the request; at a destination the source's list key and address, tokens, beads, first frame and frames planned, pieces landed and the
frame of the last; at a source the FLAGS as the destination last read them; the peer's row, 0x7FFF while it is not known; the next piece
whose read has not been posted; whether a QUERY has been counted. -/
structure ClaspAux where
  opened : Nat
  stuck : Bool
  area : Nat
  size : Nat
  keys : List Nat
  rid : Nat
  listKey : Nat
  listAddr : Nat
  tokens : Nat
  beads : Nat
  firstFrame : Nat
  pullFrames : Nat
  landed : List Nat
  lastLand : Nat
  flagsAt : Nat
  peerRow : Nat
  next : Nat
  queried : Bool
  deriving DecidableEq, Repr

/-- Chapters 07 and 09: what the planner, the clasp unit and the budgets hold beside the rows, tenant records and clasp records. -/
structure RowsSt where
  bal : KMap Int              -- tenant: balance, signed (R155)
  resv : KMap Nat             -- tenant: units in reservations
  prefill : KMap Nat          -- row: the part of RESERVED that is prefill or continuation (R154)
  prompt : KMap (List Nat)    -- row: the prompt tokens the device holds, those of the last positions before PROMPT_LEN
  appended : KMap (List Nat)  -- row: positions whose last-layer append has completed (R140)
  missed : List Nat           -- rows whose deadline miss has been counted (R151)
  suspending : List Nat       -- rows a SUSPEND awaits: it takes effect in a build in which no step of the row is in flight (R147)
  doomed : KMap Nat           -- row: FINAL_STATUS it fails with once no step of it is in flight
  waiting : List Waiting      -- in arrival order
  admits : Nat                -- records taken up in this frame (R149)
  due : List (Nat × Nat)      -- row and next state (+ 16 × final status): changes of the build in progress (R147)
  dueSealed : List (Nat × Nat) -- those of the build whose table is sealed: they appear at the tick that starts its frame
  tokens : KMap (List Nat)    -- row: the tokens of its positions from 0 on, where the device has had them all (R20)
  shorts : List (Nat × Nat)   -- row and stack: steps deferred in this build for want of beads (R135)
  waits : List Nat            -- rows whose tenant could not cover a step's reservation in this frame (R155)
  served : List Nat           -- rows whose next step this build has taken up (R150)
  verified : List Nat         -- rows of which a verification awaits the planner's read (R141)
  cows : List (Nat × Nat × Nat) -- copies-on-write whose COPY is not planned yet: row, shared bead, fresh bead (R139)
  faulted : List Nat          -- rows a step of which ended with FAULT (R147)
  tsuAt : KMap Nat            -- row: clk of the TSU's last write of it (R146)
  returns : List (Nat × Nat × List Nat) -- rows whose offer was refused or abandoned: row, state before the offer, region records of its keys (R197)
  reloads : List (Nat × Nat × Nat) -- R218: replica blocks to be reloaded: owner kind, owner, device offset of the 64 KiB block
  slotZero : KMap Nat         -- DRAINING model slot: frame in which its PINS reached 0 (R159)
  lastVer : KMap Nat          -- adapter slot: version assigned last (R162)
  ready : List Nat            -- tenants with ready work at the last tick (R158)
  contSeen : Nat              -- containment records the planner has acted on (R218)
  rebuilds : List (Nat × Nat) -- beads to be rebuilt by prefill: row and ordinal (R219)
  closing : Nat               -- the role a switch in progress leads to, 0 none (R382)
  settled : List Nat          -- DONE or FAILED rows that have passed the first two items of R25
  completed : List (Nat × Nat) -- completion records written (R25): request and FINAL_STATUS
  refusedBy : List (Nat × Nat × Nat) -- refusals received: request, device, frame (R188)
  clasp : KMap ClaspAux       -- open clasp record: the rest of it
  queryEnded : List Nat       -- FREE records whose pull a QUERY abandoned (R195)
  deriving DecidableEq, Repr

/-- Chapter 21: a shard as its owner sees it (R440 to R442): row, group, index, the member it is placed on, the bead that holds it here
while the owner has it, its place: 0 not coded, 1 to be offered, 2 offered, 3 being written, 4 sealed, 5 held, 6 freed, 7 lost; the read
key and offset at the member; members that refused it. -/
structure Shard where
  row : Nat
  group : Nat
  index : Nat
  member : Nat
  bead : Nat
  place : Nat
  key : Nat
  offset : Nat
  refused : List Nat
  deriving DecidableEq, Repr

/-- Chapter 21: a shard held for another owner (R441), in the shard directory. -/
structure HeldShard where
  rid : Nat
  owner : Nat
  epoch : Nat
  group : Nat
  index : Nat
  bead : Nat
  key : Nat                   -- write key, then read key
  isSealed : Bool
  deriving DecidableEq, Repr

/-- Chapter 21: a strand coded into groups: data beads per group, its bead class, the group table's device offset once it is whole, and
the member list. -/
structure Coded where
  k : Nat
  cls : Nat
  table : Option Nat
  members : List Nat
  deriving DecidableEq, Repr

/-- Chapter 21: erasure-coded groups. -/
structure ShardSt where
  coded : KMap Coded          -- row
  shards : List Shard
  held : List HeldShard
  freeing : List (Nat × Nat × Nat × Nat) -- SHARD_FREE sent and not answered: request, member, group, index
  deriving DecidableEq, Repr

/-- Chapter 18: the server's last answer (R371): status, refusal reason, EFFECTIVE_FRAME, data. -/
structure DictAns where
  status : Nat
  reason : Nat
  frame : Nat
  data : List Byte
  deriving DecidableEq, Repr

/-- Chapter 18: a staging of a staged entry by a reach (R477). -/
structure Staging where
  reach : Reach
  entry : Nat
  data : List Byte
  deriving DecidableEq, Repr

/-- Chapter 18: a write accepted or held: its reach, entry, byte offset, bytes, and the request's TAG. -/
structure DictWr where
  reach : Reach
  entry : Nat
  off : Nat
  data : List Byte
  tag : Nat
  deriving DecidableEq, Repr

/-- Chapter 18: a BAR0 mailbox (R372, R373): 0 IDLE, 1 BUSY, 2 DONE; request header, response header, data. -/
structure Mailbox where
  state : Nat
  req : Nat
  resp : Nat
  data : List Byte
  deriving DecidableEq, Repr

/-- Chapter 18: a fabric response kept (R375): source device, TAG, response message. -/
structure KeptResp where
  dev : Nat
  tag : Nat
  data : List Byte
  deriving DecidableEq, Repr

/-- Chapter 18: the dictionary server. -/
structure DictSt where
  last : DictAns
  staging : List Staging
  rwf : List DictWr             -- RWF writes accepted since the last seal, in order (R368)
  rwfSealed : List DictWr       -- those that take effect at the next boundary
  held : List DictWr            -- writes held during a switch, at most 256 (R384)
  mailboxes : KMap Mailbox
  kept : List KeptResp          -- oldest first, at most 64 a source
  answers : List (Nat × List Byte) -- DICT_RESPONSEs received: device and message
  images : KMap (List Byte)     -- overlay slot: its image (R380)
  switchFrom : Nat              -- frame in which OVERLAY_REQUEST was accepted
  switchStuck : Bool            -- SWITCH_STUCK has been raised for this switch
  switchSlot : Nat              -- the slot that is PENDING
  runSlot : Nat                 -- RUN_REQUEST's slot while RUN_STATUS reads WAITING
  dynAddr : Option Nat          -- I3C dynamic address
  eid : Nat                     -- MCTP endpoint ID, 0 unassigned
  deriving DecidableEq, Repr

/-- Chapter 19: a report being signed, or one that waits (R394, R395): nonce, asked for by SPDM, and the header and body once the
snapshot has been taken. -/
structure Attest where
  nonce : List Byte
  spdm : Bool
  msg : Option (List Byte)
  deriving DecidableEq, Repr

/-- Chapter 19: the boot ROM, the first stage, the security block and the SPDM responder. -/
structure SecSt where
  boot : Nat                    -- 0 before PWR_GOOD, 1 straps sampled, 2 the ROM waits over PCIe, 3 the first stage of the flash runs,
                                -- 4, 5 a first stage of PCIe waits for planner and base-die firmware, 6 all loaded, 7 no image accepted,
                                -- 8 loaded over PCIe, the cores' self-test awaited
  firstSvn : Nat                -- SVN of the running first stage (R387)
  bootLoad : List Host.Cell     -- BOOT_LOAD (R472)
  derived : Bool                -- the identity keys have been derived and not zeroised
  seedLocked : Bool             -- the seed's read path is locked (R392)
  unlocking : Option Nat        -- scope of a debug token accepted, until every partition is erased (R390)
  signing : Option Attest
  attWaiting : Option Attest
  spdm : Nat                    -- 0 no version, 1 version, 2 capabilities, 3 algorithms negotiated
  large : Option (Nat × List Byte) -- a large response kept for CHUNK_GET: bytes sent, response
  deriving DecidableEq, Repr

/-- Chapter 20: the audits (R412, R413): the request that waits and the one that runs (laws, snapshot frame), the results frozen at the
snapshot (law index to status and first item that disagrees), terms, and walks of L3 still to end. -/
structure AuditSt where
  waiting : Option (Nat × Nat)
  running : Option (Nat × Nat)
  results : KMap (Bool × Nat)
  terms : KMap (List Nat)
  ringCount : Nat               -- records of OWNER_SNAPSHOT
  deriving DecidableEq, Repr

/-- Chapter 22: a BAR2 access that waits for memory: its TLP tag, whether it is a read, and its parts' accesses. -/
structure HostRead where
  tag : Nat
  read : Bool
  ids : List Nat
  deriving DecidableEq, Repr

/-- Chapter 22: power, the host link and its configuration space. -/
structure HostSt where
  power : Nat                   -- 0 on, 1 off for want of P48V, 2 DORMANT, 3 off after a thermal trip
  pwrGood : Bool
  thermtrip : Bool              -- THERMTRIP_N is driven low
  perst : Bool                  -- PERST_N is low
  bar0 : Nat                    -- BAR assignments
  bar2 : Nat
  command : Nat                 -- [1] memory space, [2] bus master enable
  msixCtl : Nat                 -- [15] enable, [14] function mask
  pm : Nat                      -- 0 D0, 3 D3hot
  msixTable : KMap Nat          -- vector: [63:0] address, [95:64] data, [96] mask
  msixPending : List Nat        -- vectors whose pending bit is set
  waits : List HostRead         -- BAR2 accesses without their answers, oldest first
  deriving DecidableEq, Repr


/-- The state of the part. -/
structure State where
  clk : Nat                -- core clocks since power was applied (R10); an idle step is one clock
  freeCtr : Nat            -- the model's own: how many free values have been taken
  od : KMap Nat            -- the object dictionary: element key to value, unlisted at its default (R364)
  rings : KMap Nat         -- records written to each ring entry since power was applied
  mem : List Host.Cell     -- device memory by device offset (R204, R205), unlisted bytes 0
  acc : KMap Nat           -- accumulators: core·65,536 + word to FP32 or INT32 bits (R72)
  txq : List Msg           -- messages waiting for the links, oldest first
  out : List HostOut       -- what the host side has been sent, oldest first
  frm : FrameSt
  en : EnergySt
  cores : KMap CoreSt
  mc : MemSt
  pool : PoolSt
  lk : LocketSt
  ft : FaultSt
  net : NetSt
  fab : FabSt
  dma : KMap DmaCh
  rows : RowsSt
  sh : ShardSt
  dct : DictSt
  sec : SecSt
  aud : AuditSt
  host : HostSt
  pending : List Instr     -- commands waiting, first in, first out
  deriving DecidableEq, Repr

/-- A frame sequencer that has run nothing. -/
def FrameSt.reset : FrameSt :=
  { tickClk := 0, lockCount := 0, adopted := false, slipPhase := 0, slipCount := 0, missed := 0, numberNext := false,
    curHdr := 0, curSteps := [], nextHdr := 0, nextSteps := [],
    mode := .unsealed, slotState := [], events := [], flights := [], draining := false, applying := false,
    applyFrom := 0, issueClk := 0, issueCount := 0, fencedAtSeal := [], fencedNext := [], frameClocks := [], lateClocks := [], markTick := none, hkClocks := 0,
    arrivals := [], earlyArrivals := [], barrierSent := false, barrierLast := 0, barrierLag := 0, barrierMissing := 0,
    stopped := false }

/-- A ledger with no lot and every scale 1 (R351, R352). -/
def EnergySt.reset : EnergySt :=
  { lots := [], frames := [], sealed := none, leaseFrame := 0, lapsed := false, samples := [[], [], [], [], [], []],
    scaleNum := [1, 1, 1, 1, 1, 1], scaleDen := [1, 1, 1, 1, 1, 1], throttled := false, tempMax := -27315, tempEnded := -27315, tempClosed := -27315,
    idleSince := 0, savedEnable := 0, exitSealed := false }

/-- A core that runs nothing. -/
def CoreSt.reset : CoreSt :=
  { running := false, ended := false, status := 0, opIndex := 0xFFFF, words := [], pc := 0, loops := [],
    ad := List.replicate 16 0, pr := List.replicate 16 0, seed := 0, executed := 0, asyncs := [], reduce := none, nanOut := false,
    infOut := false, sat := false, intSat := false, kvClip := false, waitExpired := false, waitFrom := none, cached := false,
    dropped := 0, failAddr := none, buffer := [] }

/-- Memory controllers with nothing counted. -/
def MemSt.reset : MemSt :=
  { lineErr := [], acts := [], tracker := [], remapQueue := [], retired := [], contained := [], ueLines := [], fencedClk := [], samples := [],
    sampleTick := 0 }

/-- A pool with no bead listed. -/
def PoolSt.reset : PoolSt :=
  { ready := [], clearing := [], clearPos := [], pend := [], walks := [], headers := [], segs := [], freed := [],
    growing := [], answer := 0, answerBeads := [], retained := [], moves := [] }

/-- No fault met, no test run. -/
def FaultSt.reset : FaultSt :=
  { aer := [], watchdogs := [], bistCore := 200, bistAnnounced := 200, patterned := [], bistSlices := 0, bistTotal := 0, bistNextIdx := 0,
    winBarriers := 0, winTimeouts := 0, winMissing := [], winBistPass := 0, winBistFail := 0, winChecks := 0, winWatchdogs := 0, winUncorr := 0,
    winFecWarn := false, winFecMax := 0, winFecLink := 0, winRecoveries := 0, winCorr := [], window := 0, suspect := false,
    suspectEnding := false, expelled := [], windowStart := 0, expelFrame := none, promote := 0, engineFault := [] }

/-- Links and queue pairs with nothing sent or received. -/
def NetSt.reset : NetSt :=
  { links := [], asked := [], given := [], mine := [], wanted := [], qps := [], cqPi := [], cqCi := [], passEnds := [], cqWait := [], faults := [], wicket := [],
    wicketClk := 0, turn := [], spray := [], replies := [], pulls := [], rxq := [], segCtr := [], keys := [],
    redHeld := [], fixed := [], undelivered := [], vc0Lost := [], vc0Returned := 0, vc0Sums := [], codec := ⟨[], [], [], [], [], [], []⟩ }

/-- A link that is DISABLED. -/
def LinkSt.reset : LinkSt :=
  { attempts := 0, since := 0, recoveries := [], txSeq := 0, replay := [], replayDue := [], nakSeen := none, rxSeq := 0, nak := false,
    buf := [512, 128, 32], credits := [0, 0, 0], sentOut := [0, 0, 0], freedSeen := [0, 0, 0], occ := [0, 0, 0],
    freed := [0, 0, 0], queue := [], asm := [], hopping := [], peerHold := false, staging := 0, hold := false, vc3Sent := 0,
    mark := none, raw := 0, coded := 0, fec := 0, tooLong := false }

/-- A queue pair in RESET. -/
def QpSt.reset : QpSt :=
  { bitmap := [], owed := [], early := [], atomics := [], posted := [], wqes := [], sent := [], timer := none, retries := 0, rx := [], acked := 0, ackSent := 0,
    ackDue := none, dupAt := none, deficit := 0, ctl := none }

/-- A tray fabric agent with nothing cached or outstanding. -/
def FabSt.reset : FabSt :=
  { next := 0, live := [], results := [], tags := [], tagGen := [], trc := [], coh := [], cohAge := [], wb := [], reqs := [], fwds := [],
    dir := [], dirAge := [], dirWait := [], ready := [], members := 0, ports := [], portDone := [], portErr := [], portDesc := [], apBuf := [], inbox := [] }

/-- No request held, no budget. -/
def RowsSt.reset : RowsSt :=
  { bal := [], resv := [], prefill := [], prompt := [], appended := [], missed := [], suspending := [], doomed := [], waiting := [], admits := 0, due := [],
    dueSealed := [], tokens := [], shorts := [], waits := [], served := [], verified := [], cows := [], faulted := [], tsuAt := [], returns := [], reloads := [],
    slotZero := [], lastVer := [], ready := [], contSeen := 0, rebuilds := [], closing := 0, settled := [], completed := [], refusedBy := [], clasp := [], queryEnded := [] }

/-- A server that has answered nothing. -/
def DictSt.reset : DictSt :=
  { last := ⟨0, 0, 0, []⟩, staging := [], rwf := [], rwfSealed := [], held := [], mailboxes := [], kept := [], answers := [],
    images := [], switchFrom := 0, switchStuck := false, switchSlot := 0, runSlot := 0, dynAddr := none, eid := 0 }

/-- Nothing booted, no key derived. -/
def SecSt.reset : SecSt :=
  { boot := 0, firstSvn := 0, bootLoad := [], derived := false, seedLocked := false, unlocking := none, signing := none,
    attWaiting := none, spdm := 0, large := none }

/-- No audit asked for. -/
def AuditSt.reset : AuditSt := { waiting := none, running := none, results := [], terms := [], ringCount := 0 }

/-- Power applied; the host link is held in reset. -/
def HostSt.reset : HostSt :=
  { power := 0, pwrGood := false, thermtrip := false, perst := true, bar0 := 0, bar2 := 0, command := 0, msixCtl := 0, pm := 0,
    msixTable := [], msixPending := [], waits := [] }

/-- The part right after power is applied, before the start-up sequence of R470: DEVICE_STATE reads BOOT. -/
def State.reset : State :=
  { clk := 0, freeCtr := 0, od := [], rings := [], mem := [], acc := [], txq := [], out := [], frm := FrameSt.reset,
    en := EnergySt.reset, cores := [], mc := MemSt.reset, pool := PoolSt.reset, lk := ⟨[], []⟩, ft := FaultSt.reset,
    net := NetSt.reset, fab := FabSt.reset, dma := [], rows := RowsSt.reset, sh := ⟨[], [], [], []⟩,
    dct := DictSt.reset, sec := SecSt.reset, aud := AuditSt.reset, host := HostSt.reset, pending := [] }

end Sys2Proof.Machine
end

