-- ==== Sys2Proof/Machine/Ops.lean ====
section
/-! DEFINITION. The named operations over the dictionary, rings, memory bytes, alerts, telemetry, messages and steps in flight.
Choices of the model here, by the assumption log: log 2, 4, 5, 10, 12, 15, 29, 71 (DESIGN CHOICE); log 26 (PRESUMED); log 6 (DEDUCED). -/

namespace Sys2Proof.Machine

/-- What a meaning answers. -/
abbrev Res := Host.Outcome State Fault Refusal

/-- A meaning's next state `t` from `s`: the queue of waiting commands is the step's alone, so it stays as it was. -/
def answer (s t : State) : Res := .next { t with pending := s.pending }

/-! The dictionary store. -/

/-- The key of element `i` of entry `e`. -/
def odKey (e i : Nat) : Nat := e * 2 ^ 24 + i

/-- The default of element `i` of entry `e` (R364), where the dictionary tables give it; the log names the others. -/
def odDefault (e i : Nat) : Nat :=
  if e = OD.UNIT_CLOCK_WEIGHT then unitClockWeightDefault i
  else if e = OD.KEY_SLOTS then (if i = 0 then mkRec [(KeySlot.STATE, 1)] else 0)
  else if e = OD.LIFECYCLE then 1
  else if e = OD.TENANTS then
    mkRec [(Tenant.SHARE, 1), (Tenant.WICKET, i), (Tenant.DEDUPE_WINDOW, 1200000), (Tenant.HOLD_LIMIT, 12000000)]
  else if e = OD.ROW_STATE_COUNTS then (if i = 0 then 32768 else 0)
  else if e = OD.FUSED_COEFFICIENTS ∨ e = OD.COEFFICIENTS then fusedCoefficient i
  else match odFind e with
    | some r => r.dflt
    | none => 0

/-- The value of element `i` of entry `e`. -/
def odGet (s : State) (e i : Nat) : Nat := kget s.od (odKey e i) (odDefault e i)

/-- The value of a scalar entry. -/
abbrev od (s : State) (e : Nat) : Nat := odGet s e 0

/-- Element `i` of entry `e` set to `v`. -/
def odPut (s : State) (e i v : Nat) : State :=
  { s with od := kputD s.od (odKey e i) v (odDefault e i) }

/-- A scalar entry set to `v`. -/
abbrev odSet (s : State) (e v : Nat) : State := odPut s e 0 v

/-- The bits of one element of an entry. -/
def odWidth (e : Nat) : Nat :=
  match odFind e with
  | some r => 8 * r.esz
  | none => 64

/-- A counter advanced by `n`, wrapping at its entry's width. -/
def odAdd (s : State) (e i n : Nat) : State := odPut s e i ((odGet s e i + n) % 2 ^ odWidth e)

/-- A scalar counter advanced by one. -/
abbrev odInc (s : State) (e : Nat) : State := odAdd s e 0 1

/-- Several elements from `i` on. -/
def odPuts (s : State) (e i : Nat) (vs : List Nat) : State :=
  (vs.zipIdx i).foldl (fun t p => odPut t e p.2 p.1) s

/-- Elements from `i` on set together, whatever was listed there. -/
def odBlock (s : State) (e i : Nat) (vs : List Nat) : State :=
  let new := (vs.zipIdx i).filterMap (fun p => if p.1 = odDefault e p.2 then none else some (odKey e p.2, p.1))
  { s with od := s.od.filter (fun p => decide (p.1 < odKey e i)) ++ new ++ s.od.filter (fun p => decide (odKey e (i + vs.length) ≤ p.1)) }

/-- The bytes of a byte-array entry set from its first on. -/
abbrev odSetBytes (s : State) (e : Nat) (bs : List Byte) : State := odBlock s e 0 (bs.map BitVec.toNat)

/-- Every element of an entry at its default again. -/
def odClear (s : State) (e : Nat) : State := { s with od := kerase s.od (odKey e 0) (2 ^ 24) }

/-- A byte-array entry (one byte an element) as bytes. -/
def odBytes (s : State) (e n : Nat) : List Byte := (List.range n).map (fun i => BitVec.ofNat 8 (odGet s e i))

/-- A record appended to a ring entry, the oldest overwritten. -/
def ringPush (s : State) (e rec : Nat) : State :=
  let n := kget s.rings e 0
  let depth := match odFind e with | some r => r.cnt | none => 1
  let t := odPut s e (n % depth) rec
  { t with rings := kputD t.rings e (n + 1) 0 }

/-- Field `f` of element `i` of an entry of records. -/
abbrev recF (s : State) (e i : Nat) (f : Fld) : Nat := getF (odGet s e i) f

/-- Fields of element `i` of an entry of records set. -/
def recSet (s : State) (e i : Nat) (l : List (Fld × Nat)) : State := odPut s e i (setFs (odGet s e i) l)

/-! The state of the part, in short names. -/

/-- The current frame (R26). -/
abbrev frameNo (s : State) : Nat := od s OD.FRAME_NUMBER
/-- The frame clock: clk since the tick (R26). -/
abbrev frameClk (s : State) : Nat := s.clk - s.frm.tickClk
/-- DEVICE_STATE is RUN. -/
abbrev inRun (s : State) : Bool := od s OD.DEVICE_STATE == 2
/-- DEVICE_STATE is CONFIG. -/
abbrev inConfig (s : State) : Bool := od s OD.DEVICE_STATE == 1
/-- The role in force: 0 none, 1 PROMPT, 2 GENERATE, 3 CACHE, 4 MIXED, 5 TUNE. -/
abbrev role (s : State) : Nat := od s OD.ROLE
/-- Own system device number. -/
abbrev ownDevice (s : State) : Nat := od s OD.DEVICE_NUMBER
/-- Own tray slot. -/
abbrev ownSlot (s : State) : Nat := od s OD.TRAY_SLOT
/-- One microsecond in clk (R10: 1.25 GHz). -/
abbrev usClk : Nat := 1250

/-- A free value: the state's counter advances, so the next one is fresh. -/
def takeFree (s : State) : Nat × State := (Config.free s.freeCtr, { s with freeCtr := s.freeCtr + 1 })

/-- `n` free bytes. -/
def takeBytes (s : State) (n : Nat) : List Byte × State :=
  ((List.range n).map (Config.freeByte s.freeCtr), { s with freeCtr := s.freeCtr + 1 })

/-! Bytes of memory, by device offset, beneath every map and check. -/

/-- What an address that memory does not list reads as. -/
abbrev memDefault : Byte := 0

/-- One byte of memory. -/
def memByte (s : State) (a : Nat) : Byte := kget s.mem a memDefault

/-- One byte stored; a byte equal to what an unlisted address reads as is not listed. -/
def cellsSet (m : List Host.Cell) (a : Nat) (b : Byte) : List Host.Cell := kputD m a b memDefault

/-- One byte stored. -/
def memSet (s : State) (a : Nat) (b : Byte) : State := { s with mem := cellsSet s.mem a b }

/-- `n` bytes from `a`. -/
def memBytes (s : State) (a n : Nat) : List Byte := (span a n).map (memByte s)

/-- Bytes stored from `a` on. -/
def memWrite (s : State) (a : Nat) (bs : List Byte) : State :=
  { s with mem := (bs.zipIdx a).foldl (fun m p => cellsSet m p.2 p.1) s.mem }

/-- The little-endian number of `n` bytes at `a` (R7). -/
def memNat (s : State) (a n : Nat) : Nat := leNat (memBytes s a n)

/-- The `n` little-endian bytes of `v` stored at `a` (R7). -/
def memPut (s : State) (a n v : Nat) : State := memWrite s a (leBytes n v)

/-- Whole 64-byte lines stored from `a` on, which is aligned: each is repaired (R209). -/
def linesWrite (s : State) (a : Nat) (bs : List Byte) : State :=
  let left := s.mc.lineErr.filter (fun p => decide (p.1 < a / 64) || decide ((a + bs.length) / 64 ≤ p.1))
  { memWrite s a bs with mc := { s.mc with lineErr := left } }

/-- `n` bytes from `a` zeroed. -/
def memZero (s : State) (a n : Nat) : State := { s with mem := kerase s.mem a n }

/-- The memory's canonical form: addresses strictly rising, no entry equal to what an unlisted address reads as. -/
def Memory.wf (m : List Host.Cell) : Bool := kwf m && m.all (fun c => c.2 != memDefault)

/-- R211: an access activates the bank row of a line of HBM. -/
def activate (s : State) (a : Nat) : State :=
  let l := a % 2 ^ 37
  let k := a / 2 ^ 37 * 512 + getF l StackAddr.PAIR * 64 + getF l StackAddr.BANK
  { s with mc := { s.mc with acts := kput s.mc.acts k (kget s.mc.acts k 0 + 1) } }

/-! The map of device offsets (R204, R205). -/

/-- The device offset of stack-local address `a` of stack `k` (R204). -/
def stackOff (k a : Nat) : Nat := k * 2 ^ 37 + a
/-- Window memory of core c begins here (R205). -/
def windowBase (c : Nat) : Nat := 0x10000000000 + c * 0x200000
/-- Direct commons. -/
abbrev commonsBase : Nat := 0x18000000000
/-- Setting SRAM of stack k (R98). -/
def sramBase (k : Nat) : Nat := 0x1C000000000 + k * 0x800000
/-- The broadcast alias of the setting SRAMs (R98). -/
abbrev sramBcast : Nat := 0x1C004000000
/-- The dictionary shadow (R376). -/
abbrev shadowBase : Nat := 0x30000000000

/-- R220: the commons frame that holds a granule of HBM. -/
def tierFrame (s : State) (g : Nat) : Option Nat :=
  (s.od.find? (fun p => p.2 == 2 ^ 31 + g && decide (odKey OD.GRANULE_MAP 0 ≤ p.1) && decide (p.1 < odKey OD.GRANULE_MAP (od s OD.TIER_FRAMES)))).map
    (fun p => p.1 - odKey OD.GRANULE_MAP 0)

/-- The home of a device offset: an HBM byte whose granule is in the tier lies in its commons frame (R220); the broadcast alias
reads stack 0's setting SRAM (R98). -/
def homeOf (s : State) (a : Nat) : Nat :=
  if a < 2 ^ 40 then
    match tierFrame s (a / 65536) with
    | some f => commonsBase + f * 65536 + a % 65536
    | none => a
  else if sramBcast ≤ a ∧ a < sramBcast + 0x800000 then a - sramBcast + sramBase 0
  else a

/-! Alerts, interrupts, telemetry. -/

/-- An MSI-X message sent: the vector's address and data as its table entry holds them. -/
def msixSend (s : State) (v : Nat) : State :=
  { s with out := s.out ++ [⟨0, v, leBytes 12 (kget s.host.msixTable v (2 ^ 96) % 2 ^ 96)⟩] }

/-- An MSI-X vector signalled (R453); 0xFFFF names none. A masked vector's pending bit is set, as the base specification has it; with
MSI-X or bus mastering disabled, or in FATAL (R445), nothing is sent. -/
def msix (s : State) (v : Nat) : State :=
  if 2048 ≤ v ∨ od s OD.DEVICE_STATE = 3 ∨ bitOf s.host.msixCtl 15 = false ∨ bitOf s.host.command 2 = false then s
  else if bitOf s.host.msixCtl 14 ∨ bitOf (kget s.host.msixTable v (2 ^ 96)) 96 then
    if s.host.msixPending.contains v then s
    else { s with host := { s.host with msixPending := s.host.msixPending ++ [v] } }
  else msixSend s v

/-- ALERT_N raised with a cause bit (R460), its vector signalled when the bit was clear (R453). -/
def alert (s : State) (bit : Nat) : State :=
  let c := od s OD.ALERT_CAUSES
  if bitOf c bit then s
  else msix (odSet s OD.ALERT_CAUSES (setBit c bit true)) (od s OD.ALERT_VECTOR)

/-- R446: a telemetry record of a frame: header word, then its payload words, where the source is enabled. -/
def telemetryOf (s : State) (frame source : Nat) (words : List Nat) : State :=
  if bitOf (od s OD.TELEMETRY_SOURCES) source then
    (mkRec [(fld 63 32, frame), (fld 31 24, source), (fld 23 16, words.length)] :: words).foldl
      (fun t w => ringPush t OD.TELEMETRY_RING w) s
  else s

/-- R446: a telemetry record of the frame in progress. -/
abbrev telemetry (s : State) (source : Nat) (words : List Nat) : State := telemetryOf s (frameNo s) source words

/-! Messages. -/

/-- A message given to the links. -/
def send (s : State) (m : Msg) : State := { s with txq := s.txq ++ [m] }

/-- A management message (R242): kind, receiver, FRAME field, payload. -/
def sendMgmt (s : State) (mkind dest frame : Nat) (payload : List Byte) : State :=
  send s { vc := 3, kind := 0, dest := dest,
           hdr := mkRec [(MgmtHdr.MKIND, mkind), (MgmtHdr.FROM_DEVICE, ownDevice s), (MgmtHdr.TO_DEVICE, dest),
             (MgmtHdr.FRAME, frame), (MgmtHdr.PAYLOAD_BYTES, payload.length)],
           hlen := 32, data := payload, stream := 0, tenant := 0 }

/-- The links whose peer sits in tray slot `k` (LINK_PEER [18:14]), in ascending order, among ACTIVE links. -/
def linksToSlot (s : State) (k : Nat) : List Nat :=
  (List.range 64).filter (fun l => odGet s OD.LINK_STATE l == 2 && getF (odGet s OD.LINK_PEER l) (fld 18 14) == k)

/-- The links that lead to a device directly, ACTIVE ones in ascending order. -/
def linksToDevice (s : State) (d : Nat) : List Nat :=
  (List.range 64).filter (fun l => odGet s OD.LINK_STATE l == 2 && getF (odGet s OD.LINK_PEER l) (fld 31 19) == d)

/-- The device in a tray slot, as training told it (LINK_PEER); none where no link leads there. -/
def slotDevice (s : State) (k : Nat) : Option Nat :=
  ((List.range 64).find? (fun l => getF (odGet s OD.LINK_PEER l) (fld 18 14) == k && odGet s OD.LINK_PEER l != 0)).map
    (fun l => getF (odGet s OD.LINK_PEER l) (fld 31 19))

/-- The receiver a message to tray slot `k` carries: its device where training has told it, else 8,192 + the slot. -/
def slotDest (s : State) (k : Nat) : Nat := (slotDevice s k).getD (8192 + k)

/-- The system device number of a receiver; where the part has not been told it (a slot behind a switch), a free value. -/
def destDevice (s : State) (dest : Nat) : Nat × State := if dest < 8192 then (dest, s) else takeFree s

/-- A management message to a tray slot. -/
def sendMgmtSlot (s : State) (mkind k frame : Nat) (payload : List Byte) : State :=
  let d := destDevice s (slotDest s k)
  send d.2 { vc := 3, kind := 0, dest := slotDest s k,
             hdr := mkRec [(MgmtHdr.MKIND, mkind), (MgmtHdr.FROM_DEVICE, ownDevice s), (MgmtHdr.TO_DEVICE, d.1),
               (MgmtHdr.FRAME, frame), (MgmtHdr.PAYLOAD_BYTES, payload.length)],
             hlen := 32, data := payload, stream := 0, tenant := 0 }

/-- The slots of a 32-bit bitmap. -/
def slotsOf (w : Nat) : List Nat := (List.range 32).filter (bitOf w)

/-! Steps in flight. -/

/-- A unit's key: class and index (R31). -/
def unitKey (cls idx : Nat) : Nat := cls * 256 + idx

/-- The unit a step record addresses. -/
def stepUnit (st : Nat) : Nat := unitKey (getF st StepRec.UNIT_CLASS) (getF st StepRec.UNIT_INDEX)

/-- The step in flight on a unit. -/
def flightOn (s : State) (u : Nat) : Option Flight := kfind s.frm.flights u

/-- On whose behalf memory is read or written: unit class and index, the step's row and tenant. -/
structure Reader where
  cls : Nat
  idx : Nat
  rowValid : Bool
  row : Nat
  tenValid : Bool
  ten : Nat
  deriving DecidableEq, Repr

/-- The reader a step in flight is (R216, R399). -/
def stepReader (f : Flight) : Reader :=
  { cls := getF f.step StepRec.UNIT_CLASS, idx := getF f.step StepRec.UNIT_INDEX,
    rowValid := getF f.step StepRec.ROW_VALID == 1, row := getF f.step StepRec.ROW,
    tenValid := getF f.step StepRec.TENANT_VALID == 1, ten := getF f.step StepRec.TENANT }

/-- An event posted now, its flag set 8 clk later (R33); the first post stands. -/
def postEvent (s : State) (e : Nat) : State :=
  match kfind s.frm.events e with
  | some _ => s
  | none => { s with frm := { s.frm with events := kput s.frm.events e (s.clk + 8) } }

/-- Is the event's flag set? -/
def eventSet (s : State) (e : Nat) : Bool :=
  match kfind s.frm.events e with
  | some c => decide (c ≤ s.clk)
  | none => false

/-- Has an event's flag been set before this clk, so that a step may issue on it (R33: at c + 9, the flag being set at c + 8)? At a
tick: was it set before the tick? -/
def eventMet (s : State) (e : Nat) : Bool :=
  match kfind s.frm.events e with
  | some c => decide (c < s.clk)
  | none => false

/-- R44, R39: `c` core-clocks counted for an account (a tenant, or 4,096 for housekeeping) in the frame of the step: the one in
progress, or for a carried step the frame it was carried out of. -/
def frameCredit (s : State) (f : Flight) (account c : Nat) : State :=
  if f.carried then
    let k := f.frame * 8192 + account
    { s with frm := { s.frm with lateClocks := kput s.frm.lateClocks k (kget s.frm.lateClocks k 0 + c) } }
  else { s with frm := { s.frm with frameClocks := kput s.frm.frameClocks account (kget s.frm.frameClocks account 0 + c) } }

/-- R44: core-clocks credited for a completed step: `n` clk on its class's weight. -/
def creditClocks (s : State) (f : Flight) (n : Nat) : State :=
  let c := n * odGet s OD.UNIT_CLOCK_WEIGHT (getF f.step StepRec.UNIT_CLASS)
  if c = 0 then s
  else if getF f.step StepRec.TENANT_VALID = 1 then
    let t := getF f.step StepRec.TENANT
    frameCredit (odAdd s OD.TENANT_CORE_CLOCKS t c) f t c
  else frameCredit { s with frm := { s.frm with hkClocks := s.frm.hkClocks + c } } f 4096 c

/-- R354: amounts added to the ledger's running sums (4 nJ): granted, spent, returned; what is carried is what remains of the grants. -/
def ledgerSums (s : State) (granted spent returned : Int) : State :=
  let e := OD.LEDGER_TOTALS
  let g := ofInt 64 ((odGet s e 0 : Int) + granted)
  let p := ofInt 64 ((odGet s e 1 : Int) + spent)
  let r := ofInt 64 ((odGet s e 3 : Int) + returned)
  odPuts s e 0 [g, p, ofInt 64 ((g : Int) - p - r), r]

/-- A field of a clasp record. -/
abbrev crF (s : State) (c : Nat) (f : Fld) : Nat := recF s OD.CLASP_RECORDS c f

/-- R190: the row image: row, then selection record. -/
def rowImage (s : State) (r : Nat) : List Byte :=
  leBytes 128 (odGet s OD.SCOREBOARD_VIEW r) ++ leBytes 64 (odGet s OD.SELECTION_VIEW r)

/-- R190: while a row is HANDING at its source the image in the pass area equals the row. -/
def imageSync (s : State) (r : Nat) : State :=
  match s.rows.clasp.find? (fun p => crF s p.1 ClaspRec.ROW == r && crF s p.1 ClaspRec.SIDE == 0) with
  | some p => linesWrite s p.2.area (rowImage s r)
  | none => s

/-- R22, R356: a step's price added to its row's ENERGY_SPENT; a row being handed over shows it in its image (R190), a FREE row stays
zero (R145). -/
def rowEnergy (s : State) (r p : Nat) : State :=
  if recF s OD.SCOREBOARD_VIEW r Row.STATE = 0 then s
  else imageSync (recSet s OD.SCOREBOARD_VIEW r [(Row.ENERGY_SPENT, recF s OD.SCOREBOARD_VIEW r Row.ENERGY_SPENT + p)]) r

/-- R353, R356: a step's price charged to its frame of issue and to its account and row. -/
def chargePrice (s : State) (f : Flight) : State :=
  let p := getF f.step StepRec.PRICE
  let s := ledgerSums s 0 p 0
  let s := match kfind s.en.frames f.frame with
    | some l => { s with en := { s.en with frames := kput s.en.frames f.frame { l with steps := l.steps + p } } }
    | none => s
  let s := if getF f.step StepRec.TENANT_VALID = 1 then odAdd s OD.TENANT_ENERGY (getF f.step StepRec.TENANT) p
    else odAdd s OD.HOUSEKEEPING_ENERGY 0 p
  if getF f.step StepRec.ROW_VALID = 1 then rowEnergy s (getF f.step StepRec.ROW) p else s

/-- How a step ends: with its work done; at once under a check of its class, having touched nothing (R75, R333, R353: no core-clocks, no
price); at a read before any work that met an error response (R353, R475: no price); or with FAULT (no DONE_EVENT). -/
inductive StepEnd where
  | done
  | untouched
  | unread
  | fault
  deriving DecidableEq, Repr

/-- The rows a step record names: its own, and those of a SELECT's, an ATTEND's or an APPEND's entries. -/
def stepRows (s : State) (st : Nat) : List Nat :=
  let own := if getF st StepRec.ROW_VALID = 1 then [getF st StepRec.ROW] else []
  let cls := getF st StepRec.UNIT_CLASS
  let op := getF st StepRec.OPCODE
  let d := memNat s (homeOf s (getF st StepRec.DESC_ADDR)) 64
  if cls = 6 ∧ op = 1 then
    own ++ (List.range (getF d SelDesc.ENTRIES)).map (fun i =>
      getF (memNat s (homeOf s (getF d SelDesc.ENTRY_ADDR + 32 * i)) 32) SelEntry.ROW)
  else if cls = 2 ∧ op = 1 then
    let a := memNat s (homeOf s (getF st StepRec.DESC_ADDR)) 128
    own ++ (List.range (getF a AttendDesc.ENTRIES)).map (fun i =>
      getF (memNat s (sramBase (getF st StepRec.UNIT_INDEX) + getF a AttendDesc.ENTRY_ADDR + 32 * i) 32) SetEntry.ROW)
  else if cls = 2 ∧ op = 2 then
    own ++ (List.range (getF d AppendDesc.ENTRIES)).map (fun i =>
      getF (memNat s (sramBase (getF st StepRec.UNIT_INDEX) + getF d AppendDesc.ENTRY_ADDR + 32 * i) 32) SetEntry.ROW)
  else own

/-- A step in flight completes (R32, R33, R39, R44, R353): its unit is free, its event is posted unless it is carried or faulted,
its core-clocks are counted unless it ended at once, its price is charged unless it touched nothing; the rows of one that ends with FAULT are noted (R147). -/
def finishStep (s : State) (u : Nat) (how : StepEnd) : State :=
  match flightOn s u with
  | none => s
  | some f =>
    let s := { s with frm := { s.frm with
      flights := kdel s.frm.flights u,
      slotState := if f.carried then s.frm.slotState else kput s.frm.slotState f.slot 2 } }
    let s := if how ≠ .fault ∧ getF f.step StepRec.POST_EN = 1 ∧ f.carried = false
      then postEvent s (getF f.step StepRec.DONE_EVENT) else s
    let s := if how = .untouched then s else creditClocks s f (s.clk - f.issued)
    let s := if how = .fault then { s with rows := { s.rows with faulted := s.rows.faulted ++ stepRows s f.step } } else s
    if how = .untouched ∨ how = .unread then s else chargePrice s f

/-- The fields every completion record begins with: frame of issue, slot, clocks. -/
def compClocks (s : State) (f : Flight) : Nat := min (s.clk - f.issued) (2 ^ 32 - 1)

/-- A value held at the largest a field of `n` bits can hold. -/
def satBits (n v : Nat) : Nat := min v (2 ^ n - 1)

/-- A row of the scoreboard (R145). -/
abbrev rowGet (s : State) (r : Nat) (f : Fld) : Nat := recF s OD.SCOREBOARD_VIEW r f

/-- Fields of a scoreboard row set. -/
abbrev rowSet (s : State) (r : Nat) (l : List (Fld × Nat)) : State := recSet s OD.SCOREBOARD_VIEW r l

end Sys2Proof.Machine
end

