-- ==== Sys2Proof/Machine/LocketOps.lean ====
section
/-! DEFINITION. Chapter 16: Locket's banks, units and entries: placing a key, searching, inserting, rewriting and removing. The
on-die units are the elements of LOCKET_VIEW in the layout of R478; the shadow lies in device memory at SHADOW_BASE.
Choices of the model here, by the assumption log: log 48 (DEDUCED). -/

namespace Sys2Proof.Machine

/-- `f n`, with `n` evaluated first: the kernel then runs a long recursion in small steps. -/
def forced {α : Type} (n : Nat) (f : Nat → α) : α :=
  match n with
  | 0 => f 0
  | k + 1 => f (k + 1)

/-- One byte through CRC-32C (reflected polynomial 0x82F63B78), eight steps. -/
def crc32cBits : Nat → Nat → Nat
  | 0, c => c
  | n + 1, c => forced c (fun c => crc32cBits n (if c % 2 = 1 then (c / 2) ^^^ 0x82F63B78 else c / 2))

/-- The register of CRC-32C after the bytes of a list. -/
def crc32cBytes : List Byte → Nat → Nat
  | [], c => c
  | b :: t, c => forced c (fun c => crc32cBytes t (crc32cBits 8 (c ^^^ b.toNat)))

/-- CRC-32C of a byte list (R329, R234). -/
def crc32c (bs : List Byte) : Nat := crc32cBytes bs 0xFFFFFFFF ^^^ 0xFFFFFFFF

/-- The four words of SipHash. -/
structure SipState where
  v0 : BitVec 64
  v1 : BitVec 64
  v2 : BitVec 64
  v3 : BitVec 64
  deriving DecidableEq, Repr

/-- One SipRound. -/
def sipRound (s : SipState) : SipState :=
  let v0 := s.v0 + s.v1
  let v1 := s.v1.rotateLeft 13 ^^^ v0
  let v0 := v0.rotateLeft 32
  let v2 := s.v2 + s.v3
  let v3 := s.v3.rotateLeft 16 ^^^ v2
  let v0 := v0 + v3
  let v3 := v3.rotateLeft 21 ^^^ v0
  let v2 := v2 + v1
  let v1 := v1.rotateLeft 17 ^^^ v2
  let v2 := v2.rotateLeft 32
  ⟨v0, v1, v2, v3⟩

/-- A message word taken in: two rounds (SipHash-2-4). -/
def sipWord (s : SipState) (m : BitVec 64) : SipState :=
  let t := sipRound (sipRound { s with v3 := s.v3 ^^^ m })
  { t with v0 := t.v0 ^^^ m }

/-- Four finishing rounds. -/
def sipFinish (s : SipState) : SipState := sipRound (sipRound (sipRound (sipRound s)))

/-- SipHash-2-4 with 128-bit output (R336) of a message of whole 64-bit words: key words, message words; the 16 output bytes as a
little-endian number. -/
def sipHash128 (k0 k1 : Nat) (words : List Nat) : Nat :=
  let a := BitVec.ofNat 64 k0
  let b := BitVec.ofNat 64 k1
  let s0 : SipState := ⟨a ^^^ 0x736f6d6570736575, b ^^^ 0x646f72616e646f6d ^^^ 0xee,
    a ^^^ 0x6c7967656e657261, b ^^^ 0x7465646279746573⟩
  let s1 := (words.map (BitVec.ofNat 64)).foldl sipWord s0
  let s2 := sipWord s1 (BitVec.ofNat 64 ((8 * words.length % 256) * 2 ^ 56))
  let s3 := sipFinish { s2 with v2 := s2.v2 ^^^ 0xee }
  let o0 := s3.v0 ^^^ s3.v1 ^^^ s3.v2 ^^^ s3.v3
  let s4 := sipFinish { s3 with v1 := s3.v1 ^^^ 0xdd }
  let o1 := s4.v0 ^^^ s4.v1 ^^^ s4.v2 ^^^ s4.v3
  o0.toNat + o1.toNat * 2 ^ 64

/-- A bank's kind (R329, R330). -/
def bankKind (s : State) (b : Nat) : Nat := recF s OD.BANK_CONFIG b BankCfg.KIND
/-- A bank's entry width in units (R328). -/
def bankWidth (s : State) (b : Nat) : Nat := 2 ^ recF s OD.BANK_CONFIG b BankCfg.WIDTH

/-- The group of a kind: its first bank, the number of banks and the width (R329); none where BANK_CONFIG gives it none (R476). -/
def kindGroup (s : State) (k : Nat) : Option (Nat × Nat × Nat) :=
  ((List.range 32).find? (fun b => bankKind s b == k)).map
    (fun b => (recF s OD.BANK_CONFIG b BankCfg.FIRST, recF s OD.BANK_CONFIG b BankCfg.COUNT, bankWidth s b))

/-- R329: the bank a key of a kind belongs to. -/
def keyBank (s : State) (k key : Nat) : Option Nat :=
  (kindGroup s k).map (fun g => g.1 + crc32c (leBytes (8 * g.2.2) key) % g.2.1)

/-- The on-die record of unit `u` (R478). -/
abbrev unitRec (s : State) (u : Nat) : Nat := odGet s OD.LOCKET_VIEW u

/-- The key of the entry of width `w` at unit `u` (R328). -/
def entryKey (s : State) (u w : Nat) : Nat :=
  (List.range w).foldl (fun acc i => acc + getF (unitRec s (u + i)) LkUnit.KEY_WORD * 2 ^ (64 * i)) 0

/-- R331: is the entry's expiry, if any, not earlier than the current frame? -/
def dedupeLive (s : State) (v : Nat) : Bool :=
  getF v DedupeVal.EXPIRY_EN == 0 || !frameLater (frameNo s) (getF v DedupeVal.EXPIRY)

/-- R339: does the entry of width `w` at unit `u` fail parity? -/
def entryBad (s : State) (u w : Nat) : Bool :=
  s.lk.badUnits.any (fun x => decide (u ≤ x ∧ x < u + w)) || s.lk.badValues.contains u

/-- R331: does the entry at unit `u` match a key? -/
def entryMatches (s : State) (k w u key : Nat) : Bool :=
  getF (unitRec s u) LkUnit.VALID == 1 && entryKey s u w == key && !entryBad s u w
    && (k != 1 || dedupeLive s (getF (unitRec s u) LkUnit.VALUE))

/-- The entry positions of a bank (R328). -/
def bankEntries (s : State) (b : Nat) : List Nat :=
  (List.range (2048 / bankWidth s b)).map (fun i => b * 2048 + i * bankWidth s b)

/-- The matching entry in bank `b`. -/
def bankFind (s : State) (b key : Nat) : Option Nat :=
  (bankEntries s b).find? (fun u => entryMatches s (bankKind s b) (bankWidth s b) u key)

/-- LOCKET_COUNTS element `i` advanced by one. -/
abbrev lkCount (s : State) (i : Nat) : State := odAdd s OD.LOCKET_COUNTS i 1

/-- A search of bank `b`, counted (R333). -/
def lkSearchBank (s : State) (b key : Nat) : State × Option Nat :=
  let r := bankFind s b key
  let s := lkCount s 0
  (if r.isSome then lkCount s 1 else s, r)

/-- A device search of a kind (R476: a kind with no group always misses). -/
def lkSearch (s : State) (k key : Nat) : State × Option Nat :=
  match keyBank s k key with
  | none => (lkCount s 0, none)
  | some b => lkSearchBank s b key

/-- The value of an entry. -/
abbrev lkValue (s : State) (u : Nat) : Nat := getF (unitRec s u) LkUnit.VALUE

/-- The device offset of a unit's shadow record (R478). -/
def shadowAddr (s : State) (u : Nat) : Nat := homeOf s (od s OD.SHADOW_BASE + 64 * u)

/-- A unit and its shadow record written (R332), the record in a full line of HBM (R211, R339); the unit no longer fails parity. -/
def unitWrite (s : State) (u rec : Nat) : State :=
  let s := odPut s OD.LOCKET_VIEW u rec
  let a := shadowAddr s u
  let s := activate (linesWrite s a (leBytes 64 rec)) a
  { s with lk := { badUnits := s.lk.badUnits.filter (· != u), badValues := s.lk.badValues.filter (· != u) } }

/-- The record of unit `i` of an entry at `u` (R478). -/
def unitOf (k w u i key val : Nat) : Nat :=
  mkRec [(LkUnit.KEY_WORD, key / 2 ^ (64 * i)), (LkUnit.VALUE, if i = 0 then val else 0), (LkUnit.VALID, 1),
    (LkUnit.KIND, k), (LkUnit.WIDTH, if w = 1 then 0 else if w = 2 then 1 else 2), (LkUnit.ENTRY, u)]

/-- An entry written at unit `u` (R332). -/
def entryWrite (s : State) (k w u key val : Nat) : State :=
  (List.range w).foldl (fun t i => unitWrite t (u + i) (unitOf k w u i key val)) s

/-- An entry removed: VALID cleared in its units and their shadow records, the bank's count lowered, a removal counted (R332). -/
def entryRemove (s : State) (u : Nat) : State :=
  let b := u / 2048
  if getF (unitRec s u) LkUnit.VALID = 0 then s
  else
    let s := (List.range (bankWidth s b)).foldl
      (fun t i => unitWrite t (u + i) (setF (unitRec t (u + i)) LkUnit.VALID 0)) s
    lkCount (odPut s OD.ENTRY_COUNTS b (odGet s OD.ENTRY_COUNTS b - 1)) 5

/-- R334, R337: the value of an entry replaced. -/
def entryRewrite (s : State) (u val : Nat) : State := unitWrite s u (setF (unitRec s u) LkUnit.VALUE val)

/-- R335: the position an INSERT takes in a bank: the lowest free one, else the lowest expired DEDUPE entry. -/
def insertSlot (s : State) (b : Nat) : Option Nat :=
  match (bankEntries s b).find? (fun u => getF (unitRec s u) LkUnit.VALID == 0) with
  | some u => some u
  | none =>
    if bankKind s b = 1 then (bankEntries s b).find? (fun u => !dedupeLive s (lkValue s u)) else none

/-- R335: an insert into bank `b`: the status (0 OK, 2 EXISTS, 3 FULL) and the entry found or taken. -/
def lkInsertBank (s : State) (b key val : Nat) : State × Nat × Nat :=
  let r := lkSearchBank s b key
  match r.2 with
  | some u => (lkCount r.1 3, 2, u)
  | none =>
    match insertSlot r.1 b with
    | none => (lkCount r.1 4, 3, 0)
    | some u =>
      let fresh := getF (unitRec r.1 u) LkUnit.VALID = 0
      let s := entryWrite r.1 (bankKind r.1 b) (bankWidth r.1 b) u key val
      let s := if fresh then odAdd s OD.ENTRY_COUNTS b 1 else s
      (lkCount s 2, 0, u)

/-- A device insert of a kind (R476: a kind with no group answers FULL, counted). -/
def lkInsert (s : State) (k key val : Nat) : State × Nat × Nat :=
  match keyBank s k key with
  | none => (lkCount s 4, 3, 0)
  | some b => lkInsertBank s b key val

/-- R330: the key of a DEDUPE entry: request ID and class (0 ADMIT, 1 CONTROL). -/
def dedupeKey (rid cls : Nat) : Nat := rid + cls * 2 ^ 64

/-- R337: an entry of a row rewritten as ENDED, or as DEPARTED to a device at an epoch, with the tenant's dedupe window. -/
def dedupeRewrite (s : State) (rid cls form state row device epoch window : Nat) : State :=
  let r := lkSearch s 1 (dedupeKey rid cls)
  match r.2 with
  | none => r.1
  | some u => entryRewrite r.1 u (mkRec [(DedupeVal.FORM, form), (DedupeVal.STATE, state), (DedupeVal.ROW, row),
      (DedupeVal.DEVICE, device), (DedupeVal.EPOCH, epoch), (DedupeVal.EXPIRY_EN, 1),
      (DedupeVal.EXPIRY, (frameNo s + window) % 2 ^ 32)])

/-- The record of unit `u` of a bank in use that belongs to no valid entry (R478). -/
def unitBlank (s : State) (u : Nat) : Nat :=
  let b := u / 2048
  mkRec [(LkUnit.KIND, bankKind s b), (LkUnit.WIDTH, recF s OD.BANK_CONFIG b BankCfg.WIDTH),
    (LkUnit.ENTRY, u / bankWidth s b * bankWidth s b)]

/-- R341: at entry to RUN every VALID bit is cleared, every shadow record written as invalid, every scrub pointer zeroed. -/
def locketClear (s : State) : State :=
  let s := odClear (odClear (odClear s OD.LOCKET_VIEW) OD.ENTRY_COUNTS) OD.SCRUB_POINTERS
  let a := od s OD.SHADOW_BASE
  let left := s.mc.lineErr.filter (fun p => decide (p.1 < a / 64) || decide (a / 64 + 65536 ≤ p.1))
  let s := { memZero s a (64 * 65536) with lk := ⟨[], []⟩, mc := { s.mc with lineErr := left } }
  ((List.range 32).filter (fun b => bankKind s b != 0)).foldl
    (fun t b => (List.range 2048).foldl (fun t i => unitWrite t (b * 2048 + i) (unitBlank t (b * 2048 + i))) t) s

end Sys2Proof.Machine
end

