-- ==== Sys2Proof/Machine/Pool.lean ====
section
/-! DEFINITION. Chapter 06: bead classes, descriptors and counts, and the fencing of a bead.
Choices of the model here, by the assumption log: log 34 (DEDUCED). -/

namespace Sys2Proof.Machine

/-- A bead index is the stack and the slot (R120). -/
def beadIdx (stack slot : Nat) : Nat := stack * 2 ^ 21 + slot % 2 ^ 21
/-- The stack of a bead index. -/
def beadStack (b : Nat) : Nat := b / 2 ^ 21 % 8
/-- The slot of a bead index. -/
def beadSlot (b : Nat) : Nat := b % 2 ^ 21

/-- The device offset of a bead's descriptor (R120). -/
def descAddr (s : State) (b : Nat) : Nat := stackOff (beadStack b) (od s OD.DESC_BASE + beadSlot b * 32)
/-- A bead's descriptor. -/
def descGet (s : State) (b : Nat) : Nat := memNat s (descAddr s b) 32
/-- A field of a bead's descriptor. -/
abbrev descF (s : State) (b : Nat) (f : Fld) : Nat := getF (descGet s b) f
/-- Fields of a bead's descriptor set, beneath the outer code's counts; a part of an uncorrectable line is not written (R209). -/
def descRaw (s : State) (b : Nat) (l : List (Fld × Nat)) : State :=
  if 4 < kget s.mc.lineErr (descAddr s b / 64) 0 then s else memPut s (descAddr s b) 32 (setFs (descGet s b) l)

/-- The bead classes' record. -/
abbrev classF (s : State) (c : Nat) (f : Fld) : Nat := recF s OD.BEAD_CLASSES c f
/-- A class's bead stride in bytes (R119). -/
def classStride (s : State) (c : Nat) : Nat := classF s c BeadClass.STRIDE_4K * 4096

/-- d_head by its code (R104). -/
def dheadOf (code : Nat) : Nat := 64 * 2 ^ code

/-- R117: the bytes of one bead. -/
def beadBytes (lLocal hkv dhead fmt : Nat) : Nat :=
  let blocks := 16 * lLocal * 2 * hkv * dhead
  if fmt = 0 then blocks else blocks / 2 + cdiv (2 * lLocal * hkv) 64 * 64

/-- The bytes of one bead of class `c`. -/
def classBeadBytes (s : State) (c : Nat) : Nat :=
  beadBytes (classF s c BeadClass.L_LOCAL) (classF s c BeadClass.HKV) (dheadOf (classF s c BeadClass.DHEAD))
    (classF s c BeadClass.KV_FMT)

/-- The valid class whose slots take in a slot. -/
def slotClass (s : State) (slot : Nat) : Option Nat :=
  (List.range 8).find? (fun c => classF s c BeadClass.VALID == 1
    && decide (classF s c BeadClass.FIRST_SLOT ≤ slot)
    && decide (slot < classF s c BeadClass.FIRST_SLOT + classF s c BeadClass.SLOTS))

/-- R120: the device offset of a bead of class `c`. -/
def beadAddr (s : State) (c b : Nat) : Nat :=
  stackOff (beadStack b)
    (classF s c BeadClass.BASE + (beadSlot b - classF s c BeadClass.FIRST_SLOT) * classStride s c)

/-- The valid class whose bytes take in stack-local address `a` (R216). -/
def addrClass (s : State) (a : Nat) : Option Nat :=
  (List.range 8).find? (fun c => classF s c BeadClass.VALID == 1 && decide (classF s c BeadClass.BASE ≤ a)
    && decide (a < classF s c BeadClass.BASE + classF s c BeadClass.SLOTS * classStride s c))

/-- The bead at stack-local address `a` of stack `k`, slack counted as the bead (R216). -/
def addrBead (s : State) (k a : Nat) : Option Nat :=
  (addrClass s a).map (fun c =>
    beadIdx k (classF s c BeadClass.FIRST_SLOT + (a - classF s c BeadClass.BASE) / classStride s c))

/-- The key of a class's lists on a stack. -/
def listKey (cls stack : Nat) : Nat := cls * 8 + stack

/-- R142: one bead of a class and stack counted out of state `a` and into state `b`. -/
def countMove (s : State) (cls stack a b : Nat) : State :=
  let e := OD.BEAD_STATE_COUNTS
  let ka := listKey cls stack * 6 + a
  let kb := listKey cls stack * 6 + b
  let s := odPut s e ka (odGet s e ka - 1)
  odPut s e kb (odGet s e kb + 1)

/-- R142: REF_SUM of a class and stack changed. -/
def refSumAdd (s : State) (cls stack n : Nat) : State :=
  odPut s OD.REF_SUM (listKey cls stack) (odGet s OD.REF_SUM (listKey cls stack) + n)
/-- R142: REF_SUM of a class and stack lowered. -/
def refSumSub (s : State) (cls stack n : Nat) : State :=
  odPut s OD.REF_SUM (listKey cls stack) (odGet s OD.REF_SUM (listKey cls stack) - n)

/-- R123: NEXT of every bead of a list names its successor, the last its own index. -/
def relink (s : State) (stack : Nat) : List Nat → State
  | [] => s
  | [a] => descRaw s (beadIdx stack a) [(BeadDesc.NEXT, beadIdx stack a)]
  | a :: b :: t => relink (descRaw s (beadIdx stack a) [(BeadDesc.NEXT, beadIdx stack b)]) stack (b :: t)

/-- The stack regions (R206) a bead's bytes meet. -/
def beadRegions (s : State) (b : Nat) : List Nat :=
  match slotClass s (beadSlot b) with
  | some c =>
    let a := beadAddr s c b % 2 ^ 37
    span (a / 2 ^ 30) ((a + classStride s c - 1) / 2 ^ 30 + 1 - a / 2 ^ 30)
  | none => []

/-- Is a region fenced (R428)? -/
def regionFenced (s : State) (stack region : Nat) : Bool := odGet s OD.REGION_MAP (stack * 128 + region) == 3

/-- R129: a READY or CLEARING bead of a region fenced now goes to FENCED, out of its list. -/
def beadFence (s : State) (b : Nat) : State :=
  let st := descF s b BeadDesc.STATE
  if st = 0 ∨ st = 3 then
    let cls := descF s b BeadDesc.CLASS
    let k := listKey cls (beadStack b)
    let r := (kget s.pool.ready k []).filter (· != beadSlot b)
    let c := (kget s.pool.clearing k []).filter (· != beadSlot b)
    let s := { s with pool := { s.pool with ready := kput s.pool.ready k r, clearing := kput s.pool.clearing k c,
                                            clearPos := kdel s.pool.clearPos b } }
    let s := relink (relink s (beadStack b) r) (beadStack b) c
    descRaw (countMove s cls (beadStack b) st 5) b [(BeadDesc.STATE, 5), (BeadDesc.NEXT, b)]
  else s

/-- Does [a, a+n) meet [b, b+m)? -/
def meets (a n b m : Nat) : Bool := decide (a < b + m) && decide (b < a + n) && decide (0 < n) && decide (0 < m)

end Sys2Proof.Machine
end

