-- ==== Sys2Proof/Machine/Memory.lean ====
section
/-! DEFINITION. Chapter 10 (and R428 to R431, R444, R445 that its errors reach): fences, fatal errors, containment by owner, and every
checked read and write of device memory. Access statuses are those of R314's FAIL_STATUS: 0 OK, 1 UNCORRECTABLE, 2 NOT_EXPORTED,
3 BAD_TARGET, 4 TIMEOUT, 5 SLOT_DEAD, 6 DOMAIN_DOWN, 7 NO_SLOT, 8 APERTURE_FAULT.
Choices of the model here, by the assumption log: log 70 (DESIGN CHOICE); log 11, 40 (DEDUCED). -/

namespace Sys2Proof.Machine

/-- R428, R431: a fence record written to the ring and to telemetry, ALERT_N raised with FENCE (bit 11). Kinds 0 core, 1 engine,
2 region, 3 link. -/
def fenceRecord (s : State) (kind index cause : Nat) : State :=
  let r := mkRec [(FenceRec.FRAME, frameNo s), (FenceRec.KIND, kind), (FenceRec.INDEX, index), (FenceRec.CAUSE, cause)]
  alert (telemetry (ringPush s OD.FENCE_RING r) 7 [r % 2 ^ 64, r / 2 ^ 64]) 11

/-- R445: BAR2 requests that wait complete with Completer Abort, counted and logged (R451). -/
def bar2Lose (s : State) : State :=
  let w := s.host.waits
  let s := odAdd s OD.BAR2_ERRORS 0 w.length
  { s with ft := { s.ft with aer := s.ft.aer ++ w.map (fun _ => 2) }, out := s.out ++ (w.filter HostRead.read).map (fun x => ⟨3, x.tag, []⟩),
           host := { s.host with waits := [] } }

/-- R445: a fatal error with its cause code and detail. -/
def fatal (s : State) (cause detail : Nat) : State :=
  if od s OD.DEVICE_STATE = 3 then s
  else
    let s := bar2Lose s
    let s := odSet (odSet s OD.DEVICE_STATE 3) OD.FATAL_CAUSE (mkRec [(fld 31 24, cause), (fld 23 0, detail)])
    let s := if cause = 5 then odPut s OD.STACK_MAP (detail % 8) 3 else s
    let s := { s with frm := { s.frm with stopped := true, flights := [] },
                      cores := s.cores.map (fun p => (p.1, { p.2 with running := false, asyncs := [] })) }
    let s := odClear (odSet s OD.LINK_ENABLE 0) OD.LINK_STATE
    let s := { s with net := { s.net with links := [] } }
    let s := { s with ft := { s.ft with aer := s.ft.aer ++ [1] } }
    let s := if bitOf (od s OD.HOST_LINK) 0 then { s with out := s.out ++ [⟨1, 2, []⟩] } else s
    let s := alert s 14
    odSet s OD.GUARANTEE_CONDITIONS (setBit (od s OD.GUARANTEE_CONDITIONS) 0 true)

/-- A stack-local range of a stack as a device-offset range meeting an area placed by the dictionary, other than a bead class: the
owner ranges, the control areas, the partitions, COH_BACKING and the areas the layout entries place (R429). -/
def regionPlaced (s : State) (stack region : Nat) : Bool :=
  let a := stackOff stack (region * 2 ^ 30)
  let n := 2 ^ 30
  let top := ((List.range 8).map (fun c => if classF s c BeadClass.VALID = 1
    then classF s c BeadClass.FIRST_SLOT + classF s c BeadClass.SLOTS else 0)).foldl max 0
  (List.range 64).any (fun i => meets a n (recF s OD.OWNER_RANGES i OwnerRange.BASE) (recF s OD.OWNER_RANGES i OwnerRange.SIZE))
  || meets a n (stackOff stack (od s OD.DESC_BASE)) (32 * top)
  || meets a n (odGet s OD.STRAND_HEADER_AREA 0) (odGet s OD.STRAND_HEADER_AREA 1)
  || meets a n (stackOff stack (odGet s OD.SEGMENT_AREA (2 * stack))) (odGet s OD.SEGMENT_AREA (2 * stack + 1))
  || meets a n (odGet s OD.PASS_LIST_AREA 0) (odGet s OD.PASS_LIST_AREA 1)
  || (List.range 64).any (fun i => recF s OD.PARTITIONS i Part.STATE != 0
        && meets a n (recF s OD.PARTITIONS i Part.BASE) (recF s OD.PARTITIONS i Part.SIZE))
  || meets a n (od s OD.COH_BACKING) (2 ^ 28)
  || meets a n (od s OD.PROG_REGION_BASE) (od s OD.PROG_REGION_SIZE)
  || meets a n (odGet s OD.ADAPTER_POOL 0) (odGet s OD.ADAPTER_POOL 1)
  || meets a n (od s OD.QP_CONTEXT_BASE) (2 ^ 27)
  || meets a n (od s OD.MR_TABLE_BASE) (32 * od s OD.MR_TABLE_ENTRIES)
  || (List.range 4096).any (fun i => let r := odGet s OD.CQ_TABLE i
        meets a n (getF r (fld 41 0)) (32 * getF r (fld 95 64)))
  || meets a n (od s OD.SHADOW_BASE) (64 * 65536)

/-- The slots of every valid class whose bytes on a stack meet a region. -/
def regionBeads (s : State) (stack region : Nat) : List Nat :=
  (List.range 8).flatMap (fun c =>
    if classF s c BeadClass.VALID = 1 then
      ((span (classF s c BeadClass.FIRST_SLOT) (classF s c BeadClass.SLOTS)).map (beadIdx stack)).filter
        (fun b => (beadRegions s b).contains region)
    else [])

/-- R129, R428, R429: a region fenced. -/
def fenceRegion (s : State) (stack region cause : Nat) : State :=
  if regionFenced s stack region then s
  else
    let s := odPut s OD.REGION_MAP (stack * 128 + region) 3
    let s := { s with mc := { s.mc with fencedClk := kput s.mc.fencedClk (stack * 128 + region) s.clk } }
    let s := (regionBeads s stack region).foldl beadFence s
    fenceRecord s 2 (stack * 128 + region) cause

/-- R429: a region becomes a candidate, and is fenced at once where nothing is placed in it and REGION_AUTO_FENCE is 1. -/
def regionCandidate (s : State) (stack region cause : Nat) : State :=
  if regionFenced s stack region then s
  else
    let s := odPut s OD.REGION_MAP (stack * 128 + region) 1
    if od s OD.REGION_AUTO_FENCE = 1 ∧ regionPlaced s stack region = false then fenceRegion s stack region cause else s

/-- Who owns a line (R216): OWNER_KIND, OWNER_ID, and the model slot of a WEIGHTS range. -/
structure Owner where
  kind : Nat
  id : Nat
  slotValid : Bool
  slot : Nat
  deriving DecidableEq, Repr

/-- The owner range a device offset lies in, in index order (R216). -/
def rangeOwner (s : State) (a : Nat) : Owner :=
  match (List.range 64).find? (fun i =>
      decide (recF s OD.OWNER_RANGES i OwnerRange.BASE ≤ a)
      && decide (a < recF s OD.OWNER_RANGES i OwnerRange.BASE + recF s OD.OWNER_RANGES i OwnerRange.SIZE)) with
  | some i =>
    let k := recF s OD.OWNER_RANGES i OwnerRange.KIND
    ⟨k, i, k == 2, if k = 2 then recF s OD.OWNER_RANGES i OwnerRange.ID else 0⟩
  | none => ⟨0, 0, false, 0⟩

/-- R216: is a stack-local address in a control area? -/
def inControl (s : State) (stack a : Nat) : Bool :=
  let d := stackOff stack a
  let top := ((List.range 8).map (fun c => if classF s c BeadClass.VALID = 1
    then classF s c BeadClass.FIRST_SLOT + classF s c BeadClass.SLOTS else 0)).foldl max 0
  let base := od s OD.DESC_BASE
  (decide (base ≤ a) && decide (a < base + 32 * top))
  || meets d 1 (odGet s OD.STRAND_HEADER_AREA 0) (odGet s OD.STRAND_HEADER_AREA 1)
  || meets a 1 (odGet s OD.SEGMENT_AREA (2 * stack)) (odGet s OD.SEGMENT_AREA (2 * stack + 1))
  || meets d 1 (odGet s OD.PASS_LIST_AREA 0) (odGet s OD.PASS_LIST_AREA 1)

/-- R216: the owner of stack-local address `a` of a stack. -/
def lineOwner (s : State) (stack a : Nat) : Owner :=
  match addrBead s stack a with
  | some b => ⟨1, b, false, 0⟩
  | none => if inControl s stack a then ⟨6, 0, false, 0⟩ else rangeOwner s (stackOff stack a)

/-- A key joins the containment set of the frame (R217): a row, or 65,536 + a model slot. -/
def joinContained (s : State) (k : Nat) : State :=
  { s with mc := { s.mc with contained := kput s.mc.contained k (frameNo s) } }

/-- R217: is a row, or its model slot, in the containment set (which holds for the frame of the read and the next one)? -/
def isContained (s : State) (row slot : Nat) : Bool :=
  let live := fun k => match kfind s.mc.contained k with
    | some f => decide (frameDiff f (frameNo s) ≤ 1)
    | none => false
  live row || live (65536 + slot)

/-- R216: the record of an uncorrectable line contained, at stack and stack-local address (a direct commons line has neither: the
record's two fields are then free), with an owner and a reader. -/
def containRecord (s : State) (at_ : Option (Nat × Nat)) (o : Owner) (rd : Reader) : State :=
  let fr := takeFree s
  let s := if at_.isNone then fr.2 else s
  let stack := match at_ with | some p => p.1 | none => fr.1
  let loc := match at_ with | some p => p.2 | none => fr.1
  let r := mkRec [(ContRec.FRAME, frameNo s), (ContRec.STACK, stack), (ContRec.LOCAL_ADDR, loc),
    (ContRec.READER_CLASS, rd.cls), (ContRec.READER_INDEX, rd.idx), (ContRec.OWNER_KIND, o.kind), (ContRec.OWNER_ID, o.id),
    (ContRec.ROW, if rd.rowValid then rd.row else 0), (ContRec.ROW_VALID, b2n rd.rowValid),
    (ContRec.MODEL_SLOT, o.slot), (ContRec.SLOT_VALID, b2n o.slotValid)]
  let s := ringPush s OD.CONTAINMENT_RING r
  let s := odAdd s OD.CONTAINED_BY_KIND o.kind 1
  { s with ft := { s.ft with winUncorr := s.ft.winUncorr + 1 } }

/-- R216, R217: an uncorrectable line contained: its record, and the reader's row, its owner's model slot and its bead's row join the
containment set. -/
def containLine (s : State) (at_ : Option (Nat × Nat)) (o : Owner) (rd : Reader) : State :=
  let s := containRecord s at_ o rd
  let s := if rd.rowValid then joinContained s rd.row else s
  let s := if o.kind = 2 then joinContained s (65536 + o.slot) else s
  if o.kind = 1 then joinContained s (descF s o.id BeadDesc.ROW) else s

/-- R429, R430: an uncorrectable line of a stack noted for its region in this scrub pass: a candidate region, or a stack that shows
such lines in more than 8 of its regions, which is fatal. -/
def noteUncorr (s : State) (stack line : Nat) : State :=
  if s.mc.ueLines.contains line then s
  else
    let s := { s with mc := { s.mc with ueLines := s.mc.ueLines ++ [line] } }
    let mine := s.mc.ueLines.filter (fun l => l / 2 ^ 31 = stack)
    let region := line % 2 ^ 31 / 2 ^ 24
    let here := (mine.filter (fun l => l % 2 ^ 31 / 2 ^ 24 = region)).length
    let s := if od s OD.REGION_UE_LIMIT ≤ here then regionCandidate s stack region 6 else s
    let regions := ((mine.map (fun l => l % 2 ^ 31 / 2 ^ 24)).eraseDups).length
    if regions > 8 then fatal s 5 stack else s

/-! Where a device offset leads. -/

/-- R204, R205, R98, R376: does a device offset have memory that answers? -/
def hasMemory (s : State) (write : Bool) (a : Nat) : Bool :=
  decide (a < 2 ^ 40)
  || (decide (windowBase 0 ≤ a) && decide (a < windowBase 200))
  || (decide (commonsBase + od s OD.TIER_FRAMES * 65536 ≤ a) && decide (a < commonsBase + 2048 * 65536))
  || (decide (sramBase 0 ≤ a) && decide (a < sramBase 8))
  || (decide (sramBcast ≤ a) && decide (a < sramBcast + 0x800000))
  || (!write && decide (shadowBase ≤ a) && decide (a < shadowBase + 2 ^ 27))

/-- Does a reader reach an address that has memory? Only cores, setting engines and DMA channels reach a setting SRAM (R98), and Pass
and the device's own machinery never fill window memory (R224). -/
def reaches (rd : Reader) (write : Bool) (a : Nat) : Bool :=
  if sramBase 0 ≤ a ∧ a < shadowBase then decide (1 ≤ rd.cls ∧ rd.cls ≤ 4)
  else !(write && decide (windowBase 0 ≤ a ∧ a < windowBase 200) && (rd.cls == 0 || rd.cls == 5))

/-- R399: does a TENANT partition close [a, a + n) to a reader? Setting jobs, MEMORY steps, BIST, clearing and the device's own
machinery are not checked. -/
def partitionBars (s : State) (rd : Reader) (a n : Nat) : Bool :=
  let checked := rd.cls == 1 || rd.cls == 3 || rd.cls == 4 || rd.cls == 5 || rd.cls == 6 || rd.cls == 7 || rd.cls == 0xB
  checked && (List.range 64).any (fun i =>
    recF s OD.PARTITIONS i Part.STATE != 0 && recF s OD.PARTITIONS i Part.KIND == 1
    && meets a n (recF s OD.PARTITIONS i Part.BASE) (recF s OD.PARTITIONS i Part.SIZE)
    && !(rd.tenValid && rd.ten == recF s OD.PARTITIONS i Part.TENANT))

/-- A range cut at 64-byte lines (R208, R209): addresses and lengths of the pieces. -/
def pieces (a n : Nat) : List (Nat × Nat) :=
  if n = 0 then []
  else (List.range ((a + n - 1) / 64 + 1 - a / 64)).map (fun i =>
    let lo := max a (64 * (a / 64 + i))
    let hi := min (a + n) (64 * (a / 64 + i + 1))
    (lo, hi - lo))

/-- Bytes zeroed by the base die or at entry to RUN: every line wholly within is a new codeword. -/
def codeZero (s : State) (a n : Nat) : State :=
  let left := s.mc.lineErr.filter (fun p => decide (64 * p.1 < a) || decide (a + n < 64 * p.1 + 64))
  { memZero s a n with mc := { s.mc with lineErr := left } }

/-- A bead's bytes zeroed on the stack's internal path, each line's row activated (R127, R211). -/
def zeroLines (s : State) (a n : Nat) : State :=
  let s := codeZero s a n
  if a < 2 ^ 40 then (pieces a n).foldl (fun t p => activate t p.1) s else s

/-- R212: a correction of an HBM line entered in the stack's tracker; a row that reaches the threshold joins the remap queue. -/
def trackCorrection (s : State) (a : Nat) : State :=
  let stack := a / 2 ^ 37
  let l := a % 2 ^ 37
  let row := getF l StackAddr.PAIR * 2 ^ 23 + getF l StackAddr.BANK * 2 ^ 17 + getF l StackAddr.ROW
  let t := kget s.mc.tracker stack []
  let t' := match t.find? (fun p => p.1 == row) with
    | some _ => t.map (fun p => if p.1 = row then (row, p.2 + 1) else p)
    | none =>
      if t.length < 512 then t ++ [(row, 1)]
      else
        let least := t.foldl (fun m p => min m p.2) (t.headD (0, 0)).2
        match t.find? (fun p => p.2 == least) with
        | some v => t.filter (fun p => p.1 != v.1) ++ [(row, 1)]
        | none => t ++ [(row, 1)]
  let n := ((t'.find? (fun p => p.1 == row)).getD (0, 0)).2
  let s := { s with mc := { s.mc with tracker := kput s.mc.tracker stack t' } }
  let q := kget s.mc.remapQueue stack []
  if od s OD.CORR_REMAP_THRESHOLD ≤ n ∧ q.contains row = false then
    if q.length < 64 then { s with mc := { s.mc with remapQueue := kput s.mc.remapQueue stack (q ++ [row]) } }
    else odAdd s OD.REMAP_COUNTS (3 * stack + 1) 1
  else s

/-- The stack whose counters a line counts in: an HBM line's, a setting SRAM's (R473), or a tier granule's; none for direct
commons. -/
def lineStack (s : State) (home : Nat) : Option Nat :=
  if home < 2 ^ 40 then some (home / 2 ^ 37)
  else if sramBase 0 ≤ home ∧ home < sramBase 8 then some ((home - sramBase 0) / 0x800000)
  else if commonsBase ≤ home ∧ home < commonsBase + od s OD.TIER_FRAMES * 65536 then
    some (odGet s OD.GRANULE_MAP ((home - commonsBase) / 65536) % 2 ^ 24 / 2 ^ 21)
  else none

/-- A line that the outer code corrects is counted, and an HBM line tracked (R208, R212). -/
def noteCorrected (s : State) (home : Nat) : State :=
  let s := match lineStack s home with
    | some k => odAdd s OD.OUTER_CORR k 1
    | none => s
  if home < 2 ^ 40 then trackCorrection s home else s

/-- R208, R216, R473: an uncorrectable line met by a reader: contained, or for a setting SRAM only counted. A line of a READY or CLEARING
bead is written with zeros at once (R218). -/
def noteUncorrectable (s : State) (home : Nat) (rd : Reader) : State :=
  if sramBase 0 ≤ home ∧ home < sramBase 8 then odAdd s OD.UNCORRECTABLE ((home - sramBase 0) / 0x800000) 1
  else if home < 2 ^ 40 then
    let k := home / 2 ^ 37
    let line := home / 64 * 64
    let s := odAdd s OD.UNCORRECTABLE k 1
    let o := lineOwner s k (line % 2 ^ 37)
    let s := noteUncorr (containLine s (some (k, line % 2 ^ 37)) o rd) k (home / 64)
    if o.kind = 1 ∧ (descF s o.id BeadDesc.STATE = 0 ∨ descF s o.id BeadDesc.STATE = 3) then
      { memZero s line 64 with mc := { s.mc with lineErr := kdel s.mc.lineErr (line / 64) } }
    else s
  else
    let f := (home - commonsBase) / 65536
    if f < od s OD.TIER_FRAMES then
      let a := odGet s OD.GRANULE_MAP f % 2 ^ 24 * 65536 + home / 64 * 64 % 65536
      let k := a / 2 ^ 37
      containLine (odAdd s OD.UNCORRECTABLE k 1) (some (k, a % 2 ^ 37)) (lineOwner s k (a % 2 ^ 37)) rd
    else containLine s none (rangeOwner s (home / 64 * 64)) rd

/-- R223: line reads through the granule map sampled 1 in 256. -/
def sampleGranule (s : State) (a : Nat) : State :=
  if a < 2 ^ 40 then
    let n := s.mc.sampleTick + 1
    let g := a / 65536
    let s := { s with mc := { s.mc with sampleTick := n } }
    if n % 256 = 0 then { s with mc := { s.mc with samples := kput s.mc.samples g (kget s.mc.samples g 0 + 1) } } else s
  else s

/-- Does a line hold an outer-code codeword (HBM, commons, setting SRAM)? Window memory does not (R426). -/
def coded (home : Nat) : Bool := decide (home < 2 ^ 40) || decide (commonsBase ≤ home ∧ home < shadowBase)

/-- R70: does an address lie in the window memory of a core loaded with test patterns, which the spec does not give? -/
def testPattern (s : State) (a : Nat) : Bool :=
  s.ft.patterned != [] && decide (windowBase 0 ≤ a ∧ a < windowBase 200) && s.ft.patterned.contains ((a - windowBase 0) / 0x200000)

/-- One piece of one line read: bytes and status (R208). `map` tells whether the access goes through the granule map (R220). -/
def readPiece (s : State) (map : Bool) (rd : Reader) (a n : Nat) : State × List Byte × Nat :=
  if !(hasMemory s false a && reaches rd false a) then (s, List.replicate n 0, 3)
  else if partitionBars s rd a n then (odAdd s OD.PARTITION_DENIALS 3 1, List.replicate n 0, 3)
  else
    let home := if map then homeOf s a else a
    let s := if map then sampleGranule s a else s
    let s := if home < 2 ^ 40 then activate s home else s
    let k := if coded home then kget s.mc.lineErr (home / 64) 0 else 0
    if testPattern s home then ((takeBytes s n).2, (takeBytes s n).1, 0)
    else if k = 0 then (s, memBytes s home n, 0)
    else if k ≤ 4 then (noteCorrected s home, memBytes s home n, 0)
    else (noteUncorrectable s home rd, List.replicate n 0, 1)

/-- A checked read of `n` bytes at a device offset: the bytes (zeros where a line's access failed), the first failing status and
address. -/
def readMem (s : State) (map : Bool) (rd : Reader) (a n : Nat) : State × List Byte × Nat × Nat :=
  (pieces a n).foldl (fun acc p =>
    let r := readPiece acc.1 map rd p.1 p.2
    (r.1, acc.2.1 ++ r.2.1, if acc.2.2.1 = 0 then r.2.2 else acc.2.2.1,
      if acc.2.2.1 = 0 ∧ r.2.2 ≠ 0 then p.1 else acc.2.2.2)) (s, [], 0, 0)

/-- Part or all of one line written at its home (R209): a whole line repairs an uncorrectable one; a part of one is discarded with an
error. -/
def storeLine (s : State) (rd : Reader) (home : Nat) (bs : List Byte) : State × Nat :=
  let s := if home < 2 ^ 40 then activate s home else s
  let k := if coded home then kget s.mc.lineErr (home / 64) 0 else 0
  if k > 4 ∧ bs.length < 64 then (noteUncorrectable s home rd, 1)
  else
    let s := if 0 < k ∧ k ≤ 4 ∧ bs.length < 64 then noteCorrected s home else s
    ({ memWrite s home bs with mc := { s.mc with lineErr := kdel s.mc.lineErr (home / 64) } }, 0)

/-- One piece of one line written, its address checked; the broadcast alias writes every setting SRAM's line (R98, R473). -/
def writePiece (s : State) (map : Bool) (rd : Reader) (a : Nat) (bs : List Byte) : State × Nat :=
  if !(hasMemory s true a && reaches rd true a) then (s, 3)
  else if partitionBars s rd a bs.length then (odAdd s OD.PARTITION_DENIALS 3 1, 3)
  else if sramBcast ≤ a ∧ a < sramBcast + 0x800000 then
    (List.range 8).foldl (fun (acc : State × Nat) k =>
      let w := storeLine acc.1 rd (sramBase k + (a - sramBcast)) bs
      (w.1, if acc.2 = 0 then w.2 else acc.2)) (s, 0)
  else
    storeLine s rd (if map then homeOf s a else a) bs

/-- A checked write at a device offset, line by line (R209): the first failing status and address. -/
def writeMem (s : State) (map : Bool) (rd : Reader) (a : Nat) (bs : List Byte) : State × Nat × Nat :=
  (pieces a bs.length).foldl (fun acc p =>
    let r := writePiece acc.1 map rd p.1 ((bs.drop (p.1 - a)).take p.2)
    (r.1, if acc.2.1 = 0 then r.2 else acc.2.1, if acc.2.1 = 0 ∧ r.2 ≠ 0 then p.1 else acc.2.2)) (s, 0, 0)

/-- U11 (R415): does a write of `n` bytes at a device offset meet an area that a unit or a dictionary entry of the part owns: descriptor
tables, strand headers, segments (but those a planned copy fills, R133), pass lists, queue-pair contexts, the region table, the Locket
shadow, COH_BACKING, the program region? They are laid out at entry to RUN. -/
def stray (s : State) (a n : Nat) : Bool :=
  let grown := s.pool.growing.flatMap (fun g => g.2.zipIdx.map (fun x => stackOff x.2 x.1))
  inRun s && (pieces a n).any (fun p =>
    (decide (p.1 < 2 ^ 40) && inControl s (p.1 / 2 ^ 37) (p.1 % 2 ^ 37)
      && !s.pool.segs.any (fun q => grown.contains q.1 && decide (q.1 ≤ p.1) && decide (p.1 + p.2 ≤ q.1 + q.2)))
    || meets p.1 p.2 (od s OD.QP_CONTEXT_BASE) (2 ^ 27) || meets p.1 p.2 (od s OD.MR_TABLE_BASE) (32 * od s OD.MR_TABLE_ENTRIES)
    || meets p.1 p.2 (od s OD.SHADOW_BASE) (2 ^ 22) || meets p.1 p.2 (od s OD.PROG_REGION_BASE) (od s OD.PROG_REGION_SIZE)
    || (bitOf (od s OD.COH_MEMBERS) (ownSlot s) && meets p.1 p.2 (od s OD.COH_BACKING) (2 ^ 28)))

/-- A checked write by an agent that owns none of those areas: what it leaves there is undefined, so its bytes are free (U11). -/
def agentWrite (s : State) (map : Bool) (rd : Reader) (a : Nat) (bs : List Byte) : State × Nat × Nat :=
  if stray s a bs.length then
    let r := takeBytes s bs.length
    writeMem r.2 map rd a r.1
  else writeMem s map rd a bs

/-- A descriptor or record of `n` bytes read by a unit (R475): its number, and whether the read met an error. -/
def readRec (s : State) (rd : Reader) (a n : Nat) : State × Nat × Nat × Nat :=
  let r := readMem s true rd a n
  (r.1, leNat r.2.1, r.2.2.1, r.2.2.2)

/-- The reader the device's own machinery is: no step, not checked against partitions. -/
def ownReader : Reader := ⟨0, 0, false, 0, false, 0⟩

/-- A control structure read by the device's own machinery: its lines are counted, corrected or contained (R208). No control area is in
the tier (R222). The machinery goes on with the bytes as they are stored (DESIGN CHOICE, log 70). -/
def ctlTouch (s : State) (a n : Nat) : State := (readMem s false ownReader a n).1

/-- A control structure written by the device's own machinery (R209). -/
def ctlPut (s : State) (a n v : Nat) : State := (writeMem s false ownReader a (leBytes n v)).1

/-- A record of the device's machinery that lies in memory the tier may hold (R220): its number. -/
def mapNat (s : State) (a n : Nat) : Nat := memNat s (homeOf s a) n
/-- That record read (R208). -/
def mapTouch (s : State) (a n : Nat) : State := (readMem s true ownReader a n).1
/-- That record written (R209). -/
def mapPut (s : State) (a n v : Nat) : State := (writeMem s true ownReader a (leBytes n v)).1

/-- The device offset of a tray physical address that names the own slot (R275). -/
def localOff (s : State) (a : Nat) : Option Nat :=
  if a / 2 ^ 42 % 32 = ownSlot s then some (a % 2 ^ 42) else none

end Sys2Proof.Machine
end

