-- ==== Sys2Proof/Machine/Strands.lean ====
section
/-! DEFINITION. Chapter 06: the bead pool manager's commands and the strand a row holds. What it reads and writes of memory passes the outer
code (R208, R209).
Choices of the model here, by the assumption log: log 34 (DEDUCED). -/

namespace Sys2Proof.Machine

/-- Fields of a bead's descriptor set, as a write of part of a line (R209). -/
def descSet (s : State) (b : Nat) (l : List (Fld × Nat)) : State := ctlPut s (descAddr s b) 32 (setFs (descGet s b) l)
/-- A bead's descriptor read (R208). -/
def descTouch (s : State) (b : Nat) : State := ctlTouch s (descAddr s b) 32

/-- A slot appended to the READY list of a class and stack (R124). -/
def readyAppend (s : State) (cls stack slot : Nat) : State :=
  let k := listKey cls stack
  let l := kget s.pool.ready k []
  let s := match l.getLast? with
    | some p => descSet s (beadIdx stack p) [(BeadDesc.NEXT, beadIdx stack slot)]
    | none => s
  let s := descSet s (beadIdx stack slot) [(BeadDesc.NEXT, beadIdx stack slot)]
  { s with pool := { s.pool with ready := kput s.pool.ready k (l ++ [slot]) } }

/-- A slot appended to the CLEARING queue of a class and stack. -/
def clearAppend (s : State) (cls stack slot : Nat) : State :=
  let k := listKey cls stack
  let l := kget s.pool.clearing k []
  let s := match l.getLast? with
    | some p => descSet s (beadIdx stack p) [(BeadDesc.NEXT, beadIdx stack slot)]
    | none => s
  let s := descSet s (beadIdx stack slot) [(BeadDesc.NEXT, beadIdx stack slot)]
  { s with pool := { s.pool with clearing := kput s.pool.clearing k (l ++ [slot]),
                                 clearPos := kput s.pool.clearPos (beadIdx stack slot) 0 } }

/-- The last answer of a pool manager command. -/
def poolAnswer (s : State) (st : Nat) (beads : List Nat) : State :=
  { s with pool := { s.pool with answer := st, answerBeads := beads } }

/-- STALE answered and counted (R124, R128). -/
def poolStale (s : State) : State := poolAnswer (odInc s OD.STALE_REFS) 2 []

/-- R130: a bead noted as entering HELD, or as leaving HELD and SHARD, at this clk. -/
def heldNote (s : State) (b : Nat) (enters : Bool) : State :=
  { s with pool := { s.pool with moves := s.pool.moves ++ [(s.clk, b, enters)] } }

/-- R130: was a bead HELD or SHARD at clk `c`, no earlier than the oldest step in flight? A bead that moved at that very clk was, before
or after. -/
def heldAt (s : State) (b c : Nat) : Bool :=
  match s.pool.moves.find? (fun m => m.2.1 == b && decide (c ≤ m.1)) with
  | some m => m.1 == c || !m.2.2
  | none => descF s b BeadDesc.STATE == 1 || descF s b BeadDesc.STATE == 4

/-- One bead taken by ALLOC (R124). -/
def allocOne (s : State) (cls stack slot ordinal row tenant : Nat) : State :=
  let b := beadIdx stack slot
  let s := descSet (heldNote s b true) b [(BeadDesc.REFS, 1), (BeadDesc.STATE, 1), (BeadDesc.PREFIX, 0), (BeadDesc.ORDINAL, ordinal),
    (BeadDesc.TENANT, tenant), (BeadDesc.CLASS, cls), (BeadDesc.ROW, row), (BeadDesc.NEXT, b)]
  refSumAdd (countMove s cls stack 0 1) cls stack 1

/-- R125: ALLOC: all n beads, at most 4,096, of a class and stack from the head of the READY list, or none (NO_BEAD). -/
def beadAlloc (s : State) (cls stack n o0 row tenant : Nat) : State :=
  let k := listKey cls stack
  let l := kget s.pool.ready k []
  if 4096 < n then s
  else if l.length < n then poolAnswer s 1 []
  else
    let got := l.take n
    let s := { s with pool := { s.pool with ready := kput s.pool.ready k (l.drop n) } }
    let s := got.zipIdx.foldl (fun t p => allocOne t cls stack p.1 (o0 + 8 * p.2) row tenant) s
    poolAnswer s 0 (got.map (beadIdx stack))

/-- R124, R128: REF. -/
def beadRef (s : State) (b gen : Nat) : State :=
  if descF s b BeadDesc.STATE = 1 ∧ descF s b BeadDesc.GEN = gen then
    if descF s b BeadDesc.REFS < 65535 then
      let s := refSumAdd s (descF s b BeadDesc.CLASS) (beadStack b) 1
      poolAnswer (descSet s b [(BeadDesc.REFS, descF s b BeadDesc.REFS + 1)]) 0 []
    else poolAnswer (descTouch s b) 3 []
  else poolStale (descTouch s b)

/-- A registration invalidated with its bead's release: the Locket entry removed and PREFIX cleared (R124). -/
def prefixDrop (s : State) (b : Nat) : State :=
  if descF s b BeadDesc.PREFIX = 1 then
    let u := descF s b BeadDesc.LOCKET_ENTRY
    let s := entryRemove s u
    let s := { s with pool := { s.pool with retained := kdel s.pool.retained u } }
    descSet s b [(BeadDesc.PREFIX, 0)]
  else s

/-- R124: UNREF. -/
def beadUnref (s : State) (b : Nat) : State :=
  let st := descF s b BeadDesc.STATE
  let refs := descF s b BeadDesc.REFS
  let cls := descF s b BeadDesc.CLASS
  if (st = 1 ∨ st = 4) ∧ refs = 1 then
    let s := heldNote (prefixDrop s b) b false
    let prev := (s.pool.pend.filter (fun p => p.1 = frameNo s)).getLast?
    let s := match prev with
      | some p => descSet s p.2 [(BeadDesc.NEXT, b)]
      | none => s
    let s := descSet s b [(BeadDesc.REFS, 0), (BeadDesc.FRAME_FREED, frameNo s), (BeadDesc.STATE, 2), (BeadDesc.NEXT, b)]
    let s := refSumSub (countMove s cls (beadStack b) st 2) cls (beadStack b) 1
    poolAnswer { s with pool := { s.pool with pend := s.pool.pend ++ [(frameNo s, b)] } } 0 []
  else if st = 1 ∧ refs > 1 then
    poolAnswer (descSet (refSumSub s cls (beadStack b) 1) b [(BeadDesc.REFS, refs - 1)]) 0 []
  else poolStale (descTouch s b)

/-- R124: SHARD. -/
def beadShard (s : State) (b : Nat) : State :=
  if descF s b BeadDesc.STATE = 1 ∧ descF s b BeadDesc.REFS = 1 then
    poolAnswer (descSet (countMove s (descF s b BeadDesc.CLASS) (beadStack b) 1 4) b [(BeadDesc.STATE, 4)]) 0 []
  else poolStale (descTouch s b)

/-- R124, R126, R129: a PENDING bead leaves its state at the end of the drain: GEN advances; CLEARING, or FENCED in a fenced
region. -/
def beadRelease (s : State) (b : Nat) : State :=
  if descF s b BeadDesc.STATE = 2 then
    let cls := descF s b BeadDesc.CLASS
    let s := descSet s b [(BeadDesc.GEN, descF s b BeadDesc.GEN + 1), (BeadDesc.NEXT, b)]
    if (beadRegions s b).any (regionFenced s (beadStack b)) then
      descSet (countMove s cls (beadStack b) 2 5) b [(BeadDesc.STATE, 5)]
    else
      clearAppend (descSet (countMove s cls (beadStack b) 2 3) b [(BeadDesc.STATE, 3)]) cls (beadStack b) (beadSlot b)
  else s

/-! Strands (R131, R132). -/

/-- The device offset of the strand header a row names. -/
abbrev strandRoot (s : State) (r : Nat) : Nat := rowGet s r Row.STRAND_ROOT * 64
/-- A row's strand header. -/
def strandHdr (s : State) (r : Nat) : Nat := memNat s (strandRoot s r) 64
/-- The stack-local address of segment `k` (R131: stack 0 highest in [447:152]). -/
def segAddr (hdr k : Nat) : Nat := getF hdr (fld (447 - 37 * k) (411 - 37 * k))
/-- The field of segment `k`'s address. -/
def segFld (k : Nat) : Fld := fld (447 - 37 * k) (411 - 37 * k)
/-- R132: the entries of segment `k` of a strand of `n` beads. -/
def segCount (n k : Nat) : Nat := (n + 7 - k) / 8
/-- The device offset of the segment entry of ordinal `o`. -/
def segEntryAddr (hdr o : Nat) : Nat := stackOff (o % 8) (segAddr hdr (o % 8) + 4 * (o / 8))
/-- The bead at ordinal `o` of a row's strand. -/
def strandBead (s : State) (r o : Nat) : Nat := memNat s (segEntryAddr (strandHdr s r) o) 4 % 2 ^ 24
/-- The beads of a row's strand, in ordinal order. -/
def strandBeads (s : State) (r : Nat) : List Nat := (List.range (rowGet s r Row.BEAD_COUNT)).map (strandBead s r)
/-- The entry of ordinal `o` written. -/
def strandPut (s : State) (r o b : Nat) : State := ctlPut s (segEntryAddr (strandHdr s r) o) 4 b
/-- BEAD_COUNT of a row and its header set. -/
def strandCount (s : State) (r n : Nat) : State :=
  let hdr := setF (strandHdr s r) StrandHdr.BEAD_COUNT n
  let s := ctlPut (ctlTouch s (strandRoot s r) 64) (strandRoot s r) 64 hdr
  rowSet s r [(Row.BEAD_COUNT, n)]

/-- R474: eight stack-local segment addresses for `cap` entries: inside the areas, aligned and free. -/
def segsOk (s : State) (cap : Nat) (l : List Nat) : Bool :=
  l.length == 8 && l.zipIdx.all (fun p =>
    let base := odGet s OD.SEGMENT_AREA (2 * p.2)
    let size := odGet s OD.SEGMENT_AREA (2 * p.2 + 1)
    decide (base ≤ p.1) && decide (p.1 + 4 * cap ≤ base + size) && decide (p.1 % 64 = 0)
      && s.pool.segs.all (fun q => !meets (stackOff p.2 p.1) (4 * cap) q.1 q.2))

/-- R474: a place for a strand that the planner names: header offset, then eight stack-local segment addresses: inside the areas,
aligned and free. The header never lies at offset 0, which STRAND_ROOT reads as no strand (DESIGN CHOICE, log 34). -/
def placeOk (s : State) (cap : Nat) (pl : List Nat) : Bool :=
  pl.length == 9 &&
  (let h := pl.headD 0
   let base := odGet s OD.STRAND_HEADER_AREA 0
   let size := odGet s OD.STRAND_HEADER_AREA 1
   decide (0 < h) && decide (base ≤ h) && decide (h + 64 ≤ base + size) && decide (h % 64 = 0) && !s.pool.headers.contains h) &&
  segsOk s cap pl.tail

/-- R131, R474: a strand of no beads formed for a row at a place, its segments of 2^`log2` entries. -/
def strandForm (s : State) (r cls log2 : Nat) (pl : List Nat) : State :=
  let h := pl.headD 0
  let hdr := mkRec ([(StrandHdr.CLASS, cls), (StrandHdr.ROW, r), (StrandHdr.SEG_CAP_LOG2, log2)]
    ++ pl.tail.zipIdx.map (fun p => (segFld p.2, p.1)))
  let s := ctlPut s h 64 hdr
  let s := { s with pool := { s.pool with
    headers := s.pool.headers ++ [h],
    segs := s.pool.segs ++ pl.tail.zipIdx.map (fun p => (stackOff p.2 p.1, 4 * 2 ^ log2)) } }
  rowSet s r [(Row.STRAND_ROOT, h / 64), (Row.BEAD_COUNT, 0)]

/-- R474: the header and segments of a row's strand released, with those of a growth under way (R133): free at the end of the drain after
the tick of this frame. -/
def strandFree (s : State) (r : Nat) : State :=
  let h := strandRoot s r
  let hdr := strandHdr s r
  if s.pool.headers.contains h then
    let fr := (frameNo s, 2 * h) :: (List.range 8).map (fun k => (frameNo s, 2 * stackOff k (segAddr hdr k) + 1))
    let grown := (kget s.pool.growing r []).zipIdx.map (fun p => (frameNo s, 2 * stackOff p.2 p.1 + 1))
    let s := { s with pool := { s.pool with freed := s.pool.freed ++ fr ++ grown, growing := kdel s.pool.growing r } }
    rowSet s r [(Row.STRAND_ROOT, 0), (Row.BEAD_COUNT, 0)]
  else s

/-- The end of the drain that follows the tick of frame `n` (R126, R133, R474): beads freed by then leave PENDING, released headers
and segments are free. -/
def poolDrain (s : State) (n : Nat) : State :=
  let due := s.pool.pend.filter (fun p => frameGe n p.1)
  let s := { s with pool := { s.pool with pend := s.pool.pend.filter (fun p => !frameGe n p.1) } }
  let s := due.foldl (fun t p => beadRelease t p.2) s
  let fr := (s.pool.freed.filter (fun p => frameGe n p.1)).map Prod.snd
  { s with pool := { s.pool with
      moves := s.pool.moves.filter (fun m => decide (s.frm.tickClk ≤ m.1)),
      freed := s.pool.freed.filter (fun p => !frameGe n p.1),
      headers := s.pool.headers.filter (fun h => !fr.contains (2 * h)),
      segs := s.pool.segs.filter (fun q => !fr.contains (2 * q.1 + 1)) } }

/-- Every bead of a row's strand from ordinal `o` on dropped by UNREF, and the count lowered. -/
def strandDrop (s : State) (r o : Nat) : State :=
  let n := rowGet s r Row.BEAD_COUNT
  let s := (span o (n - o)).foldl (fun t i => beadUnref (ctlTouch t (segEntryAddr (strandHdr s r) i) 4) (strandBead s r i)) s
  strandCount s r (min o n)

/-- R25, R196: a row's beads and its strand given up. -/
def strandRelease (s : State) (r : Nat) : State :=
  if rowGet s r Row.STRAND_ROOT = 0 then s else strandFree (strandDrop s r 0) r

/-- R134: beads allocated for a row's strand up to ordinal `n`, each ordinal on stack o mod 8, written into the segments. A stack
whose READY list cannot supply its beads leaves everything as it was: none. -/
def strandReserve (s : State) (r cls n tenant : Nat) : Option State :=
  let have_ := rowGet s r Row.BEAD_COUNT
  if n ≤ have_ then some s
  else
    let want := span have_ (n - have_)
    let short := (List.range 8).any (fun k =>
      decide ((kget s.pool.ready (listKey cls k) []).length < (want.filter (fun o => o % 8 = k)).length))
    if short then none
    else
      let s := want.foldl (fun t o =>
        let t := beadAlloc t cls (o % 8) 1 o r tenant
        strandPut t r o (t.pool.answerBeads.headD 0)) s
      some (strandCount s r n)

end Sys2Proof.Machine
end

