-- ==== Sys2Proof/Machine/Frames.lean ====
section
/-! DEFINITION. Chapter 02, without the tick itself (Tick.lean): the tick states, frame numbering, issue, SEQ steps, barriers, and the
health windows that count barriers (R432, R433).
Choices of the model here, by the assumption log: log 13, 19, 29, 30 (DESIGN CHOICE); log 11, 27, 66 (DEDUCED). -/

namespace Sys2Proof.Machine

/-- Do frames run: RUN, and neither IDLE nor leaving it (R359, R361)? -/
def framesRun (s : State) : Bool := inRun s && decide (od s OD.POWER_STATE ≤ 1) && !s.frm.stopped

/-! The tick states and the frame number (R27, R28). -/

/-- R27: the tick source is enabled in CONFIG: capture opens at any phase. -/
def tickOpen (s : State) : State :=
  { odSet s OD.TICK_STATE 1 with frm := { s.frm with lockCount := 0, adopted := false, missed := 0 } }

/-- TICK_SOURCE_ENABLE (R27). -/
def execTickSourceEnable (s : State) : Res :=
  answer s (if inConfig s && od s OD.TICK_STATE == 0 then tickOpen s else s)

/-- TICK_LOST (R27): the holdover limit is reached: ALERT_N with TICK_LOST (bit 0); the device runs on, outside the barriers. -/
def execTickLost (s : State) : Res :=
  answer s (if od s OD.TICK_STATE = 3 ∧ od s OD.TICK_HOLDOVER_MAX ≤ s.frm.missed
    then alert (odSet s OD.TICK_STATE 0) 0 else s)

/-- R28: a frame number received: adopted by a device in LOCKING that has adopted a phase, compared by a LOCKED or HOLDOVER one. -/
def numberReceived (s : State) (frame : Nat) : State :=
  if od s OD.TICK_STATE = 1 then
    if s.frm.adopted then odSet (odSet s OD.FRAME_NUMBER (frame % 2 ^ 32)) OD.TICK_STATE 2 else s
  else if od s OD.TICK_STATE = 2 ∨ od s OD.TICK_STATE = 3 then
    if frameNo s = frame % 2 ^ 32 then s else alert (odInc s OD.FRAME_MISMATCHES) 0
  else s

/-- FRAME_SYNC (R28): ignored after frame clock 8,000. -/
def execFrameSync (frame periodClk : Nat) (s : State) : Res :=
  answer s (if frameClk s ≤ 8000 ∧ periodClk < 2 ^ 20 then numberReceived s frame else s)

/-- TICK_MESSAGE (R26, R28): as FRAME_SYNC, for a device that takes its tick from that link. -/
def execTickMessage (link frame : Nat) (s : State) : Res :=
  answer s (if od s OD.TICK_SOURCE = 1 ∧ od s OD.TICK_LINK = link ∧ frameClk s ≤ 8000 then numberReceived s frame else s)

/-- R28: FRAME_SYNC sent by the frame master to every slot of TRAY_MEMBERS. -/
def frameSyncSend (s : State) : State :=
  (slotsOf (od s OD.TRAY_MEMBERS)).foldl
    (fun t k => sendMgmtSlot t 1 k (frameNo t) (leBytes 8 (getF t.frm.curHdr TableHdr.PERIOD_CLK))) s

/-! Issue (R32). -/

/-- A step of the current table with its place in the merged order: ascending START_CLK, then slot (the cyclic section holds the
first slots). -/
def mergedSteps (s : State) : List (Nat × Nat) :=
  let key := fun (p : Nat × Nat) => getF p.2 StepRec.START_CLK * 8192 + p.1
  sortBy (fun a b => decide (key a ≤ key b)) s.frm.curSteps

/-- The name of a region, and of a link, among the things a step can name (R36). -/
def regionName (k region : Nat) : Nat := 65536 + 128 * k + region
/-- The name of a link. -/
def linkName (l : Nat) : Nat := 131072 + l

/-- Is what a step names fenced, or under test (R36, R422, R428): a unit by its key, a region, a link? -/
def nameFenced (s : State) (x : Nat) : Bool :=
  if x < 65536 then
    if x / 256 = 1 then odGet s OD.CORE_MAP (x % 256) == 3 || odGet s OD.CORE_MAP (x % 256) == 2
    else x / 256 == 2 && odGet s OD.ENGINE_MAP (x % 256) == 3
  else if x < 131072 then odGet s OD.REGION_MAP (x - 65536) == 3
  else odGet s OD.LINK_STATE (x - 131072) == 5

/-- R36, R429: what a step names: its unit; a SCRUB step that is not AUTO the regions of its lines; a VC0 request or grant the links of
its records. -/
def stepNames (s : State) (st : Nat) : List Nat :=
  let d := memNat s (homeOf s (getF st StepRec.DESC_ADDR)) 64
  stepUnit st ::
  (if getF st StepRec.UNIT_CLASS = 9 ∧ getF st StepRec.OPCODE = 1 ∧ getF d MemDesc.SCRUB_AUTO = 0 then
    let l := getF d MemDesc.SCRUB_START_LINE
    let n := getF d MemDesc.SCRUB_LINES
    if n = 0 ∨ 2 ^ 31 < l + n then []
    else (span (l / 2 ^ 24) ((l + n - 1) / 2 ^ 24 + 1 - l / 2 ^ 24)).map (regionName (getF st StepRec.UNIT_INDEX))
  else if getF st StepRec.UNIT_CLASS = 5 ∧ (getF st StepRec.OPCODE = 0x0F01 ∨ getF st StepRec.OPCODE = 0x0F02) then
    (List.range (getF d PassDesc.ENTRIES)).map (fun i =>
      linkName (getF (memNat s (homeOf s (getF d PassDesc.ENTRY_ADDR + 8 * i)) 8) (fld 31 26)))
  else [])

/-- R429: the regions of the rows a REMAP step would take from its stack's queue. A row of a region fenced at the seal is passed over. -/
def remapNames (s : State) (st : Nat) : List Nat :=
  if getF st StepRec.UNIT_CLASS = 9 ∧ getF st StepRec.OPCODE = 2 then
    let k := getF st StepRec.UNIT_INDEX
    ((kget s.mc.remapQueue k []).take (getF (memNat s (homeOf s (getF st StepRec.DESC_ADDR)) 64) MemDesc.REMAP_ROWS)).map
      (fun row => regionName k (row % 2 ^ 17 / 1024))
  else []

/-- R36: does a step name something fenced after the seal of its table? -/
def fencedSince (s : State) (st : Nat) : Bool :=
  (stepNames s st ++ remapNames s st).any (fun x => nameFenced s x && !s.frm.fencedAtSeal.contains x)

/-- R36: does a step name a core, region or link that was fenced, or a core that was under test, at the seal of its table? -/
def namesFenced (s : State) (st : Nat) : Bool :=
  (stepNames s st).any (fun x => x / 256 != 2 && s.frm.fencedAtSeal.contains x)

/-- R35: is the step at a slot one of a planned section that is skipped whole, its table being rejected or not sealed? -/
def slotSkipped (s : State) (slot : Nat) : Bool :=
  decide (getF s.frm.curHdr TableHdr.CYCLIC_COUNT ≤ slot) && (s.frm.mode == .rejected || s.frm.mode == .unsealed)

/-- May the current table's step at a slot run in this frame: the cyclic section always, the planned one only in a whole table
(R35) and after an overlay apply (R46)? -/
def slotRuns (s : State) (slot : Nat) : Bool :=
  decide (slot < getF s.frm.curHdr TableHdr.CYCLIC_COUNT) || (s.frm.mode == .whole && !s.frm.applying)

/-- The events of a step's WAIT_MASK that are not set. -/
def unmetEvents (s : State) (st : Nat) : Nat :=
  (List.range 64).foldl (fun acc i =>
    if bitOf (getF st StepRec.WAIT_MASK) i && !eventMet s (64 * getF st StepRec.WAIT_WINDOW + i) then acc + 2 ^ i else acc) 0

/-- The first step that R32 lets issue now, in merged order: slot and record. An earlier step on a unit that has not completed holds
every later one on it. -/
def nextIssue (s : State) : Option (Nat × Nat) :=
  let rec go (l : List (Nat × Nat)) (busy : List Nat) : Option (Nat × Nat) :=
    match l with
    | [] => none
    | (slot, st) :: t =>
      let u := stepUnit st
      let state := kget s.frm.slotState slot 0
      if state = 2 || slotSkipped s slot then go t busy
      else if state = 1 || busy.contains u || !slotRuns s slot || (flightOn s u).isSome
          || decide (frameClk s < getF st StepRec.START_CLK) || unmetEvents s st != 0 || fencedSince s st then go t (u :: busy)
      else some (slot, st)
  go (mergedSteps s) []

/-- R31: a SEQ step with an opcode other than BARRIER and POST ends with BAD_OP as it issues. -/
def seqBadOp (s : State) : State := finishStep (odInc s OD.SEQ_BAD_OPS) (unitKey 12 0) .untouched

/-- A step issued: its unit is in flight. -/
def issueStep (s : State) (slot st : Nat) : State :=
  let f := { s.frm with
    slotState := kput s.frm.slotState slot 1,
    flights := kput s.frm.flights (stepUnit st) ⟨st, slot, frameNo s, s.clk, false⟩,
    issueClk := s.clk,
    issueCount := if s.frm.issueClk = s.clk then s.frm.issueCount + 1 else 1 }
  { s with frm := f }

/-- STEP_ISSUE (R32): the first eligible step issues; at most 4 in one clk, none during the drain of R39. A step that names a core,
region or link fenced or a core under test at its table's seal is the undefined case U02 (R36). -/
def execStepIssue (s : State) : Res :=
  if framesRun s && !s.frm.draining && !(s.frm.issueClk == s.clk && decide (4 ≤ s.frm.issueCount)) then
    match nextIssue s with
    | none => answer s s
    | some (slot, st) =>
      if namesFenced s st then .fault (.undefinedCase 2)
      else
        let t := issueStep s slot st
        answer s (if getF st StepRec.UNIT_CLASS = 12 ∧ getF st StepRec.OPCODE ≠ 1 ∧ getF st StepRec.OPCODE ≠ 2
          then seqBadOp t else t)
  else answer s s

/-- The SEQ step in flight with an opcode. -/
def seqFlight (s : State) (op : Nat) : Option Flight :=
  match flightOn s (unitKey 12 0) with
  | some f => if getF f.step StepRec.OPCODE = op then some f else none
  | none => none

/-- SEQ_POST (R31): a POST step completes as soon as it issues. -/
def execSeqPost (s : State) : Res :=
  answer s (if (seqFlight s 2).isSome then finishStep s (unitKey 12 0) .done else s)

/-! Health windows (R432, R433) and barriers (R43). -/

/-- R433: which slots a window marks. -/
def suspectSlots (s : State) : Nat :=
  (List.range 32).foldl (fun acc k =>
    if k ≠ ownSlot s ∧ (od s OD.LAST_ARRIVAL_LIMIT < odGet s OD.LAST_ARRIVAL k
        ∨ (od s OD.TIMEOUT_LIMIT ≤ kget s.ft.winMissing k 0 ∧ 0 < kget s.ft.winMissing k 0))
    then acc + 2 ^ k else acc) 0

/-- R432: corrections of the window per stack. -/
def windowCorr (s : State) (k : Nat) : Nat := odGet s OD.OUTER_CORR k - s.ft.winCorr.getD k 0

/-- R432: the flags of the window. -/
def windowFlags (s : State) : Nat :=
  b2n s.ft.winFecWarn
  + 2 * b2n (decide (od s OD.MEM_CORR_WARN < ((List.range 8).map (windowCorr s)).sum))
  + 4 * b2n (decide (0 < s.ft.winBistFail)) + 8 * b2n (decide (0 < s.ft.winChecks))
  + 16 * b2n (decide (0 < s.ft.winWatchdogs))

/-- R432: the health record of the window. -/
def healthRecord (s : State) (suspects : Nat) : Nat :=
  mkRec [(HealthRec.WINDOW, s.ft.window), (HealthRec.FRAME, frameNo s),
    (HealthRec.LAST_COUNTS, ((List.range 32).map (fun k => odGet s OD.LAST_ARRIVAL k % 2 ^ 16 * 2 ^ (16 * k))).sum),
    (HealthRec.TIMEOUTS, s.ft.winTimeouts),
    (HealthRec.MEM_CORR, ((List.range 8).map (fun k => satBits 32 (windowCorr s k) * 2 ^ (32 * k))).sum),
    (HealthRec.UNCORRECTABLE, satBits 32 s.ft.winUncorr), (HealthRec.FEC_MAX, satBits 32 s.ft.winFecMax),
    (HealthRec.FEC_MAX_LINK, s.ft.winFecLink), (HealthRec.RECOVERIES, satBits 16 s.ft.winRecoveries),
    (HealthRec.BIST_PASS, satBits 8 s.ft.winBistPass), (HealthRec.BIST_FAIL, satBits 8 s.ft.winBistFail),
    (HealthRec.CORE_CHECKS, satBits 8 s.ft.winChecks), (HealthRec.WATCHDOGS, satBits 8 s.ft.winWatchdogs),
    (HealthRec.PEER_SUSPECT, suspects)]

/-- R432: a health window begins: every count starts again. -/
def windowOpen (s : State) : State :=
  let corr := (List.range 8).map (odGet s OD.OUTER_CORR)
  let s := odClear s OD.LAST_ARRIVAL
  { s with ft := { s.ft with winBarriers := 0, winTimeouts := 0, winMissing := [], winBistPass := 0, winBistFail := 0, winChecks := 0,
                             winWatchdogs := 0, winUncorr := 0, winFecWarn := false, winFecMax := 0, winFecLink := 0,
                             winRecoveries := 0, winCorr := corr } }

/-- R432, R433: the window closes: its record and flags are written, slots are marked, every count starts again. -/
def healthClose (s : State) : State :=
  let sus := suspectSlots s
  let r := healthRecord s sus
  let s := ringPush s OD.HEALTH_RING r
  let s := telemetry s 6 ((List.range 20).map (fun i => r / 2 ^ (64 * i) % 2 ^ 64))
  let s := odSet (odSet s OD.SELF_FLAGS (windowFlags s)) OD.PEER_SUSPECT sus
  let s := windowOpen s
  { s with ft := { s.ft with window := s.ft.window + 1 } }

/-- HEALTH_WINDOW_CLOSE (R432): after 1,024 barriers. -/
def execHealthWindowClose (s : State) : Res := answer s (if 1024 ≤ s.ft.winBarriers then healthClose s else s)

/-- One more barrier ended; a full window whose close has not run closes first. -/
def barrierCount (s : State) (timeout : Bool) (missing : List Nat) : State :=
  let s := if 1024 ≤ s.ft.winBarriers then healthClose s else s
  let miss := if timeout then missing.foldl (fun m k => kput m k (kget m k 0 + 1)) s.ft.winMissing else s.ft.winMissing
  { s with ft := { s.ft with winBarriers := s.ft.winBarriers + 1,
                             winTimeouts := s.ft.winTimeouts + b2n timeout, winMissing := miss } }

/-- The members of BARRIER_GROUP that have not arrived in this frame. -/
def barrierMissing (s : State) : List Nat :=
  (slotsOf (od s OD.BARRIER_GROUP)).filter (fun k => (kfind s.frm.arrivals k).isNone)

/-- R43: the barrier in flight ends, complete or with TIMEOUT at the tick: the last member to arrive, the lag and the missing slots
are recorded; the last member's count advances where the barrier is complete (R43 does not say whether a TIMEOUT adds to it: log 30). -/
def barrierEnd (s : State) (timeout : Bool) : State :=
  let missing := barrierMissing s
  let s := barrierCount s timeout missing
  let clks := s.frm.arrivals.map Prod.snd
  let lag := clks.foldl max 0 - clks.foldl min (clks.headD 0)
  let s := if timeout then odInc s OD.BARRIER_TIMEOUTS else odAdd s OD.LAST_ARRIVAL s.frm.barrierLast 1
  let s := { s with frm := { s.frm with barrierLag := lag, barrierSent := false,
                                        barrierMissing := (missing.map (2 ^ ·)).sum } }
  finishStep s (unitKey 12 0) .done

/-- R43: a barrier whose members have all arrived ends. -/
def barrierTry (s : State) : State :=
  if (seqFlight s 1).isSome ∧ s.frm.barrierSent ∧ barrierMissing s = [] then barrierEnd s false else s

/-- An arrival of this frame noted; the first from a member stands. -/
def noteArrival (s : State) (slot : Nat) : State :=
  if (kfind s.frm.arrivals slot).isNone ∧ bitOf (od s OD.BARRIER_GROUP) slot then
    { s with frm := { s.frm with arrivals := kput s.frm.arrivals slot s.clk, barrierLast := slot } }
  else s

/-- BARRIER (R43): the step in flight sends an arrival to every device of BARRIER_GROUP; the device's own counts at once. A device
that has lost its tick has withdrawn (R27) and sends none. -/
def execBarrier (s : State) : Res :=
  match seqFlight s 1 with
  | none => answer s s
  | some _ =>
    if s.frm.barrierSent ∨ od s OD.TICK_STATE = 0 then answer s s
    else
      let t := ((slotsOf (od s OD.BARRIER_GROUP)).filter (· != ownSlot s)).foldl
        (fun t k => sendMgmtSlot t 3 k (frameNo t) (leBytes 8 (frameClk t))) s
      let t := noteArrival t (ownSlot s)
      answer s (barrierTry { t with frm := { t.frm with barrierSent := true } })

/-- BARRIER_ARRIVE (R43): a member's arrival for a frame: this one, or one not yet begun, kept until it begins. -/
def execBarrierArrive (slot frame : Nat) (s : State) : Res :=
  answer s (
    if frame = frameNo s then barrierTry (noteArrival s slot)
    else if frameLater frame (frameNo s) then
      { s with frm := { s.frm with earlyArrivals := kput s.frm.earlyArrivals (slot + 32 * frame) s.clk } }
    else s)

end Sys2Proof.Machine
end

