-- ==== Sys2Proof/Machine/Codec.lean ====
section
/-! DEFINITION. Chapter 15: codec blocks, tables, builders and the exchange of built tables.
Choices of the model here, by the assumption log: log 22 (DESIGN CHOICE); log 47 (DEDUCED). -/

namespace Sys2Proof.Machine

/-- R317: the code lengths of a fixed table; table 15 is flat. Every fixed table gives every value a length of 1 to 15. -/
def fixedTable (id : Nat) : List Nat :=
  (List.range 256).map (fun v => if id = 15 then 8 else Config.fixedLength id v % 15 + 1)

/-- A code: the value, its length and its word. -/
structure Code where
  sym : Nat
  len : Nat
  word : Nat
  deriving DecidableEq, Repr

/-- R317: the canonical codes of a table. -/
def canonCodes (lens : List Nat) : List Code :=
  let order := (span 1 15).flatMap (fun n => (lens.zipIdx.filter (fun p => p.1 = n)).map (fun p => (p.2, n)))
  (order.foldl (fun (acc : List Code × Option Code) p =>
    let c : Code := match acc.2 with
      | none => ⟨p.1, p.2, 0⟩
      | some q => ⟨p.1, p.2, (q.word + 1) * 2 ^ (p.2 - q.len)⟩
    (acc.1 ++ [c], some c)) ([], none)).1

/-- The bits of a code word, most significant first. -/
def wordBits (len w : Nat) : List Bool := (List.range len).map (fun i => bitOf w (len - 1 - i))

/-- Bits filled into bytes from bit 0 upward, the last byte padded with zeros (R317). -/
def packBits (bs : List Bool) : List Byte :=
  (List.range (cdiv bs.length 8)).map (fun i =>
    BitVec.ofNat 8 (((List.range 8).map (fun k => b2n (bs.getD (8 * i + k) false) * 2 ^ k)).sum))

/-- The bits of bytes, bit 0 of byte 0 first. -/
def unpackBits (bs : List Byte) : List Bool := bs.flatMap (fun b => (List.range 8).map (bitOf b.toNat))

/-- R317: a stream of bytes entropy-coded; none where a byte has no code. -/
def entropyBits (codes : List Code) : List Byte → Option (List Bool)
  | [] => some []
  | b :: t => match codes.find? (fun c => c.sym == b.toNat) with
    | none => none
    | some c => (entropyBits codes t).map (wordBits c.len c.word ++ ·)

/-- One symbol read from a bit stream. -/
def readSym (codes : List Code) (bits : List Bool) : Option (Nat × List Bool) :=
  (codes.find? (fun c => wordBits c.len c.word == bits.take c.len && decide (c.len ≤ bits.length))).map
    (fun c => (c.sym, bits.drop c.len))

/-- At most `n` symbols read: those read and the bits left; fewer where the bits run out or match no code. -/
def readSyms (codes : List Code) : Nat → List Bool → List Byte × List Bool
  | 0, bits => ([], bits)
  | n + 1, bits => match readSym codes bits with
    | none => ([], bits)
    | some (v, rest) =>
      let r := readSyms codes n rest
      (BitVec.ofNat 8 v :: r.1, r.2)

/-- The bytes of an element size for ELEM (R317). -/
def elemBytes (elem : Nat) : Nat := if elem = 0 then 2 else 4

/-- R317: the high plane of SPLIT mode. -/
def highPlane (e : Nat) (raw : List Byte) : List Byte :=
  (List.range (raw.length / e)).map (fun i => raw.getD (e * i + e - 1) 0)

/-- R317: the low plane of SPLIT mode. -/
def lowPlane (e : Nat) (raw : List Byte) : List Byte :=
  (raw.zipIdx.filter (fun p => !(p.2 % e = e - 1 ∧ p.2 / e < raw.length / e))).map Prod.fst

/-- What a decoder produced: the bytes written from raw offset 0 on, and whether the block ended with LENGTH (R325). -/
structure Decoded where
  bytes : List Byte
  lengthErr : Bool
  deriving DecidableEq, Repr

/-- Do more than 7 bits, or any bit set, remain? -/
def longTail (bits : List Bool) : Bool := decide (7 < bits.length) || bits.any id

/-- R325: a block decoded. -/
def blockDecode (codes : List Code) (mode elem rawLen : Nat) (coded : List Byte) : Decoded :=
  if mode = 0 then ⟨coded.take rawLen, coded.length != rawLen⟩
  else if mode = 1 then
    let r := readSyms codes rawLen (unpackBits coded)
    if r.1.length < rawLen then ⟨r.1, true⟩ else ⟨r.1, longTail r.2⟩
  else
    let e := elemBytes elem
    let q := rawLen / e
    let r := readSyms codes q (unpackBits coded)
    if r.1.length < q then
      ⟨[], true⟩
    else
      let pad := r.2.length % 8
      let low := coded.drop (coded.length - r.2.length / 8)
      let want := rawLen - q
      let out := (List.range rawLen).map (fun i =>
        if i % e = e - 1 ∧ i / e < q then (i, r.1.getD (i / e) 0, true)
        else (i, low.getD (i - min (i / e) q) 0, decide (i - min (i / e) q < low.length)))
      let bytes := (out.takeWhile (fun p => p.2.2)).map (fun p => p.2.1)
      ⟨bytes, (r.2.take pad).any id || low.length != want⟩

/-- CODEC_COUNTS element `i` advanced. -/
abbrev codecCount (s : State) (i : Nat) : State := odAdd s OD.CODEC_COUNTS i 1

/-- A table as 256 lengths of four bits (R320). -/
def packLengths (l : List Nat) : Nat := (l.zipIdx.map (fun p => p.1 % 16 * 2 ^ (4 * p.2))).sum
/-- The 256 lengths of a table message. -/
def unpackLengths (w : Nat) : List Nat := (List.range 256).map (fun v => w / 2 ^ (4 * v) % 16)

/-- The sender's own generation of a built table. -/
def ownTable (s : State) (id gen : Nat) : Option BuiltTable :=
  s.net.codec.tables.find? (fun t => t.id == id && t.gen == gen)

/-- The codec's state replaced. -/
abbrev withCodec (s : State) (c : CodecSt) : State := { s with net := { s.net with codec := c } }

/-- Own built tables changed. -/
def mapTables (s : State) (f : List BuiltTable → List BuiltTable) : State :=
  withCodec s { s.net.codec with tables := f s.net.codec.tables }

/-- R318, R320: the table a BUILT profile uses toward a peer: its last acknowledged generation, else fixed table 0. -/
def builtFor (s : State) (id dev : Nat) : Option BuiltTable :=
  match kfind s.net.codec.peerAcked (dev * 16 + id) with
  | some g => ownTable s id g
  | none => none

/-- R319: bytes counted for a built profile; the last BUILD_BYTES of them are kept. -/
def countBytes (s : State) (id : Nat) (bs : List Byte) : State :=
  let c := s.net.codec
  let all := kget c.recent id [] ++ bs
  let keep := od s OD.BUILD_BYTES
  withCodec s { c with recent := kput c.recent id (all.drop (all.length - keep)),
                       counted := kput c.counted id (kget c.counted id 0 + bs.length) }

/-- A coded block: its header, its bytes, and the built table it references. -/
structure Block where
  hdr : Nat
  bytes : List Byte
  ref : Option (Nat × Nat)
  deriving DecidableEq, Repr

/-- The header of a block (R316). -/
def blockHdr (mode built id gen elem rawLen codedLen : Nat) : Nat :=
  mkRec [(CodecHdr.MODE, mode), (CodecHdr.BUILT, built), (CodecHdr.TABLE_ID, id), (CodecHdr.TABLE_GEN, gen),
    (CodecHdr.ELEM, elem), (CodecHdr.RAW_LEN, rawLen), (CodecHdr.CODED_LEN, codedLen)]

/-- A RAW block (R317). -/
def rawBlock (raw : List Byte) : Block := ⟨blockHdr 0 0 0 0 0 raw.length raw.length, raw, none⟩

/-- R318: bytes coded under profile `p` (number `pid`) toward a device; RAW where coding would not shorten them. `tray`: BUILT is
taken as 0. -/
def blockEncode (s : State) (pid : Nat) (tray : Bool) (dev : Nat) (raw : List Byte) : State × Block :=
  let p := odGet s OD.CODEC_PROFILES pid
  let mode := getF p Profile.MODE
  let built := getF p Profile.BUILT = 1 && !tray
  let elem := getF p Profile.ELEM
  let e := elemBytes elem
  let s := if built then countBytes s pid (if mode = 2 then highPlane e raw else raw) else s
  if mode = 0 ∨ mode = 3 then (codecCount s 0, rawBlock raw)
  else
    let bt := if built then builtFor s pid dev else none
    let lens := match bt with
      | some t => t.lengths
      | none => fixedTable (if built then 0 else getF p Profile.FIXED_ID)
    let plane := if mode = 2 then highPlane e raw else raw
    match entropyBits (canonCodes lens) plane with
    | none => (codecCount (codecCount s 0) 3, rawBlock raw)
    | some bits =>
      let coded := packBits bits ++ (if mode = 2 then lowPlane e raw else [])
      if raw.length ≤ coded.length then (codecCount (codecCount s 0) 3, rawBlock raw)
      else
        let h := match bt with
          | some t => blockHdr mode 1 pid t.gen elem raw.length coded.length
          | none => blockHdr mode 0 (if built then 0 else getF p Profile.FIXED_ID) 0 elem raw.length coded.length
        (codecCount s mode, ⟨h, coded, bt.map (fun t => (t.id, t.gen))⟩)

/-- What a receiver's codec answers for a block (R324, R325). -/
inductive BlockIn where
  | malformed
  | stale
  | ok (d : Decoded)
  deriving DecidableEq, Repr

/-- R324, R325: a received block decoded, from a sending device, its raw length as the message gives it (none: not checked). -/
def blockIn (s : State) (dev : Nat) (hdr : Nat) (bytes : List Byte) (rawLen : Option Nat) : State × BlockIn :=
  let mode := getF hdr CodecHdr.MODE
  if mode > 2 ∨ getF hdr CodecHdr.CODED_LEN ≠ bytes.length
      ∨ rawLen.any (· != getF hdr CodecHdr.RAW_LEN) then (codecCount s 6, .malformed)
  else
    let lens : Option (List Nat) :=
      if mode = 0 then some []
      else if getF hdr CodecHdr.BUILT = 0 then some (fixedTable (getF hdr CodecHdr.TABLE_ID))
      else (s.net.codec.store.find? (fun t => t.dev == dev && t.id == getF hdr CodecHdr.TABLE_ID
        && t.gen == getF hdr CodecHdr.TABLE_GEN)).map (·.lengths)
    match lens with
    | none => (codecCount s 5, .stale)
    | some l =>
      let d := blockDecode (canonCodes l) mode (getF hdr CodecHdr.ELEM) (getF hdr CodecHdr.RAW_LEN) bytes
      (if d.lengthErr then codecCount s 4 else s, .ok d)

/-! Forming a table (R319). -/

/-- The size of a histogram under a table [bits]. -/
def codedSize (counts lens : List Nat) : Nat := ((counts.zip lens).map (fun p => p.1 * p.2)).sum

/-- Is a set of lengths over-subscribed (R321)? -/
def overSubscribed (lens : List Nat) : Bool :=
  decide (2 ^ 15 < ((lens.filter (· != 0)).map (fun n => 2 ^ (15 - n))).sum)

/-- Two weighted sets of values, in ascending weight. -/
def mergeSets (a b : List (Nat × List Nat)) : List (Nat × List Nat) :=
  sortBy (fun x y => decide (x.1 ≤ y.1)) (a ++ b)

/-- Neighbouring sets packed in pairs. -/
def packPairs : List (Nat × List Nat) → List (Nat × List Nat)
  | a :: b :: t => (a.1 + b.1, a.2 ++ b.2) :: packPairs t
  | _ => []

/-- Minimal lengths of at most 15 bits for 256 counts, by merging packages. -/
def minimalLengths (counts : List Nat) : List Nat :=
  let leaves := mergeSets (counts.zipIdx.map (fun p => (p.1, [p.2]))) []
  let top := (List.range 14).foldl (fun acc _ => mergeSets leaves (packPairs acc)) leaves
  let used := (top.take 510).flatMap Prod.snd
  (List.range 256).map (fun v => used.count v)

/-- R319: the builder's table: whichever minimal table it forms. -/
def formTable (recent : List Byte) : List Nat :=
  let counts := (List.range 256).map (fun v => max 1 ((recent.filter (fun b => b.toNat = v)).length))
  let best := minimalLengths counts
  let own := Config.builtLengths counts
  if own.length = 256 ∧ own.all (fun n => decide (0 < n ∧ n < 16)) ∧ overSubscribed own = false
      ∧ codedSize counts own = codedSize counts best then own else best

/-! The exchange of tables (R320 to R323). -/

/-- A table message (R320) to a device. -/
def sendTable (s : State) (kind dev id gen lengths : Nat) : State :=
  sendMgmt s 0x0B dev (frameNo s) (leBytes 144 (mkRec [(TableMsg.KIND, kind), (TableMsg.FROM_DEVICE, ownDevice s),
    (TableMsg.TO_DEVICE, dev), (TableMsg.TABLE_ID, id), (TableMsg.TABLE_GEN, gen), (TableMsg.LENGTHS, lengths)]))

/-- The context of a queue pair (R248, R249), held in device memory. -/
def qpAddr (s : State) (q : Nat) : Nat := od s OD.QP_CONTEXT_BASE + 2048 * q
/-- A queue pair's context. -/
def qpCtx (s : State) (q : Nat) : Nat := mapNat s (qpAddr s q) 128
/-- A field of a queue pair's context. -/
abbrev qpF (s : State) (q : Nat) (f : Fld) : Nat := getF (qpCtx s q) f
/-- A queue pair's context written, in whole lines (R209). -/
def ctxPut (s : State) (q c : Nat) : State := mapPut s (qpAddr s q) 128 c
/-- Fields of a queue pair's context set. -/
def qpSet (s : State) (q : Nat) (l : List (Fld × Nat)) : State := ctxPut s q (setFs (qpCtx s q) l)

/-- The peers that a profile's streams reach: the peers of READY queue pairs that name it (R318). -/
def profilePeers (s : State) (id : Nat) : List Nat :=
  ((s.net.qps.map Prod.fst).filter (fun q => odGet s OD.STREAM_PROFILE q % 16 == id && qpF s q QpCtx.STATE == 2)).map
    (fun q => qpF s q QpCtx.PEER_DEVICE) |>.eraseDups

/-- The frame of a DEF or DROP just sent to each of a list of peers. -/
def sentNow (s : State) (peers : List Nat) : KMap Nat := peers.foldl (fun m d => kput m d (frameNo s)) []

/-- R319, R320: a new generation proposed to every peer of its profile; with no peer it stays unknown to any. -/
def proposeTable (s : State) (id : Nat) (lens : List Nat) : State :=
  let c := s.net.codec
  let gen := (kget c.lastGen id 0 + 1) % 16
  let peers := profilePeers s id
  let t : BuiltTable := ⟨id, gen, lens, 0, [], [], [], peers.map (fun d => (d, 1)), [], false, sentNow s peers⟩
  let s := withCodec s { c with tables := if peers = [] then c.tables else c.tables ++ [t], lastGen := kput c.lastGen id gen }
  peers.foldl (fun s d => sendTable s 1 d id gen (packLengths lens)) (codecCount s 7)

/-- Is a profile a BUILT one? -/
def profileBuilt (s : State) (id : Nat) : Bool := getF (odGet s OD.CODEC_PROFILES id) Profile.BUILT == 1

/-- TABLE_BUILD (R319): the first table of a built profile. -/
def execTableBuild (id : Nat) (s : State) : Res :=
  let c := s.net.codec
  answer s (
    if id < 16 ∧ profileBuilt s id ∧ (kfind c.lastBuild id).isNone ∧ od s OD.BUILD_BYTES ≤ kget c.counted id 0 then
      let s := withCodec s { c with lastBuild := kput c.lastBuild id (frameNo s) }
      proposeTable s id (formTable (kget c.recent id []))
    else s)

/-- TABLE_REBUILD (R319, R320): a later table, proposed where it gains enough and no other generation is being replaced. -/
def execTableRebuild (id : Nat) (s : State) : Res :=
  let c := s.net.codec
  answer s (
    match kfind c.lastBuild id with
    | none => s
    | some f =>
      let mine := c.tables.filter (fun t => t.id == id)
      if id < 16 ∧ profileBuilt s id ∧ od s OD.REBUILD_FRAMES ≤ frameDiff f (frameNo s) ∧ mine.all (fun t => t.state == 1) then
        let s := withCodec s { c with lastBuild := kput c.lastBuild id (frameNo s) }
        let recent := kget c.recent id []
        let lens := formTable recent
        let counts := (List.range 256).map (fun v => (recent.filter (fun b => b.toNat = v)).length)
        match mine with
        | [] => proposeTable s id lens
        | t :: _ =>
          if codedSize counts lens * 1000 + codedSize counts t.lengths * od s OD.REBUILD_GAIN_PM
              ≤ codedSize counts t.lengths * 1000 then proposeTable s id lens else s
      else s)

/-- R320, R322: a proposal every peer has refused leaves nothing behind. -/
def pruneTables (ts : List BuiltTable) : List BuiltTable :=
  ts.filter (fun t => !(t.state == 0 && t.defs.isEmpty && t.acked.isEmpty) && !(t.dropping && t.drops.isEmpty))

/-- R321: a peer has refused a generation: fixed table 0 toward it. -/
def tableRefused (s : State) (dev id gen : Nat) : State :=
  let s := mapTables s (fun ts => pruneTables (ts.map (fun t =>
    if t.id = id ∧ t.gen = gen then { t with refused := t.refused ++ [dev], defs := t.defs.filter (fun p => p.1 != dev) } else t)))
  withCodec s { s.net.codec with peerAcked := kdel s.net.codec.peerAcked (dev * 16 + id) }

/-- TABLE_ACK (R320). -/
def execTableAck (dev id gen : Nat) (s : State) : Res :=
  answer s (
    match ownTable s id gen with
    | none => s
    | some t =>
      if t.state = 2 then s
      else
        let first := t.state = 0
        let s := mapTables s (fun ts => ts.map (fun x =>
          if x.id = id ∧ x.gen = gen then
            { x with acked := if x.acked.contains dev then x.acked else x.acked ++ [dev],
                     defs := x.defs.filter (fun p => p.1 != dev), state := 1 }
          else if x.id = id ∧ first ∧ x.state = 1 then { x with state := 2 } else x))
        withCodec s { s.net.codec with peerAcked := kput s.net.codec.peerAcked (dev * 16 + id) gen })

/-- TABLE_REFUSED (R321). -/
def execTableRefused (dev id gen : Nat) (s : State) : Res :=
  answer s (if (ownTable s id gen).isSome then codecCount (tableRefused s dev id gen) 9 else s)

/-- R323: a table installed in the receiver's store; none where no slot is free. -/
def storeTable (st : List StoredTable) (n : StoredTable) : Option (List StoredTable) :=
  let same := fun (t : StoredTable) => t.dev == n.dev && t.id == n.id
  if st.any (fun t => same t && t.gen == n.gen) then
    some (st.map (fun t => if same t && t.gen == n.gen then n else t))
  else if 2 ≤ (st.filter same).length then
    match st.find? same with
    | some old => some (st.filter (fun t => t != old) ++ [n])
    | none => some (st ++ [n])
  else if 512 ≤ st.length then none
  else some (st ++ [n])

/-- TABLE_DEF (R321, R323). -/
def execTableDef (dev id gen lengths : Nat) (s : State) : Res :=
  let lens := unpackLengths lengths
  answer s (
    if lens.all (· == 0) || overSubscribed lens then codecCount (sendTable s 3 dev id gen 0) 8
    else match storeTable s.net.codec.store ⟨dev, id, gen, lens⟩ with
      | none => codecCount (sendTable s 3 dev id gen 0) 8
      | some st => sendTable (withCodec s { s.net.codec with store := st }) 2 dev id gen 0)

/-- TABLE_DROP (R323). -/
def execTableDrop (dev id gen : Nat) (s : State) : Res :=
  answer s (sendTable (withCodec s { s.net.codec with
    store := s.net.codec.store.filter (fun t => !(t.dev == dev && t.id == id && t.gen == gen)) }) 5 dev id gen 0)

/-- R322: a peer's DROP_ACK, received or counted as such. -/
def dropAcked (s : State) (dev id gen : Nat) : State :=
  mapTables s (fun ts => pruneTables (ts.map (fun t =>
    if t.id = id ∧ t.gen = gen ∧ t.dropping then { t with drops := t.drops.filter (· != dev) } else t)))

/-- DROP_ACK (R322). -/
def execDropAck (dev id gen : Nat) (s : State) : Res := answer s (dropAcked s dev id gen)

/-- TABLE_DEF_RESEND (R321): an unanswered DEF sent again, once a frame to each peer; after the 16th it counts as refused. -/
def execTableDefResend (dev id : Nat) (s : State) : Res :=
  answer s (
    match s.net.codec.tables.find? (fun t => t.id == id && t.state != 2 && t.defs.any (fun p => p.1 == dev)) with
    | none => s
    | some t =>
      if kfind t.lastSend dev = some (frameNo s) then s
      else
        let n := ((t.defs.find? (fun p => p.1 == dev)).getD (dev, 0)).2
        if 16 ≤ n then codecCount (tableRefused s dev id t.gen) 9
        else
          let s := mapTables s (fun ts => ts.map (fun x => if x.id = id ∧ x.gen = t.gen then
            { x with lastSend := kput x.lastSend dev (frameNo s), defs := x.defs.map (fun p => if p.1 = dev then (dev, n + 1) else p) } else x))
          sendTable s 1 dev id t.gen (packLengths t.lengths))

/-- R320: no peer is still coded for with a generation. -/
def noNewPackets (s : State) (t : BuiltTable) : Bool :=
  t.acked.all (fun d => kfind s.net.codec.peerAcked (d * 16 + t.id) != some t.gen)

/-- TABLE_RETIRE (R322). -/
def execTableRetire (id : Nat) (s : State) : Res :=
  answer s (
    match s.net.codec.tables.find? (fun t => t.id == id && t.state == 2 && !t.dropping) with
    | none => s
    | some t =>
      if noNewPackets s t && t.refs.isEmpty then
        let s := t.acked.foldl (fun s d => sendTable s 4 d id t.gen 0) s
        mapTables s (fun ts => pruneTables (ts.map (fun x => if x.id = id ∧ x.gen = t.gen then
          { x with dropping := true, drops := t.acked, lastSend := sentNow s t.acked } else x)))
      else s)

/-- TABLE_DROP_RESEND (R322): an unanswered DROP sent again, once a frame to each peer. -/
def execTableDropResend (dev id : Nat) (s : State) : Res :=
  answer s (
    match s.net.codec.tables.find? (fun t => t.id == id && t.dropping && t.drops.contains dev) with
    | none => s
    | some t =>
      if kfind t.lastSend dev = some (frameNo s) then s
      else
        let s := mapTables s (fun ts => ts.map (fun x =>
          if x.id = id ∧ x.gen = t.gen then { x with lastSend := kput x.lastSend dev (frameNo s) } else x))
        sendTable s 4 dev id t.gen 0)

/-- R322, R323: a device declared dead: its slots are freed, its unanswered DEFs count as refused and its DROPs, sent or to come, as acknowledged. -/
def codecPeerLost (s : State) (dev : Nat) : State :=
  let c := s.net.codec
  let s := withCodec s { c with
    store := c.store.filter (fun t => t.dev != dev),
    peerAcked := c.peerAcked.filter (fun p => p.1 / 16 != dev) }
  mapTables s (fun ts => pruneTables (ts.map (fun t =>
    { t with defs := t.defs.filter (fun p => p.1 != dev), acked := t.acked.filter (· != dev), drops := t.drops.filter (· != dev) })))

/-- R322: a packet's reference to a built table taken. -/
def refTable (s : State) (ref : Option (Nat × Nat)) (q psn : Nat) : State :=
  match ref with
  | none => s
  | some (id, gen) => mapTables s (fun ts => ts.map (fun t =>
      if t.id = id ∧ t.gen = gen then { t with refs := t.refs ++ [(q, psn)] } else t))

/-- R322: the references of packets of queue pair `q` that satisfy `p` end. -/
def unrefTables (s : State) (q : Nat) (p : Nat → Bool) : State :=
  mapTables s (fun ts => ts.map (fun t => { t with refs := t.refs.filter (fun r => !(r.1 == q && p r.2)) }))

end Sys2Proof.Machine
end

