-- ==== Sys2Proof/Machine/Links.lean ====
section
/-! DEFINITION. Chapter 11: links, flit groups, credits, replay, routes, VC0 slots, fencing; and leaving the coherent domain (R297),
which a link loss can cause.
Choices of the model here, by the assumption log: log 42 (DESIGN CHOICE); log 11, 31 (DEDUCED). -/

namespace Sys2Proof.Machine

/-! Leaving the coherent domain. -/

/-- R297: a member enters DOWN: DOMAIN_DOWN to every member, cache and directory discarded, every control-window access answered
DOMAIN_DOWN (status 6), ALERT_N with DOMAIN_DOWN (bit 1). -/
def cohDown (s : State) : State :=
  if od s OD.COH_STATE = 1 then s
  else
    let s := odAdd (odSet s OD.COH_STATE 1) OD.COH_COUNTS 5 1
    let s := ((slotsOf s.fab.members).filter (· != ownSlot s)).foldl
      (fun t k => sendMgmtSlot t 6 k (frameNo t) (leBytes 8 (od t OD.COH_EPOCH))) s
    let ended := s.fab.live.filter (fun a => a.line.isSome)
    let s := { s with fab := { s.fab with
      coh := [], cohAge := [], wb := [], reqs := [], fwds := [], dir := [], dirAge := [], dirWait := [],
      live := s.fab.live.filter (fun a => a.line.isNone),
      results := ended.foldl (fun m a => kput m a.id (6, List.replicate a.len 0)) s.fab.results } }
    alert s 1

/-! One link's state. -/

/-- The state of link `l`. -/
def lnk (s : State) (l : Nat) : LinkSt := kget s.net.links l LinkSt.reset
/-- Link `l` changed. -/
def setLnk (s : State) (l : Nat) (x : LinkSt) : State := { s with net := { s.net with links := kput s.net.links l x } }
/-- LINK_STATE of a link: 0 DISABLED, 1 TRAINING, 2 ACTIVE, 3 RECOVERY, 4 MISWIRED, 5 FENCED. -/
abbrev linkState (s : State) (l : Nat) : Nat := odGet s OD.LINK_STATE l
/-- Is link `l` ACTIVE? -/
def linkActive (s : State) (l : Nat) : Bool := linkState s l == 2
/-- CREDIT_STATE of a link brought up to date: per channel, credits, flits sent and not accepted, the peer's occupancy (R235). -/
def creditView (s : State) (l : Nat) : State :=
  let x := lnk s l
  (List.range 3).foldl (fun t v =>
    let c := x.credits.getD v 0
    let o := x.sentOut.getD v 0
    odPuts t OD.CREDIT_STATE (9 * l + 3 * v) [c, o, x.buf.getD v 0 - c - o]) s

/-- A buffer of link `l` gives up `n` flits of a channel: FREED advances, a VC0 buffer below 64 ends the hold (R235, R236). -/
def freeFlits (s : State) (l vc n : Nat) : State :=
  let x := lnk s l
  if vc = 0 then setLnk s l { x with staging := x.staging - n, hold := x.hold && decide (64 ≤ x.staging - n) }
  else
    let v := vc - 1
    setLnk s l { x with occ := lset x.occ v (x.occ.getD v 0 - n), freed := lset x.freed v ((x.freed.getD v 0 + n) % 4096) }

/-- Flits of VC0 that a link loses: their slots are returned and counted at the end of the frame (R238). -/
def vc0Lose (s : State) (l n : Nat) : State := { s with net := { s.net with vc0Lost := kput s.net.vc0Lost l (kget s.net.vc0Lost l 0 + n) } }

/-- R238: queue pairs whose VC0 flits are lost have their transfers reported undelivered. -/
def vc0Report (s : State) (fs : List Flit) : State :=
  { s with net := { s.net with undelivered := s.net.undelivered ++ (fs.map (fun f => getF f.desc PayDesc.STREAM)).eraseDups } }

/-- What a link discards as it leaves ACTIVE: its unacknowledged groups (a VC0 flit's slot returns at the frame's end), and the chunks
it has received in part or to forward, whose buffers are free again; encrypted parts are INCOMPLETE (R238, R246, R247). The choices of
R240 that named it end. -/
def linkDiscard (s : State) (l : Nat) : State :=
  let x := lnk s l
  let enc := (x.asm.filter (fun p => p.2.any (fun f => getF f.desc PayDesc.ENC == 1))).length
  let sent := fun (vc : Nat) => (x.replay.flatMap (·.flits)).filter (fun f => getF f.desc PayDesc.VC == vc && getF f.desc PayDesc.PAYLOAD == 1)
  let vc2 := sent 2 ≠ []
  let s := vc0Report (vc0Lose (odAdd s OD.DECRYPT_FAILS 2 enc) l (sent 0).length) (sent 0)
  let s := { s with net := { s.net with fixed := s.net.fixed.filter (fun p => p.2 != l) } }
  let s := x.asm.foldl (fun t p => freeFlits t l p.1 p.2.length) s
  let s := freeFlits s l 1 (x.hopping.map List.length).sum
  let s := setLnk s l { lnk s l with replay := [], replayDue := [], nakSeen := none, asm := [], nak := false, sentOut := [0, 0, 0],
                                     txSeq := 0, rxSeq := 0, hopping := [] }
  if vc2 then cohDown s else s

/-- R231, R238: an ACTIVE link enters RECOVERY. -/
def linkRecover (s : State) (l : Nat) : State :=
  let s := linkDiscard s l
  setLnk (odPut s OD.LINK_STATE l 3) l { lnk s l with since := s.clk }

/-- R238: retry is exhausted. -/
def linkExhaust (s : State) (l : Nat) : State := linkRecover (odAdd s OD.EXHAUSTIONS l 1) l

/-- R232: the device's own training record, as it goes out on a link (output kind 17; the bytes' order is the model's): part 0, device,
slot, link, profile, receive buffers of VC1 to VC3. -/
def trainingRecord (s : State) (l : Nat) : List Byte :=
  leBytes 1 0 ++ leBytes 2 (ownDevice s) ++ leBytes 1 (ownSlot s) ++ leBytes 1 l ++ leBytes 1 (od s OD.LINK_PROFILE)
    ++ [512, 128, 32].flatMap (leBytes 2)

/-- R231, R232: a training attempt starts, and the device sends its record. -/
def linkTrain (s : State) (l attempts : Nat) : State :=
  let s := { s with out := s.out ++ [⟨17, l, trainingRecord s l⟩] }
  setLnk (odPut s OD.LINK_STATE l 1) l { lnk s l with attempts := attempts, since := s.clk, tooLong := false }

/-- R235: as a link enters ACTIVE the device reports its own buffers' occupancy and FREED counters of VC1 to VC3 (output kind 18). -/
def creditReport (s : State) (l : Nat) : State :=
  { s with out := s.out ++ [⟨18, l, ((lnk s l).occ ++ (lnk s l).freed).flatMap (leBytes 2)⟩] }

/-- R247: a link fenced: lanes idle, groups discarded, out of every set and route; the fence recorded with cause 8. Its VC0 flits
return at the tick. -/
def linkFence (s : State) (l : Nat) : State :=
  let s := linkDiscard s l
  fenceRecord (odPut s OD.LINK_STATE l 5) 3 l 8

/-- R231: a LINK_ENABLE bit set: a DISABLED link begins to train. -/
def linkEnable (s : State) (l : Nat) : State :=
  let t := odSet s OD.LINK_ENABLE (setBit (od s OD.LINK_ENABLE) l true)
  if linkState s l = 0 then linkTrain t l 0 else t

/-- LINK_ENABLE_SET (R231): in CONFIG or RUN. -/
def execLinkEnableSet (l : Nat) (s : State) : Res :=
  answer s (if l < 64 ∧ (inConfig s || inRun s) then linkEnable s l else s)

/-- R231: a LINK_ENABLE bit cleared. What the link delivered and no command has taken still holds its buffers (R235). -/
def linkDisable (s : State) (l : Nat) : State :=
  let s := odSet s OD.LINK_ENABLE (setBit (od s OD.LINK_ENABLE) l false)
  let s := linkDiscard s l
  let x := lnk s l
  let q := kget x.queue 0 []
  setLnk (odPut (vc0Report (vc0Lose s l q.length) q) OD.LINK_STATE l 0) l
    { LinkSt.reset with occ := x.occ, freed := x.freed, staging := x.staging }

/-- LINK_ENABLE_CLEAR (R231). -/
def execLinkEnableClear (l : Nat) (s : State) : Res := answer s (if l < 64 then linkDisable s l else s)

/-- R233: is the peer of link `l` the one its profile expects? R233 names no device number, so none differs from it (log 42). -/
def peerExpected (s : State) (l part slot link profile : Nat) : Bool :=
  let own := ownSlot s
  if od s OD.LINK_PROFILE = 0 then
    profile == 0 &&
    (if 62 ≤ l then part == 1
     else
       let j := l / 2
       let q := if j < own then j else j + 1
       let j' := if own < q then own else own - 1
       part == 0 && slot == q && link == 2 * j' + l % 2)
  else profile == 1 && part == 2 && slot == l / 8

/-- R235: credits as the receiver's report gives them. -/
def setCredits (x : LinkSt) (bufs occ freed : List Nat) : LinkSt :=
  { x with buf := bufs,
           credits := (List.range 3).map (fun v =>
             bufs.getD v 0 - occ.getD v 0),
           sentOut := [0, 0, 0], freedSeen := freed }

/-- LINK_TRAINED (R231 to R233): the records are exchanged and the delay is measured. The peer's record tells its part (0 DN7860, 1
DN7871 gateway, 2 DN7873 switch), device, slot (a switch: its number), link, profile, buffers of VC1 to VC3, their occupancy and FREED
counters; the delay is in 0.1 ns. -/
def execLinkTrained (l part device slot link profile : Nat) (bufs occ freed : List Nat) (delay : Nat) (s : State) : Res :=
  answer s (
    if l < 64 ∧ linkState s l = 1 then
      let s := odPut s OD.LINK_PEER l (mkRec [(fld 31 19, device), (fld 18 14, slot), (fld 13 8, link), (fld 7 0, part)])
      let s := odPut s OD.LINK_DELAY l (delay % 2 ^ 16)
      if peerExpected s l part slot link profile = false then odPut s OD.LINK_STATE l 4
      else if 2500 < delay then setLnk (odPut s OD.LINK_STATE l 4) l { lnk s l with tooLong := true }
      else creditReport (creditView (setLnk (odPut s OD.LINK_STATE l 2) l (setCredits (lnk s l) bufs occ freed)) l) l
    else s)

/-- TRAINING_TIMEOUT (R231): 100 ms after the attempt's start. -/
def execTrainingTimeout (l : Nat) (s : State) : Res :=
  answer s (
    if l < 64 ∧ linkState s l = 1 ∧ (lnk s l).since + 100000 * usClk ≤ s.clk then
      let s := odAdd s OD.TRAIN_FAILS l 1
      let n := (lnk s l).attempts + 1
      if od s OD.TRAIN_ATTEMPTS ≤ n then linkFence (setLnk s l { lnk s l with attempts := n }) l else linkTrain s l n
    else s)

/-- GROUP_ACK_TIMEOUT (R238): a numbered group unacknowledged 2,500 clk after its first transmission. -/
def execGroupAckTimeout (l : Nat) (s : State) : Res :=
  answer s (if l < 64 ∧ linkActive s l ∧ (lnk s l).replay.any (fun g => decide (g.first + 2500 ≤ s.clk)) then linkExhaust s l else s)

/-- FEC_LOCK_LOST (R231). -/
def execFecLockLost (l : Nat) (s : State) : Res := answer s (if l < 64 ∧ linkActive s l then linkRecover s l else s)

/-- PEER_TRAINING_RECORD (R231): the peer has begun to train again. -/
def execPeerTrainingRecord (l : Nat) (s : State) : Res := answer s (if l < 64 ∧ linkActive s l then linkRecover s l else s)

/-- R231, R247: the recoveries of a link within RECOVERY_WINDOW frames, this one included. -/
def recentRecoveries (s : State) (l : Nat) : List Nat :=
  ((lnk s l).recoveries.filter (fun f => decide (frameDiff f (frameNo s) < od s OD.RECOVERY_WINDOW))) ++ [frameNo s]

/-- RECOVERY_COMPLETE (R231, R235): within 20 µs; the RECOVERY_LIMIT-th recovery of the window fences the link. -/
def execRecoveryComplete (l : Nat) (occ freed : List Nat) (delay : Nat) (s : State) : Res :=
  answer s (
    if l < 64 ∧ linkState s l = 3 ∧ s.clk < (lnk s l).since + 20 * usClk then
      let rec_ := recentRecoveries s l
      let s := odPut (odAdd s OD.RECOVERIES l 1) OD.LINK_DELAY l (delay % 2 ^ 16)
      let s := { s with ft := { s.ft with winRecoveries := s.ft.winRecoveries + 1 } }
      let x := { lnk s l with recoveries := rec_ }
      if od s OD.RECOVERY_LIMIT ≤ rec_.length then linkFence (setLnk s l x) l
      else creditReport (creditView (setLnk (odPut s OD.LINK_STATE l 2) l (setCredits x x.buf occ freed)) l) l
    else s)

/-- RECOVERY_TIMEOUT (R231): not ACTIVE 20 µs after it entered RECOVERY. -/
def execRecoveryTimeout (l : Nat) (s : State) : Res :=
  answer s (if l < 64 ∧ linkState s l = 3 ∧ (lnk s l).since + 20 * usClk ≤ s.clk then linkTrain s l 0 else s)

/-- R247: a FENCE_LINK write. -/
def fenceLinkWrite (s : State) (l : Nat) : State :=
  if linkState s l = 1 ∨ linkState s l = 2 ∨ linkState s l = 3 then linkFence s l else s

/-- FENCE_LINK (R247): bits [5:0] name the link. -/
def execFenceLink (v : Nat) (s : State) : Res := answer s (fenceLinkWrite s (v % 64))

/-! Bytes of a message (R242, R256, R278, R292) and their flits. -/

/-- The tenant's key slot for sending (R245, R402): 0 clear; none where the slot the tenant's record names is not valid for it. -/
def sendSlot (s : State) (tenant : Nat) : Option Nat :=
  let k := recF s OD.TENANTS tenant Tenant.KEY_SLOT
  if k = 0 then some 0
  else if recF s OD.KEY_SLOTS k KeySlot.STATE = 1 ∧ recF s OD.KEY_SLOTS k KeySlot.TENANT = tenant then some k
  else none

/-- Does a queue-pair packet carry a codec block (R316)? -/
def hasBlock (opcode : Nat) : Bool := opcode == 1 || opcode == 2 || opcode == 4

/-- R316: does a message carry a codec block? -/
def hasCodecBlock (m : Msg) : Bool := m.kind == 2 || (m.kind == 1 && hasBlock (getF m.hdr Pkt.OPCODE))

/-- The bytes a message sends before encryption, and the built table they reference: the codec's work done (R244, R316). -/
def messageBytes (s : State) (m : Msg) : State × List Byte × Option (Nat × Nat) :=
  let head := leBytes m.hlen m.hdr
  if m.kind = 1 then
    if hasBlock (getF m.hdr Pkt.OPCODE) then
      let r := blockEncode s (odGet s OD.STREAM_PROFILE m.stream % 16) false m.dest m.data
      (r.1, head ++ leBytes 8 r.2.hdr ++ r.2.bytes, r.2.ref)
    else (s, head ++ m.data, none)
  else if m.kind = 2 then
    if getF m.hdr TrayHdr.OPCODE = 0x44 ∨ getF m.hdr TrayHdr.OPCODE = 0x45 ∨ m.data = [] then
      let b := rawBlock m.data
      (codecCount s 0, head ++ leBytes 8 b.hdr ++ b.bytes, none)
    else
      let r := blockEncode s (od s OD.TRAY_PROFILE % 16) true m.dest m.data
      (r.1, head ++ leBytes 8 r.2.hdr ++ r.2.bytes, none)
  else (s, head ++ m.data, none)

/-- Bytes cut into runs of 256. -/
def cut256 (bs : List Byte) : List (List Byte) := (List.range (cdiv bs.length 256)).map (fun i => (bs.drop (256 * i)).take 256)

/-- The bits of FLIT_CRC: over bits [127:32] of the descriptor and the 256 payload bytes (R229). -/
def flitCrc (desc : Nat) (data : List Byte) : Nat :=
  crc32c (leBytes 12 (desc / 2 ^ 32) ++ data ++ List.replicate (256 - data.length) 0)

/-- A payload position with its CRC. -/
def mkFlit (vc hop enc first pos dest src stream segWord : Nat) (data : List Byte) : Flit :=
  let d := mkRec [(PayDesc.VC, vc), (PayDesc.PAYLOAD, 1), (PayDesc.HOP, hop), (PayDesc.ENC, enc), (PayDesc.SEG_FIRST, first),
    (PayDesc.SEG_POS, pos), (PayDesc.DEST, dest), (PayDesc.SRC, src), (PayDesc.LEN_M1, data.length - 1),
    (PayDesc.STREAM, stream), (PayDesc.SEG_WORD, segWord)]
  ⟨setF d PayDesc.FLIT_CRC (flitCrc d data), data⟩

/-- The flits of a chunk or message: the segment header rides in the first eight flits, or in a flit before them where there are
fewer (R245). -/
def chunkFlits (vc hop dest src stream : Nat) (seg : Option Nat) (bytes : List Byte) : List Flit :=
  let runs := cut256 bytes
  match seg with
  | none => runs.zipIdx.map (fun p => mkFlit vc hop 0 (b2n (p.2 == 0)) p.2 dest src stream 0 p.1)
  | some h =>
    if runs.length < 8 then
      mkFlit vc hop 1 1 0 dest src stream 0 (leBytes 32 h)
        :: runs.zipIdx.map (fun p => mkFlit vc hop 1 0 (p.2 + 1) dest src stream 0 p.1)
    else runs.zipIdx.map (fun p =>
      mkFlit vc hop 1 (b2n (p.2 == 0)) p.2 dest src stream (if p.2 < 8 then h / 2 ^ (32 * p.2) % 2 ^ 32 else 0) p.1)

/-- R245: a chunk encrypted under key slot `k`: the segment header and the ciphertext. -/
def sealChunk (s : State) (k tenant : Nat) (bytes : List Byte) : State × Nat × List Byte :=
  let ctr := kget s.net.segCtr k 0
  let h := mkRec [(SegHdr.COUNTER, ctr), (SegHdr.TENANT, tenant), (SegHdr.KEY_GEN, recF s OD.KEY_SLOTS k KeySlot.GEN),
    (SegHdr.FLITS_M1, cdiv bytes.length 256 - 1)]
  let iv := ownDevice s * 2 ^ 83 + ctr
  let c := Config.gcmSeal (kget s.net.keys k []) iv (h / 2 ^ 128) bytes
  let s := odInc { s with net := { s.net with segCtr := kput s.net.segCtr k (ctr + 1) } } OD.SEGMENTS_ENCRYPTED
  (s, setF h SegHdr.TAG c.2, c.1)

/-! Routes (R233, R240, R279). -/

/-- The tray slot of a receiver, where the part knows it: from training, or under Switched as the tray is made up. -/
def destSlot (s : State) (dest : Nat) : Option Nat :=
  if 8192 ≤ dest then some (dest - 8192)
  else if od s OD.LINK_PROFILE = 1 then Config.traySlotOf dest
  else ((List.range 64).find? (fun l => odGet s OD.LINK_PEER l != 0 && getF (odGet s OD.LINK_PEER l) (fld 7 0) == 0
      && getF (odGet s OD.LINK_PEER l) (fld 31 19) == dest)).map (fun l => getF (odGet s OD.LINK_PEER l) (fld 18 14))

/-- The direct links to a receiver under Mesh-32, ACTIVE ones in ascending order. -/
def directLinks (s : State) (dest : Nat) : List Nat :=
  match destSlot s dest with
  | some k => (linksToSlot s k).filter (fun l => getF (odGet s OD.LINK_PEER l) (fld 7 0) == 0)
  | none => []

/-- R240: the link that VC2, VC3 and datagram traffic to a receiver would be given now. -/
def newLink (s : State) (dest : Nat) : Option Nat :=
  if od s OD.LINK_PROFILE = 0 then
    match destSlot s dest with
    | some _ => (directLinks s dest).head?
    | none => ([62, 63].filter (linkActive s)).head?
  else
    let any := ((List.range 64).filter (linkActive s)).head?
    match destSlot s dest with
    | some t => match ((List.range 8).map (fun k => 8 * k + t % 8)).filter (linkActive s) with
      | l :: _ => some l
      | [] => any
    | none => any

/-- R240: the link of VC2, VC3 and datagram traffic: the one given before, until it leaves ACTIVE. -/
def fixedLink (s : State) (dest : Nat) : Option Nat :=
  match kfind s.net.fixed dest with
  | some l => if linkActive s l then some l else newLink s dest
  | none => newLink s dest

/-- The choice of a link for a receiver is kept. -/
def keepLink (s : State) (dest l : Nat) : State := { s with net := { s.net with fixed := kput s.net.fixed dest l } }

/-- R279: the link of a tray request to a slot at a device offset. -/
def trayLink (s : State) (slot offset : Nat) : Option Nat :=
  if od s OD.LINK_PROFILE = 0 then
    let j := if slot < ownSlot s then slot else slot - 1
    let l := 2 * j + offset / 2 ^ 12 % 2
    if linkActive s l then some l else (linksToSlot s slot).head?
  else
    let l := 8 * (offset / 2 ^ 12 % 8) + slot % 8
    if linkActive s l then some l
    else match ((List.range 8).map (fun k => 8 * k + slot % 8)).filter (linkActive s) with
      | l' :: _ => some l'
      | [] => none

/-- Credits of a channel that no queued flit will spend. -/
def freeCredits (s : State) (l vc : Nat) : Nat :=
  let x := lnk s l
  x.credits.getD (vc - 1) 0 - (kget x.queue vc []).length

/-- R240: the next link of queue pair `q`'s spray set that can take a chunk of `n` flits. -/
def sprayLink (s : State) (q n : Nat) : Option Nat :=
  let set := odGet s OD.SPRAY_SETS (qpF s q QpCtx.SPRAY_SET)
  let last := kget s.net.spray q 63
  ((List.range 64).map (fun i => (last + 1 + i) % 64)).find?
    (fun l => bitOf set l && linkActive s l && decide (n ≤ freeCredits s l 1))

/-- Flits appended to a link's queue. -/
def enqueue (s : State) (l vc : Nat) (fs : List Flit) : State :=
  let x := lnk s l
  setLnk s l { x with queue := kput x.queue vc (kget x.queue vc [] ++ fs) }

/-- R244: the raw and coded bytes a message puts on a link counted. -/
def countCoded (s : State) (l raw coded : Nat) : State :=
  let x := lnk s l
  setLnk s l { x with raw := x.raw + raw, coded := x.coded + coded }

/-! VC0 slots (R41, R42, R236). -/

/-- A scalar RWF entry as it will stand in the next frame (R29, R368): the last write that takes effect at the next boundary. -/
def nextScalar (s : State) (e : Nat) : Nat :=
  let due := s.dct.rwfSealed ++ (if getF s.frm.nextHdr TableHdr.SEALED = 1 then [] else s.dct.rwf)
  match (due.filter (fun w => w.entry == e)).getLast? with
  | some w => leNat w.data
  | none => od s e

/-- R236: a link's VC0 pool for the next frame. -/
def vc0Pool (s : State) : Nat := 15 * (nextScalar s OD.FRAME_PERIOD_CLK * 5 / 256) - nextScalar s OD.VC0_RESERVE_FLITS

/-- The slots of a list granted on a link for a frame. -/
def vc0Sum (l : List Vc0Rec) (link frame : Nat) : Nat :=
  ((l.filter (fun r => r.link == link && r.frame == frame)).map (·.slots)).sum

/-- R268: the first link to a receiver, in ascending order, with `n` granted slots of this frame left. -/
def vc0Link (s : State) (dest n : Nat) : Option Nat :=
  (List.range 64).find? (fun l => s.net.mine.any (fun r => r.link == l && r.peer == dest && r.frame == frameNo s
    && decide (r.filled + n ≤ r.slots)))

/-- `n` slots of a link's grant from a receiver filled. -/
def vc0Fill (s : State) (l dest n : Nat) : State :=
  { s with net := { s.net with mine := s.net.mine.map (fun r =>
      if r.link = l ∧ r.peer = dest ∧ r.frame = frameNo s then { r with filled := r.filled + n } else r) } }

/-- A VC0 record of R254 as a message carries it: frame, link at the granting device, peer, slots ÷ 16. -/
def vc0Rec (frame link peer sixteenths : Nat) : Nat :=
  mkRec [(fld 63 32, frame), (fld 31 26, link), (fld 25 13, peer), (fld 12 0, sixteenths)]

/-- R243: the granting device's name for a local link. -/
def peerLink (s : State) (l : Nat) : Nat :=
  if od s OD.LINK_PROFILE = 0 then getF (odGet s OD.LINK_PEER l) (fld 13 8) else l

/-- The local link that the granting device names `k`. -/
def localLink (s : State) (dev k : Nat) : Option Nat :=
  if od s OD.LINK_PROFILE = 0 then
    (List.range 64).find? (fun l => getF (odGet s OD.LINK_PEER l) (fld 13 8) == k
      && getF (odGet s OD.LINK_PEER l) (fld 31 19) == dev)
  else some k

/-- The PASS step in flight on a port with an opcode. -/
def passFlight (s : State) (port op : Nat) : Option Flight :=
  match flightOn s (unitKey 5 port) with
  | some f => if getF f.step StepRec.OPCODE = op then some f else none
  | none => none

/-- A PASS step ends with a status (R254), which is kept for its port: 0 OK, 4 BAD_OP, 5 a read that met an error response. -/
def passEnd (s : State) (port status : Nat) (how : StepEnd) : State :=
  finishStep { s with net := { s.net with passEnds := kput s.net.passEnds port status } } (unitKey 5 port) how

/-- The 8-byte records a VC0 descriptor names (R254); none where a read meets an error response, at which the step ends (R475). -/
def vc0Records (s : State) (f : Flight) : State × Option (List Nat) :=
  let d := readRec s (stepReader f) (getF f.step StepRec.DESC_ADDR) 64
  if d.2.2.1 ≠ 0 then (d.1, none)
  else (List.range (getF d.2.1 PassDesc.ENTRIES)).foldl (fun (acc : State × Option (List Nat)) i =>
    match acc.2 with
    | none => acc
    | some l =>
      let r := readRec acc.1 (stepReader f) (getF d.2.1 PassDesc.ENTRY_ADDR + 8 * i) 8
      (r.1, if r.2.2.1 = 0 then some (l ++ [r.2.1]) else none)) (d.1, some [])

/-- Records grouped into one message for each device (R41, R242: at most 64 records). -/
def vc0Messages (s : State) (mkind : Nat) (l : List (Nat × Nat)) : State :=
  ((l.map Prod.fst).eraseDups).foldl (fun t d =>
    sendMgmt t mkind d (frameNo t) ((l.filter (fun p => p.1 = d)).flatMap (fun p => leBytes 8 p.2))) s

/-- R41: the requests of a step's records sent and noted. -/
def vc0Ask (s : State) (l : List Nat) : State :=
  let recs := l.map (fun w => (getF w (fld 63 32), getF w (fld 31 26), getF w (fld 25 13), getF w (fld 12 0)))
  let t := vc0Messages s 4 (recs.map (fun p => (p.2.2.1, vc0Rec p.1 (peerLink s p.2.1) p.2.2.1 p.2.2.2)))
  let asks : List Vc0Rec := recs.map (fun p => ⟨p.2.1, p.1, p.2.2.1, 16 * p.2.2.2, 0, false⟩)
  { t with net := { t.net with wanted := t.net.wanted ++ asks } }

/-- VC0_REQUEST (R41): the step in flight on a PASS port asks each receiver for slots of the next frame. -/
def execVc0Request (port : Nat) (s : State) : Res :=
  match passFlight s port 0x0F01 with
  | none => answer s s
  | some f =>
    let r := vc0Records s f
    match r.2 with
    | none => answer s (passEnd r.1 port 5 .unread)
    | some l => answer s (passEnd (vc0Ask r.1 l) port 0 .done)

/-- One grant: at most what was asked, and never above the free slots of the link's pool for the frame (R41). -/
def vc0Give (s : State) (frame link peer slots : Nat) : State × Nat :=
  match s.net.asked.find? (fun r => r.link == link && r.frame == frame && r.peer == peer && !r.answered) with
  | none => (s, 0)
  | some r =>
    let free := vc0Pool s - vc0Sum s.net.given link frame
    let n := if linkActive s link then min (min slots r.slots) free / 16 * 16 else 0
    ({ s with net := { s.net with
        asked := s.net.asked.map (fun x => if x = r then { r with answered := true } else x),
        given := s.net.given ++ [⟨link, frame, peer, n, 0, true⟩] } }, n)

/-- R41: the requests that a step's records name answered, in order. -/
def vc0Answer (s : State) (l : List Nat) : State :=
  let g := l.foldl (fun acc w =>
    let x := vc0Give acc.1 (getF w (fld 63 32)) (getF w (fld 31 26)) (getF w (fld 25 13)) (16 * getF w (fld 12 0))
    (x.1, acc.2 ++ [(getF w (fld 25 13), vc0Rec (getF w (fld 63 32)) (getF w (fld 31 26)) (ownDevice s) (x.2 / 16))]))
    (s, [])
  vc0Messages g.1 5 g.2

/-- VC0_GRANT (R41): the step in flight on a PASS port answers the requests its records name. -/
def execVc0Grant (port : Nat) (s : State) : Res :=
  match passFlight s port 0x0F02 with
  | none => answer s s
  | some f =>
    let r := vc0Records s f
    match r.2 with
    | none => answer s (passEnd r.1 port 5 .unread)
    | some l => answer s (passEnd (vc0Answer r.1 l) port 0 .done)

/-- VC0_REQUEST_RECEIVE (R41): held for the grant step. -/
def execVc0RequestReceive (fromDev frame : Nat) (recs : List Nat) (s : State) : Res :=
  let asks : List Vc0Rec := recs.map (fun w => ⟨getF w (fld 31 26), getF w (fld 63 32), fromDev, 16 * getF w (fld 12 0), 0, false⟩)
  answer s (if frameLater frame (frameNo s + 1) then s else { s with net := { s.net with asked := s.net.asked ++ asks } })

/-- VC0_GRANT_RECEIVE (R41): slots for the next frame; a request that has already counted as granted zero takes nothing. -/
def execVc0GrantReceive (fromDev frame : Nat) (recs : List Nat) (s : State) : Res :=
  answer s (if frameLater frame (frameNo s + 1) then s else
    recs.foldl (fun t w =>
      match localLink t fromDev (getF w (fld 31 26)) with
      | none => t
      | some l =>
        match t.net.wanted.find? (fun r => r.link == l && r.peer == fromDev && r.frame == getF w (fld 63 32) && !r.answered) with
        | none => t
        | some r => { t with net := { t.net with
            wanted := t.net.wanted.map (fun x => if x = r then { r with answered := true } else x),
            mine := t.net.mine ++ [⟨l, r.frame, fromDev, min r.slots (16 * getF w (fld 12 0)), 0, true⟩] } }) s)

/-- VC0_GRANT_DEADLINE (R41): at VC0_GRANT_PM of the period what is unanswered counts as granted zero. -/
def execVc0GrantDeadline (s : State) : Res :=
  answer s (if getF s.frm.curHdr TableHdr.PERIOD_CLK * od s OD.VC0_GRANT_PM ≤ 1000 * frameClk s then
    { s with net := { s.net with wanted := s.net.wanted.map (fun r => { r with answered := true }),
                                 asked := s.net.asked.filter (fun r => r.answered) } }
  else s)

/-- R42: at the end of a frame the slots it did not fill are returned and counted, and its records end. The slots of VC0 flits lost, and
of those still waiting for a link that is not ACTIVE, are returned too (R238, R247). -/
def vc0FrameEnd (s : State) (frame : Nat) : State :=
  let past := fun (r : Vc0Rec) => !frameLater r.frame frame
  let waiting := fun (p : Nat × LinkSt) => if linkActive s p.1 then 0 else (kget p.2.queue 0 []).length
  let lost := s.net.links.foldl (fun m p => kput m p.1 (kget m p.1 0 + waiting p)) s.net.vc0Lost
  let ends := s.net.mine.filter past
  let sums := ends.foldl (fun m r =>
    let x := kget m r.link (0, 0, 0)
    kput m r.link (x.1 + r.slots, x.2.1 + r.filled, x.2.2 + (r.slots - r.filled))) s.net.vc0Sums
  let sums := lost.foldl (fun m p =>
    let x := kget m p.1 (0, 0, 0)
    kput m p.1 (x.1, x.2.1 - min p.2 x.2.1, x.2.2 + min p.2 x.2.1)) sums
  let dropped := s.net.links.flatMap (fun p => if linkActive s p.1 then [] else kget p.2.queue 0 [])
  let s := vc0Report s dropped
  { s with net := { s.net with
      vc0Returned := s.net.vc0Returned + (ends.map (fun r => r.slots - r.filled)).sum + (lost.map Prod.snd).sum,
      vc0Sums := sums, vc0Lost := [],
      mine := s.net.mine.filter (fun r => !past r), given := s.net.given.filter (fun r => !past r),
      asked := s.net.asked.filter (fun r => !past r), wanted := s.net.wanted.filter (fun r => !past r),
      links := s.net.links.map (fun p =>
        (p.1, { p.2 with queue := if linkActive s p.1 then p.2.queue else kdel p.2.queue 0, vc3Sent := 0 })) } }

/-! Wickets (R271) and the order of VC1 packets (R270). -/

/-- A wicket's buckets in sixteenths of a unit. -/
def buckets (s : State) (w : Nat) : Nat × Nat := kget s.net.wicket w (0, 0)
/-- WICKET_STATE: whole units. -/
def setBuckets (s : State) (w c p : Nat) : State :=
  odPuts { s with net := { s.net with wicket := kput s.net.wicket w (c, p) } } OD.WICKET_STATE (2 * w) [c / 16, p / 16]

/-- R271: the colour of a demand of `n` units: 0 GREEN, 1 YELLOW, 2 RED. -/
def wicketColour (s : State) (w n : Nat) : Nat :=
  let b := buckets s w
  if 16 * n ≤ b.1 ∧ 16 * n ≤ b.2 then 0 else if 16 * n ≤ b.2 then 1 else 2

/-- R271: a demand judged GREEN or YELLOW debits its buckets. -/
def wicketDebit (s : State) (w n : Nat) : State :=
  let b := buckets s w
  match wicketColour s w n with
  | 0 => setBuckets s w (b.1 - 16 * n) (b.2 - 16 * n)
  | 1 => setBuckets s w b.1 (b.2 - 16 * n)
  | _ => s

/-- R271: one fill step of a wicket: a sixteenth of CIR and PIR, capped. -/
def wicketFill (s : State) (w : Nat) : State :=
  let b := buckets s w
  let r := odGet s OD.WICKETS w
  setBuckets s w (min (b.1 + getF r Wicket.CIR) (16 * getF r Wicket.CBS)) (min (b.2 + getF r Wicket.PIR) (16 * getF r Wicket.PBS))

/-- WICKET_FILL (R271): every 64 clk from entry to RUN. -/
def execWicketFill (s : State) : Res :=
  answer s (if inRun s ∧ s.net.wicketClk + 64 ≤ s.clk then
    (List.range 4096).foldl wicketFill { s with net := { s.net with wicketClk := s.net.wicketClk + 64 } }
  else s)

/-- R272: a wicket's buckets set as its record's RESET_FULL selects. -/
def wicketReset (s : State) (w : Nat) : State :=
  let r := odGet s OD.WICKETS w
  if getF r Wicket.RESET_FULL = 1 then setBuckets s w (16 * getF r Wicket.CBS) (16 * getF r Wicket.PBS) else setBuckets s w 0 0

/-- Queue pair `q`'s engine state. -/
def qpSt (s : State) (q : Nat) : QpSt := kget s.net.qps q QpSt.reset
/-- Queue pair `q`'s engine state replaced. -/
def setQpSt (s : State) (q : Nat) (x : QpSt) : State := { s with net := { s.net with qps := kput s.net.qps q x } }

/-- The key slot a packet is encrypted under (R245): 0 clear; none where its tenant's slot is not valid for it (R402). An ACK or NAK of a
tenant whose slot is not valid travels clear, since R266 has it sent (log 42). -/
def msgSlot (s : State) (m : Msg) : Option Nat :=
  if m.kind = 1 then
    if getF m.hdr Pkt.OPCODE = 7 ∨ getF m.hdr Pkt.OPCODE = 8 then some ((sendSlot s m.tenant).getD 0) else sendSlot s m.tenant
  else some 0

/-- R407: IN_FLIGHT of a key slot counted again. -/
def syncKey (s : State) (k : Nat) : State :=
  if k = 0 then s
  else recSet s OD.KEY_SLOTS k
    [(KeySlot.IN_FLIGHT, (s.net.qps.map (fun p => (p.2.sent.filter (fun x => x.slot == k)).length)).sum)]

/-- Is a packet a request, which takes sequence numbers: SEND, WRITE, READ_REQ, ATOMIC? -/
def isRequest (m : Msg) : Bool :=
  m.kind == 1 && (getF m.hdr Pkt.OPCODE == 1 || getF m.hdr Pkt.OPCODE == 2 || getF m.hdr Pkt.OPCODE == 3 || getF m.hdr Pkt.OPCODE == 5)

/-- R274, R407: a packet that leaves counted: its data bytes, and the slot of a request's sequence number. -/
def notePacket (s : State) (m : Msg) (slot : Nat) : State :=
  if m.kind = 1 then
    let s := odAdd s OD.QP_USAGE (3 * m.stream) m.data.length
    if isRequest m then
      let x := qpSt s m.stream
      syncKey (setQpSt s m.stream { x with sent := x.sent.map (fun p =>
        if p.psn = getF m.hdr Pkt.PSN then { p with slot := slot } else p) }) slot
    else s
  else s

/-- The flits a message takes on the wire, its coding and encryption included. -/
def wireFlits (s : State) (m : Msg) : Nat :=
  let n := cdiv (messageBytes s m).2.1.length 256
  if (msgSlot s m).getD 0 ≠ 0 ∧ n < 8 then n + 1 else n

/-- A message given to a link: coded, encrypted where its tenant's slot asks for it (R244, R245), cut into flits and queued. -/
def putOnLink (s : State) (m : Msg) (l : Nat) : State :=
  let r := messageBytes s m
  let s := refTable r.1 r.2.2 m.stream (getF m.hdr Pkt.PSN)
  let d := destDevice s m.dest
  let s := d.2
  let hop := b2n (m.vc = 1 ∧ m.kind = 1 ∧ od s OD.LINK_PROFILE = 0 ∧ (directLinks s m.dest).contains l = false ∧ l < 62)
  let slot := (msgSlot s m).getD 0
  let s := notePacket s m slot
  let s := if hasCodecBlock m then countCoded s l m.data.length (r.2.1.length - m.hlen - 8) else s
  if slot = 0 then enqueue s l m.vc (chunkFlits m.vc hop d.1 (ownDevice s) m.stream none r.2.1)
  else
    let e := sealChunk s slot m.tenant r.2.1
    enqueue e.1 l m.vc (chunkFlits m.vc hop d.1 (ownDevice s) m.stream (some e.2.1) e.2.2)

/-- The link a message that is not a packet of R270's order can take now. A packet whose key slot is not valid goes nowhere. -/
def plainLink (s : State) (m : Msg) : Option Nat :=
  if (msgSlot s m).isNone then none
  else if m.kind = 2 then
    match destSlot s m.dest with
    | some k => trayLink s k (getF m.hdr TrayHdr.OFFSET)
    | none => none
  else if m.kind = 1 then
    if m.vc = 0 then vc0Link s m.dest (wireFlits s m) else sprayLink s m.stream (wireFlits s m)
  else fixedLink s m.dest

/-- Is a message one that R270 orders by level and round robin: a VC1 packet other than ACK and NAK? -/
def ordered (m : Msg) : Bool := m.kind == 1 && m.vc == 1 && getF m.hdr Pkt.OPCODE != 7 && getF m.hdr Pkt.OPCODE != 8

/-- The messages that wait, without the first equal to `m`. -/
def dropTx (s : State) (m : Msg) : State := { s with txq := s.txq.erase m }

/-- R270: the first waiting packet of each queue pair, with its level: PRIORITY, 0 for YELLOW; a RED one is held. -/
def drrHeads (s : State) : List (Nat × Nat × Msg) :=
  let qs := ((s.txq.filter ordered).map (·.stream)).eraseDups
  qs.filterMap (fun q =>
    match s.txq.find? (fun m => ordered m && m.stream == q) with
    | none => none
    | some m =>
      let n := wireFlits s m
      if (sprayLink s q n).isNone ∨ (msgSlot s m).isNone then none
      else if qpF s q QpCtx.WICKET_EN = 1 then
        match wicketColour s (qpF s q QpCtx.WICKET) (4 * n) with
        | 0 => some (q, qpF s q QpCtx.PRIORITY, m)
        | 1 => some (q, 0, m)
        | _ => none
      else some (q, qpF s q QpCtx.PRIORITY, m))

/-- Deficit round robin at one level: from the queue pair served last, each on its turn gains its quantum, until one's deficit covers
its first packet. `fuel` bounds the turns: a quantum is at least 64 bytes and a packet at most 17 flits. -/
def drrPick : Nat → State → List (Nat × Nat × Msg) → Option Nat → Option (State × Nat × Msg)
  | 0, _, _, _ => none
  | n + 1, s, heads, cur =>
    let cost := fun (m : Msg) => 256 * wireFlits s m
    let next := fun (s : State) (c : Nat) =>
      match (heads.map Prod.fst).filter (fun q => decide (c < q)) with
      | q :: _ => (s, q)
      | [] => (s, ((heads.map Prod.fst).headD 0))
    match cur.bind (fun q => heads.find? (fun h => h.1 == q)) with
    | some h =>
      if cost h.2.2 ≤ (qpSt s h.1).deficit then
        some (setQpSt s h.1 { qpSt s h.1 with deficit := (qpSt s h.1).deficit - cost h.2.2 }, h.1, h.2.2)
      else
        let q := (next s h.1).2
        drrPick n (setQpSt s q { qpSt s q with deficit := (qpSt s q).deficit + 64 * qpF s q QpCtx.QUANTUM }) heads (some q)
    | none =>
      let q := (next s (cur.getD 65536)).2
      drrPick n (setQpSt s q { qpSt s q with deficit := (qpSt s q).deficit + 64 * qpF s q QpCtx.QUANTUM }) heads (some q)

/-- R270: the packet to send next, of the highest level that has one. -/
def drrNext (s : State) : Option (State × Nat × Msg) :=
  let heads := drrHeads s
  match heads.foldl (fun m h => max m (h.2.1 + 1)) 0 with
  | 0 => none
  | lv + 1 =>
    let here := sortBy (fun a b => decide (a.1 ≤ b.1)) (heads.filter (fun h => h.2.1 = lv))
    drrPick (80 * (here.length + 1)) s here (kfind s.net.turn lv) |>.map (fun r =>
      ({ r.1 with net := { r.1.net with turn := kput r.1.net.turn lv r.2.1 } }, r.2))

/-- R271, R272: packets that a wicket holds counted, each once. -/
def countHeld (s : State) : State :=
  ((s.txq.filter ordered).map (·.stream)).eraseDups.foldl (fun t q =>
    match t.txq.find? (fun m => ordered m && m.stream == q) with
    | none => t
    | some m =>
      let key := (q, getF m.hdr Pkt.PSN)
      if qpF t q QpCtx.WICKET_EN = 1 ∧ wicketColour t (qpF t q QpCtx.WICKET) (4 * wireFlits t m) = 2
          ∧ t.net.redHeld.contains key = false then
        odInc { t with net := { t.net with redHeld := t.net.redHeld ++ [key] } } OD.WICKET_HOLDS
      else t) s

/-- R42: at a tick the VC0 packets that still wait take their granted slots of the frame that ends: they land in them, late. -/
def vc0Carry (s : State) : State :=
  (s.txq.filter (fun m => m.vc == 0)).foldl (fun t m =>
    match plainLink t m with
    | some l => putOnLink (vc0Fill (dropTx t m) l m.dest (wireFlits t m)) m l
    | none => t) s

/-- R240: after a message has been given a link, what the next choice looks back at: the link its queue pair used, or the receiver's. -/
def noteLink (s : State) (m : Msg) (l : Nat) : State :=
  if m.kind = 1 ∧ m.vc = 1 then { s with net := { s.net with spray := kput s.net.spray m.stream l } }
  else if m.kind = 1 ∨ m.kind = 2 then s
  else keepLink s m.dest l

/-- Messages moved from the waiting list to the links' queues, as many as find a link: first those that R270 does not order and ACK
and NAK, oldest first, then R270's packets. -/
def scheduleTx : Nat → State → State
  | 0, s => s
  | n + 1, s =>
    match s.txq.find? (fun m => !ordered m && (plainLink s m).isSome) with
    | some m =>
      match plainLink s m with
      | some l =>
        let s1 := dropTx s m
        let s2 := if m.vc = 0 then vc0Fill s1 l m.dest (wireFlits s m) else s1
        scheduleTx n (noteLink (putOnLink s2 m l) m l)
      | none => s
    | none =>
      match drrNext s with
      | none => s
      | some (t, q, m) =>
        match sprayLink t q (wireFlits t m) with
        | none => s
        | some l =>
          let w := qpF t q QpCtx.WICKET
          let t1 := if qpF t q QpCtx.WICKET_EN = 1 then wicketDebit t w (4 * wireFlits t m) else t
          let t2 := putOnLink (dropTx t1 m) m l
          let t3 := { t2 with net := { t2.net with
            spray := kput t2.net.spray q l,
            redHeld := t2.net.redHeld.erase (q, getF m.hdr Pkt.PSN) } }
          let t4 := if t3.txq.any (fun x => ordered x && x.stream == q) then t3
            else setQpSt t3 q { qpSt t3 q with deficit := 0 }
          scheduleTx n t4

/-! Sending a group (R229, R234, R237). -/

/-- An idle position. -/
def idleFlit : Flit := ⟨setF 0 PayDesc.FLIT_CRC (flitCrc 0 []), []⟩

/-- What the next group may take from one channel's queue: at most `room` flits, and at most its credits. -/
def takeFlits (x : LinkSt) (vc room cap : Nat) : List Flit :=
  let lim := if vc = 0 then (if x.peerHold then 0 else room) else min room (x.credits.getD (vc - 1) 0)
  (kget x.queue vc []).take (min lim cap)

/-- Flits taken from a channel's queue, their credits spent (R235). -/
def spendFlits (x : LinkSt) (vc n : Nat) : LinkSt :=
  let x := { x with queue := kput x.queue vc ((kget x.queue vc []).drop n) }
  if vc = 0 then x
  else
    let v := vc - 1
    { x with credits := lset x.credits v (x.credits.getD v 0 - n), sentOut := lset x.sentOut v (x.sentOut.getD v 0 + n),
             vc3Sent := if vc = 3 then x.vc3Sent + n else x.vc3Sent }

/-- The flits of the next group in order of priority (R234), and the link after they have been taken. -/
def nextFlits (x : LinkSt) (cap3 : Nat) : LinkSt × List Flit :=
  [(3, cap3 - x.vc3Sent), (0, 15), (2, 15), (1, 15), (3, 15)].foldl (fun (acc : LinkSt × List Flit) p =>
    let fs := takeFlits acc.1 p.1 (15 - acc.2.length) p.2
    (spendFlits acc.1 p.1 fs.length, acc.2 ++ fs)) (x, [])

/-- A control flit header with its CRC over header and descriptors (R229). -/
def ctrlHeader (s : State) (l gseq : Nat) (replay : Bool) (flits : List Flit) : State × Nat :=
  let x := lnk s l
  let off := match x.mark with
    | some t => if replay then none else if 16 * (s.clk - t) ≤ 819 then some (16 * (s.clk - t)) else none
    | none => none
  let h := mkRec [(CtlFlit.GSEQ, gseq), (CtlFlit.ACK_GSEQ, (x.rxSeq + 1023) % 1024), (CtlFlit.NAK, b2n x.nak),
    (CtlFlit.REPLAY, b2n replay), (CtlFlit.TICK, b2n off.isSome), (CtlFlit.TICK_OFFSET, off.getD 0), (CtlFlit.VC0_HOLD, b2n x.hold),
    (CtlFlit.VC1_FREED, x.freed.getD 0 0), (CtlFlit.VC2_FREED, x.freed.getD 1 0), (CtlFlit.VC3_FREED, x.freed.getD 2 0)]
  let crc := crc32c (leBytes 16 h ++ flits.flatMap (fun f => leBytes 16 f.desc))
  (setLnk s l { x with mark := if replay then x.mark else none }, setF h CtlFlit.CTRL_CRC crc)

/-- A group put on the wire: its control flit and payload bytes are what the part sends (output kind 16, the link's number). -/
def emitGroup (s : State) (l gseq : Nat) (replay : Bool) (flits : List Flit) : State :=
  let full := flits ++ List.replicate (15 - flits.length) idleFlit
  let h := ctrlHeader s l gseq replay full
  { h.1 with out := h.1.out ++ [⟨16, l, leBytes 16 h.2 ++ full.flatMap (fun f => leBytes 16 f.desc)
      ++ full.flatMap (fun f => f.data ++ List.replicate (256 - f.data.length) 0)⟩] }

/-- R229, R237: the next group of an ACTIVE link: a replay that is due, an idle group where 64 are unacknowledged or nothing waits,
else the next numbered group. -/
def sendGroup (s : State) (l : Nat) : State :=
  let x := lnk s l
  match x.replayDue with
  | g :: rest =>
    match x.replay.find? (fun r => r.gseq == g) with
    | some r =>
      let y := x.replay.map (fun y => if y.gseq = g then { y with sends := y.sends + 1 } else y)
      let s := setLnk s l { x with replayDue := rest, replay := y, nakSeen := if rest = [] then none else x.nakSeen }
      emitGroup (odAdd s OD.GROUPS_REPLAYED l 1) l g true r.flits
    | none => setLnk s l { x with replayDue := rest, nakSeen := if rest = [] then none else x.nakSeen }
  | [] =>
    if 64 ≤ x.replay.length then emitGroup (odAdd s OD.REPLAY_FULL l 1) l ((x.txSeq + 1023) % 1024) false []
    else
      let r := nextFlits x (od s OD.VC3_CAP_FLITS)
      if r.2 = [] then emitGroup s l ((x.txSeq + 1023) % 1024) false []
      else
        let y := { r.1 with txSeq := (x.txSeq + 1) % 1024, replay := x.replay ++ [⟨x.txSeq, r.2, 1, s.clk⟩] }
        emitGroup (creditView (setLnk s l y) l) l x.txSeq false r.2

/-- FLIT_GROUP_SEND (R229). A packet of a queue pair whose QUANTUM is 0 that is to be ordered by R270 is the undefined case U07. -/
def execFlitGroupSend (l : Nat) (s : State) : Res :=
  if l < 64 ∧ linkActive s l then
    if (s.txq.filter ordered).any (fun m => qpF s m.stream QpCtx.QUANTUM == 0) then .fault (.undefinedCase 7)
    else answer s (sendGroup (countHeld (scheduleTx s.txq.length s)) l)
  else answer s s

/-! Receiving a group (R230, R235, R237, R241, R246). -/

/-- The payload of a group as received: descriptor and 256 bytes a position. -/
def posFlit (desc : Nat) (bytes : List Byte) : Flit := ⟨desc, bytes.take (getF desc PayDesc.LEN_M1 + 1)⟩

/-- The bytes of flits in order. -/
def flitBytes (fs : List Flit) : List Byte := fs.flatMap (·.data)

/-- R245: is a segment's header in a flit of its own, before the data? -/
def headFlit (fs : List Flit) : Bool :=
  match fs with
  | f :: _ => getF f.desc PayDesc.ENC == 1 && f.data.length == 32
  | [] => false

/-- R245: the segment header of the flits of an encrypted chunk. -/
def segHeader (fs : List Flit) : Nat :=
  if headFlit fs then leNat (flitBytes (fs.take 1))
  else ((fs.take 8).zipIdx.map (fun p => getF p.1.desc PayDesc.SEG_WORD * 2 ^ (32 * p.2))).sum

/-- The bytes an unencrypted chunk or message will have, as its first bytes tell (R242, R256, R278, R190). -/
def messageLength (vc : Nat) (fs : List Flit) : Nat :=
  let bs := flitBytes fs
  if vc = 2 then bs.length
  else
    let h := leNat (bs.take 32)
    if vc = 3 then 32 + getF h MgmtHdr.PAYLOAD_BYTES
    else
      let op := getF h Pkt.OPCODE
      let block := 40 + getF (leNat ((bs.drop 32).take 8)) CodecHdr.CODED_LEN
      if op = 3 ∨ op = 7 ∨ op = 8 then 32 else if op = 5 then 48 else if op = 6 then 40
      else if (1 ≤ op ∧ op ≤ 4) ∨ (0x40 ≤ op ∧ op ≤ 0x45) then block
      else bs.length

/-- Are all flits of a chunk or message in? -/
def chunkWhole (vc : Nat) (fs : List Flit) : Bool :=
  match fs with
  | [] => false
  | f :: _ =>
    if getF f.desc PayDesc.ENC = 1 then
      if headFlit fs then decide (getF (segHeader fs) SegHdr.FLITS_M1 + 2 ≤ fs.length)
      else decide (8 ≤ fs.length) && decide (getF (segHeader fs) SegHdr.FLITS_M1 + 1 ≤ fs.length)
    else decide (messageLength vc fs ≤ (flitBytes fs).length)

/-- R266: NAK KEY_REVOKED to the queue pair that a discarded segment's flits name. It travels clear (log 42): the key is no longer held
and no queue pair of this device is named. -/
def nakRevoked (s : State) (dev stream : Nat) : State :=
  send s { vc := 1, kind := 1, dest := dev, hdr := mkRec [(Pkt.OPCODE, 8), (Pkt.DEST_QP, stream), (Pkt.STATUS, 13)],
           hlen := 32, data := [], stream := 0, tenant := 4096 }

/-- What kind of message a chunk's bytes are, with its header's length: 1 packet, 2 tray, 4 clasp datagram (R190, R256, R278). -/
def chunkKind (bs : List Byte) : Nat × Nat :=
  let op := getF (leNat (bs.take 32)) Pkt.OPCODE
  if 1 ≤ op ∧ op ≤ 8 then (1, 32) else if 0x40 ≤ op ∧ op ≤ 0x45 then (2, 32) else (4, 64)

/-- A whole message delivered: it waits, with the buffer it holds, for the command that handles it. -/
def deliver (s : State) (l n : Nat) (m : Msg) : State := { s with net := { s.net with rxq := s.net.rxq ++ [⟨l, m, n⟩] } }

/-- R242: may a management message be taken: a known kind, a payload of that kind's length, this device as receiver? -/
def mgmtOk (s : State) (h : Nat) : Bool :=
  let k := getF h MgmtHdr.MKIND
  let n := getF h MgmtHdr.PAYLOAD_BYTES
  getF h MgmtHdr.TO_DEVICE == ownDevice s &&
  (if k = 2 ∨ k = 8 then n == 0
   else if k = 1 ∨ k = 3 ∨ k = 6 ∨ k = 7 then n == 8
   else if k = 4 ∨ k = 5 then n % 8 == 0 && decide (8 ≤ n) && decide (n ≤ 512)
   else if k = 9 then decide (32 ≤ n) && decide (n ≤ 4064) else if k = 0xA then decide (16 ≤ n) && decide (n ≤ 4064) else if k = 0xB then n == 144 else false)

/-- A chunk or message whose flits are all in: forwarded, decrypted, delivered or discarded. A management message leaves its buffer as
it arrives, for the command that handles it. -/
def chunkArrived (s : State) (l vc : Nat) (fs : List Flit) : State :=
  match fs with
  | [] => s
  | f :: _ =>
    let n := fs.length
    let dest := getF f.desc PayDesc.DEST
    let src := getF f.desc PayDesc.SRC
    let stream := getF f.desc PayDesc.STREAM
    if vc = 1 ∧ getF f.desc PayDesc.HOP = 1 then
      if od s OD.LINK_PROFILE = 0 ∧ directLinks s dest ≠ [] then
        let x := lnk s l
        setLnk s l { x with hopping := x.hopping ++ [fs] }
      else freeFlits (odInc s OD.MISROUTED) l vc n
    else if vc ≤ 1 ∧ dest ≠ ownDevice s then freeFlits (odInc s OD.MISROUTED) l vc n
    else if vc = 3 then
      let bs := flitBytes fs
      let h := leNat (bs.take 32)
      freeFlits (if mgmtOk s h then s else odInc s OD.MGMT_DISCARDS) l vc n
    else if vc = 2 then
      let bs := flitBytes fs
      deliver s l n ⟨2, 3, src, leNat (bs.take 32), 32, bs.drop 32, 0, 4096⟩
    else if getF f.desc PayDesc.ENC = 1 then
      let h := segHeader fs
      let body := flitBytes (if headFlit fs then fs.drop 1 else fs)
      let ten := getF h SegHdr.TENANT
      let k := recF s OD.TENANTS ten Tenant.KEY_SLOT
      if recF s OD.KEY_SLOTS k KeySlot.STATE ≠ 1 ∨ recF s OD.KEY_SLOTS k KeySlot.GEN ≠ getF h SegHdr.KEY_GEN then
        nakRevoked (freeFlits (odAdd s OD.DECRYPT_FAILS 0 1) l vc n) src stream
      else match Config.gcmOpen (kget s.net.keys k []) (src * 2 ^ 83 + getF h SegHdr.COUNTER) (h / 2 ^ 128) body (getF h SegHdr.TAG) with
        | none => freeFlits (odAdd s OD.DECRYPT_FAILS 1 1) l vc n
        | some bs =>
          let k := chunkKind bs
          deliver s l n ⟨vc, k.1, src, leNat (bs.take k.2), k.2, bs.drop k.2, stream, ten⟩
    else
      let bs := flitBytes fs
      let k := chunkKind bs
      deliver s l n ⟨vc, k.1, src, leNat (bs.take k.2), k.2, bs.drop k.2, stream, 4096⟩

/-- One payload flit of an accepted group: buffered with its channel's chunk, which is handled once whole. A flit whose chunk's first
flit was lost, and what a new chunk finds unfinished, are discarded (R238); a management message that its flits cut short of its
PAYLOAD_BYTES, or whose header is not to be taken, is counted (R242). -/
def flitArrived (s : State) (l : Nat) (f : Flit) : State :=
  if getF f.desc PayDesc.PAYLOAD = 0 then s
  else
    let vc := getF f.desc PayDesc.VC
    let first := getF f.desc PayDesc.SEG_FIRST = 1 ∨ vc = 2
    let had := kget (lnk s l).asm vc []
    let s := if first then freeFlits s l vc had.length else s
    let s := if first ∧ vc = 3 ∧ had ≠ [] then odInc s OD.MGMT_DISCARDS else s
    let fs := (if first then [] else had) ++ [f]
    let x := lnk s l
    let x := if vc = 0 then { x with staging := x.staging + 1 }
      else { x with occ := lset x.occ (vc - 1) (x.occ.getD (vc - 1) 0 + 1) }
    let holds := vc = 0 ∧ 96 ≤ x.staging ∧ x.hold = false
    let s := if holds then odAdd s OD.VC0_HOLDS l 1 else s
    let x := if holds then { x with hold := true } else x
    if ¬ first ∧ had = [] then freeFlits (setLnk s l x) l vc 1
    else if vc = 3 ∧ mgmtOk s (leNat ((flitBytes fs).take 32)) = false then
      freeFlits (odInc (setLnk s l { x with asm := kdel x.asm vc }) OD.MGMT_DISCARDS) l vc fs.length
    else if chunkWhole vc fs then chunkArrived (setLnk s l { x with asm := kdel x.asm vc }) l vc fs
    else setLnk s l { x with asm := kput x.asm vc fs }

/-- R239: the tick mark of a control flit on the link a device takes its tick from: the tick's time [0.01 ns], from the time the flit became
available, less 2.56 ns, less the link's delay, less TICK_OFFSET. -/
def takeMark (s : State) (l h : Nat) : State :=
  if getF h CtlFlit.TICK = 1 ∧ od s OD.TICK_SOURCE = 1 ∧ od s OD.TICK_LINK = l then
    { s with frm := { s.frm with
        markTick := some (80 * (s.clk : Int) - 256 - 10 * odGet s OD.LINK_DELAY l - 5 * getF h CtlFlit.TICK_OFFSET) } }
  else s

/-- R230, R235, R237: acknowledgement, credits, hold, NAK and tick mark of a control flit taken. -/
def takeControl (s0 : State) (l h : Nat) : State :=
  let s := takeMark s0 l h
  let x := lnk s l
  let ack := getF h CtlFlit.ACK_GSEQ
  let out := x.replay.takeWhile (fun g => (ack + 1024 - g.gseq) % 1024 < 512)
  let gone := fun (vc : Nat) => (out.flatMap (·.flits)).countP (fun f => getF f.desc PayDesc.VC == vc)
  let freed := [getF h CtlFlit.VC1_FREED, getF h CtlFlit.VC2_FREED, getF h CtlFlit.VC3_FREED]
  let x := { x with
    replay := x.replay.drop out.length,
    replayDue := x.replayDue.filter (fun g => !(out.any (fun r => r.gseq == g))),
    sentOut := (List.range 3).map (fun v => x.sentOut.getD v 0 - gone (v + 1)),
    credits := (List.range 3).map (fun v => x.credits.getD v 0 + (freed.getD v 0 + 4096 - x.freedSeen.getD v 0) % 4096),
    freedSeen := freed, peerHold := getF h CtlFlit.VC0_HOLD = 1 }
  let s := creditView (setLnk s l x) l
  if getF h CtlFlit.NAK = 1 ∧ x.nakSeen ≠ some ack then
    if (x.replay.headD ⟨0, [], 0, 0⟩).sends ≥ 4 then linkExhaust s l
    else setLnk s l { x with nakSeen := some ack, replayDue := x.replay.map (·.gseq) }
  else if getF h CtlFlit.NAK = 0 then setLnk s l { x with nakSeen := none } else s

/-- The CRC a control flit should carry. -/
def ctrlCrcOk (hdr : Nat) (descs : List Nat) : Bool :=
  crc32c (leBytes 16 (setF hdr CtlFlit.CTRL_CRC 0) ++ descs.flatMap (leBytes 16)) == getF hdr CtlFlit.CTRL_CRC

/-- FLIT_GROUP_RECEIVE (R230): a control header, 15 descriptors, 15 payloads of 256 bytes, and the symbols the FEC corrected and
codewords it could not. -/
def execFlitGroupReceive (l hdr : Nat) (descs : List Nat) (data : List (List Byte)) (corrected uncorrected : Nat) (s : State) : Res :=
  answer s (
    if l < 64 ∧ linkActive s l then
      let s := odAdd (odAdd s OD.FEC_CORRECTED l corrected) OD.FEC_UNCORRECTED l uncorrected
      let s := setLnk s l { lnk s l with fec := (lnk s l).fec + corrected }
      let ctl := ctrlCrcOk hdr descs
      let s := if ctl then takeControl s l hdr else s
      if linkActive s l = false then s
      else
        let x := lnk s l
        let idle := descs.all (fun d => getF d PayDesc.PAYLOAD == 0)
        let crcs := (descs.zip data).all (fun p => flitCrc p.1 p.2 == getF p.1 PayDesc.FLIT_CRC)
        if ctl && idle then s
        else if ctl && crcs && descs.length == 15 && data.length == 15 && getF hdr CtlFlit.GSEQ == x.rxSeq then
          let s := setLnk s l { x with rxSeq := (x.rxSeq + 1) % 1024, nak := false }
          (descs.zip data).foldl (fun t p => flitArrived t l (posFlit p.1 p.2)) s
        else setLnk (odAdd s OD.GROUPS_REJECTED l 1) l { x with nak := true }
    else s)

/-- CHUNK_FORWARD (R241): the oldest chunk that waits to be forwarded leaves on the lowest-numbered ACTIVE direct link to its DEST
with credits for it. -/
def execChunkForward (l : Nat) (s : State) : Res :=
  answer s (
    match (lnk s l).hopping with
    | [] => s
    | fs :: rest =>
      let dest := match fs with | f :: _ => getF f.desc PayDesc.DEST | [] => 0
      match (directLinks s dest).head? with
      | none => s
      | some o =>
        if fs.length ≤ freeCredits s o 1 then
          let s := freeFlits (setLnk s l { lnk s l with hopping := rest }) l 1 fs.length
          let out := fs.map (fun f =>
            let d := setF (setF f.desc PayDesc.HOP 0) PayDesc.FLIT_CRC 0
            { f with desc := setF d PayDesc.FLIT_CRC (flitCrc d f.data) })
          enqueue (odAdd s OD.FORWARDED o 1) o 1 out
        else s)

/-- A delivered message is handled: the buffer it held on its link is free (R235). A message that no link delivered stands for one
that reached the part beneath this model's links. -/
def takeRx (s : State) (m : Msg) : State :=
  match s.net.rxq.find? (fun e => e.msg == m) with
  | none => s
  | some e => freeFlits { s with net := { s.net with rxq := s.net.rxq.erase e } } e.link e.msg.vc e.flits

/-- `a / b` as FP32 bits, rounded to nearest even (b not 0). -/
def f32ratio (a b : Nat) : Nat :=
  let q := a * 2 ^ 64 / b
  toF32 (.fin false (2 * q + b2n (a * 2 ^ 64 % b ≠ 0)) (-65))

/-- R244, R247: at the tick each link reports its codec bytes and, above FEC_WARN, itself as a fencing candidate. -/
def linkTick (s : State) (l : Nat) : State :=
  let x := lnk s l
  let ratio := if x.coded = 0 then 0x3F800000 else f32ratio x.raw x.coded
  let s := odPut s OD.CODEC_RATIO l ratio
  let s := if od s OD.FEC_WARN < x.fec then telemetry s 5 [mkRec [(fld 63 58, l), (fld 31 0, satBits 32 x.fec)]] else s
  let ft := s.ft
  let s := { s with ft := { ft with
    winFecWarn := ft.winFecWarn || decide (od s OD.FEC_WARN < x.fec),
    winFecMax := max ft.winFecMax x.fec, winFecLink := if ft.winFecMax < x.fec then l else ft.winFecLink } }
  setLnk s l { x with raw := 0, coded := 0, fec := 0, vc3Sent := 0 }

/-- Source 2 of R446: two words for each link that carried VC0 or VC1 bytes, and every link's report (R244). -/
def linksTick (s : State) : State :=
  let words := s.net.links.flatMap (fun p =>
    if p.2.raw = 0 then [] else [mkRec [(fld 63 58, p.1), (fld 57 0, p.2.raw)], p.2.coded % 2 ^ 58])
  let s := if words = [] then s else telemetry s 2 words
  (s.net.links.map Prod.fst).foldl linkTick s

end Sys2Proof.Machine
end

