-- ==== Sys2Proof/Machine/Qp.lean ====
section
/-! DEFINITION. Chapter 12: queue pairs: work requests, packets, sequence numbers, completions, memory keys, faults on demand, timeouts.
Choices of the model here, by the assumption log: log 43 (DEDUCED). -/

namespace Sys2Proof.Machine

/-! Contexts and their states (R248 to R252). States: 0 RESET, 1 INIT, 2 READY, 3 DRAINING, 4 CLOSED, 5 ERROR. -/

/-- A queue pair's state. -/
abbrev qpState (s : State) (q : Nat) : Nat := qpF s q QpCtx.STATE
/-- Is a queue-pair function open (R250)? -/
def funcOpen (s : State) (f : Nat) : Bool := bitOf (od s OD.QP_FUNCTIONS_OPEN) f
/-- R257: how far sequence number `b` lies after `a`. -/
def psnDiff (a b : Nat) : Nat := (b + 2 ^ 24 - a % 2 ^ 24) % 2 ^ 24
/-- R257: does `a` lie before `b`? -/
def psnBefore (a b : Nat) : Bool := decide (2 ^ 23 ≤ psnDiff b a)
/-- The sequence number `n` after `a`. -/
def psnAdd (a n : Nat) : Nat := (a + n) % 2 ^ 24
/-- QP_COUNTS: 0 duplicates, 1 PSN_AHEAD, 2 timeouts, 3 re-sent packets, 4 RETRY_AFTER answers, 5 key failures, 6 ERROR entries, 7
flushed work requests. -/
abbrev qpCount (s : State) (i n : Nat) : State := odAdd s OD.QP_COUNTS i n

/-- R252: the fields of a context write that the server checks. -/
def ctxOk (c : Nat) : Bool :=
  decide (getF c QpCtx.STATE ≤ 5) && decide (getF c QpCtx.FUNCTION ≤ 6)
  && decide (4 ≤ getF c QpCtx.SQ_LOG2) && decide (4 ≤ getF c QpCtx.RQ_LOG2)
  && decide (1 ≤ getF c QpCtx.RETRY_MAX) && decide (1 ≤ getF c QpCtx.RETRY_AFTER_MAX)

/-- The packets of queue pair `q` that have not left are withdrawn. -/
def dropQueued (s : State) (q : Nat) : State :=
  { s with txq := s.txq.filter (fun m => !(m.kind == 1 && m.stream == q)) }

/-- Key slots whose IN_FLIGHT a queue pair's sent packets count in, counted again (R407). -/
def syncKeys (s : State) (ks : List Nat) : State := (ks.eraseDups).foldl syncKey s

/-- R251: a queue pair returns to RESET: outstanding work is discarded without completion, its usage counts cleared (R274). -/
def qpReset (s : State) (q ctx : Nat) : State :=
  let ks := (qpSt s q).sent.map (·.slot)
  let s := unrefTables (dropQueued s q) q (fun _ => true)
  let s := setQpSt s q QpSt.reset
  let s := { s with net := { s.net with faults := s.net.faults.filter (fun h => h.qp != q) } }
  let s := odPuts s OD.QP_USAGE (3 * q) [0, 0, 0]
  syncKeys (ctxPut s q (setF ctx QpCtx.STATE 0)) ks

/-- The engine's state of a queue pair that enters READY from INIT. -/
def qpReady (s : State) (q ctx : Nat) : State :=
  let s := ctxPut s q ctx
  setQpSt s q { qpSt s q with acked := getF ctx QpCtx.ACK_PSN, ackSent := getF ctx QpCtx.RECV_PSN }

/-- R251, R252: a checked context write. -/
def ctxWrite (s : State) (q ctx : Nat) : State :=
  let st := qpState s q
  let want := getF ctx QpCtx.STATE
  if st = 0 then
    if want = 1 then ctxPut (setQpSt s q QpSt.reset) q ctx
    else ctxPut s q (setF ctx QpCtx.STATE 0)
  else if st = 1 then
    if want = 0 then qpReset s q ctx
    else if want = 2 ∧ funcOpen s (getF ctx QpCtx.FUNCTION) then qpReady s q ctx
    else ctxPut s q (setF ctx QpCtx.STATE 1)
  else if st = 2 then setQpSt s q { qpSt s q with ctl := some ctx }
  else if want = 0 then qpReset s q (qpCtx s q) else s

/-- R252: would a context write put a queue pair in READY with a TIMEOUT below 8 µs, the undefined case of R265? -/
def ctxUndefined (s : State) (q ctx : Nat) : Bool :=
  qpState s q == 1 && getF ctx QpCtx.STATE == 2 && funcOpen s (getF ctx QpCtx.FUNCTION) && decide (getF ctx QpCtx.TIMEOUT < 8)

/-- R252: the context writes of READY queue pairs that wait take effect at the frame boundary. -/
def qpBoundary (s : State) : State :=
  (s.net.qps.map Prod.fst).foldl (fun t q =>
    match (qpSt t q).ctl with
    | none => t
    | some c =>
      let t := setQpSt t q { qpSt t q with ctl := none }
      if qpState t q ≠ 2 then (if getF c QpCtx.STATE = 0 then qpReset t q (qpCtx t q) else t)
      else if getF c QpCtx.STATE = 0 then qpReset t q (qpCtx t q)
      else qpSet t q [(QpCtx.PRIORITY, getF c QpCtx.PRIORITY), (QpCtx.QUANTUM, getF c QpCtx.QUANTUM),
        (QpCtx.SPRAY_SET, getF c QpCtx.SPRAY_SET), (QpCtx.WICKET_EN, getF c QpCtx.WICKET_EN),
        (QpCtx.WICKET, getF c QpCtx.WICKET)]) s

/-- R251, R382: the queue pairs of functions in `fs` leave READY for DRAINING; the set that is open loses them. -/
def qpClose (s : State) (fs : List Nat) : State :=
  let s := odSet s OD.QP_FUNCTIONS_OPEN (fs.foldl (fun w f => setBit w f false) (od s OD.QP_FUNCTIONS_OPEN))
  (s.net.qps.map Prod.fst).foldl (fun t q =>
    if qpState t q = 2 ∧ fs.contains (qpF t q QpCtx.FUNCTION) then qpSet t q [(QpCtx.STATE, 3)] else t) s

/-- R251, R382: the functions in `fs` open; their CLOSED queue pairs are READY again. -/
def qpOpen (s : State) (fs : List Nat) : State :=
  let s := odSet s OD.QP_FUNCTIONS_OPEN (fs.foldl (fun w f => setBit w f true) (od s OD.QP_FUNCTIONS_OPEN))
  (s.net.qps.map Prod.fst).foldl (fun t q =>
    if qpState t q = 4 ∧ fs.contains (qpF t q QpCtx.FUNCTION) then qpSet t q [(QpCtx.STATE, 2)] else t) s

/-- R250: the functions open under a role (bit f: function f). -/
def roleFunctions (r : Nat) : Nat :=
  if r = 1 then 0x5D else if r = 2 then 0x5E else if r = 3 then 0x5E else if r = 4 then 0x5F else if r = 5 then 0x78 else 0

/-! Partitions (R400). -/

/-- The partition records that are not FREE and meet [a, a + n). -/
def partHits (s : State) (a n : Nat) : List Nat :=
  (List.range 64).filter (fun i => recF s OD.PARTITIONS i Part.STATE != 0
    && meets a n (recF s OD.PARTITIONS i Part.BASE) (recF s OD.PARTITIONS i Part.SIZE))

/-- R400: may bytes of [a, a + n) leave the device in a transfer of a tenant? -/
def leaveOk (s : State) (a n ten : Nat) : Bool :=
  (partHits s a n).all (fun i =>
    match sendSlot s ten with
    | some k => k != 0 && (recF s OD.PARTITIONS i Part.KIND != 1 || recF s OD.PARTITIONS i Part.TENANT == recF s OD.KEY_SLOTS k KeySlot.TENANT)
    | none => false)

/-- R400: may bytes that arrived under tenant `ten`'s key (4,096: in clear) be placed at [a, a + n)? -/
def arriveOk (s : State) (a n ten : Nat) : Bool :=
  if ten = 4096 then (partHits s a n).isEmpty
  else (span (a / 65536) ((a + n - 1) / 65536 + 1 - a / 65536)).all (fun g =>
    let h := partHits s (g * 65536) 65536
    !h.isEmpty && h.all (fun i => recF s OD.PARTITIONS i Part.KIND != 1 || recF s OD.PARTITIONS i Part.TENANT == ten))

/-! Completions (R255). -/

/-- A completion-queue entry made: it waits for room in queue pair `q`'s completion queue. KEY_REVOKED completions are counted. -/
def cqPush (s : State) (q wrId status side bytes msn : Nat) : State :=
  let e := mkRec [(Cqe.WR_ID, wrId), (Cqe.QP, q), (Cqe.STATUS, status), (Cqe.SIDE, side), (Cqe.BYTES, bytes), (Cqe.MSN, msn),
    (Cqe.FRAME, frameNo s)]
  let s := if status = 13 then odAdd s OD.KEY_COUNTS 4 1 else s
  { s with net := { s.net with cqWait := s.net.cqWait ++ [(qpF s q QpCtx.CQ, e)] } }

/-- R255: how many entries of a completion queue its reader has taken. No rule says how the part learns it: a free value between the
last one known and the entries written (log 43). -/
def cqTaken (s : State) (cq : Nat) : State :=
  let n := kget s.net.cqPi cq 0
  let c := kget s.net.cqCi cq 0
  let f := takeFree s
  { f.2 with net := { f.2.net with cqCi := kput s.net.cqCi cq (c + f.1 % (n - c + 1)) } }

/-- The entries a completion queue holds (R255). CQ_TABLE: [41:0] base, [95:64] entries, [111:96] vector. -/
def cqSize (s : State) (cq : Nat) : Nat := getF (odGet s OD.CQ_TABLE cq) (fld 95 64)

/-- R255: is every entry of a completion queue unread? -/
def cqFull (s : State) (cq : Nat) : Bool := decide (cqSize s cq ≤ kget s.net.cqPi cq 0 - kget s.net.cqCi cq 0)

/-- A completion written at its queue's next slot, and the queue's vector signalled. -/
def cqWrite (s : State) (cq : Nat) (p : Nat × Nat) : State :=
  let r := odGet s OD.CQ_TABLE cq
  let n := kget s.net.cqPi cq 0
  let s := { s with net := { s.net with cqWait := s.net.cqWait.erase p, cqPi := kput s.net.cqPi cq (n + 1) } }
  msix (writeMem s true ownReader (getF r (fld 41 0) + 32 * (n % max (cqSize s cq) 1)) (leBytes 32 p.2)).1 (getF r (fld 111 96))

/-- CQ_ENTRY (R255, R453): the oldest completion that waits for a queue is written and its vector signalled; in a full queue it waits. A
queue never yet filled has room without any entry being taken. -/
def execCqEntry (cq : Nat) (s : State) : Res :=
  answer s (match s.net.cqWait.find? (fun p => p.1 == cq) with
    | none => s
    | some p =>
      let s := if cqFull s cq then cqTaken s cq else s
      if cqFull s cq then s else cqWrite s cq p)

/-- Does any work request of the step on unit `u` wait or run? -/
def unitWork (s : State) (u : Nat) : Bool :=
  let mine := fun (w : Serve) => match w with
    | .unit v => v == u
    | .pull _ _ v => v == u
    | _ => false
  s.net.qps.any (fun p => p.2.posted.any (fun x => mine x.who) || p.2.wqes.any (fun w => mine w.who && !w.finished))

/-- R254: a POST step that waits for its work requests completes when the last one has. -/
def unitDone (s : State) (u : Nat) : State :=
  match flightOn s u with
  | some f => if getF f.step StepRec.OPCODE = 1 ∧ unitWork s u = false then passEnd s (u % 256) 0 .done else s
  | none => s

/-- R193, R194: a clasp pull's read has ended: a piece landed, or the pull failed with a status. -/
def pullNote (s : State) (rec_ piece status bytes : Nat) : State :=
  { s with net := { s.net with pulls := s.net.pulls ++ [(rec_, piece, status, bytes)] } }

/-- The length of a work request's data: an atomic's is 8. -/
def wqeBytes (sqe : Nat) : Nat := if getF sqe Sqe.OP ≥ 4 then 8 else getF sqe Sqe.LENGTH

/-- The number of a shard in a work request: row, group and index. -/
def shardKey (row group index : Nat) : Nat := row * 2 ^ 24 + group * 16 + index

/-- R441: the exchange of a shard has failed at its member: it is to be placed again, on another. -/
def shardAgain (s : State) (k : Nat) : State :=
  { s with sh := { s.sh with shards := s.sh.shards.map (fun x =>
      if shardKey x.row x.group x.index = k ∧ 2 ≤ x.place ∧ x.place ≤ 4 then
        { x with place := 1, refused := x.refused ++ [x.member] } else x) } }

/-- R441: a PASS queue pair has entered ERROR: the exchanges of shards it carries have failed. -/
def shardsAgain (s : State) (q : Nat) : State :=
  let dev := qpF s q QpCtx.PEER_DEVICE
  if qpF s q QpCtx.FUNCTION = 3 ∧ odGet s OD.PASS_QPS dev = q then
    (s.sh.shards.filter (fun x => x.member == dev && dev != ownDevice s)).foldl (fun t x => shardAgain t (shardKey x.row x.group x.index)) s
  else s

/-- R255: BYTES of a work request that failed: what a READ or an atomic has placed here; of a SEND or WRITE, what its packets sent may
have placed at the peer, which the requester is not told: a free value no larger than that. -/
def failedBytes (s : State) (w : Wqe) : State × Nat :=
  if 3 ≤ getF w.sqe Sqe.OP ∨ w.assigned = 0 then (s, w.bytes)
  else ((takeFree s).2, (takeFree s).1 % (min (4032 * w.assigned) (getF w.sqe Sqe.LENGTH) + 1))

/-- A work request ends (R255, R260): its completion is made where it asks for one or failed, and whatever it served is told. -/
def endWqe (s : State) (q : Nat) (w : Wqe) (status : Nat) : State :=
  let x := qpSt s q
  let s := setQpSt s q { x with wqes := x.wqes.map (fun v =>
    if v.idx = w.idx then { v with finished := true, status := status } else v) }
  let s := if getF w.sqe Sqe.SIGNAL = 1 ∨ status ≠ 0 then
      if status = 0 then cqPush s q (getF w.sqe Sqe.WR_ID) 0 0 (wqeBytes w.sqe) w.msn
      else cqPush (failedBytes s w).1 q (getF w.sqe Sqe.WR_ID) status 0 (failedBytes s w).2 w.msn
    else s
  match w.who with
  | .unit u => unitDone s u
  | .access a =>
    let bytes := kget s.fab.apBuf a []
    let s := { s with fab := { s.fab with apBuf := kdel s.fab.apBuf a } }
    if s.fab.live.any (fun y => y.id == a) then
      let s := if status = 0 then s else odAdd s OD.APERTURE_COUNTS 1 1
      { s with fab := { s.fab with results := kput s.fab.results a (if status = 0 then 0 else 8, bytes),
                                   live := s.fab.live.filter (fun y => y.id != a) } }
    else s
  | .pull r p u => unitDone (pullNote s r p status (wqeBytes w.sqe)) u
  | .shard k => if status = 0 then s else shardAgain s k
  | _ => s

/-- SQ_CI passes every work request that has ended and whose sequence numbers are all acknowledged (R249). -/
def popWqes (s : State) (q : Nat) : State :=
  let x := qpSt s q
  let ack := qpF s q QpCtx.ACK_PSN
  let gone := x.wqes.takeWhile (fun w => w.finished && (w.assigned == 0 || !psnBefore ack (psnAdd w.psn w.assigned)))
  if gone = [] then s
  else qpSet (setQpSt s q { x with wqes := x.wqes.drop gone.length }) q [(QpCtx.SQ_CI, qpF s q QpCtx.SQ_CI + gone.length)]

/-! Packets out. -/

/-- The tenant an ACK or NAK of queue pair `q` travels under (R245, R405). -/
abbrev qpTenant (s : State) (q : Nat) : Nat := qpF s q QpCtx.TENANT

/-- A packet header from queue pair `q` to its peer. -/
def pktHdr (s : State) (q opcode psn msn : Nat) (l : List (Fld × Nat)) : Nat :=
  mkRec ([(Pkt.OPCODE, opcode), (Pkt.DEST_QP, qpF s q QpCtx.PEER_QP), (Pkt.SRC_QP, q), (Pkt.PSN, psn), (Pkt.MSN, msn)] ++ l)

/-- A packet of queue pair `q` given to the links: data-bearing packets of a SCHEDULED one travel on VC0 (R268). -/
def pktMsg (s : State) (q hdr : Nat) (data : List Byte) (ten : Nat) : Msg :=
  let op := getF hdr Pkt.OPCODE
  { vc := if qpF s q QpCtx.TYPE = 1 ∧ (op = 1 ∨ op = 2 ∨ op = 4) then 0 else 1, kind := 1, dest := qpF s q QpCtx.PEER_DEVICE,
    hdr := hdr, hlen := 32, data := data, stream := q, tenant := ten }

/-- R260: an ACK of everything below RECV_PSN. -/
def sendAck (s : State) (q : Nat) : State :=
  let r := qpF s q QpCtx.RECV_PSN
  let s := send s (pktMsg s q (pktHdr s q 7 (psnAdd r (2 ^ 24 - 1)) (qpF s q QpCtx.RECV_MSN) []) [] (qpTenant s q))
  setQpSt s q { qpSt s q with ackSent := r, ackDue := none, dupAt := none }

/-- R260: an ACK for a duplicate: at once on the first since the last ACK, then at most once per µs. -/
def dupAck (s : State) (q : Nat) : State :=
  match (qpSt s q).dupAt with
  | none => let s := sendAck s q; setQpSt s q { qpSt s q with dupAt := some s.clk }
  | some c => if c + usClk ≤ s.clk then let s := sendAck s q; setQpSt s q { qpSt s q with dupAt := some s.clk } else s

/-- A NAK for a packet, from queue pair `q` to the sender the packet names. -/
def sendNak (s : State) (q : Nat) (m : Msg) (psn status hint : Nat) : State :=
  send s { vc := 1, kind := 1, dest := m.dest,
           hdr := mkRec [(Pkt.OPCODE, 8), (Pkt.DEST_QP, getF m.hdr Pkt.SRC_QP), (Pkt.SRC_QP, q), (Pkt.PSN, psn),
             (Pkt.MSN, getF m.hdr Pkt.MSN), (Pkt.STATUS, status), (Pkt.HINT, hint)],
           hlen := 32, data := [], stream := q, tenant := qpTenant s q }

/-! Work requests (R253, R254, R256). -/

/-- Sequence numbers a work request takes (R256). -/
def wqeCount (sqe : Nat) : Nat := if getF sqe Sqe.OP ≥ 4 then 1 else cdiv (getF sqe Sqe.LENGTH) 4032

/-- The send-queue entry not started that is next: its index, or none. -/
def nextIdx (s : State) (q : Nat) : Option Nat :=
  let i := (qpF s q QpCtx.SQ_CI + (qpSt s q).wqes.length) % 65536
  if i = qpF s q QpCtx.SQ_PI then none else some i

/-- The device offset of send-queue entry `i`. -/
def sqAddr (s : State) (q i : Nat) : Nat := qpF s q QpCtx.SQ_BASE + 64 * (i % 2 ^ qpF s q QpCtx.SQ_LOG2)

/-- A work request put in a send queue by the part (R254): the entry is written and SQ_PI advances. -/
def postWqe (s : State) (q sqe tenant : Nat) (bytes : Option (List Byte)) (who : Serve) : State :=
  let i := qpF s q QpCtx.SQ_PI
  let s := mapPut s (sqAddr s q i) 64 sqe
  let s := qpSet s q [(QpCtx.SQ_PI, i + 1)]
  setQpSt s q { qpSt s q with posted := (qpSt s q).posted ++ [⟨i, s.clk, tenant, bytes, who⟩] }

/-- The timer starts where numbers are outstanding and it stands still (R265). -/
def timerStart (s : State) (q : Nat) : State :=
  if (qpSt s q).timer.isNone ∧ qpF s q QpCtx.ACK_PSN ≠ qpF s q QpCtx.SEND_PSN then
    setQpSt s q { qpSt s q with timer := some s.clk }
  else s

/-- A request packet numbered, kept until acknowledged, and given to the links. -/
def sendRequest (s : State) (q psn n : Nat) (m : Msg) : State :=
  let s := setQpSt s q { qpSt s q with sent := (qpSt s q).sent ++ [⟨psn, psnAdd psn (n - 1), m, 0, 0, none⟩] }
  timerStart (qpSet (send s m) q [(QpCtx.SEND_PSN, psnAdd psn n)]) q

/-- Packet `i` of a started SEND or WRITE: its data read from the local buffer, or LOCAL_ERROR. -/
def sendData (s : State) (q : Nat) (w : Wqe) (i : Nat) : State × Bool :=
  let len := getF w.sqe Sqe.LENGTH
  let n := min 4032 (len - 4032 * i)
  let r := match w.inline with
    | some bs => (s, (bs.drop (4032 * i)).take n, 0, 0)
    | none => readMem s true ownReader (getF w.sqe Sqe.LOCAL_ADDR + 4032 * i) n
  if r.2.2.1 ≠ 0 then (r.1, false)
  else
    let psn := psnAdd w.psn i
    let h := pktHdr r.1 q (getF w.sqe Sqe.OP) psn w.msn [(Pkt.MSG_LEN, len), (Pkt.OFFSET, 4032 * i),
      (Pkt.KEY, if getF w.sqe Sqe.OP = 2 then getF w.sqe Sqe.REMOTE_KEY else 0),
      (Pkt.REMOTE_OFFSET, if getF w.sqe Sqe.OP = 2 then getF w.sqe Sqe.REMOTE_OFFSET else 0), (Pkt.LAST, b2n (i + 1 = w.count))]
    (sendRequest r.1 q psn 1 (pktMsg r.1 q h r.2.1 w.tenant), true)

/-- The work request at an index of the send queue. -/
def wqeAt (s : State) (q i : Nat) : Option Wqe := (qpSt s q).wqes.find? (fun w => w.idx == i)

/-- A work request changed. -/
def wqeSet (s : State) (q : Nat) (w : Wqe) : State :=
  setQpSt s q { qpSt s q with wqes := (qpSt s q).wqes.map (fun v => if v.idx = w.idx then w else v) }

/-- Up to `fuel` more packets of a started SEND or WRITE numbered and sent, within 8,192 outstanding numbers (R257). -/
def pumpData : Nat → State → Nat → Nat → State
  | 0, s, _, _ => s
  | fuel + 1, s, q, idx =>
    match wqeAt s q idx with
    | none => s
    | some w =>
      if w.finished ∨ w.count ≤ w.assigned ∨ 8192 ≤ psnDiff (qpF s q QpCtx.ACK_PSN) (qpF s q QpCtx.SEND_PSN) then s
      else
        let r := sendData s q w w.assigned
        if r.2 then pumpData fuel (wqeSet r.1 q { w with assigned := w.assigned + 1 }) q idx
        else endWqe r.1 q w 12

/-- The READ_REQ for the next `n` packets of a READ. One that has more packets than the window has numbers is asked for in several
requests: each gives in OFFSET where it begins and in MSG_LEN where it ends, and the last has LAST (log 43). -/
def readMsg (s : State) (q : Nat) (w : Wqe) (n : Nat) : Msg :=
  pktMsg s q (pktHdr s q 3 (psnAdd w.psn w.assigned) w.msn [(Pkt.KEY, getF w.sqe Sqe.REMOTE_KEY),
    (Pkt.REMOTE_OFFSET, getF w.sqe Sqe.REMOTE_OFFSET), (Pkt.OFFSET, 4032 * w.assigned),
    (Pkt.MSG_LEN, min (4032 * (w.assigned + n)) (wqeBytes w.sqe)), (Pkt.LAST, b2n (w.assigned + n = w.count))]) [] w.tenant

/-- The message an atomic sends. ATOMIC names its operation in HINT: 0 FETCH_ADD, 1 CMP_SWAP; its operands follow the header. -/
def atomicMsg (s : State) (q : Nat) (w : Wqe) : Msg :=
  pktMsg s q (pktHdr s q 5 w.psn w.msn [(Pkt.KEY, getF w.sqe Sqe.REMOTE_KEY), (Pkt.REMOTE_OFFSET, getF w.sqe Sqe.REMOTE_OFFSET),
      (Pkt.MSG_LEN, wqeBytes w.sqe), (Pkt.LAST, 1), (Pkt.HINT, getF w.sqe Sqe.OP - 4)])
    (leBytes 8 (getF w.sqe Sqe.OPERAND_A) ++ leBytes 8 (getF w.sqe Sqe.OPERAND_B)) w.tenant

/-- Sequence numbers free in queue pair `q`'s window of 8,192 (R257). -/
def sendRoom (s : State) (q : Nat) : Nat := 8192 - psnDiff (qpF s q QpCtx.ACK_PSN) (qpF s q QpCtx.SEND_PSN)

/-- A started READ asks for its next packets, as many as one window holds, where they fit. -/
def pumpRead (s : State) (q idx : Nat) : State :=
  match wqeAt s q idx with
  | none => s
  | some w =>
    let n := min 8192 (w.count - w.assigned)
    if w.finished ∨ n = 0 ∨ sendRoom s q < n then s
    else wqeSet (sendRequest s q (psnAdd w.psn w.assigned) n (readMsg s q w n)) q { w with assigned := w.assigned + n }

/-- A send-queue entry of queue pair `q` starts: numbered, its packets sent. -/
def startWqe (s : State) (q idx sqe : Nat) : State :=
  let p := ((qpSt s q).posted.find? (fun x => x.idx == idx)).getD ⟨idx, s.clk, qpF s q QpCtx.TENANT, none, .host⟩
  let w : Wqe := { sqe := sqe, idx := idx, posted := p.clk, psn := qpF s q QpCtx.SEND_PSN, count := wqeCount sqe,
                   msn := qpF s q QpCtx.SEND_MSN, landed := [], bytes := 0, assigned := 0, status := 0,
                   gen := recF s OD.KEY_SLOTS ((sendSlot s p.tenant).getD 0) KeySlot.GEN, tenant := p.tenant, inline := p.inline,
                   who := p.who, finished := false }
  let x := qpSt s q
  let s := setQpSt s q { x with posted := x.posted.filter (fun y => y.idx != idx), wqes := x.wqes ++ [w] }
  let op := getF sqe Sqe.OP
  if (sendSlot s p.tenant).isNone then popWqes (endWqe s q w 13) q
  else if op ≤ 2 ∧ w.inline.isNone ∧ leaveOk s (getF sqe Sqe.LOCAL_ADDR) (getF sqe Sqe.LENGTH) p.tenant = false then
    popWqes (endWqe s q w 3) q
  else
    let s := qpSet s q [(QpCtx.SEND_MSN, w.msn + 1)]
    if op ≤ 2 then popWqes (pumpData w.count s q idx) q
    else if op = 3 then pumpRead s q idx
    else wqeSet (sendRequest s q w.psn 1 (atomicMsg s q w)) q { w with assigned := 1 }

/-- May the next entry of a queue pair start: nothing before it is still being numbered, FENCE is met, a READ's request fits the window
and no more than 16 atomics are outstanding (R253, R257, R258)? -/
def mayStart (s : State) (q sqe : Nat) : Bool :=
  let ws := (qpSt s q).wqes
  let op := getF sqe Sqe.OP
  let room := sendRoom s q
  ws.all (fun w => w.finished || w.assigned == w.count)
  && (getF sqe Sqe.FENCE == 0 || ws.all (·.finished))
  && (op != 3 || decide (min 8192 (wqeCount sqe) ≤ room))
  && (decide (op ≤ 3) || (decide (1 ≤ room) && decide ((ws.filter (fun w => decide (4 ≤ getF w.sqe Sqe.OP) && !w.finished)).length < 16)))

/-- The next send-queue entry of queue pair `q`, if its operation is `op`, starts. An entry that cannot be read completes with
LOCAL_ERROR. -/
def startNext (s : State) (q op : Nat) : State :=
  if qpState s q ≠ 2 ∧ qpState s q ≠ 3 then s
  else match nextIdx s q with
    | none => s
    | some i =>
      let r := readRec s ownReader (sqAddr s q i) 64
      if r.2.2.1 ≠ 0 then
        let t := startWqe r.1 q i 0
        match wqeAt t q i with
        | some w => popWqes (endWqe t q w 12) q
        | none => t
      else if getF r.2.1 Sqe.OP = op ∧ mayStart r.1 q r.2.1 then startWqe r.1 q i r.2.1
      else s

/-- SEND (R253): the next entry of queue pair `q` starts, a SEND. -/
def execSend (q : Nat) (s : State) : Res := answer s (startNext s q 1)
/-- WRITE (R253). -/
def execWrite (q : Nat) (s : State) : Res := answer s (startNext s q 2)
/-- FETCH_ADD (R253). -/
def execFetchAdd (q : Nat) (s : State) : Res := answer s (startNext s q 4)
/-- CMP_SWAP (R253). -/
def execCmpSwap (q : Nat) (s : State) : Res := answer s (startNext s q 5)

/-- A work request that is not sent completes (ROLE_CLOSED, KEY_REVOKED): R251, R254. -/
def refuseWqe (s : State) (q sqe status : Nat) : State :=
  if getF sqe Sqe.SIGNAL = 1 ∨ status ≠ 0 then
    cqPush s q (getF sqe Sqe.WR_ID) status 0 0 (qpF s q QpCtx.SEND_MSN)
  else s

/-- R193: the clasp pull a READ of a pass queue pair serves: an open PULLING record whose landing area, or a reserved bead of whose
strand, the read lands at: piece 0 the list and tokens, 1 + o the bead of ordinal o, and last the row image. -/
def pullOf (s : State) (q sqe : Nat) : Option (Nat × Nat) :=
  let a := getF sqe Sqe.LOCAL_ADDR
  if qpF s q QpCtx.FUNCTION ≠ 3 ∨ getF sqe Sqe.OP ≠ 3 then none
  else
    (s.rows.clasp.filter (fun p => recF s OD.CLASP_RECORDS p.1 ClaspRec.STATE == 3)).findSome? (fun p =>
      if a = p.2.area + 192 then some (p.1, 0)
      else if a = p.2.area then some (p.1, p.2.beads + 1)
      else
        let r := recF s OD.CLASP_RECORDS p.1 ClaspRec.ROW
        ((List.range p.2.beads).find? (fun o =>
          let b := strandBead s r o
          (slotClass s (beadSlot b)).map (fun c => beadAddr s c b) == some a)).map (fun o => (p.1, o + 1)))

/-- R193: is a piece's read in order: the list first, the beads in ascending order, the row image once every other piece has landed? -/
def pullInOrder (a : ClaspAux) (p : Nat) : Bool :=
  if p = a.beads + 1 then (List.range (a.beads + 1)).all a.landed.contains else decide (p ≤ a.next)

/-- A piece's read has been posted. -/
def pullPosted (s : State) (c p : Nat) : State :=
  match kfind s.rows.clasp c with
  | some a => { s with rows := { s.rows with clasp := kput s.rows.clasp c { a with next := max a.next (p + 1) } } }
  | none => s

/-- R254: one entry of a POST: its work request placed on its queue pair, or completed ROLE_CLOSED where the function is closed, or
FLUSHED where the queue pair is in ERROR. A read out of its order in a pull serves no pull (R193). -/
def postEntry (s : State) (u ten q sqe : Nat) : State :=
  let pull := (pullOf s q sqe).filter (fun p => match kfind s.rows.clasp p.1 with | some a => pullInOrder a p.2 | none => false)
  let fail := fun (t : State) (st : Nat) => match pull with | some p => pullNote t p.1 p.2 st 0 | none => t
  if funcOpen s (qpF s q QpCtx.FUNCTION) = false then fail (refuseWqe s q sqe 14) 14
  else if qpState s q = 2 then
    match pull with
    | some p =>
      pullPosted (postWqe s q sqe (rowGet s (recF s OD.CLASP_RECORDS p.1 ClaspRec.ROW) Row.TENANT) none (.pull p.1 p.2 u)) p.1 p.2
    | none => postWqe s q sqe ten none (.unit u)
  else if qpState s q = 5 then fail (refuseWqe (qpCount s 7 1) q sqe 1) 1
  else fail (refuseWqe s q sqe 14) 14

/-- R254, R475: record `i` of a POST step on unit `u`, its records at `a`, unless a read has failed. -/
def postOne (f : Flight) (u a : Nat) (acc : State × Bool) (i : Nat) : State × Bool :=
  if acc.2 then acc
  else
    let r := readRec acc.1 (stepReader f) (a + 80 * i) 80
    let q := getF r.2.1 (fld 127 112)
    if r.2.2.1 ≠ 0 then (r.1, true)
    else (postEntry r.1 u (qpF r.1 q QpCtx.TENANT) q (r.2.1 / 2 ^ 128), false)

/-- POST (R254): the PASS step in flight on a port. A step of another opcode than those of R254 completes with BAD_OP. With WAIT_DONE
it stays until its work requests have completed. A descriptor that cannot be read ends it, and a record that cannot ends it after the
ones before (R475). -/
def postStep (port : Nat) (s : State) : Res :=
  let u := unitKey 5 port
  match flightOn s u with
  | none => answer s s
  | some f =>
    let op := getF f.step StepRec.OPCODE
    if op = 0x0F01 ∨ op = 0x0F02 then answer s s
    else if op ≠ 1 then answer s (passEnd s port 4 .untouched)
    else if unitWork s u then answer s s
    else
      let d := readRec s (stepReader f) (getF f.step StepRec.DESC_ADDR) 64
      if d.2.2.1 ≠ 0 then answer s (passEnd d.1 port 5 .unread)
      else
        let r := (List.range (getF d.2.1 PassDesc.ENTRIES)).foldl (postOne f u (getF d.2.1 PassDesc.ENTRY_ADDR)) (d.1, false)
        answer s (if getF d.2.1 PassDesc.WAIT_DONE = 1 ∧ unitWork r.1 u then r.1 else passEnd r.1 port (if r.2 then 5 else 0) .done)

/-- The READY queue pair of REPLY function that leads to an endpoint (R269), through ENDPOINTS. -/
def replyQp (s : State) (dev qp : Nat) : Option Nat :=
  ((List.range 4096).find? (fun i =>
      let e := odGet s OD.ENDPOINTS i
      e != 0 && getF e (fld 60 48) == dev && getF e (fld 47 32) == qp
        && qpState s (getF e (fld 15 0)) == 2 && qpF s (getF e (fld 15 0)) QpCtx.FUNCTION == 2)).map
    (fun i => getF (odGet s OD.ENDPOINTS i) (fld 15 0))

/-- An inline SEND of the part's own. -/
def inlineSqe (n : Nat) : Nat := mkRec [(Sqe.OP, 1), (Sqe.LENGTH, n)]

/-- R269: a reply or token message posted, or made to wait for its endpoint. -/
def sendReply (s : State) (x : Reply) : State :=
  match replyQp s x.dev x.qp with
  | some q =>
    let who := match x.row with | some r => Serve.row r | none => Serve.host
    postWqe s q (inlineSqe x.data.length) (qpF s q QpCtx.TENANT) (some x.data) who
  | none => odInc { s with net := { s.net with replies := s.net.replies ++ [x] } } OD.REPLY_WAITS

/-- R269: the messages that wait are posted where their endpoint now has a READY queue pair. -/
def flushReplies (s : State) : State :=
  let waiting := s.net.replies
  waiting.foldl (fun t x =>
    match replyQp t x.dev x.qp with
    | some _ => sendReply t x
    | none => { t with net := { t.net with replies := t.net.replies ++ [x] } }) { s with net := { s.net with replies := [] } }

/-- R25: does the reply queue pair hold outstanding work for a row: a message that waits or a work request not yet complete? -/
def rowReplies (s : State) (r : Nat) : Bool :=
  s.net.replies.any (fun x => x.row == some r)
  || s.net.qps.any (fun p => p.2.posted.any (fun x => x.who == .row r) || p.2.wqes.any (fun w => w.who == .row r && !w.finished))

/-! Errors (R251, R267). -/

/-- R267: a queue pair enters ERROR: it stops sending; every outstanding work request and posted receive buffer completes FLUSHED, in
queue order. -/
def flushSends : Nat → State → Nat → State
  | 0, s, _ => s
  | n + 1, s, q =>
    match nextIdx s q with
    | none => s
    | some i =>
      let p := ((qpSt s q).posted.find? (fun x => x.idx == i)).getD ⟨i, s.clk, 0, none, .host⟩
      let w : Wqe := ⟨mapNat s (sqAddr s q i) 64, i, p.clk, qpF s q QpCtx.SEND_PSN, 0, qpF s q QpCtx.SEND_MSN, [], 0, 0, 0, 0, p.tenant,
        p.inline, p.who, false⟩
      let x := qpSt s q
      let s := setQpSt s q { x with posted := x.posted.filter (fun y => y.idx != i), wqes := x.wqes ++ [w] }
      flushSends n (endWqe (qpCount s 7 1) q w 1) q

/-- R267: the entry to ERROR. -/
def qpError (s : State) (q : Nat) : State :=
  if qpState s q = 5 then s
  else
    let ks := (qpSt s q).sent.map (·.slot)
    let s := qpCount (dropQueued (qpSet s q [(QpCtx.STATE, 5)]) q) 6 1
    let s := unrefTables s q (fun _ => true)
    let s := { s with net := { s.net with faults := s.net.faults.filter (fun h => h.qp != q) } }
    let s := ((qpSt s q).wqes.filter (fun w => !w.finished)).foldl (fun t w => endWqe (qpCount t 7 1) q w 1) s
    let s := flushSends 32768 s q
    let ci := qpF s q QpCtx.RQ_CI
    let n := (qpF s q QpCtx.RQ_PI + 65536 - ci) % 65536
    let s := (List.range n).foldl (fun t i =>
      let e := mapNat t (qpF t q QpCtx.RQ_BASE + 32 * ((ci + i) % 2 ^ qpF t q QpCtx.RQ_LOG2)) 32
      let r := (qpSt t q).rx.find? (fun r => r.send && r.idx == (ci + i) % 65536)
      cqPush t q (getF e Rqe.WR_ID) 1 1 ((r.map (·.placed)).getD 0) ((r.map (·.msn)).getD (qpF t q QpCtx.RECV_MSN))) s
    let s := qpSet s q [(QpCtx.RQ_CI, ci + n), (QpCtx.SQ_CI, qpF s q QpCtx.SQ_PI), (QpCtx.ACK_PSN, qpF s q QpCtx.SEND_PSN)]
    syncKeys (setQpSt (shardsAgain s q) q { qpSt s q with posted := [], wqes := [], sent := [], rx := [], owed := [], early := [],
                                                          timer := none, retries := 0 }) ks

/-- QP_DRAINED (R251): a DRAINING queue pair with nothing outstanding becomes CLOSED. -/
def execQpDrained (q : Nat) (s : State) : Res :=
  answer s (if qpState s q = 3 ∧ (qpSt s q).wqes.all (·.finished) ∧ qpF s q QpCtx.ACK_PSN = qpF s q QpCtx.SEND_PSN
      ∧ qpF s q QpCtx.SQ_CI = qpF s q QpCtx.SQ_PI then
    qpSet s q [(QpCtx.STATE, 4)] else s)

/-! Acknowledgement at the requester (R258, R260, R264, R265). -/

/-- Is sequence number `p` done: acknowledged, or for a READ or atomic answered, or of a request that has failed? -/
def psnDone (x : QpSt) (p : Nat) : Bool :=
  match x.wqes.find? (fun w => decide (psnDiff w.psn p < w.assigned)) with
  | none => true
  | some w =>
    if getF w.sqe Sqe.OP ≤ 2 then psnBefore p x.acked else w.finished || w.landed.contains (psnDiff w.psn p)

/-- How far ACK_PSN may advance. -/
def ackReach (x : QpSt) : Nat → Nat → Nat
  | 0, p => p
  | n + 1, p => if psnDone x p then ackReach x n (psnAdd p 1) else p

/-- The work requests of queue pair `q` whose last number ACK_PSN has passed complete (R260): OK, or with the LENGTH_ERROR they have met
(R326). -/
def endPassed (s : State) (q : Nat) : State :=
  let ack := qpF s q QpCtx.ACK_PSN
  ((qpSt s q).wqes.filter (fun w => !w.finished && w.assigned == w.count && !psnBefore ack (psnAdd w.psn w.count))).foldl
    (fun t w => endWqe t q w w.status) s

/-- ACK_PSN advances as far as it may: packets passed are released, the timer restarts (R265), work requests complete, and a message
still being numbered goes on. -/
def ackAdvance (s : State) (q : Nat) : State :=
  let a := qpF s q QpCtx.ACK_PSN
  let e := qpF s q QpCtx.SEND_PSN
  let n := ackReach (qpSt s q) (psnDiff a e) a
  if n = a then popWqes s q
  else
    let x := qpSt s q
    let ks := x.sent.map (·.slot)
    let s := qpSet s q [(QpCtx.ACK_PSN, n)]
    let s := setQpSt s q { x with
      sent := x.sent.filter (fun p => !psnBefore p.last n), retries := 0, timer := if n = e then none else some s.clk }
    let s := unrefTables s q (fun p => psnBefore p n)
    let s := popWqes (endPassed (syncKeys s ks) q) q
    match (qpSt s q).wqes.find? (fun w => decide (w.assigned < w.count) && !w.finished) with
    | some w => if getF w.sqe Sqe.OP = 3 then pumpRead s q w.idx else pumpData 8192 s q w.idx
    | none => s

/-- ACK (R260): the cumulative number is taken; a queue pair that takes no packets answers NAK QP_ERROR (R251). -/
def execAck (m : Msg) (s : State) : Res :=
  let s := takeRx s m
  let q := getF m.hdr Pkt.DEST_QP
  answer s (if qpState s q = 2 ∨ qpState s q = 3 then
    let c := psnAdd (getF m.hdr Pkt.PSN) 1
    let x := qpSt s q
    ackAdvance (if psnBefore x.acked c ∧ psnDiff x.acked c ≤ psnDiff x.acked (qpF s q QpCtx.SEND_PSN)
      then setQpSt s q { x with acked := c } else s) q
  else sendNak s q m (getF m.hdr Pkt.PSN) 0x21 0)

/-- The work request that owns a sequence number. -/
def wqeOf (s : State) (q psn : Nat) : Option Wqe :=
  (qpSt s q).wqes.find? (fun w => decide (psnDiff w.psn psn < w.assigned))

/-- R264: the last RETRY_AFTER of a packet: its work request fails, later ones are flushed, and the queue pair enters ERROR. -/
def retryAfterFail (s : State) (q : Nat) (w : Wqe) : State :=
  qpError (endWqe s q w (if getF w.sqe Sqe.OP = 1 then 8 else 7)) q

/-- R264: RETRY_AFTER noted for a packet. -/
def retryAfter (s : State) (q psn hint : Nat) : State :=
  let s := qpCount s 4 1
  match (qpSt s q).sent.find? (fun p => p.psn == psn), wqeOf s q psn with
  | some p, some w =>
    if qpF s q QpCtx.RETRY_AFTER_MAX ≤ p.retryAfter + 1 then retryAfterFail s q w
    else setQpSt s q { qpSt s q with sent := (qpSt s q).sent.map (fun y =>
      if y.psn = psn then { y with retryAfter := y.retryAfter + 1, due := some (s.clk + usClk * (if hint = 0 then 1 else hint)) } else y) }
  | _, _ => s

/-- R266: the outstanding work requests of queue pair `q` that were sent under an old generation complete KEY_REVOKED: those of an
older generation than their slot's now, or, where there is none, all that were encrypted. -/
def keyRevoked (s : State) (q : Nat) : State :=
  let enc := (qpSt s q).wqes.filter (fun w => !w.finished
    && (qpSt s q).sent.any (fun p => p.slot != 0 && decide (psnDiff w.psn p.psn < w.assigned)))
  let older := enc.filter (fun w => w.gen != recF s OD.KEY_SLOTS (recF s OD.TENANTS w.tenant Tenant.KEY_SLOT) KeySlot.GEN)
  let old := if older = [] then enc else older
  let s := old.foldl (fun t w => endWqe t q w 13) s
  let x := qpSt s q
  let gone := x.sent.filter (fun p => old.any (fun w => decide (psnDiff w.psn p.psn < w.assigned)))
  let s := setQpSt s q { x with sent := x.sent.filter (fun p => !gone.contains p) }
  let s := { s with txq := s.txq.filter (fun m => !gone.any (fun p => p.msg == m)) }
  ackAdvance (syncKeys s (gone.map (·.slot))) q

/-- R267: NAK QP_ERROR received. -/
def remoteError (s : State) (q psn : Nat) : State :=
  match wqeOf s q psn with
  | some w => qpError (if w.finished then s else endWqe s q w 11) q
  | none => qpError s q

/-- NAK (R262, R264, R266, R267, R326): LENGTH_ERROR completes the message when all of it is acknowledged, another failure at once. A NAK
that names no outstanding packet changes nothing, but for KEY_REVOKED and QP_ERROR, which name the queue pair; a queue pair that takes no
packets answers NAK QP_ERROR (R251). -/
def nakPacket (m : Msg) (s : State) : Res :=
  let s := takeRx s m
  let q := getF m.hdr Pkt.DEST_QP
  let st := getF m.hdr Pkt.STATUS
  let psn := getF m.hdr Pkt.PSN
  answer s (if qpState s q = 2 ∨ qpState s q = 3 then
    if st = 0x20 then retryAfter s q psn (getF m.hdr Pkt.HINT)
    else if st = 0x21 then remoteError s q psn
    else if st = 13 then keyRevoked s q
    else match wqeOf s q psn with
      | some w =>
        if w.finished then s
        else if st = 9 then wqeSet s q { w with status := 9 }
        else ackAdvance (endWqe s q w st) q
      | none => s
  else sendNak s q m psn 0x21 0)

/-- A packet sent again with its own number (R264, R265): RESEND says that a timeout is the cause (R256). -/
def resend (s : State) (q : Nat) (p : SentPkt) (mark : Bool) : State :=
  let m := { p.msg with hdr := setF p.msg.hdr Pkt.RESEND (b2n mark) }
  if s.txq.contains p.msg ∨ s.txq.contains m then s
  else send (setQpSt (qpCount s 3 1) q { qpSt s q with sent := (qpSt s q).sent.map (fun y =>
    if y.psn = p.psn then { y with msg := m, due := none } else y) }) m

/-- R406: the packets of a queue pair sent under a slot that is not VALID any more. -/
def revokedPackets (s : State) (q : Nat) : List SentPkt :=
  (qpSt s q).sent.filter (fun p => (msgSlot s p.msg).isNone || (p.slot != 0 && recF s OD.KEY_SLOTS p.slot KeySlot.STATE != 1))

/-- R406: such packets make no re-send: their work requests complete KEY_REVOKED and their numbers are released. -/
def dropRevoked (s : State) (q : Nat) : State :=
  let gone := revokedPackets s q
  if gone = [] then s
  else
    let s := gone.foldl (fun t p => match wqeOf t q p.psn with
      | some w => if w.finished then t else endWqe t q w 13
      | none => t) s
    let x := qpSt s q
    let s := setQpSt s q { x with sent := x.sent.filter (fun p => !gone.contains p),
                                  acked := gone.foldl (fun a p => if psnBefore a (psnAdd p.last 1) ∧ p.psn = a then psnAdd p.last 1 else a) x.acked }
    let s := { s with txq := s.txq.filter (fun m => !gone.any (fun p => p.msg == m)) }
    ackAdvance (syncKeys s (gone.map (·.slot))) q

/-- QP_TIMEOUT (R265): the timer has reached TIMEOUT. -/
def qpTimeout (q : Nat) (s : State) : Res :=
  answer s (match (qpSt s q).timer with
    | none => s
    | some c =>
      if c + usClk * qpF s q QpCtx.TIMEOUT ≤ s.clk ∧ (qpState s q = 2 ∨ qpState s q = 3) then
        let s := dropRevoked (qpCount s 2 1) q
        let n := (qpSt s q).retries + 1
        if qpF s q QpCtx.ACK_PSN = qpF s q QpCtx.SEND_PSN then s
        else if qpF s q QpCtx.RETRY_MAX ≤ n then
          match (qpSt s q).wqes.find? (fun w => !w.finished) with
          | some w => qpError (endWqe s q w 10) q
          | none => qpError s q
        else
          let s := (qpSt s q).sent.foldl (fun t p => resend t q p true) s
          setQpSt s q { qpSt s q with retries := n, timer := some s.clk }
      else s)

/-- RETRY_AFTER_RESEND (R264): the HINT delay of a packet has passed. -/
def execRetryAfterResend (q psn : Nat) (s : State) : Res :=
  answer s (match (qpSt s q).sent.find? (fun p => p.psn == psn) with
    | none => s
    | some p => match p.due with
      | none => s
      | some c => if c ≤ s.clk ∧ (qpState s q = 2 ∨ qpState s q = 3) then resend s q p false else s)

/-! Receiving requests (R257 to R263). -/

/-- R257: the class of a request packet: 0 new, 1 duplicate, 2 ahead. -/
def classify (s : State) (q psn : Nat) : Nat :=
  let d := psnDiff (qpF s q QpCtx.RECV_PSN) psn
  if d < 8192 then (if (qpSt s q).bitmap.contains psn then 1 else 0) else if 2 ^ 23 ≤ d then 1 else 2

/-- The bytes a READ_REQ asks for: from OFFSET to MSG_LEN. -/
def readSpan (h : Nat) : Nat := getF h Pkt.MSG_LEN - getF h Pkt.OFFSET

/-- The numbers a request packet covers: a READ_REQ's are those of its responses. -/
def coverage (h : Nat) : Nat := if getF h Pkt.OPCODE = 3 then cdiv (readSpan h) 4032 else 1

/-- Is sequence number `p` that of a packet held in the fault buffer? -/
def isHeld (s : State) (q p : Nat) : Bool :=
  s.net.faults.any (fun h => h.qp == q && decide (psnDiff (getF h.msg.hdr Pkt.PSN) p < coverage h.msg.hdr))

/-- R263: is sequence number `p` that of a packet marked received and answered RETRY_AFTER, which the re-send it asks for executes? -/
def isOwed (s : State) (q p : Nat) : Bool := (qpSt s q).owed.any (fun h => decide (psnDiff h.1 p < h.2))

/-- RECV_PSN past every number received and executed: a packet's ACK follows its execution (R263). -/
def recvReach (s : State) (q : Nat) (bm : List Nat) : Nat → Nat → Nat
  | 0, p => p
  | n + 1, p => if bm.contains p && !isHeld s q p && !isOwed s q p then recvReach s q bm n (psnAdd p 1) else p

/-- RECV_PSN advanced over what has been received; an advance is owed an ACK, at once where it reaches ACK_COALESCE (R260). -/
def recvAdvance (s : State) (q : Nat) : State :=
  let x := qpSt s q
  let r := qpF s q QpCtx.RECV_PSN
  let n := recvReach s q x.bitmap 8192 r
  if n = r then s
  else
    let s := qpSet s q [(QpCtx.RECV_PSN, n)]
    let s := setQpSt s q { x with bitmap := x.bitmap.filter (fun p => !psnBefore p n),
                                  ackDue := match x.ackDue with | some c => some c | none => some s.clk }
    if od s OD.ACK_COALESCE ≤ psnDiff x.ackSent n then sendAck s q else s

/-- R257: a new packet's numbers marked received. -/
def markRecv (s : State) (q psn n : Nat) : State :=
  let x := qpSt s q
  recvAdvance (setQpSt s q { x with bitmap := (x.bitmap ++ (List.range n).map (psnAdd psn)).eraseDups }) q

/-- R259: completed messages leave in message order; a SEND's receive buffer is consumed and its completion made. -/
def rxComplete : Nat → State → Nat → State
  | 0, s, _ => s
  | n + 1, s, q =>
    let m := qpF s q QpCtx.RECV_MSN
    match (qpSt s q).rx.find? (fun r => r.msn == m && r.done) with
    | none => s
    | some r =>
      let s := if r.send then
          qpSet (cqPush s q r.wrId r.status 1 r.placed r.msn) q [(QpCtx.RQ_CI, r.idx + 1)]
        else s
      let s := setQpSt s q { qpSt s q with rx := (qpSt s q).rx.filter (fun y => y.msn != m) }
      rxComplete n (qpSet s q [(QpCtx.RECV_MSN, m + 1)]) q

/-- A message that has ended at the receiver: completions in order, and an ACK at once (R260). -/
def rxEnd (s : State) (q : Nat) : State := sendAck (rxComplete ((qpSt s q).rx.length + 1) s q) q

/-- The record of a message being received replaced. -/
def rxSet (s : State) (q : Nat) (r : RxMsg) : State :=
  setQpSt s q { qpSt s q with rx := (qpSt s q).rx.filter (fun y => y.msn != r.msn) ++ [r] }

/-- `n` bytes of a message counted, with a status that makes it fail where it is not 0; the message ends when its length is reached. -/
def rxCount (s : State) (q : Nat) (r : RxMsg) (n status : Nat) : State :=
  let r := { r with placed := r.placed + n, status := if r.status = 0 then status else r.status,
                    done := r.done || decide (r.len ≤ r.placed + n) }
  let s := rxSet s q r
  if r.done then rxEnd s q else s

/-- R259: the receive buffer of a SEND: RQ_CI plus the earlier SENDs being received, which take theirs before it; none where no buffer
is posted for it. -/
def rxBuffer (s : State) (q msn : Nat) : Option Nat :=
  let ci := qpF s q QpCtx.RQ_CI
  let ahead := psnDiff (qpF s q QpCtx.RECV_MSN) msn
  let n := ((qpSt s q).rx.filter (fun r => r.send && decide (psnDiff (qpF s q QpCtx.RECV_MSN) r.msn < ahead))).length
  if n < (qpF s q QpCtx.RQ_PI + 65536 - ci) % 65536 then some ((ci + n) % 65536) else none

/-- R259: is every message before `msn` known: one of its packets seen, executed or held? The buffer a SEND takes depends on which of
them are SENDs. -/
def rxKnown (s : State) (q msn : Nat) : Bool :=
  let a := qpF s q QpCtx.RECV_MSN
  (List.range (psnDiff a msn)).all (fun i =>
    (qpSt s q).rx.any (fun r => r.msn == psnAdd a i)
    || s.net.faults.any (fun h => h.qp == q && getF h.msg.hdr Pkt.MSN == psnAdd a i))

/-- What a SEND's or WRITE's packet carries: decoded bytes, its raw length, and whether the block ended with LENGTH. -/
structure RxData where
  bytes : List Byte
  raw : Nat
  short : Bool
  deriving DecidableEq, Repr

/-- The data length a packet's header gives (R256). -/
def pktLen (h : Nat) : Nat := min 4032 (getF h Pkt.MSG_LEN - getF h Pkt.OFFSET)

/-- R324, R325: the block of a received packet: none where it is malformed (false) or its table is not held (true). -/
def pktData (s : State) (m : Msg) : State × Option RxData × Bool :=
  match blockIn s m.dest (leNat (m.data.take 8)) (m.data.drop 8) (some (pktLen m.hdr)) with
  | (s, .malformed) => (s, none, false)
  | (s, .stale) => (s, none, true)
  | (s, .ok d) => (s, some ⟨d.bytes, pktLen m.hdr, d.lengthErr⟩, false)

/-- R274: bytes received counted. -/
def countIn (s : State) (q n : Nat) : State := odAdd s OD.QP_USAGE (3 * q + 1) n

/-- A request packet with a key reads the record the key names (R262), through the outer code (R208). -/
def keyTouch (s : State) (m : Msg) : State :=
  let i := getF m.hdr Pkt.KEY % 2 ^ 24
  if getF m.hdr Pkt.OPCODE = 1 ∨ od s OD.MR_TABLE_ENTRIES ≤ i then s else mapTouch s (od s OD.MR_TABLE_BASE + 32 * i) 32

/-- R263: a number owed an execution has met the re-send that its RETRY_AFTER asked for: it is new again. -/
def unowe (s : State) (q psn : Nat) : State :=
  let x := qpSt s q
  let mine := x.owed.filter (fun h => h.1 == psn)
  setQpSt s q { x with owed := x.owed.filter (fun h => h.1 != psn),
                       bitmap := x.bitmap.filter (fun p => mine.all (fun h => decide (h.2 ≤ psnDiff h.1 p))) }

/-- R263: is a packet the re-send that executes an owed number: not one sent again after a timeout, or a READ_REQ, which a duplicate
executes as well (R258)? -/
def owedResend (s : State) (q h : Nat) : Bool :=
  isOwed s q (getF h Pkt.PSN) && (getF h Pkt.RESEND == 0 || getF h Pkt.OPCODE == 3)

/-- What a request packet meets before it is executed: a queue pair that takes no packets (NAK QP_ERROR), a duplicate, a number ahead
of the window, or nothing (R251, R257). The duplicate of a packet that is held or waits gets no answer (R263). -/
def requestGate (s : State) (q : Nat) (m : Msg) : State × Nat :=
  let s := mapTouch s (qpAddr s q) 128
  if qpState s q ≠ 2 ∧ qpState s q ≠ 3 then (sendNak s q m (getF m.hdr Pkt.PSN) 0x21 0, 3)
  else match classify s q (getF m.hdr Pkt.PSN) with
    | 0 => if (qpSt s q).early.any (fun e => getF e.1.hdr Pkt.PSN == getF m.hdr Pkt.PSN) then (s, 3) else (keyTouch s m, 0)
    | 1 =>
      if isHeld s q (getF m.hdr Pkt.PSN) then (s, 3)
      else if owedResend s q m.hdr then (keyTouch (unowe s q (getF m.hdr Pkt.PSN)) m, 0)
      else (qpCount s 0 1, 1)
    | _ => (qpCount s 1 1, 3)

/-- A message of a SEND not seen before gets its record, with the buffer it takes; one longer than the buffer fails with LENGTH_ERROR
(R259). -/
def newSend (s : State) (q : Nat) (h idx : Nat) : State × RxMsg :=
  let r := readRec s ownReader (qpF s q QpCtx.RQ_BASE + 32 * (idx % 2 ^ qpF s q QpCtx.RQ_LOG2)) 32
  let room := getF r.2.1 Rqe.LENGTH
  let st := if r.2.2.1 ≠ 0 then 12 else if room < getF h Pkt.MSG_LEN then 9 else 0
  (r.1, { msn := getF h Pkt.MSN, len := getF h Pkt.MSG_LEN, placed := 0, status := st, send := true, addr := getF r.2.1 Rqe.ADDR,
          room := room, wrId := getF r.2.1 Rqe.WR_ID, idx := idx, done := false })

/-- A packet's data placed at an address (R259), as its owner where it is the clasp unit's pull: the status the placement gives (0 OK,
3 KEY_TENANT under R400, 12 LOCAL_ERROR). -/
def placeData (s : State) (m : Msg) (pulled : Bool) (a : Nat) (d : RxData) : State × Nat :=
  if arriveOk s a d.raw m.tenant = false then (s, 3)
  else
    let r := if pulled then writeMem s true ownReader a d.bytes else agentWrite s true ownReader a d.bytes
    (r.1, if r.2.1 = 0 then 0 else 12)

/-- The decoded packet of a SEND whose message is known, or takes a receive buffer now: its data placed at its offset (R259). A failure is
answered before the number is marked, and so before an ACK passes it. -/
def runSend (s : State) (q : Nat) (m : Msg) (d : RxData) : State :=
  let psn := getF m.hdr Pkt.PSN
  let known := (qpSt s q).rx.find? (fun r => r.msn == getF m.hdr Pkt.MSN)
  match known, rxBuffer s q (getF m.hdr Pkt.MSN) with
  | none, none => sendNak s q m psn 0x20 (od s OD.RECV_RETRY_US)
  | _, b =>
    let nr : State × RxMsg := match known with
      | some r => (s, r)
      | none => newSend s q m.hdr (b.getD 0)
    let s := rxSet (countIn nr.1 q d.raw) q nr.2
    if nr.2.status ≠ 0 then
      let s := if known.isNone then sendNak s q m psn nr.2.status 0 else s
      rxCount (markRecv s q psn 1) q { nr.2 with done := true } 0 0
    else
      let p := placeData s m false (nr.2.addr + getF m.hdr Pkt.OFFSET) (if d.short then { d with raw := d.bytes.length } else d)
      let st := if p.2 ≠ 0 then p.2 else if d.short then 9 else 0
      rxCount (markRecv (if st ≠ 0 then sendNak p.1 q m psn st 0 else p.1) q psn 1) q nr.2 d.raw st

/-- R259: a decoded packet of a SEND: executed, or kept until every earlier message is known, on which its buffer depends (log 43). With
no buffer posted at all it meets R263's answer at once. -/
def sendArrived (s : State) (q : Nat) (m : Msg) (d : RxData) : State :=
  let msn := getF m.hdr Pkt.MSN
  if psnBefore msn (qpF s q QpCtx.RECV_MSN) then markRecv s q (getF m.hdr Pkt.PSN) 1
  else if (qpSt s q).rx.any (fun r => r.msn == msn) ∨ rxKnown s q msn ∨ rxBuffer s q msn = none then runSend s q m d
  else setQpSt s q { qpSt s q with early := (qpSt s q).early ++ [({ m with data := d.bytes }, d.short)] }

/-- R259: the SEND packets that waited for an earlier message to be known, executed as far as that now holds. -/
def earlyRun : Nat → State → Nat → State
  | 0, s, _ => s
  | n + 1, s, q =>
    match (qpSt s q).early.find? (fun e =>
      (qpSt s q).rx.any (fun r => r.msn == getF e.1.hdr Pkt.MSN) || rxKnown s q (getF e.1.hdr Pkt.MSN)) with
    | none => s
    | some e =>
      let s := setQpSt s q { qpSt s q with early := (qpSt s q).early.erase e }
      earlyRun n (runSend s q e.1 ⟨e.1.data, pktLen e.1.hdr, e.2⟩) q

/-- The waiting SEND packets of a queue pair looked at again. -/
def earlySends (s : State) (q : Nat) : State := earlyRun (qpSt s q).early.length s q

/-- SEND_PACKET (R257, R259, R263, R326). -/
def execSendPacket (m : Msg) (s : State) : Res :=
  let s := takeRx s m
  let q := getF m.hdr Pkt.DEST_QP
  let g := requestGate s q m
  answer s (if g.2 = 1 then dupAck g.1 q else if g.2 ≠ 0 then g.1
  else match pktData g.1 m with
    | (s, none, true) => s
    | (s, none, false) => qpError s q
    | (s, some d, _) => earlySends (sendArrived s q m d) q)

/-! Memory keys (R261, R262). -/

/-- The device offset of region record `i`. -/
def mrAddr (s : State) (i : Nat) : Nat := od s OD.MR_TABLE_BASE + 32 * i
/-- Region record `i`. -/
def mrGet (s : State) (i : Nat) : Nat := mapNat s (mrAddr s i) 32

/-- MR_REGISTER (R261): a record set VALID, its generation kept; the key. -/
def mrRegister (s : State) (i rec_ : Nat) : State × Nat :=
  let g := getF (mrGet s i) Mr.GEN
  (mapPut s (mrAddr s i) 32 (setFs rec_ [(Mr.GEN, g), (Mr.VALID, 1)]), g * 2 ^ 24 + i)

/-- MR_DEREGISTER (R261): VALID cleared, GEN advanced. -/
def mrDeregister (s : State) (i : Nat) : State :=
  mapPut s (mrAddr s i) 32 (setFs (mrGet s i) [(Mr.VALID, 0), (Mr.GEN, getF (mrGet s i) Mr.GEN + 1)])

/-- The lowest region record from `i` on, of `n` tried, that is not VALID. -/
def mrFree (s : State) : Nat → Nat → Option Nat
  | 0, _ => none
  | n + 1, i => if getF (mrGet s i) Mr.VALID = 0 then some i else mrFree s n (i + 1)

/-- R398: does a region meet a partition that closes it to its tenant? -/
def mrBarred (s : State) (rec_ : Nat) : Bool :=
  (partHits s (getF rec_ Mr.BASE) (getF rec_ Mr.LENGTH)).any (fun i =>
    if recF s OD.PARTITIONS i Part.KIND = 1 then recF s OD.PARTITIONS i Part.TENANT != getF rec_ Mr.TENANT
    else recF s OD.TENANTS (getF rec_ Mr.TENANT) Tenant.KEY_SLOT == 0)

/-- R262: the key of a packet checked for bytes [a, a + n) of its region by queue pair `q`: 0, or the first failing status; `right` 3 read,
2 write, 1 atomic. -/
def keyCheck (s : State) (q : Nat) (m : Msg) (right a n : Nat) : Nat :=
  let i := getF m.hdr Pkt.KEY % 2 ^ 24
  let r := mrGet s i
  if od s OD.MR_TABLE_ENTRIES ≤ i ∨ getF r Mr.VALID = 0 ∨ getF r Mr.GEN ≠ getF m.hdr Pkt.KEY / 2 ^ 24 then 2
  else if getF r Mr.TENANT ≠ qpF s q QpCtx.TENANT then 3
  else if getF r Mr.ANY_PEER = 0 ∧ getF r Mr.PEER_DEVICE ≠ m.dest then 4
  else if bitOf (getF r Mr.RIGHTS) right = false then 5
  else if getF r Mr.LENGTH < a + n ∨ (right = 1 ∧ (getF r Mr.BASE + a) % 8 ≠ 0) then 6
  else 0

/-- The region record a packet's key names. -/
def mrOf (s : State) (m : Msg) : Nat := mrGet s (getF m.hdr Pkt.KEY % 2 ^ 24)

/-- R262, R263: the first page of bytes [a, a + n) of a region that is not resident. -/
def pageMissing (s : State) (r a n : Nat) : Option Nat :=
  if getF r Mr.PAGED = 0 ∨ n = 0 then none
  else (span (a / 2 ^ 21) ((a + n - 1) / 2 ^ 21 + 1 - a / 2 ^ 21)).find? (fun p =>
    !bitOf (memByte s (homeOf s (getF r Mr.RESIDENT_MAP + p / 8))).toNat (p % 8))

/-- The bytes of its region a request touches. -/
def touched (h : Nat) : Nat × Nat :=
  if getF h Pkt.OPCODE = 2 then (getF h Pkt.REMOTE_OFFSET + getF h Pkt.OFFSET, pktLen h)
  else if getF h Pkt.OPCODE = 3 then (getF h Pkt.REMOTE_OFFSET + getF h Pkt.OFFSET, readSpan h)
  else (getF h Pkt.REMOTE_OFFSET, 8)

/-- R262, R263: does a packet touch a page that is not resident? -/
def pageAbsent (s : State) (m : Msg) : Bool := (pageMissing s (mrOf s m) (touched m.hdr).1 (touched m.hdr).2).isSome

/-- R263: a packet answered RETRY_AFTER: its numbers stay marked and owed an execution, which the re-send brings (R264). -/
def pageRetry (s : State) (q : Nat) (m : Msg) (hint : Nat) : State :=
  let psn := getF m.hdr Pkt.PSN
  let s := setQpSt s q { qpSt s q with owed := (qpSt s q).owed ++ [(psn, coverage m.hdr)] }
  sendNak (markRecv s q psn (coverage m.hdr)) q m psn 0x20 hint

/-- R263: a packet that touches a page not resident: its numbers marked, the fault recorded, then held or answered RETRY_AFTER. `body` is
the packet with its data decoded. -/
def pageFault (s : State) (q : Nat) (m body : Msg) (short : Bool) : State :=
  let stall := getF (mrOf s m) Mr.FAULT_MODE = 0 ∧ s.net.faults.length < 256
  let s := ringPush s OD.PAGE_FAULT_RING (mkRec [(PageFault.FRAME, frameNo s), (PageFault.QP, q),
    (PageFault.KEY_INDEX, getF m.hdr Pkt.KEY), (PageFault.PAGE, (getF m.hdr Pkt.REMOTE_OFFSET + getF m.hdr Pkt.OFFSET) / 2 ^ 21),
    (PageFault.MODE, if stall then 0 else 1)])
  if stall then
    markRecv { s with net := { s.net with faults := s.net.faults ++ [⟨q, body, s.clk, short⟩] } } q (getF m.hdr Pkt.PSN)
      (coverage m.hdr)
  else pageRetry s q m (od s OD.FAULT_HINT_US)

/-- A message that is not a SEND, for which packets are counted. -/
def otherMsg (h status : Nat) : RxMsg :=
  { msn := getF h Pkt.MSN, len := getF h Pkt.MSG_LEN, placed := 0, status := status, send := false, addr := 0, room := 0, wrId := 0,
    idx := 0, done := false }

/-- The record of the message a packet belongs to. -/
def msgOf (s : State) (q h : Nat) : RxMsg :=
  ((qpSt s q).rx.find? (fun r => r.msn == getF h Pkt.MSN)).getD (otherMsg h 0)

/-- A key failure answered and counted. -/
def keyFail (s : State) (q : Nat) (m : Msg) (psn st : Nat) : State := sendNak (qpCount s 5 1) q m psn st 0

/-- A WRITE packet executed: placed at its offset (R259), a failure answered, its number marked. -/
def runWrite (s : State) (q : Nat) (m : Msg) (d : RxData) : State :=
  let r := msgOf s q m.hdr
  let a := getF (mrOf s m) Mr.BASE + getF m.hdr Pkt.REMOTE_OFFSET + getF m.hdr Pkt.OFFSET
  let p := placeData s m false a (if d.short then { d with raw := d.bytes.length } else d)
  let st := if p.2 ≠ 0 then p.2 else if d.short then 9 else 0
  rxCount (markRecv (if st ≠ 0 then sendNak p.1 q m (getF m.hdr Pkt.PSN) st 0 else p.1) q (getF m.hdr Pkt.PSN) 1) q r d.raw st

/-- WRITE_PACKET (R257, R259, R262, R263, R326). -/
def execWritePacket (m : Msg) (s : State) : Res :=
  let s := takeRx s m
  let q := getF m.hdr Pkt.DEST_QP
  let psn := getF m.hdr Pkt.PSN
  let g := requestGate s q m
  answer s (if g.2 = 1 then dupAck g.1 q else if g.2 ≠ 0 then g.1
  else match pktData g.1 m with
    | (s, none, true) => s
    | (s, none, false) => qpError s q
    | (s, some d, _) =>
      let s := countIn s q d.raw
      let r := msgOf s q m.hdr
      earlySends (if r.status ≠ 0 then rxCount (markRecv s q psn 1) q r d.raw 0
      else
        let k := keyCheck s q m 2 (touched m.hdr).1 d.raw
        if k ≠ 0 then rxCount (markRecv (keyFail s q m psn k) q psn 1) q r d.raw k
        else if pageAbsent s m then pageFault s q m { m with data := d.bytes } d.short
        else runWrite s q m d) q)

/-- The tenant of a transfer out of a region: the region's on a PASS queue pair (a clasp pull or shard, R405), else the queue pair's. -/
def replyTenant (s : State) (q : Nat) (m : Msg) : Nat :=
  if qpF s q QpCtx.FUNCTION = 3 then getF (mrOf s m) Mr.TENANT else qpF s q QpCtx.TENANT

/-- R258, R262: the responses of a READ_REQ from packet `i` on, to the first failure. -/
def runRead : Nat → State → Nat → Msg → Nat → State
  | 0, s, _, _, _ => s
  | fuel + 1, s, q, m, i =>
    let len := readSpan m.hdr
    let n := min 4032 (len - 4032 * i)
    if len ≤ 4032 * i then s
    else
      let psn := psnAdd (getF m.hdr Pkt.PSN) i
      let at_ := getF m.hdr Pkt.OFFSET + 4032 * i
      let off := getF m.hdr Pkt.REMOTE_OFFSET + at_
      let k := keyCheck s q m 3 off n
      let a := getF (mrOf s m) Mr.BASE + off
      if k ≠ 0 then keyFail s q m psn k
      else if leaveOk s a n (replyTenant s q m) = false then sendNak s q m psn 3 0
      else
        let r := readMem s true ownReader a n
        if r.2.2.1 ≠ 0 then sendNak r.1 q m psn 12 0
        else
          let h := mkRec [(Pkt.OPCODE, 4), (Pkt.DEST_QP, getF m.hdr Pkt.SRC_QP), (Pkt.SRC_QP, q), (Pkt.PSN, psn),
            (Pkt.MSN, getF m.hdr Pkt.MSN), (Pkt.MSG_LEN, getF m.hdr Pkt.MSG_LEN), (Pkt.OFFSET, at_),
            (Pkt.LAST, b2n (len ≤ 4032 * (i + 1) ∧ getF m.hdr Pkt.LAST = 1))]
          let s := send r.1 { pktMsg r.1 q h r.2.1 (replyTenant r.1 q m) with dest := m.dest }
          runRead fuel s q m (i + 1)

/-- A request that completes as it is executed (atomic, the last request of a READ); one executed again completes nothing more. -/
def rxDone (s : State) (q : Nat) (m : Msg) : State :=
  if getF m.hdr Pkt.LAST = 0 ∨ psnBefore (getF m.hdr Pkt.MSN) (qpF s q QpCtx.RECV_MSN) then s
  else rxEnd (rxSet s q { otherMsg m.hdr 0 with done := true }) q

/-- READ_REQ (R257, R258, R262, R263): new, or a duplicate read afresh. The key and the pages are tested either way. -/
def readReq (m : Msg) (s : State) : Res :=
  let s := takeRx s m
  let q := getF m.hdr Pkt.DEST_QP
  let psn := getF m.hdr Pkt.PSN
  let n := coverage m.hdr
  let t := touched m.hdr
  let g := requestGate s q m
  answer s (if 1 < g.2 then g.1
  else if keyCheck g.1 q m 3 t.1 (min 4032 t.2) = 0 ∧ pageAbsent g.1 m then pageFault g.1 q m m false
  else if g.2 = 1 then runRead n g.1 q m 0
  else earlySends (rxDone (runRead n (markRecv g.1 q psn n) q m 0) q m) q)

/-- The response of an atomic. -/
def atomicResp (s : State) (q : Nat) (m : Msg) (prior : Nat) : State :=
  let h := mkRec [(Pkt.OPCODE, 6), (Pkt.DEST_QP, getF m.hdr Pkt.SRC_QP), (Pkt.SRC_QP, q), (Pkt.PSN, getF m.hdr Pkt.PSN),
    (Pkt.MSN, getF m.hdr Pkt.MSN), (Pkt.MSG_LEN, 8), (Pkt.LAST, 1)]
  send s { pktMsg s q h (leBytes 8 prior) (replyTenant s q m) with dest := m.dest }

/-- R253: what an atomic leaves in the 8-byte word. -/
def atomicNew (op prior a b : Nat) : Nat := if op = 0 then (prior + a) % 2 ^ 64 else if prior = a then b else prior

/-- An atomic executed, its prior value kept in the store of 16 and answered (R258). -/
def runAtomic (s : State) (q : Nat) (m : Msg) : State :=
  let a := getF (mrOf s m) Mr.BASE + getF m.hdr Pkt.REMOTE_OFFSET
  if leaveOk s a 8 (replyTenant s q m) = false ∨ arriveOk s a 8 m.tenant = false then sendNak s q m (getF m.hdr Pkt.PSN) 3 0
  else
    let r := readMem s true ownReader a 8
    if r.2.2.1 ≠ 0 then sendNak r.1 q m (getF m.hdr Pkt.PSN) 12 0
    else
      let prior := leNat r.2.1
      let v := atomicNew (getF m.hdr Pkt.HINT) prior (leNat (m.data.take 8)) (leNat ((m.data.drop 8).take 8))
      let w := agentWrite r.1 true ownReader a (leBytes 8 v)
      let x := qpSt w.1 q
      let st := x.atomics ++ [(getF m.hdr Pkt.PSN, prior)]
      atomicResp (setQpSt w.1 q { x with atomics := st.drop (st.length - 16) }) q m prior

/-- ATOMIC (R257, R258, R262): executed once; a duplicate is answered from the result store, or by an ACK only. -/
def execAtomic (m : Msg) (s : State) : Res :=
  let s := takeRx s m
  let q := getF m.hdr Pkt.DEST_QP
  let psn := getF m.hdr Pkt.PSN
  let g := requestGate s q m
  answer s (if g.2 = 1 then
    match (qpSt g.1 q).atomics.find? (fun p => p.1 == psn) with
    | some p => atomicResp g.1 q m p.2
    | none => dupAck g.1 q
  else if g.2 ≠ 0 then g.1
  else
    let s := countIn g.1 q 16
    let k := keyCheck s q m 1 (getF m.hdr Pkt.REMOTE_OFFSET) 8
    earlySends (if k ≠ 0 then rxDone (keyFail (markRecv s q psn 1) q m psn k) q m
    else if pageAbsent s m then pageFault s q m m false
    else rxDone (runAtomic (markRecv s q psn 1) q m) q m) q)

/-- R263: a held packet executed. -/
def runHeld (s : State) (h : HeldPkt) : State :=
  let s := { s with net := { s.net with faults := s.net.faults.erase h } }
  let op := getF h.msg.hdr Pkt.OPCODE
  let s := if op = 2 then runWrite s h.qp h.msg ⟨h.msg.data, pktLen h.msg.hdr, h.short⟩
    else if op = 3 then rxDone (runRead (coverage h.msg.hdr) s h.qp h.msg 0) h.qp h.msg
    else rxDone (runAtomic s h.qp h.msg) h.qp h.msg
  earlySends (recvAdvance s h.qp) h.qp

/-- PAGE_RESIDENT (R263): a held packet whose pages are now resident is executed. -/
def execPageResident (q psn : Nat) (s : State) : Res :=
  answer s (match s.net.faults.find? (fun h => h.qp == q && getF h.msg.hdr Pkt.PSN == psn) with
    | none => s
    | some h => if pageAbsent s h.msg then s else runHeld s h)

/-- STALL_LIMIT (R263): a held packet whose limit has passed is answered RETRY_AFTER with HINT 0; its numbers stay marked. -/
def execStallLimit (q psn : Nat) (s : State) : Res :=
  answer s (match s.net.faults.find? (fun h => h.qp == q && getF h.msg.hdr Pkt.PSN == psn) with
    | none => s
    | some h =>
      if h.clk + usClk * getF (mrOf s h.msg) Mr.STALL_LIMIT ≤ s.clk then
        pageRetry { s with net := { s.net with faults := s.net.faults.erase h } } q h.msg 0
      else s)

/-! Responses at the requester (R258). -/

/-- A response's work request: outstanding, of the right kind, and not yet answered for this number. -/
def respWqe (s : State) (q psn : Nat) (read : Bool) : Option Wqe :=
  (qpSt s q).wqes.find? (fun w => decide (psnDiff w.psn psn < w.assigned) && !w.finished && !w.landed.contains (psnDiff w.psn psn)
    && (if read then getF w.sqe Sqe.OP == 3 else decide (4 ≤ getF w.sqe Sqe.OP)))

/-- A response landed for a work request, `n` bytes placed; `st` is the failure it brings, 0 none. -/
def landed (s : State) (q : Nat) (w : Wqe) (psn n st : Nat) : State :=
  let w := { w with landed := w.landed ++ [psnDiff w.psn psn], bytes := w.bytes + n, status := if w.status = 0 then st else w.status }
  let s := wqeSet s q w
  let s := if w.landed.length = w.count ∧ w.status ≠ 0 then endWqe s q w w.status else s
  ackAdvance s q

/-- A response's data placed: in the local buffer, or kept for the access to an aperture (R300). -/
def placeResp (s : State) (w : Wqe) (m : Msg) (off : Nat) (d : RxData) : State × Nat :=
  match w.who with
  | .access a =>
    let old := kget s.fab.apBuf a (List.replicate (wqeBytes w.sqe) 0)
    ({ s with fab := { s.fab with apBuf := kput s.fab.apBuf a (old.take off ++ d.bytes ++ old.drop (off + d.bytes.length)) } }, 0)
  | .pull .. => placeData s m true (getF w.sqe Sqe.LOCAL_ADDR + off) (if d.short then { d with raw := d.bytes.length } else d)
  | _ => placeData s m false (getF w.sqe Sqe.LOCAL_ADDR + off) (if d.short then { d with raw := d.bytes.length } else d)

/-- READ_RESP (R258, R324 to R326): placed for an outstanding READ, else discarded; a queue pair that takes no packets answers NAK
QP_ERROR (R251). -/
def readResp (m : Msg) (s : State) : Res :=
  let s := takeRx s m
  let q := getF m.hdr Pkt.DEST_QP
  let psn := getF m.hdr Pkt.PSN
  answer s (if qpState s q ≠ 2 ∧ qpState s q ≠ 3 then sendNak s q m psn 0x21 0 else match respWqe s q psn true with
    | none => s
    | some w => match pktData s m with
      | (s, none, true) => s
      | (s, none, false) => qpError s q
      | (s, some d, _) =>
        let s := countIn s q d.raw
        let p := placeResp s w m (getF m.hdr Pkt.OFFSET) d
        if p.2 = 3 then sendNak p.1 q m psn 3 0
        else if p.2 ≠ 0 then ackAdvance (endWqe p.1 q w 12) q
        else landed p.1 q w psn d.bytes.length (if d.short then 9 else 0))

/-- ATOMIC_RESP (R258): the prior value placed at LOCAL_ADDR for an outstanding atomic, else discarded; a queue pair that takes no
packets answers NAK QP_ERROR (R251). -/
def execAtomicResp (m : Msg) (s : State) : Res :=
  let s := takeRx s m
  let q := getF m.hdr Pkt.DEST_QP
  let psn := getF m.hdr Pkt.PSN
  answer s (if qpState s q ≠ 2 ∧ qpState s q ≠ 3 then sendNak s q m psn 0x21 0 else match respWqe s q psn false with
    | none => s
    | some w =>
      let s := countIn s q 8
      let p := placeResp s w m 0 ⟨m.data.take 8, 8, false⟩
      if p.2 = 3 then sendNak p.1 q m psn 3 0
      else if p.2 ≠ 0 then ackAdvance (endWqe p.1 q w 12) q
      else landed p.1 q w psn 8 0)

/-- ACK_TIMER (R260): 1 µs after an advance that has not been acknowledged. -/
def execAckTimer (q : Nat) (s : State) : Res :=
  answer s (match (qpSt s q).ackDue with
    | none => s
    | some c => if c + usClk ≤ s.clk ∧ (qpState s q = 2 ∨ qpState s q = 3) then sendAck s q else s)

/-! The tick (R273, R274). -/

/-- R273: a queue pair's telemetry record at a tick; `sample` is false at the first tick after RUN. -/
def qpRecord (s : State) (q : Nat) (sample : Bool) : Nat :=
  let x := qpSt s q
  let open_ := x.wqes.filter (fun w => !w.finished)
  let n := (qpF s q QpCtx.SQ_PI + 65536 - qpF s q QpCtx.SQ_CI) % 65536 - (x.wqes.length - open_.length)
  let oldest := match open_ with
    | w :: _ => some w.posted
    | [] => x.posted.head?.map (·.clk)
  let delay := match oldest with
    | some c => if sample then satBits 32 (s.clk - c) else 0xFFFFFFFF
    | none => 0xFFFFFFFF
  mkRec [(fld 63 48, q), (fld 47 32, satBits 16 n), (fld 31 0, delay)]

/-- R273, R274: every queue pair not in RESET reports, and those in READY or DRAINING count a frame. -/
def qpTick (s : State) (sample : Bool) : State :=
  (s.net.qps.map Prod.fst).foldl (fun t q =>
    if qpState t q = 0 then t
    else
      let t := ringPush t OD.QP_TELEMETRY (qpRecord t q sample)
      if qpState t q = 2 ∨ qpState t q = 3 then odAdd t OD.QP_USAGE (3 * q + 2) 1 else t) s

end Sys2Proof.Machine
end

