-- ==== Sys2Proof/Machine/Fabric.lean ====
section
/-! DEFINITION. Chapter 13: accesses to tray physical addresses, tray requests, the tray read cache, FABRIC steps, the coherent
control window and gateway apertures. An access gets a number; when it ends its status and bytes stand in `results` under that number,
for whoever made it. Statuses: 0 OK, 1 UNCORRECTABLE, 2 NOT_EXPORTED, 3 BAD_TARGET, 4 TIMEOUT, 5 SLOT_DEAD, 6 DOMAIN_DOWN, 7 NO_SLOT,
8 APERTURE_FAULT.
Choices of the model here, by the assumption log: log 41 (DESIGN CHOICE); log 44 (PRESUMED); log 45 (DEDUCED). -/

namespace Sys2Proof.Machine

/-- The slot of a tray physical address (R275). -/
abbrev paSlot (a : Nat) : Nat := a / 2 ^ 42 % 32
/-- The device offset of a tray physical address. -/
abbrev paOff (a : Nat) : Nat := a % 2 ^ 42
/-- The control window (R290). -/
def inWindow (off : Nat) : Bool := decide (0x20000000000 ≤ off) && decide (off < 0x20010000000)
/-- The gateway apertures (R299). -/
def inApertures (off : Nat) : Bool := decide (0x28000000000 ≤ off) && decide (off < 0x29000000000)
/-- The device offset of aperture 0. -/
abbrev apBase : Nat := 0x28000000000
/-- TRAY_COUNTS: 0 requests, 1 responses, 2 timeouts, 3 LATE_RESPONSES, 4 NOT_EXPORTED, 5 BAD_TARGET, 6 UNCORRECTABLE, 7 SLOT_DEAD. -/
abbrev trayCount (s : State) (i : Nat) : State := odAdd s OD.TRAY_COUNTS i 1
/-- TRC_COUNTS: 0 hits, 1 misses, 2 FILLS_DROPPED, 3 lines invalidated. -/
abbrev trcCount (s : State) (i n : Nat) : State := odAdd s OD.TRC_COUNTS i n
/-- COH_COUNTS: 0 requests, 1 forwards, 2 invalidations, 3 DIR_EVICTIONS, 4 holds that delayed a forward, 5 DOMAIN_DOWN entries. -/
abbrev cohCount (s : State) (i n : Nat) : State := odAdd s OD.COH_COUNTS i n

/-- An access ends with a status and bytes. -/
def endAccess (s : State) (id status : Nat) (bytes : List Byte) : State :=
  { s with fab := { s.fab with live := s.fab.live.filter (fun a => a.id != id), results := kput s.fab.results id (status, bytes) } }

/-- An access in progress, by its number. -/
def liveAccess (s : State) (id : Nat) : Option Access := s.fab.live.find? (fun a => a.id == id)

/-- An access in progress replaced. -/
def liveSet (s : State) (a : Access) : State :=
  { s with fab := { s.fab with live := s.fab.live.map (fun b => if b.id = a.id then a else b) } }

/-- The bytes an access returns when it fails: zeros, for a read (R84). -/
def failBytes (a : Access) : List Byte := if a.kind = 0 then List.replicate a.len 0 else []

/-- R282: a record of a TIMEOUT or a SLOT_DEAD response: frame, status, tray physical address (the layout is the model's own). -/
def fabricFault (s : State) (status addr : Nat) : State :=
  ringPush s OD.FABRIC_FAULT_RING (mkRec [(fld 255 224, frameNo s), (fld 223 216, status), (fld 46 0, addr)])

/-! The tray read cache (R284): sets by line modulo 4,096. -/

/-- The bytes of a cached line. -/
def trcFind (s : State) (line : Nat) : Option (List Byte) :=
  ((kget s.fab.trc (line % 4096) []).find? (fun p => p.1 == line)).map Prod.snd

/-- A line put in the cache, or made its set's most recently used. -/
def trcPut (s : State) (line : Nat) (bs : List Byte) : State :=
  let set := (line, bs) :: (kget s.fab.trc (line % 4096) []).filter (fun p => p.1 != line)
  { s with fab := { s.fab with trc := kput s.fab.trc (line % 4096) (set.take 16) } }

/-- The lines that satisfy `p` leave the cache, counted. -/
def trcDrop (s : State) (p : Nat → Bool) : State :=
  let n := (s.fab.trc.map (fun e => e.2.countP (fun l => p l.1))).sum
  trcCount { s with fab := { s.fab with trc := s.fab.trc.map (fun e => (e.1, e.2.filter (fun l => !p l.1))) } } 3 n

/-- R284: the whole cache invalidated. -/
def trcInvalAll (s : State) : State := trcDrop s (fun _ => true)

/-- The lines a range of tray physical addresses meets. -/
def linesOf (a n : Nat) : List Nat := if n = 0 then [] else span (a / 64) ((a + n - 1) / 64 + 1 - a / 64)

/-- A read served wholly from the cache. -/
def trcRead (s : State) (a n : Nat) : Option (List Byte) :=
  let ls := linesOf a n
  if ls.all (fun l => (trcFind s l).isSome) then
    some (((ls.flatMap (fun l => (trcFind s l).getD [])).drop (a % 64)).take n)
  else none

/-- R284: a write by this device updates the cached lines it covers. -/
def trcUpdate (s : State) (a : Nat) (bs : List Byte) : State :=
  (linesOf a bs.length).foldl (fun t l =>
    match trcFind t l with
    | none => t
    | some old =>
      let new := old.zipIdx.map (fun p =>
        let x := 64 * l + p.2
        if a ≤ x ∧ x < a + bs.length then bs.getD (x - a) 0 else p.1)
      let set := (kget t.fab.trc (l % 4096) []).map (fun p => if p.1 = l then (l, new) else p)
      { t with fab := { t.fab with trc := kput t.fab.trc (l % 4096) set } }) s

/-! Tray requests (R278 to R283). -/

/-- The lowest tag that is free. -/
def freeTag (s : State) : Option Nat :=
  (List.range 4096).find? (fun t => (kfind s.fab.tags t).isNone)

/-- The request an access sends. -/
def trayRequest (s : State) (a : Access) (tag : Nat) : Msg :=
  { vc := 1, kind := 2, dest := slotDest s (paSlot a.addr),
    hdr := mkRec [(TrayHdr.OPCODE, 0x40 + 2 * a.kind), (TrayHdr.TAG, tag), (TrayHdr.TAG_GEN, kget s.fab.tagGen tag 0),
      (TrayHdr.TENANT, a.tenant), (TrayHdr.TENANT_VALID, b2n a.tenValid), (TrayHdr.LENGTH_M1, a.len - 1),
      (TrayHdr.OFFSET, paOff a.addr), (TrayHdr.SRC_SLOT, ownSlot s), (TrayHdr.ATOMIC_OP, a.op)],
    hlen := 32, data := if a.kind = 2 then leBytes 8 a.a ++ leBytes 8 a.b else a.data, stream := 0, tenant := 4096 }

/-- Accesses that wait for a tag get one, oldest first (R280). -/
def tagPump : Nat → State → State
  | 0, s => s
  | n + 1, s =>
    match s.fab.live.find? (fun a => a.tag.isNone && a.aperture.isNone && a.line.isNone), freeTag s with
    | some a, some t =>
      let s := liveSet s { a with tag := some t, issued := s.clk }
      let s := { s with fab := { s.fab with tags := kput s.fab.tags t a.id } }
      tagPump n (send (trayCount s 0) (trayRequest s a t))
    | _, _ => s

/-- A tag is free again. -/
def freeTagOf (s : State) (t : Nat) : State :=
  let s := { s with fab := { s.fab with tags := kdel s.fab.tags t } }
  tagPump s.fab.live.length s

/-- Bulk access to another slot (R279 to R284): dead slots answer at once, reads may hit the cache, others become requests. -/
def bulkStart (s : State) (a : Access) : State :=
  if bitOf (od s OD.DEAD_SLOTS) (paSlot a.addr) then
    endAccess (fabricFault (trayCount s 7) 5 a.addr) a.id 5 (failBytes a)
  else
    match if a.kind = 0 then trcRead s a.addr a.len else none with
    | some bs =>
      let s := (linesOf a.addr a.len).foldl (fun t l => trcPut t l ((trcFind t l).getD [])) s
      endAccess (trcCount s 0 (linesOf a.addr a.len).length) a.id 0 bs
    | none =>
      let s := if a.kind = 0 then trcCount s 1 (linesOf a.addr a.len).length else s
      let s := if a.kind = 1 then trcUpdate s a.addr a.data else s
      tagPump s.fab.live.length s

/-- What an atomic leaves in its word (R287): 0 FETCH_ADD, 1 CMP_SWAP, 2 SWAP. -/
def atomicWord (op prior a b : Nat) : Nat :=
  if op = 0 then (prior + a) % 2 ^ 64 else if op = 1 then (if prior = a then b else prior) else a

/-- An atomic in local memory: prior value and status. -/
def localAtomic (s : State) (rd : Reader) (addr op a b : Nat) : State × Nat × Nat :=
  let r := readMem s true rd addr 8
  if r.2.2.1 ≠ 0 then (r.1, 0, r.2.2.1)
  else
    let w := agentWrite r.1 true rd addr (leBytes 8 (atomicWord op (leNat r.2.1) a b))
    (w.1, leNat r.2.1, w.2.1)

/-- R275: an access to the own slot's memory, served at once. -/
def localStart (s : State) (rd : Reader) (a : Access) : State :=
  let off := paOff a.addr
  if a.kind = 0 then
    let r := readMem s true rd off a.len
    endAccess r.1 a.id r.2.2.1 r.2.1
  else if a.kind = 1 then
    let r := agentWrite s true rd off a.data
    endAccess r.1 a.id r.2.1 []
  else if off < 2 ^ 40 then
    let r := localAtomic s rd off a.op a.a a.b
    endAccess r.1 a.id r.2.2 (leBytes 8 r.2.1)
  else endAccess s a.id 3 []

/-! Apertures (R299 to R301). -/

/-- An access to aperture `p` posted as a work request, or refused with APERTURE_FAULT. -/
def apertureStart (s : State) (a : Access) : State :=
  let x := paOff a.addr - apBase
  let p := x / 2 ^ 30
  let o := x % 2 ^ 30
  let r := odGet s OD.APERTURES p
  let q := getF r Aperture.QP
  let s := odAdd s OD.APERTURE_COUNTS 0 1
  if getF r Aperture.VALID = 0 ∨ bitOf (getF r Aperture.RIGHTS) (2 - a.kind) = false ∨ getF r Aperture.SIZE < o + a.len
      ∨ a.tenValid = false ∨ a.tenant ≠ getF r Aperture.TENANT ∨ qpState s q ≠ 2 ∨ qpF s q QpCtx.FUNCTION ≠ 6 then
    endAccess (odAdd s OD.APERTURE_COUNTS 1 1) a.id 8 (failBytes a)
  else
    let overlaps := s.fab.live.any (fun b => b.id != a.id && b.aperture == some p && meets a.addr a.len b.addr b.len)
    let op := if a.kind = 0 then 3 else if a.kind = 1 then 2 else if a.op = 0 then 4 else 5
    let sqe := mkRec [(Sqe.OP, op), (Sqe.SIGNAL, 1), (Sqe.FENCE, b2n overlaps), (Sqe.LENGTH, a.len), (Sqe.REMOTE_KEY, getF r Aperture.REMOTE_KEY),
      (Sqe.REMOTE_OFFSET, getF r Aperture.REMOTE_OFFSET + o), (Sqe.OPERAND_A, a.a), (Sqe.OPERAND_B, a.b)]
    postWqe (liveSet s { a with aperture := some p, issued := s.clk }) q sqe (qpTenant s q)
      (if a.kind = 1 then some a.data else none) (.access a.id)

/-- APERTURE_TIMEOUT (R301): an aperture access without a result after T_ap. -/
def execApertureTimeout (id : Nat) (s : State) : Res :=
  answer s (match liveAccess s id with
    | none => s
    | some a =>
      if a.aperture.isSome ∧ a.issued + od s OD.APERTURE_TIMEOUT_CLK ≤ s.clk then
        endAccess (fabricFault (odAdd s OD.APERTURE_COUNTS 2 1) 4 a.addr) id 4 (failBytes a)
      else s)

/-! The coherent control window (R290 to R298). A line's key is its home's slot and its number: home·2^22 + line. -/

/-- The key of a control-window address. -/
def lineKey (slot off : Nat) : Nat := slot * 2 ^ 22 + (off - 0x20000000000) / 64
/-- The home of a line. -/
abbrev lineHome (k : Nat) : Nat := k / 2 ^ 22
/-- The number of a line in its home's window. -/
abbrev lineNum (k : Nat) : Nat := k % 2 ^ 22

/-- A coherence message given to the links, or to the device's own inbox. -/
def cohSend (s : State) (code dst key req acks : Nat) (data : List Byte) : State :=
  let h := mkRec [(CohMsg.MSG, code), (CohMsg.EPOCH, od s OD.COH_EPOCH), (CohMsg.FROM_SLOT, ownSlot s), (CohMsg.TO_SLOT, dst),
    (CohMsg.HOME_SLOT, lineHome key), (CohMsg.REQ_SLOT, req), (CohMsg.LINE, lineNum key), (CohMsg.ACKS, acks)]
  let m : Msg := { vc := 2, kind := 3, dest := slotDest s dst, hdr := h, hlen := 32, data := data, stream := 0, tenant := 4096 }
  if dst = ownSlot s then { s with fab := { s.fab with inbox := s.fab.inbox ++ [m] } } else send s m

/-- The line a coherence message names. -/
def msgLine (h : Nat) : Nat := getF h CohMsg.HOME_SLOT * 2 ^ 22 + getF h CohMsg.LINE

/-- A line of the coherent cache. -/
def cohLine (s : State) (k : Nat) : Option CohLine := kfind s.fab.coh k

/-- A line set and made its set's most recently used. -/
def cohPut (s : State) (k : Nat) (l : CohLine) : State :=
  { s with fab := { s.fab with coh := kput s.fab.coh k l, cohAge := s.fab.cohAge.filter (· != k) ++ [k] } }

/-- A line gone to I. -/
def cohDel (s : State) (k : Nat) : State :=
  { s with fab := { s.fab with coh := kdel s.fab.coh k, cohAge := s.fab.cohAge.filter (· != k) } }

/-- Room for a line in its set of 16 (sets by key modulo 2,048): the least recently used line not held leaves: S silently, E and M
through the write-back buffer (R291). -/
def cohRoom (s : State) (k : Nat) : State :=
  let set := s.fab.cohAge.filter (fun x => x % 2048 = k % 2048)
  if set.length < 16 ∨ set.contains k then s
  else
    let free := set.filter (fun x => match cohLine s x with | some l => decide (l.hold ≤ s.clk) | none => true)
    match (if free = [] then set else free).head? with
    | none => s
    | some v => match cohLine s v with
      | none => cohDel s v
      | some l =>
        let s := cohDel s v
        if l.state = 1 then s
        else
          let s := { s with fab := { s.fab with wb := kput s.fab.wb v l.data } }
          cohSend s (if l.state = 3 then 3 else 4) (lineHome v) v (ownSlot s) 0 (if l.state = 3 then l.data else [])

/-- The bytes of a line with [o, o + n) replaced. -/
def lineWrite (data : List Byte) (o : Nat) (bs : List Byte) : List Byte := data.take o ++ bs ++ data.drop (o + bs.length)

/-- An access run on a line whose bytes the cache holds: its result, and the line after it. -/
def lineRun (a : Access) (data : List Byte) : List Byte × List Byte :=
  let o := paOff a.addr % 64
  if a.kind = 0 then ((data.drop o).take a.len, data)
  else if a.kind = 1 then ([], lineWrite data o a.data)
  else
    let prior := leNat ((data.drop o).take 8)
    (leBytes 8 prior, lineWrite data o (leBytes 8 (atomicWord a.op prior a.a a.b)))

/-- Accesses waiting for line `k`, oldest first: each that the cache's state allows runs; the first that it does not asks the home, unless
a request is outstanding or 64 are. -/
def linePump : Nat → State → Nat → State
  | 0, s, _ => s
  | n + 1, s, k =>
    match s.fab.live.find? (fun a => a.line == some k) with
    | none => s
    | some a =>
      let ok := match cohLine s k with
        | some l => decide (a.kind = 0 ∨ 2 ≤ l.state)
        | none => false
      if ok then
        match cohLine s k with
        | some l =>
          let r := lineRun a l.data
          let s := cohPut s k { l with data := r.2, state := if a.kind = 0 then l.state else 3 }
          linePump n (endAccess s a.id 0 r.1) k
        | none => s
      else if (kfind s.fab.reqs k).isSome ∨ 64 ≤ s.fab.reqs.length then s
      else
        let s := { s with fab := { s.fab with reqs := kput s.fab.reqs k ⟨a.kind != 0, none, false, 0, 0, false⟩ } }
        cohSend s (if a.kind = 0 then 1 else 2) (lineHome k) k (ownSlot s) 0 []

/-- Every line with an access that waits. -/
def linesPump (s : State) : State :=
  ((s.fab.live.filterMap (·.line)).eraseDups).foldl (fun t k => linePump (t.fab.live.length + 1) t k) s

/-- A line that its request has won is installed with a hold (R293); where an INV overtook it, the reads that wait are served and
nothing is kept. -/
def lineWon (s : State) (k : Nat) (r : CohReq) (data : List Byte) : State :=
  let s := { s with fab := { s.fab with reqs := kdel s.fab.reqs k } }
  if data = [] then
    (s.fab.live.filter (fun a => a.line == some k)).foldl (fun t a => endAccess t a.id 1 (failBytes a)) s
  else
    let st := if r.excl ∨ r.gotE then 2 else 1
    let s := if st = 2 ∧ kget s.fab.fwds k [] ≠ [] then cohCount s 4 1 else s
    let s := cohPut (cohRoom s k) k ⟨st, data, if st = 2 then s.clk + 250 else 0⟩
    let s := linePump (s.fab.live.length + 1) s k
    if r.dropped ∧ st = 1 then cohDel s k else s

/-- A request completes once it holds the data and every acknowledgement counted (R293). -/
def reqTry (s : State) (k : Nat) : State :=
  match kfind s.fab.reqs k with
  | none => s
  | some r => match r.data with
    | none => s
    | some d => if r.acks ≤ r.got then linesPump (lineWon s k r d) else s

/-- The messages of an entry or of waiting requests are taken up again, before what waits in the inbox. -/
def requeue (s : State) (ms : List Msg) : State := { s with fab := { s.fab with inbox := ms ++ s.fab.inbox } }

/-! The home (R290, R291, R294). -/

/-- The device offset of a line's backing. -/
def backing (s : State) (line : Nat) : Nat := od s OD.COH_BACKING + 64 * line

/-- A line's backing read for a slot: none where it is uncorrectable. -/
def backRead (s : State) (line slot : Nat) : State × Option (List Byte) :=
  let r := readMem s true ⟨0xB, slot, false, 0, false, 0⟩ (backing s line) 64
  (r.1, if r.2.2.1 = 0 then some r.2.1 else none)

/-- A line's backing written. -/
def backWrite (s : State) (line : Nat) (bs : List Byte) : State := (writeMem s true ownReader (backing s line) bs).1

/-- A directory entry set and made most recently used. -/
def dirPut (s : State) (line : Nat) (e : DirEnt) : State :=
  { s with fab := { s.fab with dir := kput s.fab.dir line e, dirAge := s.fab.dirAge.filter (· != line) ++ [line] } }

/-- A directory entry gone: what waited for it or for an entry is taken up again. -/
def dirDel (s : State) (line : Nat) : State :=
  let q := match kfind s.fab.dir line with | some e => e.queue | none => []
  let s := { s with fab := { s.fab with dir := kdel s.fab.dir line, dirAge := s.fab.dirAge.filter (· != line) } }
  let w := s.fab.dirWait
  requeue { s with fab := { s.fab with dirWait := [] } } (q ++ w)

/-- Data from backing sent to a requester, and whether it holds the line then. A line that cannot be read gives the reader alone an
error: an own access ends UNCORRECTABLE and the entry stays as it was; the messages have no way to say so to another device, which gets
bytes the spec leaves open. -/
def homeData (s : State) (code line req acks : Nat) : State × Bool :=
  let r := backRead s line req
  match r.2 with
  | some bs => (cohSend r.1 code req (ownSlot s * 2 ^ 22 + line) req acks bs, true)
  | none =>
    if req = ownSlot s then (cohSend r.1 code req (ownSlot s * 2 ^ 22 + line) req 0 [], false)
    else
      let f := takeBytes r.1 64
      (cohSend f.2 code req (ownSlot s * 2 ^ 22 + line) req acks f.1, true)

/-- The set of a line in the directory. -/
abbrev dirSet (line : Nat) : Nat := line % 4096

/-- R294: an entry for `line` in a full set: the request waits, and the least recently used entry that is not BUSY is evicted, one for
each line that waits. -/
def dirEvict (s : State) (line : Nat) (m : Msg) : State :=
  let s := { s with fab := { s.fab with dirWait := s.fab.dirWait ++ [m] } }
  let wait := (((s.fab.dirWait.map (fun w => getF w.hdr CohMsg.LINE)).filter (fun x => dirSet x == dirSet line)).eraseDups).length
  let going := s.fab.dir.countP (fun p => dirSet p.1 == dirSet line && p.2.state == 4)
  if wait ≤ going then s
  else match s.fab.dirAge.find? (fun x => x % 4096 == line % 4096 && (match kfind s.fab.dir x with
      | some e => decide (e.state ≤ 2) | none => false)) with
  | none => s
  | some v => match kfind s.fab.dir v with
    | none => s
    | some e =>
      let s := cohCount s 3 1
      let key := ownSlot s * 2 ^ 22 + v
      let e' := { e with state := 4, waitAcks := if e.state = 1 then e.sharers.length else 0, since := s.clk }
      let s := { s with fab := { s.fab with dir := kput s.fab.dir v e' } }
      if e.state = 2 then cohSend s 8 e.owner key (ownSlot s) 0 []
      else e.sharers.foldl (fun t k => cohSend (cohCount t 2 1) 7 k key (ownSlot t) 0 []) s

/-- GET_S or GET_M at the home (R291). -/
def homeGet (s : State) (m : Msg) (excl : Bool) : State :=
  let line := getF m.hdr CohMsg.LINE
  let req := getF m.hdr CohMsg.FROM_SLOT
  let key := ownSlot s * 2 ^ 22 + line
  match kfind s.fab.dir line with
  | none =>
    if (s.fab.dirAge.filter (fun x => x % 4096 = line % 4096)).length < 16 then
      let r := homeData (cohCount s 0 1) 0xA line req 0
      if r.2 then dirPut r.1 line ⟨2, [], req, 0, 0, 0, []⟩ else r.1
    else dirEvict s line m
  | some e =>
    if e.state = 1 then
      let s := cohCount s 0 1
      if excl then
        let v := e.sharers.filter (· != req)
        let r := homeData s 9 line req v.length
        if r.2 then
          v.foldl (fun t k => cohSend (cohCount t 2 1) 7 k key req 0 []) (dirPut r.1 line { e with state := 2, sharers := [], owner := req })
        else r.1
      else
        let r := homeData s 9 line req 0
        if r.2 then dirPut r.1 line { e with sharers := e.sharers.filter (· != req) ++ [req] } else r.1
    else if e.state = 2 then
      let s := cohCount (cohCount s 0 1) 1 1
      if excl then cohSend (dirPut s line { e with owner := req }) 6 e.owner key req 0 []
      else cohSend (dirPut s line { e with state := 3, req := req, since := s.clk }) 5 e.owner key req 0 []
    else { s with fab := { s.fab with dir := kput s.fab.dir line { e with queue := e.queue ++ [m] } } }

/-- PUT_M or PUT_E at the home (R291). -/
def homePut (s : State) (m : Msg) (dirty : Bool) : State :=
  let line := getF m.hdr CohMsg.LINE
  let src := getF m.hdr CohMsg.FROM_SLOT
  let key := ownSlot s * 2 ^ 22 + line
  match kfind s.fab.dir line with
  | none => cohDown s
  | some e =>
    if 3 ≤ e.state then { s with fab := { s.fab with dir := kput s.fab.dir line { e with queue := e.queue ++ [m] } } }
    else if e.state = 2 then
      if e.owner = src then
        let s := if dirty then backWrite s line (m.data.take 64) else s
        dirDel (cohSend s 0xD src key src 0 []) line
      else cohSend s 0xD src key src 0 []
    else cohDown s

/-- COPY_BACK at the home (R291). -/
def homeBack (s : State) (m : Msg) : State :=
  let line := getF m.hdr CohMsg.LINE
  match kfind s.fab.dir line with
  | none => cohDown s
  | some e =>
    if e.state = 3 then
      let s := dirPut (backWrite s line (m.data.take 64)) line
        { e with state := 1, sharers := if e.owner = e.req then [e.req] else [e.owner, e.req], queue := [] }
      let w := s.fab.dirWait
      requeue { s with fab := { s.fab with dirWait := [] } } (e.queue ++ w)
    else if e.state = 4 ∧ e.waitAcks = 0 then dirDel (backWrite s line (m.data.take 64)) line
    else cohDown s

/-! The cache (R291, R293). -/

/-- A forward or recall answered from a line's bytes. -/
def answerFwd (s : State) (m : Msg) (data : List Byte) : State :=
  let k := msgLine m.hdr
  let code := getF m.hdr CohMsg.MSG
  let req := getF m.hdr CohMsg.REQ_SLOT
  let s := if code = 8 then s else cohSend s 9 req k req 0 data
  if code = 6 then s else cohSend s 0xC (lineHome k) k (ownSlot s) 0 data

/-- FWD_S, FWD_M or RECALL at the owner (R291, R293). -/
def cacheFwd (s : State) (m : Msg) : State :=
  let k := msgLine m.hdr
  let wait := { s with fab := { s.fab with fwds := kput s.fab.fwds k (kget s.fab.fwds k [] ++ [m]) } }
  match kfind s.fab.wb k with
  | some d => answerFwd s m d
  | none =>
    if (kfind s.fab.reqs k).isSome then wait
    else match cohLine s k with
      | none => cohDown s
      | some l =>
        if l.state = 1 then cohDown s
        else if s.clk < l.hold then cohCount wait 4 1
        else
          let t := answerFwd s m l.data
          if getF m.hdr CohMsg.MSG = 5 then { t with fab := { t.fab with coh := kput t.fab.coh k { l with state := 1 } } }
          else cohDel t k

/-- INV at a sharer (R291, R293): answered at once. -/
def cacheInv (s : State) (m : Msg) : State :=
  let k := msgLine m.hdr
  let req := getF m.hdr CohMsg.REQ_SLOT
  if (match cohLine s k with | some l => decide (2 ≤ l.state) | none => false) then cohDown s
  else
    let s := cohDel s k
    let s := match kfind s.fab.reqs k with
      | some r => if r.excl then s else { s with fab := { s.fab with reqs := kput s.fab.reqs k { r with dropped := true } } }
      | none => s
    cohSend s 0xB req k req 0 []

/-- DATA or DATA_E at the requester. -/
def cacheData (s : State) (m : Msg) (excl : Bool) : State :=
  let k := msgLine m.hdr
  match kfind s.fab.reqs k with
  | none => cohDown s
  | some r =>
    if r.data.isSome then cohDown s
    else
      let r' := { r with data := some (m.data.take 64), gotE := excl, acks := getF m.hdr CohMsg.ACKS }
      reqTry { s with fab := { s.fab with reqs := kput s.fab.reqs k r' } } k

/-- INV_ACK: for an eviction at the home, or for the device's own request. -/
def takeInvAck (s : State) (m : Msg) : State :=
  let k := msgLine m.hdr
  let line := lineNum k
  let evict := lineHome k = ownSlot s ∧ (match kfind s.fab.dir line with
    | some e => decide (e.state = 4 ∧ 0 < e.waitAcks) | none => false) = true
  if evict then
    match kfind s.fab.dir line with
    | some e =>
      if e.waitAcks = 1 then dirDel s line
      else { s with fab := { s.fab with dir := kput s.fab.dir line { e with waitAcks := e.waitAcks - 1 } } }
    | none => s
  else match kfind s.fab.reqs k with
    | none => cohDown s
    | some r => reqTry { s with fab := { s.fab with reqs := kput s.fab.reqs k { r with got := r.got + 1 } } } k

/-- PUT_ACK: the write-back buffer's line is free (R291). -/
def cachePutAck (s : State) (m : Msg) : State :=
  match kfind s.fab.wb (msgLine m.hdr) with
  | none => cohDown s
  | some _ => { s with fab := { s.fab with wb := kdel s.fab.wb (msgLine m.hdr) } }

/-- What a member does with a coherence message (R292, R297): one of another epoch is discarded; in DOWN another member is answered
DOMAIN_DOWN; a reserved code, or a home message for another home, takes the domain down. -/
def cohHandle (s : State) (m : Msg) : State :=
  let code := getF m.hdr CohMsg.MSG
  let src := getF m.hdr CohMsg.FROM_SLOT
  let home := getF m.hdr CohMsg.HOME_SLOT = ownSlot s
  if getF m.hdr CohMsg.EPOCH ≠ od s OD.COH_EPOCH then s
  else if od s OD.COH_STATE = 1 then
    (if src = ownSlot s then s else sendMgmtSlot s 6 src (frameNo s) (leBytes 8 (od s OD.COH_EPOCH)))
  else if code = 1 then (if home then homeGet s m false else cohDown s)
  else if code = 2 then (if home then homeGet s m true else cohDown s)
  else if code = 3 then (if home then homePut s m true else cohDown s)
  else if code = 4 then (if home then homePut s m false else cohDown s)
  else if code = 5 ∨ code = 6 ∨ code = 8 then cacheFwd s m
  else if code = 7 then cacheInv s m
  else if code = 9 then cacheData s m false
  else if code = 0xA then cacheData s m true
  else if code = 0xB then takeInvAck s m
  else if code = 0xC then (if home then homeBack s m else cohDown s)
  else if code = 0xD then cachePutAck s m
  else cohDown s

/-- The device's own messages handled until none is left. -/
def cohRun : Nat → State → State
  | 0, s => s
  | n + 1, s =>
    match s.fab.inbox with
    | [] => s
    | m :: rest => cohRun n (cohHandle { s with fab := { s.fab with inbox := rest } } m)

/-- Enough turns for what one command can start. -/
def cohSettle (s : State) : State := cohRun (64 * (s.fab.inbox.length + s.fab.live.length + s.fab.dir.length + 16)) s

/-- A control-window access (R290): run, or made to wait for its line. -/
def windowStart (s : State) (a : Access) : State :=
  if od s OD.COH_STATE ≠ 0 then endAccess s a.id 6 (failBytes a)
  else
    let k := lineKey (paSlot a.addr) (paOff a.addr)
    cohSettle (linePump (s.fab.live.length + 1) (liveSet s { a with line := some k }) k)

/-! One access, and accesses cut into parts. -/

/-- R275, R276: an access to a tray physical address begins; its number. `rd` reads the own memory. -/
def accessStart (s : State) (who : Owner13) (rd : Reader) (kind addr len : Nat) (data : List Byte) (op a b : Nat) : State × Nat :=
  let id := s.fab.next
  let acc : Access := { id := id, who := who, kind := kind, addr := addr, len := len, data := data, op := op, a := a, b := b,
                        tenant := rd.ten, tenValid := rd.tenValid, tag := none, aperture := none, line := none, issued := s.clk,
                        noFill := false }
  let s := { s with fab := { s.fab with next := id + 1, live := s.fab.live ++ [acc] } }
  let slot := paSlot addr
  let off := paOff addr
  (if slot = ownSlot s then
    (if inWindow off then windowStart s acc
     else if inApertures off then apertureStart s acc
     else localStart s rd acc)
   else if bitOf (od s OD.TRAY_MEMBERS) slot = false then endAccess s id 7 (failBytes acc)
   else if inWindow off then windowStart s acc
   else if inApertures off then endAccess s id 3 (failBytes acc)
   else bulkStart s acc, id)

/-- R278, R290: the parts of an access: 64-byte lines in the control window, 4,032-byte pieces of another slot's offsets, one of the own
memory or an aperture. -/
def accessParts (s : State) (addr len : Nat) : List (Nat × Nat) :=
  let off := paOff addr
  let step := if inWindow off then 64 else if paSlot addr = ownSlot s then 2 ^ 42 else 4032
  if len = 0 then []
  else (List.range ((off + len - 1) / step + 1 - off / step)).map (fun i =>
    let lo := max off (step * (off / step + i))
    let hi := min (off + len) (step * (off / step + i + 1))
    (addr - off + lo, hi - lo))

/-- The result of an access taken, where it has one. -/
def takeResult (s : State) (id : Nat) : State × Option (Nat × List Byte) :=
  match kfind s.fab.results id with
  | none => (s, none)
  | some r => ({ s with fab := { s.fab with results := kdel s.fab.results id } }, some r)

/-! FABRIC steps (R286 to R289). -/

/-- ESTATUS of an entry from an access's status. -/
def entryStatus (st : Nat) : Nat :=
  if st = 0 then 0 else if st = 1 then 4 else if st = 2 then 2 else if st = 3 then 3 else if st = 4 then 5 else if st = 5 then 6
  else if st = 6 then 7 else if st = 7 then 8 else 9

/-- A FABRIC step completes with its record. -/
def fabricEnd (s : State) (port : Nat) (f : Flight) (status : Nat) (skipped : List Nat) (lines failAddr : Nat) (how : StepEnd) : State :=
  let s := ringPush s OD.FABRIC_COMPLETION_RING (mkRec [(FabComp.FRAME, f.frame), (FabComp.STEP_SLOT, f.slot), (FabComp.PORT, port),
    (FabComp.STATUS, status), (FabComp.CARRIED, b2n f.carried), (FabComp.CLOCKS, compClocks s f),
    (FabComp.ENTRIES_SKIPPED, skipped.length), (FabComp.FIRST_SKIPPED, skipped.headD 0x7FF),
    (FabComp.LINES_INVALIDATED, satBits 32 lines), (FabComp.FAIL_ADDR, failAddr)])
  finishStep { s with fab := { s.fab with ports := kdel s.fab.ports port, portDone := kdel s.fab.portDone port,
                                          portErr := kdel s.fab.portErr port,
                                          portDesc := kdel s.fab.portDesc port } } (unitKey 0xB port) how

/-- The device offset of ATOMIC entry `i`. -/
abbrev fabEntry (d i : Nat) : Nat := getF d FabDesc.ENTRY_ADDR + 32 * i

/-- An entry ended: ESTATUS written, and RESULT where it is OK. -/
def entryEnd (s : State) (port : Nat) (f : Flight) (d i est : Nat) (prior : Option Nat) : State :=
  let w := mapNat s (fabEntry d i) 32
  let w := setF w FabDesc.E_ESTATUS est
  let w := match prior with | some p => setF w FabDesc.E_RESULT p | none => w
  let s := (agentWrite s true (stepReader f) (fabEntry d i) (leBytes 32 w)).1
  { s with fab := { s.fab with portDone := kput s.fab.portDone port (kget s.fab.portDone port [] ++ [(i, est)]) } }

/-- Entries of a port whose accesses have results are ended. -/
def portCollect (s : State) (port : Nat) (f : Flight) (d : Nat) : State :=
  (kget s.fab.ports port []).foldl (fun t p =>
    match takeResult t p.2 with
    | (_, none) => t
    | (t, some r) =>
      let t := { t with fab := { t.fab with ports := kput t.fab.ports port ((kget t.fab.ports port []).filter (· != p)) } }
      entryEnd t port f d p.1 (entryStatus r.1) (if r.1 = 0 then some (leNat r.2) else none)) s

/-- An entry issued (R287): BAD_ENTRY for an unaligned address, or SWAP through an aperture, BAD_TARGET outside HBM, window and apertures. -/
def entryIssue (s : State) (port : Nat) (f : Flight) (d i w : Nat) : State :=
  let a := getF w FabDesc.E_ADDR
  let off := paOff a
  let op := getF w FabDesc.E_OP
  if a % 8 ≠ 0 ∨ op > 2 ∨ (inApertures off ∧ op = 2) then entryEnd s port f d i 1 none
  else if decide (off < 2 ^ 40) = false ∧ inWindow off = false ∧ inApertures off = false then entryEnd s port f d i 3 none
  else
    let r := accessStart s (.port port i) (stepReader f) 2 a 8 [] op (getF w FabDesc.E_OPERAND_A) (getF w FabDesc.E_OPERAND_B)
    let t := { r.1 with fab := { r.1.fab with ports := kput r.1.fab.ports port (kget r.1.fab.ports port [] ++ [(i, r.2)]) } }
    portCollect t port f d

/-- Entries issued in order while fewer than 64 are outstanding; a read error of the table stops there (R475). -/
def portIssue : Nat → State → Nat → Flight → Nat → State
  | 0, s, _, _, _ => s
  | n + 1, s, port, f, d =>
    let out := kget s.fab.ports port []
    let i := out.length + (kget s.fab.portDone port []).length
    if getF d FabDesc.ENTRIES ≤ i ∨ 64 ≤ out.length ∨ (kfind s.fab.portErr port).isSome then s
    else
      let r := readRec s (stepReader f) (fabEntry d i) 32
      if r.2.2.1 ≠ 0 then { r.1 with fab := { r.1.fab with portErr := kput r.1.fab.portErr port r.2.2.2 } }
      else portIssue n (entryIssue r.1 port f d i r.2.1) port f d

/-- A FABRIC ATOMIC step's work as far as it goes now; it completes when no entry is outstanding. -/
def portRun (s : State) (port : Nat) (f : Flight) (d : Nat) : State :=
  let s := portIssue (getF d FabDesc.ENTRIES + 1) (portCollect s port f d) port f d
  if kget s.fab.ports port [] ≠ [] then s
  else
    let done := sortBy (fun x y => decide (x.1 ≤ y.1)) (kget s.fab.portDone port [])
    let bad := (done.filter (fun p => p.2 != 0)).map Prod.fst
    let fail := match bad with
      | i :: _ => getF (mapNat s (fabEntry d i) 32) FabDesc.E_ADDR
      | [] => 0
    match kfind s.fab.portErr port with
    | some e => fabricEnd s port f 5 bad 0 (if bad = [] then e else fail) .done
    | none => fabricEnd s port f (if bad = [] then 0 else 8) bad 0 fail .done

/-- Ports with an ATOMIC step under way go on with what has arrived. -/
def portsGo (s : State) : State :=
  (List.range 4).foldl (fun t port =>
    match flightOn t (unitKey 0xB port) with
    | some f =>
      if getF f.step StepRec.OPCODE = 1 ∧ ((kfind t.fab.ports port).isSome ∨ (kfind t.fab.portDone port).isSome) then
        portRun t port f (kget t.fab.portDesc port 0)
      else t
    | none => t) s

/-- What every FABRIC step checks first (R286, R475): its descriptor, or the step's end. -/
def fabricOpen (s : State) (port : Nat) (f : Flight) (most : Nat) : State × Option Nat :=
  let r := readRec s (stepReader f) (getF f.step StepRec.DESC_ADDR) 64
  let d := r.2.1
  if r.2.2.1 ≠ 0 then (fabricEnd r.1 port f 5 [] 0 r.2.2.2 .unread, none)
  else if getF d FabDesc.ENTRIES = 0 ∨ most < getF d FabDesc.ENTRIES ∨ getF d FabDesc.ENTRY_ADDR % 64 ≠ 0 then
    (fabricEnd r.1 port f 7 [] 0 0 .untouched, none)
  else (r.1, some d)

/-- FABRIC_ATOMIC (R286, R287, R289): the step in flight on a port begins, or goes on. An opcode other than R286's completes with BAD_OP. -/
def execFabricAtomic (port : Nat) (s : State) : Res :=
  answer s (match flightOn s (unitKey 0xB port) with
    | none => s
    | some f =>
      if getF f.step StepRec.OPCODE = 2 then s
      else if getF f.step StepRec.OPCODE ≠ 1 then fabricEnd s port f 4 [] 0 0 .untouched
      else if (kfind s.fab.ports port).isSome ∨ (kfind s.fab.portDone port).isSome then
        portRun s port f (kget s.fab.portDesc port 0)
      else match fabricOpen s port f 1024 with
        | (t, none) => t
        | (t, some d) => portRun { t with fab := { t.fab with portDesc := kput t.fab.portDesc port d } } port f d)

/-- R285: one range invalidated: cached lines dropped and counted, reads in flight over it not to be installed. -/
def invalRange (s : State) (base size : Nat) : State × Nat :=
  let hit := fun (l : Nat) => meets (64 * l) 64 base size
  let n := (s.fab.trc.map (fun e => e.2.countP (fun l => hit l.1))).sum
  let s := trcDrop s hit
  ({ s with fab := { s.fab with live := s.fab.live.map (fun a =>
      if a.kind = 0 ∧ a.tag.isSome ∧ meets a.addr a.len base size then { a with noFill := true } else a) } }, n)

/-- R285, R475: range `i` of an INVAL step, its records at `a`, unless a read has failed: state, lines dropped, failing address. -/
def invalOne (f : Flight) (a : Nat) (acc : State × Nat × Option Nat) (i : Nat) : State × Nat × Option Nat :=
  if acc.2.2.isSome then acc
  else
    let x := readRec acc.1 (stepReader f) (a + 16 * i) 16
    if x.2.2.1 ≠ 0 then (x.1, acc.2.1, some x.2.2.2)
    else
      let y := invalRange x.1 (getF x.2.1 FabDesc.R_BASE) (getF x.2.1 FabDesc.R_SIZE)
      (y.1, acc.2.1 + y.2, none)

/-- INVAL (R285, R286, R289): the step in flight on a port. -/
def execInval (port : Nat) (s : State) : Res :=
  answer s (match flightOn s (unitKey 0xB port) with
    | none => s
    | some f =>
      if getF f.step StepRec.OPCODE ≠ 2 then s
      else match fabricOpen s port f 64 with
        | (t, none) => t
        | (t, some d) =>
          let r := (List.range (getF d FabDesc.ENTRIES)).foldl (invalOne f (getF d FabDesc.ENTRY_ADDR)) (t, 0, none)
          fabricEnd r.1 port f (if r.2.2.isSome then 5 else 0) [] r.2.1 (r.2.2.getD 0) .done)

/-! The target of tray requests (R276, R277, R280, R283, R398). -/

/-- R276: may a request of a kind (0 read, 1 write, 2 atomic) reach [off, off + n) from another slot? -/
def regionAllows (s : State) (kind off n : Nat) : Bool :=
  (decide (off + n ≤ 2 ^ 40))
  || (kind == 0 && decide (windowBase 0 ≤ off) && decide (off + n ≤ windowBase 200))
  || (kind != 2 && decide (commonsBase + od s OD.TIER_FRAMES * 65536 ≤ off) && decide (off + n ≤ commonsBase + 2048 * 65536))
  || (kind == 0 && decide (shadowBase ≤ off) && decide (off + n ≤ shadowBase + 2 ^ 27))

/-- R277: the first export record that serves a request. -/
def exportOf (s : State) (kind off n ten : Nat) (tenValid : Bool) : Option Nat :=
  ((List.range 64).map (odGet s OD.EXPORTS)).find? (fun r =>
    getF r ExportRec.VALID == 1 && decide (getF r ExportRec.BASE ≤ off) && decide (off + n ≤ getF r ExportRec.BASE + getF r ExportRec.SIZE)
    && (if kind = 0 then getF r ExportRec.READ == 1 else if kind = 1 then getF r ExportRec.WRITE == 1 else getF r ExportRec.ATOMIC == 1)
    && (getF r ExportRec.ANY_TENANT == 1 || (tenValid && getF r ExportRec.TENANT == ten)))

/-- R398: is a request barred by a partition? -/
def trayBarred (s : State) (off n ten : Nat) (tenValid : Bool) : Bool :=
  (partHits s off n).any (fun i => recF s OD.PARTITIONS i Part.KIND == 2
    || !(tenValid && recF s OD.PARTITIONS i Part.TENANT == ten))

/-- The checks of a request: 0, or its error status on the wire (1 NOT_EXPORTED, 2 BAD_TARGET), and the export record. -/
def trayCheck (s : State) (h kind : Nat) : State × Nat × Nat :=
  let off := getF h TrayHdr.OFFSET
  let n := if kind = 2 then 8 else getF h TrayHdr.LENGTH_M1 + 1
  let ten := getF h TrayHdr.TENANT
  let tv := getF h TrayHdr.TENANT_VALID == 1
  if regionAllows s kind off n = false then (s, 2, 0)
  else match exportOf s kind off n ten tv with
    | none => (s, 1, 0)
    | some r => if trayBarred s off n ten tv then (odAdd s OD.PARTITION_DENIALS 2 1, 1, 0) else (s, 0, r)

/-- A response to a tray request. -/
def trayAnswer (s : State) (m : Msg) (status cacheable : Nat) (data : List Byte) : State :=
  let h := m.hdr
  send s { vc := 1, kind := 2, dest := m.dest,
           hdr := mkRec [(TrayHdr.OPCODE, getF h TrayHdr.OPCODE + 1), (TrayHdr.STATUS, status), (TrayHdr.TAG, getF h TrayHdr.TAG),
             (TrayHdr.TAG_GEN, getF h TrayHdr.TAG_GEN), (TrayHdr.TENANT, getF h TrayHdr.TENANT),
             (TrayHdr.TENANT_VALID, getF h TrayHdr.TENANT_VALID), (TrayHdr.LENGTH_M1, getF h TrayHdr.LENGTH_M1),
             (TrayHdr.OFFSET, getF h TrayHdr.OFFSET), (TrayHdr.SRC_SLOT, getF h TrayHdr.SRC_SLOT), (TrayHdr.CACHEABLE, cacheable)],
           hlen := 32, data := data, stream := 0, tenant := 4096 }

/-- The reader a remote request is (R283). -/
def trayReader (h : Nat) : Reader :=
  ⟨0xB, getF h TrayHdr.SRC_SLOT, false, 0, getF h TrayHdr.TENANT_VALID == 1, getF h TrayHdr.TENANT⟩

/-- R280: has the 1 MiB response buffer room for a response with `n` data bytes beside those that have not left? Each takes its 32-byte
header, 8-byte block header and data. -/
def respRoom (s : State) (n : Nat) : Bool :=
  decide (((s.txq.filter (fun m => m.kind == 2 && getF m.hdr TrayHdr.OPCODE % 2 == 1)).map (fun m => 40 + m.data.length)).sum + 40 + n
    ≤ 2 ^ 20)

/-- The data bytes a request's response may carry. -/
def respBytes (m : Msg) : Nat :=
  if getF m.hdr TrayHdr.OPCODE = 0x40 then getF m.hdr TrayHdr.LENGTH_M1 + 1 else if getF m.hdr TrayHdr.OPCODE = 0x44 then 8 else 0

/-- A request handled where its response has room; else it stays in its VC1 buffer (R280). -/
def whenRoom (s : State) (m : Msg) (r : Res) : Res := if respRoom s (respBytes m) then r else answer s s

/-- The status on the wire of a memory access's status. -/
def wireStatus (st : Nat) : Nat := if st = 0 then 0 else if st = 1 then 3 else 2

/-- A tray READ served. -/
def trayReadNow (m : Msg) (s : State) : Res :=
  let s := takeRx s m
  let c := trayCheck s m.hdr 0
  answer s (if c.2.1 ≠ 0 then trayAnswer c.1 m c.2.1 0 []
  else
    let r := readMem c.1 true (trayReader m.hdr) (getF m.hdr TrayHdr.OFFSET) (getF m.hdr TrayHdr.LENGTH_M1 + 1)
    trayAnswer r.1 m (wireStatus r.2.2.1) (if r.2.2.1 = 0 then getF c.2.2 ExportRec.CACHEABLE else 0) (if r.2.2.1 = 0 then r.2.1 else []))

/-- The decoded data of a tray message: none where its block is malformed, stale or ends with LENGTH, when it is discarded (R324, R326). -/
def trayData (s : State) (m : Msg) (len : Nat) : State × Option (List Byte) :=
  match blockIn s m.dest (leNat (m.data.take 8)) (m.data.drop 8) (some len) with
  | (s, .ok d) => (s, if d.lengthErr then none else some d.bytes)
  | (s, _) => (s, none)

/-- TRAY_READ (R276, R277, R280, R283). -/
def execTrayRead (m : Msg) (s : State) : Res := whenRoom s m (trayReadNow m s)

/-- A tray WRITE served. -/
def trayWriteNow (m : Msg) (s : State) : Res :=
  let s := takeRx s m
  let c := trayCheck s m.hdr 1
  answer s (match trayData c.1 m (getF m.hdr TrayHdr.LENGTH_M1 + 1) with
    | (s, none) => s
    | (s, some bs) =>
      if c.2.1 ≠ 0 then trayAnswer s m c.2.1 0 []
      else
        let r := agentWrite s true (trayReader m.hdr) (getF m.hdr TrayHdr.OFFSET) bs
        trayAnswer r.1 m (wireStatus r.2.1) 0 [])

/-- TRAY_WRITE (R276, R277, R280, R326). -/
def execTrayWrite (m : Msg) (s : State) : Res := whenRoom s m (trayWriteNow m s)

/-- A tray ATOMIC served. -/
def trayAtomicNow (m : Msg) (s : State) : Res :=
  let s := takeRx s m
  let c := trayCheck s m.hdr 2
  answer s (match trayData c.1 m 16 with
    | (s, none) => s
    | (s, some bs) =>
      if c.2.1 ≠ 0 then trayAnswer s m c.2.1 0 []
      else
        let r := localAtomic s (trayReader m.hdr) (getF m.hdr TrayHdr.OFFSET) (getF m.hdr TrayHdr.ATOMIC_OP)
          (leNat (bs.take 8)) (leNat (bs.drop 8))
        trayAnswer r.1 m (wireStatus r.2.2) 0 (if r.2.2 = 0 then leBytes 8 r.2.1 else []))

/-- TRAY_ATOMIC (R276, R277, R280, R287). -/
def execTrayAtomic (m : Msg) (s : State) : Res := whenRoom s m (trayAtomicNow m s)

/-! Responses at the requester (R281, R283, R284). -/

/-- The access a response answers: its tag outstanding with that generation, of the kind the response is for. -/
def respAccess (s : State) (m : Msg) (kind : Nat) : Option Access :=
  let t := getF m.hdr TrayHdr.TAG
  if kget s.fab.tagGen t 0 = getF m.hdr TrayHdr.TAG_GEN then
    ((kfind s.fab.tags t).bind (liveAccess s)).filter (fun a => a.kind == kind)
  else none

/-- A response's error counted, and its status as an access has it. -/
def respStatus (s : State) (m : Msg) : State × Nat :=
  let st := getF m.hdr TrayHdr.STATUS
  let s := trayCount s 1
  if st = 0 then (s, 0) else if st = 1 then (trayCount s 4, 2) else if st = 3 then (trayCount s 6, 1) else (trayCount s 5, 3)

/-- R284: the whole lines a read carries are installed. -/
def trcFill (s : State) (a : Nat) (bs : List Byte) : State :=
  ((linesOf a bs.length).filter (fun l => decide (a ≤ 64 * l) && decide (64 * l + 64 ≤ a + bs.length))).foldl
    (fun t l => trcPut t l ((bs.drop (64 * l - a)).take 64)) s

/-- TRAY_READ_RESP (R281, R283 to R285, R326). -/
def execTrayReadResp (m : Msg) (s : State) : Res :=
  let s := takeRx s m
  answer s (match respAccess s m 0 with
    | none => trayCount s 3
    | some a =>
      let bad := getF m.hdr TrayHdr.STATUS ≠ 0
      match trayData s m (if bad then 0 else a.len) with
      | (s, none) => s
      | (s, some bs) =>
        let r := respStatus s m
        let s := if r.2 = 0 ∧ getF m.hdr TrayHdr.CACHEABLE = 1 then
            (if a.noFill then trcCount r.1 2 1 else trcFill r.1 a.addr bs) else r.1
        portsGo (freeTagOf (endAccess s a.id r.2 (if r.2 = 0 then bs else failBytes a)) (a.tag.getD 0)))

/-- TRAY_WRITE_RESP (R280). -/
def execTrayWriteResp (m : Msg) (s : State) : Res :=
  let s := takeRx s m
  answer s (match respAccess s m 1 with
    | none => trayCount s 3
    | some a =>
      let r := respStatus s m
      portsGo (freeTagOf (endAccess r.1 a.id r.2 []) (a.tag.getD 0)))

/-- TRAY_ATOMIC_RESP (R287). -/
def execTrayAtomicResp (m : Msg) (s : State) : Res :=
  let s := takeRx s m
  answer s (match respAccess s m 2 with
    | none => trayCount s 3
    | some a =>
      match trayData s m (if getF m.hdr TrayHdr.STATUS ≠ 0 then 0 else 8) with
      | (s, none) => s
      | (s, some bs) =>
        let r := respStatus s m
        portsGo (freeTagOf (endAccess r.1 a.id r.2 bs) (a.tag.getD 0)))

/-- TRAY_TIMEOUT (R281): a tag's request has had no response for TRAY_TIMEOUT_CLK: TIMEOUT, and its generation advances. -/
def execTrayTimeout (tag : Nat) (s : State) : Res :=
  answer s (match (kfind s.fab.tags tag).bind (liveAccess s) with
    | none => s
    | some a =>
      if a.issued + od s OD.TRAY_TIMEOUT_CLK ≤ s.clk then
        let s := fabricFault (trayCount s 2) 4 a.addr
        let s := { s with fab := { s.fab with tagGen := kput s.fab.tagGen tag ((kget s.fab.tagGen tag 0 + 1) % 16) } }
        portsGo (freeTagOf (endAccess s a.id 4 (failBytes a)) tag)
      else s)

/-- R282: a slot declared dead: its outstanding requests end SLOT_DEAD, its cached lines go, and the domain goes down where it is a
member (R297). -/
def slotDead (s : State) (slot : Nat) : State :=
  let s := odSet s OD.DEAD_SLOTS (setBit (od s OD.DEAD_SLOTS) slot true)
  let gone := s.fab.live.filter (fun a => a.aperture.isNone && a.line.isNone && paSlot a.addr == slot && slot != ownSlot s)
  let s := gone.foldl (fun t a =>
    let t := endAccess (fabricFault (trayCount t 7) 5 a.addr) a.id 5 (failBytes a)
    match a.tag with
    | some g => { t with fab := { t.fab with tags := kdel t.fab.tags g } }
    | none => t) s
  let s := trcDrop s (fun l => paSlot (64 * l) == slot)
  let s := if bitOf s.fab.members slot then cohDown s else s
  portsGo (tagPump s.fab.live.length s)

/-- R282: TRAY_MEMBERS written: a dead slot whose bit it sets lives again. -/
def trayMembersSet (s : State) (v : Nat) : State :=
  let dead := od s OD.DEAD_SLOTS
  odSet (odSet s OD.TRAY_MEMBERS v) OD.DEAD_SLOTS
    ((List.range 32).foldl (fun w k => if bitOf v k then setBit w k false else w) dead)

/-! Coherence commands. -/

/-- A received coherence message handled as the message of code `code`. -/
def cohTake (code : Nat) (m : Msg) (s : State) : Res :=
  let s := takeRx s m
  answer s (portsGo (cohSettle (cohHandle s { m with hdr := setF m.hdr CohMsg.MSG code })))

/-- GET_S (R291). -/
def execGetS (m : Msg) (s : State) : Res := cohTake 1 m s
/-- GET_M (R291). -/
def execGetM (m : Msg) (s : State) : Res := cohTake 2 m s
/-- PUT_M (R291). -/
def execPutM (m : Msg) (s : State) : Res := cohTake 3 m s
/-- PUT_E (R291). -/
def execPutE (m : Msg) (s : State) : Res := cohTake 4 m s
/-- FWD_S (R293). -/
def execFwdS (m : Msg) (s : State) : Res := cohTake 5 m s
/-- FWD_M (R293). -/
def execFwdM (m : Msg) (s : State) : Res := cohTake 6 m s
/-- INV (R293). -/
def execInv (m : Msg) (s : State) : Res := cohTake 7 m s
/-- RECALL (R293). -/
def execRecall (m : Msg) (s : State) : Res := cohTake 8 m s
/-- DATA (R293). -/
def execDataOp (m : Msg) (s : State) : Res := cohTake 9 m s
/-- DATA_E (R291). -/
def execDataE (m : Msg) (s : State) : Res := cohTake 0xA m s
/-- INV_ACK (R293). -/
def execInvAck (m : Msg) (s : State) : Res := cohTake 0xB m s
/-- COPY_BACK (R291). -/
def execCopyBack (m : Msg) (s : State) : Res := cohTake 0xC m s
/-- PUT_ACK (R291). -/
def execPutAck (m : Msg) (s : State) : Res := cohTake 0xD m s

/-- COH_HOLD_END (R293): the forwards and recalls that wait for a line are taken up once its hold is over and no request for it is out. -/
def execCohHoldEnd (key : Nat) (s : State) : Res :=
  answer s (
    let held : Bool := match cohLine s key with | some l => decide (s.clk < l.hold) | none => false
    if held || (kfind s.fab.reqs key).isSome then s
    else
      let ms := kget s.fab.fwds key []
      portsGo (cohSettle (requeue { s with fab := { s.fab with fwds := kdel s.fab.fwds key } } ms)))

/-- COH_TIMEOUT (R297): no answer to a FWD, RECALL or INV of a home's entry within COH_TIMEOUT_CLK. -/
def execCohTimeout (line : Nat) (s : State) : Res :=
  answer s (match kfind s.fab.dir line with
    | none => s
    | some e => if 3 ≤ e.state ∧ e.since + od s OD.COH_TIMEOUT_CLK ≤ s.clk then portsGo (cohDown s) else s)

/-- DOMAIN_DOWN (R297): a message from another member; one of another epoch is discarded. -/
def execDomainDown (fromDev epoch : Nat) (s : State) : Res :=
  answer s (if epoch = od s OD.COH_EPOCH ∧ fromDev ≠ ownDevice s then portsGo (cohDown s) else s)

/-- R298: the member enters UP once READY has come from every other member. -/
def cohUp (s : State) : State :=
  let here := s.fab.ready.filter (fun x => x % 65536 = od s OD.COH_EPOCH)
  if od s OD.COH_STATE = 2 ∧ ((slotsOf s.fab.members).filter (· != ownSlot s)).length ≤ here.length then
    odSet s OD.COH_STATE 0 else s

/-- R298: COH_RESET written with an epoch: cache and directory cleared, COH_MEMBERS adopted, READY sent to every member. -/
def cohReset (s : State) (epoch : Nat) : State :=
  let ended := s.fab.live.filter (fun a => a.line.isSome)
  let s := ended.foldl (fun t a => endAccess t a.id 6 (failBytes a)) s
  let s := { s with fab := { s.fab with
    coh := [], cohAge := [], wb := [], reqs := [], fwds := [], dir := [], dirAge := [], dirWait := [], inbox := [],
    members := od s OD.COH_MEMBERS } }
  let s := odSet (odSet s OD.COH_EPOCH (epoch % 2 ^ 16)) OD.COH_STATE 2
  let s := ((slotsOf s.fab.members).filter (· != ownSlot s)).foldl
    (fun t k => sendMgmtSlot t 7 k (frameNo t) (leBytes 8 (od t OD.COH_EPOCH))) s
  cohUp s

/-- COH_READY (R298): READY from a member, the last from each kept with its epoch: it counts once the own epoch is that one. -/
def execCohReady (fromDev epoch : Nat) (s : State) : Res :=
  answer s (cohUp { s with fab := { s.fab with
    ready := s.fab.ready.filter (fun x => x / 65536 != fromDev) ++ [fromDev * 65536 + epoch % 65536] } })

end Sys2Proof.Machine
end

