-- ==== Sys2Proof/Machine/Dma.lean ====
section
/-! DEFINITION. Chapter 14: the DMA engine's 512 channels. Step statuses are those of R315: 0 OK, 4 BAD_OP, 6 FAULT, 7 BAD_DESC,
0xA PAUSED, 0xB HALTED, 0xC TRIGGER_EXPIRED. A transfer moves piece by piece, a piece being the part of one destination line a row
covers (R309).
Choices of the model here, by the assumption log: log 41 (DESIGN CHOICE); log 46 (DEDUCED). -/

namespace Sys2Proof.Machine

/-- A channel that holds nothing. -/
def DmaCh.reset : DmaCh :=
  { chain := 0, idx := 0, desc := 0, row := 0, byte := 0, started := false, met := false, began := 0, bytes := 0, read := none,
    writes := [], posted := [], fail := none, halting := false, pausing := false, doneInFrame := 0 }

/-- A channel. -/
def dmaOf (s : State) (ch : Nat) : DmaCh := kget s.dma ch DmaCh.reset
/-- A channel set. -/
def setDma (s : State) (ch : Nat) (d : DmaCh) : State := { s with dma := kput s.dma ch d }
/-- R302: the unit of a channel: class DMA_A below 256, DMA_B above. -/
def dmaUnit (ch : Nat) : Nat := if ch < 256 then unitKey 3 ch else unitKey 4 (ch - 256)
/-- R314: a channel's state: 0 IDLE, 1 RUNNING, 2 PAUSED, 3 HALTED. -/
abbrev dmaState (s : State) (ch : Nat) : Nat := odGet s OD.CHANNEL_STATE ch
/-- R313: is a channel's pause bit set? -/
def dmaPaused (s : State) (ch : Nat) : Bool := bitOf (od s OD.CHANNEL_PAUSE) ch
/-- A DMA count (0x8820.02): 0 bytes moved, 1 retries, 2 halts, 3 pauses, 4 late write errors, 5 trigger expiries. -/
abbrev dmaCount (s : State) (i n : Nat) : State := odAdd s OD.DMA_COUNTS i n

/-- The failing access of a channel, all zeros where it has none. -/
def dmaFail (d : DmaCh) : DmaFail := d.fail.getD ⟨0, 0, 0, 0, 0, none, 0⟩

/-- R314: the saved state of a channel. -/
def dmaSaved (f : Flight) (d : DmaCh) : Nat :=
  let fail := dmaFail d
  mkRec [(DmaSaved.CHAIN_ADDR, d.chain), (DmaSaved.DESC_INDEX, d.idx), (DmaSaved.ROW, d.row), (DmaSaved.BYTE, d.byte),
    (DmaSaved.FAIL_ADDR, fail.addr), (DmaSaved.FAIL_STATUS, fail.status), (DmaSaved.RETRIES, fail.tries),
    (DmaSaved.TENANT, getF f.step StepRec.TENANT), (DmaSaved.TENANT_VALID, getF f.step StepRec.TENANT_VALID)]

/-- R315: a step of a channel completes with a status, its record written; the channel is left in a state, with what its saved
record holds. -/
def dmaEnd (s : State) (ch : Nat) (f : Flight) (d : DmaCh) (status state saved : Nat) (how : StepEnd) : State :=
  let fail := dmaFail d
  let s := ringPush s OD.DMA_COMPLETION_RING (mkRec [(DmaComp.FRAME, f.frame), (DmaComp.STEP_SLOT, f.slot), (DmaComp.CHANNEL, ch),
    (DmaComp.STATUS, status), (DmaComp.CARRIED, b2n f.carried), (DmaComp.DESC_INDEX, d.idx), (DmaComp.CLOCKS, compClocks s f),
    (DmaComp.BYTES, satBits 48 d.bytes), (DmaComp.FAIL_ADDR, fail.addr), (DmaComp.FAIL_STATUS, fail.status),
    (DmaComp.RETRIES, fail.tries)])
  let s := odPut (odPut s OD.CHANNEL_STATE ch state) OD.CHANNEL_SAVED ch saved
  let s := setDma s ch { DmaCh.reset with posted := d.posted, doneInFrame := d.doneInFrame, met := d.started }
  finishStep s (dmaUnit ch) how

/-- The step completes and the channel is IDLE. -/
def dmaIdle (s : State) (ch : Nat) (f : Flight) (d : DmaCh) (status : Nat) (how : StepEnd) : State :=
  dmaEnd s ch f d status 0 0 how

/-- The step completes and the channel keeps its saved state. -/
def dmaKeep (s : State) (ch : Nat) (f : Flight) (status : Nat) : State :=
  dmaEnd s ch f { dmaOf s ch with bytes := 0, started := (dmaOf s ch).met } status (dmaState s ch) (odGet s OD.CHANNEL_SAVED ch) .untouched

/-- A RUN, RESUME or RESET step that completes at once with OK or PAUSED on an IDLE channel. -/
def dmaAtOnce (s : State) (ch : Nat) (f : Flight) (status : Nat) (how : StepEnd) : State :=
  dmaEnd s ch f (dmaOf s ch) status 0 0 how

/-- R312: the channel halts: its position and the failing access are saved. -/
def dmaHalt (s : State) (ch : Nat) (f : Flight) (d : DmaCh) (how : StepEnd) : State :=
  dmaEnd (dmaCount s 2 1) ch f d 0xB 3 (dmaSaved f d) how

/-- R305: the checks of a descriptor: does it fail? -/
def dmaBad (s : State) (d idx : Nat) : Bool :=
  decide (2 ≤ getF d DmaDesc.KIND)
  || (getF d DmaDesc.TRIGGER == 1 && decide (getF s.frm.curHdr TableHdr.PERIOD_CLK ≤ getF d DmaDesc.TRIG_CLK))
  || (getF d DmaDesc.TRIGGER == 2 && decide (511 < getF d DmaDesc.TRIG_CHANNEL))
  || (idx == 255 && getF d DmaDesc.LAST == 0)

/-- Bytes per row and rows of a descriptor. -/
def dmaLen (d : Nat) : Nat := getF d DmaDesc.LENGTH_M1 + 1
/-- Rows of a descriptor. -/
def dmaRows (d : Nat) : Nat := getF d DmaDesc.ROWS_M1 + 1
/-- The tray address of byte `b` of source row `r`. -/
def dmaSrc (d r b : Nat) : Nat := (getF d DmaDesc.SRC + r * getF d DmaDesc.SRC_STRIDE + b) % 2 ^ 47
/-- The tray address of byte `b` of destination row `r`. -/
def dmaDst (d r b : Nat) : Nat := (getF d DmaDesc.DST + r * getF d DmaDesc.DST_STRIDE + b) % 2 ^ 47

/-- R306: does a byte of a COPY descriptor's source rows lie in its destination rows? -/
def dmaOverlap (d : Nat) : Bool :=
  getF d DmaDesc.KIND == 0 && (List.range (dmaRows d)).any (fun r => (List.range (dmaRows d)).any (fun q =>
    decide (dmaSrc d r 0 < dmaDst d q 0 + dmaLen d) && decide (dmaDst d q 0 < dmaSrc d r 0 + dmaLen d)))

/-- R304, R305, R475: descriptor `idx` of the chain becomes current: read, checked, waiting for its trigger. -/
def dmaReach (s : State) (ch : Nat) (f : Flight) (d : DmaCh) (idx : Nat) (first : Bool) : State :=
  let a := d.chain + 64 * idx
  let r := readRec s (stepReader f) a 64
  let s := r.1
  let how : StepEnd := if first then .untouched else .done
  let d := { d with idx := idx }
  if r.2.2.1 ≠ 0 then
    dmaHalt s ch f { d with fail := some ⟨ownSlot s * 2 ^ 42 + r.2.2.2, r.2.2.1, d.row, d.byte, 0, none, 0⟩ }
      (if first then .unread else .done)
  else if dmaBad s r.2.1 idx then dmaIdle s ch f d 7 how
  else setDma s ch { d with desc := r.2.1, began := s.clk }

/-- DMA_RUN (R302, R304, R305, R313, R314): the RUN step in flight on a channel starts its chain, or completes at once: with PAUSED
while the pause bit is set, with the state's status on a channel that holds saved state, with BAD_OP for an undefined opcode. -/
def execDmaRun (ch : Nat) (s : State) : Res :=
  answer s (match flightOn s (dmaUnit ch) with
    | none => s
    | some f =>
      let op := getF f.step StepRec.OPCODE
      if op = 2 ∨ op = 3 ∨ dmaState s ch = 1 then s
      else if op ≠ 1 then dmaEnd s ch f (dmaOf s ch) 4 (dmaState s ch) (odGet s OD.CHANNEL_SAVED ch) .untouched
      else if dmaState s ch = 2 then dmaKeep s ch f 0xA
      else if dmaState s ch = 3 then dmaKeep s ch f 0xB
      else if dmaPaused s ch then dmaAtOnce s ch f 0xA .untouched
      else
        let d := { DmaCh.reset with chain := getF f.step StepRec.DESC_ADDR, posted := (dmaOf s ch).posted,
                                    doneInFrame := (dmaOf s ch).doneInFrame }
        dmaReach (odPut s OD.CHANNEL_STATE ch 1) ch f d 0 true)

/-- DMA_RESUME (R314): the saved chain's current descriptor is read again and the transfer goes on from the saved row and byte. -/
def execDmaResume (ch : Nat) (s : State) : Res :=
  answer s (match flightOn s (dmaUnit ch) with
    | none => s
    | some f =>
      if getF f.step StepRec.OPCODE ≠ 2 ∨ dmaState s ch = 1 then s
      else if dmaState s ch = 0 then
        dmaAtOnce s ch f (if dmaPaused s ch then 0xA else 0) (if dmaPaused s ch then .untouched else .done)
      else if dmaPaused s ch then dmaKeep s ch f 0xA
      else
        let v := odGet s OD.CHANNEL_SAVED ch
        let d := { DmaCh.reset with
          chain := getF v DmaSaved.CHAIN_ADDR, row := getF v DmaSaved.ROW, byte := getF v DmaSaved.BYTE,
          started := (dmaOf s ch).met,
          posted := (dmaOf s ch).posted, doneInFrame := (dmaOf s ch).doneInFrame }
        dmaReach (odPut s OD.CHANNEL_STATE ch 1) ch f d (getF v DmaSaved.DESC_INDEX) true)

/-- DMA_RESET (R314): saved state is discarded; on an IDLE channel whose pause bit is set it completes PAUSED (R313). -/
def execDmaReset (ch : Nat) (s : State) : Res :=
  answer s (match flightOn s (dmaUnit ch) with
    | none => s
    | some f =>
      if getF f.step StepRec.OPCODE ≠ 3 ∨ dmaState s ch = 1 then s
      else if dmaState s ch = 0 ∧ dmaPaused s ch then dmaKeep s ch f 0xA
      else dmaAtOnce s ch f 0 .done)

/-- R307: is the current descriptor's trigger met? -/
def dmaTriggered (s : State) (d : Nat) : Bool :=
  match getF d DmaDesc.TRIGGER with
  | 0 => true
  | 1 => decide (getF d DmaDesc.TRIG_CLK ≤ frameClk s)
  | 2 => decide (getF d DmaDesc.TRIG_VALUE ≤ (dmaOf s (getF d DmaDesc.TRIG_CHANNEL)).doneInFrame)
  | _ => eventSet s (getF d DmaDesc.TRIG_VALUE)

/-- The length of the piece at the position: to the end of its destination line or of the row (R309). -/
def dmaPiece (d : DmaCh) : Nat :=
  min (dmaLen d.desc - d.byte) (64 - dmaDst d.desc d.row d.byte % 64)

/-- The position after a piece. -/
def dmaNext (d : DmaCh) (n : Nat) : DmaCh :=
  if d.byte + n < dmaLen d.desc then { d with byte := d.byte + n } else { d with row := d.row + 1, byte := 0 }

/-- A write issued for the piece at a place. -/
def dmaWrite (s : State) (ch : Nat) (f : Flight) (d : DmaCh) (row byte : Nat) (data : List Byte) : State × DmaCh :=
  let a := dmaDst d.desc row byte
  let r := accessStart s (.dma ch) (stepReader f) 1 a data.length data 0 0 0
  (dmaCount r.1 0 data.length, { d with writes := d.writes ++ [⟨r.2, a, row, byte, data, 0⟩], bytes := d.bytes + data.length })

/-- R306: the bytes a piece writes: those it has read, free ones in the undefined case U08 of a COPY whose source and destination share a
byte, which exposes data alone (R415). -/
def dmaBytes (s : State) (d : DmaCh) (bs : List Byte) : List Byte × State :=
  if dmaOverlap d.desc then takeBytes s bs.length else (bs, s)

/-- Does a failure stand before another in the descriptor? -/
def dmaBefore (x y : DmaFail) : Bool := decide (x.row < y.row) || (x.row == y.row && decide (x.byte < y.byte))

/-- R311, R312: an access has failed: it is the channel's failure where it has none; on a halting channel the first in place stands. -/
def dmaFailed (d : DmaCh) (x : DmaFail) : DmaCh :=
  match d.fail with
  | none => { d with fail := some x }
  | some y => if d.halting && dmaBefore x y then { d with fail := some x } else d

/-- The write answers that have come in taken. While a failure is being handled, another waits for its turn; a channel that halts takes
every one. The bytes of a write that failed are not counted as written (R315). -/
def dmaTakeWrites (s : State) (d : DmaCh) : State × DmaCh :=
  d.writes.foldl (fun acc w =>
    let keep := { acc.2 with writes := acc.2.writes ++ [w] }
    let r := takeResult acc.1 w.acc
    match r.2 with
    | none => (acc.1, keep)
    | some v =>
      if v.1 = 0 then (r.1, acc.2)
      else if acc.2.fail.isSome ∧ acc.2.halting = false then (acc.1, keep)
      else (r.1, dmaFailed { acc.2 with bytes := acc.2.bytes - w.data.length }
        ⟨w.addr, v.1, w.row, w.byte, w.data.length, some w.data, w.tries⟩))
    (s, { d with writes := [] })

/-- The late answers of POSTED writes taken: errors go to the ring and are counted (R310). -/
def dmaTakePosted (s : State) (ch : Nat) (d : DmaCh) : State × DmaCh :=
  d.posted.foldl (fun acc w =>
    let r := takeResult acc.1 w.1
    match r.2 with
    | none => (r.1, { acc.2 with posted := acc.2.posted ++ [w] })
    | some v =>
      if v.1 = 0 then (r.1, acc.2)
      else
        let t := ringPush (dmaCount r.1 4 1) OD.LATE_WRITE_RING
          (mkRec [(fld 255 224, frameNo s), (fld 223 215, ch), (fld 214 168, w.2), (fld 167 160, v.1)])
        (t, acc.2)) (s, { d with posted := [] })

/-- A read issued for `n` bytes at an address, of which `old` have been read: one access, which in the control window ends with its
line (R290). -/
def dmaRead (s : State) (ch : Nat) (f : Flight) (addr row byte n : Nat) (old : List Byte) (tries : Nat) : State × DmaRead :=
  let left := n - old.length
  let a := addr + old.length
  let r := accessStart s (.dma ch) (stepReader f) 0 a (if inWindow (paOff a) then min left (64 - a % 64) else left) [] 0 0 0
  (r.1, ⟨r.2, addr, row, byte, n, old, tries⟩)

/-- A read's answer taken: the bytes are written, once the piece has them all. Its error waits while another failure is being handled; on
a halting channel a piece that still lacks bytes is given up, since no more reads are issued (R312). -/
def dmaTakeRead (s : State) (ch : Nat) (f : Flight) (d : DmaCh) (r : DmaRead) : State × DmaCh :=
  let v := takeResult s r.acc
  match v.2 with
  | none => (s, d)
  | some x =>
    let bs := r.have_ ++ x.2
    if x.1 ≠ 0 then
      if d.fail.isSome ∧ d.halting = false then (s, d)
      else (v.1, dmaFailed { d with read := none } ⟨r.addr + r.have_.length, x.1, r.row, r.byte, r.len, none, r.tries⟩)
    else if bs.length < r.len then
      if d.halting then (v.1, { d with read := none })
      else
        let t := dmaRead v.1 ch f r.addr r.row r.byte r.len bs 0
        (t.1, { d with read := some t.2 })
    else
      let b := dmaBytes v.1 d bs
      let w := dmaWrite b.2 ch f { d with read := none } r.row r.byte b.1
      (w.1, dmaNext w.2 r.len)

/-- FILL: bytes `b` to `b + n` of a row (R304). -/
def fillBytes (d b n : Nat) : List Byte :=
  (span b n).map (fun i => BitVec.ofNat 8 (getF d DmaDesc.PATTERN / 256 ^ (i % 8)))

/-- The transfer goes on for at most `n` pieces: answers are taken, the next piece is read and written. It stops at an error, a
pause, a read without an answer, or the descriptor's end. -/
def dmaPump : Nat → State → Nat → Flight → DmaCh → State × DmaCh
  | 0, s, _, _, d => (s, d)
  | n + 1, s, ch, f, d =>
    let w := dmaTakeWrites s d
    let s := w.1
    let d := w.2
    match d.read with
    | some r =>
      let t := dmaTakeRead s ch f d r
      if t.2.read = some r then (t.1, t.2) else dmaPump n t.1 ch f t.2
    | none =>
      if d.fail.isSome || d.pausing || !d.started || decide (dmaRows d.desc ≤ d.row) then (s, d)
      else
        let len := dmaPiece d
        if getF d.desc DmaDesc.KIND = 1 then
          let t := dmaWrite s ch f d d.row d.byte (fillBytes d.desc d.byte len)
          dmaPump n t.1 ch f (dmaNext t.2 len)
        else
          let r := dmaRead s ch f (dmaSrc d.desc d.row d.byte) d.row d.byte len [] 0
          dmaPump n r.1 ch f { d with read := some r.2 }

/-- Fuel for a whole descriptor: each piece takes at most two reads and a write. -/
def dmaFuel (d : Nat) : Nat := 3 * dmaRows d * (dmaLen d / 64 + 2) + 2

/-- DMA_TRIGGER (R304, R307, R309): the current descriptor's trigger is met and its transfer starts, `n` pieces of it before the next
command. -/
def execDmaTrigger (ch n : Nat) (s : State) : Res :=
  answer s (match flightOn s (dmaUnit ch) with
    | none => s
    | some f =>
      let d := dmaOf s ch
      if dmaState s ch = 1 ∧ d.started = false ∧ d.fail = none ∧ d.pausing = false ∧ dmaTriggered s d.desc then
        let r := dmaPump n s ch f { d with started := true }
        setDma r.1 ch r.2
      else s)

/-- TRIGGER_EXPIRED (R307): TRIG_LIMIT × 64 clk have passed since the descriptor was reached. -/
def dmaExpire (s : State) (ch : Nat) (f : Flight) (d : DmaCh) : State := dmaIdle (dmaCount s 5 1) ch f d 0xC .done

/-- TRIGGER_EXPIRED (R307). -/
def execTriggerExpired (ch : Nat) (s : State) : Res :=
  answer s (match flightOn s (dmaUnit ch) with
    | none => s
    | some f =>
      let d := dmaOf s ch
      if dmaState s ch = 1 ∧ d.started = false ∧ dmaTriggered s d.desc = false ∧ getF d.desc DmaDesc.TRIG_LIMIT ≠ 0
        ∧ d.began + 64 * getF d.desc DmaDesc.TRIG_LIMIT ≤ s.clk
      then dmaExpire s ch f d else s)

/-- The current descriptor has completed under its mode (R310): the next one becomes current, or the step completes. -/
def dmaDescDone (s : State) (ch : Nat) (f : Flight) (d : DmaCh) : State :=
  let d := { d with posted := d.posted ++ d.writes.map (fun w => (w.acc, w.addr)), writes := [],
                    doneInFrame := d.doneInFrame + 1, started := false, row := 0, byte := 0 }
  if getF d.desc DmaDesc.LAST = 1 then dmaIdle s ch f d 0 .done
  else dmaReach s ch f d (d.idx + 1) false

/-- Has the current descriptor completed under its mode? -/
def dmaDone (d : DmaCh) : Bool :=
  d.started && d.fail.isNone && d.read.isNone && decide (dmaRows d.desc ≤ d.row)
  && (getF d.desc DmaDesc.ACKED == 0 || d.writes.isEmpty)

/-- DMA_DESCRIPTOR_COMPLETE (R310): the transfer goes on with the answers that have come; a descriptor whose last write has left the
engine (POSTED) or whose every write is answered (ACKED) completes. -/
def execDmaDescriptorComplete (ch : Nat) (s : State) : Res :=
  answer s (match flightOn s (dmaUnit ch) with
    | none => s
    | some f =>
      if dmaState s ch ≠ 1 then s
      else
        let r := dmaPump (dmaFuel (dmaOf s ch).desc) s ch f (dmaOf s ch)
        let t := dmaTakeWrites r.1 r.2
        let p := dmaTakePosted t.1 ch t.2
        if dmaDone p.2 && !p.2.pausing then dmaDescDone p.1 ch f p.2 else setDma p.1 ch p.2)

/-- R311: the failing access issued again. -/
def dmaRetry (s : State) (ch : Nat) (f : Flight) (d : DmaCh) (x : DmaFail) : State :=
  let s := dmaCount s 1 1
  let d := { d with fail := none }
  match x.data with
  | some bs =>
    let r := accessStart s (.dma ch) (stepReader f) 1 x.addr x.len bs 0 0 0
    setDma r.1 ch { d with writes := ⟨r.2, x.addr, x.row, x.byte, bs, x.tries + 1⟩ :: d.writes, bytes := d.bytes + bs.length }
  | none =>
    let r := dmaRead s ch f (dmaSrc d.desc x.row x.byte) x.row x.byte x.len [] (x.tries + 1)
    setDma r.1 ch { d with read := some r.2 }

/-- DMA_ERROR_RESPONSE (R310 to R312): an access has been answered with an error: TIMEOUT is retried up to RETRY_COUNT times; any other,
or one retry too many, halts the channel once what it has issued is answered. A late error of a POSTED write is only recorded. -/
def execDmaErrorResponse (ch : Nat) (s : State) : Res :=
  answer s (
    let p := dmaTakePosted s ch (dmaOf s ch)
    let s := setDma p.1 ch p.2
    match flightOn s (dmaUnit ch) with
    | none => s
    | some f =>
      if dmaState s ch ≠ 1 then s
      else
        let t := dmaTakeWrites s p.2
        let s := t.1
        let d0 := t.2
        let t : State × DmaCh := match d0.read with
          | some r => dmaTakeRead s ch f d0 r
          | none => (s, d0)
        let s := t.1
        let d := t.2
        match d.fail with
        | none => setDma s ch d
        | some x =>
          if x.status = 4 ∧ d.halting = false ∧ x.tries < odGet s OD.CHANNEL_CONFIG ch % 8 then dmaRetry s ch f d x
          else if d.read.isNone ∧ d.writes = [] then dmaHalt s ch f { d with row := x.row, byte := x.byte } .done
          else setDma s ch { d with halting := true })

/-- R313: a running channel pauses: at once while it waits for a trigger, else once everything issued is written and answered. -/
def dmaPauseTry (s : State) (ch : Nat) : State :=
  match flightOn s (dmaUnit ch) with
  | none => s
  | some f =>
    let d := dmaOf s ch
    if dmaState s ch = 1 ∧ d.pausing ∧ d.fail = none ∧ d.read.isNone ∧ d.writes = [] ∧ d.posted = [] then
      if d.started ∧ dmaRows d.desc ≤ d.row ∧ getF d.desc DmaDesc.LAST = 1 then
        dmaIdle s ch f { d with doneInFrame := d.doneInFrame + 1 } 0 .done
      else
        let d := if d.started ∧ dmaRows d.desc ≤ d.row
          then { d with started := false, idx := d.idx + 1, row := 0, byte := 0, doneInFrame := d.doneInFrame + 1 } else d
        dmaEnd (dmaCount s 3 1) ch f d 0xA 2 (dmaSaved f d) .done
    else s

/-- R313: a channel's pause bit set or cleared; clearing restarts nothing. -/
def dmaPauseSet (s : State) (ch : Nat) (v : Bool) : State :=
  let s := odSet s OD.CHANNEL_PAUSE (setBit (od s OD.CHANNEL_PAUSE) ch v)
  if v ∧ dmaState s ch = 1 then dmaPauseTry (setDma s ch { dmaOf s ch with pausing := true }) ch else s

/-- CHANNEL_PAUSE (R313): the channel's bit in OD 0x8810.02 written. -/
def execChannelPause (ch : Nat) (v : Bool) (s : State) : Res := answer s (dmaPauseSet s ch v)

/-- DMA_PAUSE_COMPLETE (R313): bytes already read are written, answers are taken, and with every write answered the step completes with
status PAUSED. -/
def execDmaPauseComplete (ch : Nat) (s : State) : Res :=
  answer s (match flightOn s (dmaUnit ch) with
    | none => s
    | some f =>
      let d := dmaOf s ch
      if d.pausing then
        let t : State × DmaCh := match d.read with
          | some r => dmaTakeRead s ch f d r
          | none => (s, d)
        let t := dmaTakeWrites t.1 t.2
        let t := dmaTakePosted t.1 ch t.2
        dmaPauseTry (setDma t.1 ch t.2) ch
      else s)

/-- R43, R307: at a tick, channels whose trigger is unmet end their steps with TRIGGER_EXPIRED; one whose trigger is met has started and is
carried; every count starts again. -/
def dmaTick (s : State) : State :=
  let s := s.dma.foldl (fun t p =>
    match flightOn t (dmaUnit p.1) with
    | some f =>
      if dmaState t p.1 = 1 ∧ (dmaOf t p.1).started = false then
        if dmaTriggered t (dmaOf t p.1).desc then setDma t p.1 { dmaOf t p.1 with started := true }
        else dmaExpire t p.1 f (dmaOf t p.1)
      else t
    | none => t) s
  { s with dma := s.dma.map (fun p => (p.1, { p.2 with doneInFrame := 0 })) }

/-- R427, R314: a channel reset: IDLE, its saved state discarded. -/
def dmaDrop (s : State) (ch : Nat) : State :=
  let s := odPut (odPut s OD.CHANNEL_STATE ch 0) OD.CHANNEL_SAVED ch 0
  setDma s ch { DmaCh.reset with doneInFrame := (dmaOf s ch).doneInFrame }

end Sys2Proof.Machine
end

