-- ==== Sys2Proof/Machine/Energy.lean ====
section
/-! DEFINITION. Chapter 17: the allowance and its lease, grants at the seal, the ledger's close, rail scales, throttling, and the power
states short of DORMANT. Energies are in units of 4 nJ, so 1 µJ is 250 units. What the meters read and the activity counters count are
free values: the spec gives no input that carries them.
Choices of the model here, by the assumption log: log 49, 50 (DEDUCED). -/

namespace Sys2Proof.Machine

/-- R346: the fused base coefficients of the six rails, CORE first [nJ per clk]. -/
def baseNj : List Nat := [150, 60, 30, 60, 200, 48]

/-- The prices of the cyclic section in force. -/
def cyclicPrices (s : State) : Nat :=
  ((List.range (od s OD.CYCLIC_COUNT)).map (fun i => recF s OD.CYCLIC_STEPS i StepRec.PRICE)).sum

/-- R344: the charge of a frame of a period that runs only cyclic steps of a total price, at fused coefficients [µJ]. -/
def minAllowance (period prices : Nat) : Nat := cdiv (period * baseNj.sum + 4 * prices) 1000

/-- R344: MIN for the values in force. -/
def minNow (s : State) : Nat := minAllowance (od s OD.FRAME_PERIOD_CLK) (cyclicPrices s)

/-- R344: MIN_ALLOWANCE_UJ brought up to date. -/
def minUpdate (s : State) : State := odSet s OD.MIN_ALLOWANCE_UJ (minNow s)

/-- R345: the allowance in force [µJ], MIN being `mn`. -/
def allowance (s : State) (mn : Nat) : Nat :=
  if s.en.lapsed then min (od s OD.ALLOWANCE_UJ) (max (od s OD.ALLOWANCE_FLOOR_UJ) mn) else od s OD.ALLOWANCE_UJ

/-- R345: a write of ALLOWANCE_UJ, of whatever value, renews the lease. -/
def leaseRenew (s : State) : State :=
  { s with en := { s.en with leaseFrame := frameNo s, lapsed := false } }

/-- LEASE_EXPIRY (R345): ALLOWANCE_LEASE_FRAMES frames have passed in RUN without a write. -/
def execLeaseExpiry (s : State) : Res :=
  answer s (
    let n := od s OD.ALLOWANCE_LEASE_FRAMES
    if inRun s && !s.en.lapsed && n != 0 && decide (n ≤ frameDiff s.en.leaseFrame (frameNo s)) then
      alert (odAdd { s with en := { s.en with lapsed := true } } OD.ENERGY_COUNTS 0 1) 2
    else s)

/-- R348: the base charge of a frame at the scales in force, rounded up to 4 nJ. -/
def baseCharge (s : State) (period : Nat) : Nat :=
  let den := s.en.scaleDen.foldl (· * ·) 1
  let sum := ((baseNj.zip (s.en.scaleNum.zip s.en.scaleDen)).map (fun p => p.1 * p.2.1 * (den / p.2.2))).sum
  cdiv (period * sum) (4 * den)

/-- R357: the grant after throttling, in 4 nJ. -/
def grantAfter (a mn f : Nat) : Nat := 250 * mn + 250 * (a - mn) * f / 8

/-- A grant fixed now, for a frame of a period (R343, R348, R357). -/
def grantNow (s : State) (period : Nat) : LedgerFrame :=
  let mn := minAllowance period (cyclicPrices s)
  let a := allowance s mn
  let f := od s OD.THROTTLE_EIGHTHS
  { peakUj := od s OD.PEAK_UJ, granted := 250 * a, aEff := min (250 * a) (grantAfter a mn f), carriedIn := 0,
    base := baseCharge s period, steps := 0, throttle := f, minUj := mn, metered := [], fused := [], invalid := 0, ended := false }

/-- R357: the throttle factor after a reading, the largest of the last closed frame [0.01 °C]. -/
def throttleNext (f limit : Nat) (t : Int) : Nat :=
  if 100 * (limit : Int) ≤ t then max 1 (f - 1)
  else if t < 100 * ((limit : Int) - 5) then min 8 (f + 1)
  else f

/-- R343, R357: the seal: the throttle factor moves, the next frame's grant is fixed; the first frame with f below 8 alerts. -/
def ledgerSeal (s : State) (period : Nat) : State :=
  let f := throttleNext (od s OD.THROTTLE_EIGHTHS) (od s OD.THROTTLE_C) s.en.tempClosed
  let s := odSet s OD.THROTTLE_EIGHTHS f
  let s := if f < 8 ∧ s.en.throttled = false then alert { s with en := { s.en with throttled := true } } 5
    else if f = 8 then { s with en := { s.en with throttled := false } } else s
  let g := grantNow s period
  odSet { s with en := { s.en with sealed := some g } } OD.ALLOWANCE_IN_FORCE (g.aEff / 250)

/-- R343, R353: a frame starts: its grant is the sealed one, or for a frame never sealed the values of this moment; its base charge
is spent, and what throttling withholds is returned. -/
def ledgerOpen (s : State) (frame period : Nat) : State :=
  let g := match s.en.sealed with
    | some g => g
    | none => grantNow s period
  let s := odAdd s OD.HOUSEKEEPING_ENERGY 0 g.base
  let s := if g.throttle < 8 then odAdd s OD.ENERGY_COUNTS 3 1 else s
  let s := ledgerSums s g.granted g.base (g.granted - g.aEff : Nat)
  odSet { s with en := { s.en with sealed := none, frames := kput s.en.frames frame g } } OD.ALLOWANCE_IN_FORCE (g.aEff / 250)

/-! The close (R353 to R355). -/

/-- A spend drawn from lots, oldest first: a negative lot adds to it; the lots left and what is still to be drawn. -/
def drawLots : List Int → Int → List Int × Int
  | [], n => ([], n)
  | l :: t, n =>
    let m := if l < 0 then n - l else n
    let d := if l < 0 then 0 else min l m
    let r := drawLots t (m - d)
    ((if l < 0 then 0 else l - d) :: r.1, r.2)

/-- The lots after a frame closes, and what of the oldest is returned: the debts of negative lots are drawn first (R355). -/
def closeLots (lots : List Int) (aEff spend : Int) : List Int × Int :=
  let debt := ((lots.filter (· < 0)).map (fun x => -x)).sum
  let r := drawLots (lots.map (fun x => if x < 0 then 0 else x)) (spend + debt)
  let all := r.1 ++ [aEff - r.2]
  if 4 < all.length then (all.tail, all.headD 0) else (all, 0)

/-- The binary32 value nearest a positive fraction. -/
def ratioF32 (p q : Nat) : Nat :=
  if p = 0 ∨ q = 0 then 0
  else
    let k := 80 + q.log2
    let m := p * 2 ^ k / q
    roundMag fp32 none (2 * m + b2n (decide (p * 2 ^ k % q ≠ 0))) (-(k : Int) - 1)

/-- A fused coefficient as a fraction: numerator, denominator. -/
def fusedRatio (i : Nat) : Nat × Nat :=
  match ofF32 (fusedCoefficient i) with
  | .fin _ m e => if 0 ≤ e then (m * 2 ^ e.toNat, 1) else (m, 2 ^ (-e).toNat)
  | _ => (0, 1)

/-- R346: the rail of a coefficient: the operation classes, then the six bases. -/
def coeffRail (i : Nat) : Nat :=
  if 15 ≤ i then i - 15
  else if i ≤ 5 then 0
  else if i = 6 then 1
  else if i ≤ 8 then 2
  else if i = 9 then 3
  else if i ≤ 12 then 4
  else 5

/-- R346: the scales and the effective coefficients the dictionary shows. -/
def scaleShow (s : State) : State :=
  let sc := fun r => (s.en.scaleNum.getD r 1, s.en.scaleDen.getD r 1)
  let s := odPuts s OD.RAIL_SCALES 0 ((List.range 6).map (fun r => ratioF32 (sc r).1 (sc r).2))
  odPuts s OD.COEFFICIENTS 0 ((List.range 21).map (fun i =>
    let f := fusedRatio i
    let x := sc (coeffRail i)
    ratioF32 (f.1 * x.1) (f.2 * x.2)))

/-- R350, R351: a rail's samples after a frame, its count of valid frames, its scale as a fraction, and whether M / F exceeds 1. -/
def railUpdate (l : List (Nat × Nat)) (count m f margin smin : Nat) (valid : Bool) :
    List (Nat × Nat) × Nat × (Nat × Nat) × Bool :=
  if valid = false then ([], 0, (1, 1), false)
  else
    let l := l ++ [(m, f)]
    let l := l.drop (l.length - 256)
    let n := count + 1
    let ms := (l.map Prod.fst).sum
    let fs := (l.map Prod.snd).sum
    if n < 256 ∨ fs = 0 then (l, n, (1, 1), false)
    else if fs < ms then (l, n, (1, 1), true)
    else
      let p := ms * (1000 + margin)
      let q := fs * 1000
      if q ≤ p then (l, n, (1, 1), false)
      else if p * 1000 < smin * q then (l, n, (min smin 1000, 1000), false)
      else (l, n, (p, q), false)

/-- R350: every rail's scale updated from a closed frame. -/
def scaleUpdate (s : State) (metered fused : List Nat) (invalid : Nat) : State :=
  let s := (List.range 6).foldl (fun t r =>
    let x := railUpdate (t.en.samples.getD r []) (odGet t OD.VALID_FRAMES r) (metered.getD r 0) (fused.getD r 0)
      (od t OD.CAL_MARGIN_PM) (od t OD.S_MIN_PM) (!bitOf invalid (5 - r))
    let t := odPut t OD.VALID_FRAMES r (x.2.1 % 2 ^ 32)
    let en := { t.en with samples := lset t.en.samples r x.1, scaleNum := lset t.en.scaleNum r x.2.2.1.1,
                          scaleDen := lset t.en.scaleDen r x.2.2.1.2 }
    let t := { t with en := en }
    if x.2.2.2 then alert (odAdd t OD.ENERGY_COUNTS 1 1) 3 else t) s
  scaleShow s

/-- What a rail's meter and the activity counters gave for a frame: free values within their fields (R349). -/
def takeMeters (s : State) : List Nat × List Nat × Nat × State :=
  let m := (List.range 6).map (fun r => Config.free (s.freeCtr + r) % 2 ^ 32)
  let f := (List.range 6).map (fun r => Config.free (s.freeCtr + 6 + r) % 2 ^ 32)
  (m, f, Config.free (s.freeCtr + 12) % 64, { s with freeCtr := s.freeCtr + 13 })

/-- Six rails in one field, CORE highest. -/
def railsField (l : List Nat) : Nat := ((List.range 6).map (fun r => l.getD r 0 * 2 ^ (32 * (5 - r)))).sum

/-- FRAME_CLOSE (R353): frame `n` closes; SCALE_UPDATE (R350) follows. -/
def frameClose (s : State) (n : Nat) : State :=
  match kfind s.en.frames n with
  | none => s
  | some g =>
    let mt := takeMeters s
    let s := mt.2.2.2
    let spend := g.base + g.steps
    let carriedIn := s.en.lots.sum
    let c := closeLots s.en.lots g.aEff spend
    let overspent := decide (((min ((g.aEff : Int) + carriedIn) (250 * g.peakUj : Nat)) : Int) < spend)
    let cold := (List.range 6).any (fun r => decide (odGet s OD.VALID_FRAMES r < 256))
    let ret := ((g.granted - g.aEff : Nat) : Int) + c.2
    let s := ringPush s OD.LEDGER_RING (mkRec [(LedgerRec.FRAME, n), (LedgerRec.GRANTED, g.granted),
      (LedgerRec.WITHHELD, g.granted - g.aEff), (LedgerRec.CARRIED_IN, ofInt 32 carriedIn), (LedgerRec.SPENT_BASE, g.base),
      (LedgerRec.SPENT_STEPS, g.steps), (LedgerRec.CARRIED_OUT, ofInt 32 c.1.sum), (LedgerRec.RETURNED, ofInt 32 ret),
      (LedgerRec.METERED, railsField mt.1), (LedgerRec.THROTTLE, g.throttle), (LedgerRec.COLD, b2n cold),
      (LedgerRec.OVERSPEND, b2n overspent), (LedgerRec.METER_INVALID, mt.2.2.1)])
    let s := ledgerSums s 0 0 c.2
    let s := if overspent then alert (odAdd s OD.ENERGY_COUNTS 2 1) 4 else s
    let s := { s with en := { s.en with lots := c.1, frames := kdel s.en.frames n } }
    scaleUpdate s mt.1 mt.2.1 mt.2.2.1

/-- R351, R352, R345, R357: the ledger at entry to RUN. -/
def ledgerEntry (s : State) : State :=
  let en := { s.en with lots := [], frames := [], sealed := none, leaseFrame := frameNo s, lapsed := false,
                        samples := List.replicate 6 [], scaleNum := List.replicate 6 1, scaleDen := List.replicate 6 1, throttled := false }
  scaleShow (odClear (odSet { s with en := en } OD.THROTTLE_EIGHTHS 8) OD.VALID_FRAMES)

/-! Power states (R359 to R361). -/

/-- R360: is the device quiescent? -/
def quiescent (s : State) : Bool :=
  (List.range 32768).all (fun r => let st := rowGet s r Row.STATE; st == 0 || st == 4 || st == 6 || st == 7)
  && s.frm.flights.isEmpty
  && (List.range 2048).all (fun i => recF s OD.CLASP_RECORDS i ClaspRec.STATE == 0)
  && s.net.qps.all (fun p => p.2.posted.isEmpty && p.2.wqes.isEmpty && p.2.sent.isEmpty
      && (qpState s p.1 == 0 || (qpF s p.1 QpCtx.SQ_CI == qpF s p.1 QpCtx.SQ_PI && qpF s p.1 QpCtx.ACK_PSN == qpF s p.1 QpCtx.SEND_PSN)))
  && (List.range 512).all (fun c => dmaState s c != 1)

/-- POWER_STATE_REQ written (R359): 1 IDLE, 2 ACTIVE; DORMANT in IDLE is the power chapter's. -/
def powerRequest (s : State) (v : Nat) : State :=
  let p := od s OD.POWER_STATE
  if v = 1 ∧ p = 0 then
    let s := odSet (odSet s OD.POWER_STATE 1) OD.POWER_REQ_STATUS 0
    { s with en := { s.en with idleSince := frameNo s } }
  else if v = 2 ∧ p = 2 then
    let en := { s.en with exitSealed := false }
    let s := { odSet (odSet s OD.POWER_STATE 3) OD.POWER_REQ_STATUS 0 with en := en }
    let ls := (List.range 64).filter (bitOf s.en.savedEnable)
    let s := odSet s OD.LINK_ENABLE s.en.savedEnable
    let s := ls.foldl (fun t l => linkTrain t l 0) s
    tickOpen s
  else if v = 3 ∧ p ≠ 2 then odSet s OD.POWER_REQ_STATUS 2
  else s

/-- IDLE_ENTRY (R359): a quiescent device at a tick: the last frame closes, every lot is returned, links are disabled. -/
def idleEntry (s : State) : State :=
  if od s OD.POWER_STATE = 1 ∧ quiescent s = true then
    let s := (s.en.frames.map Prod.fst).foldl frameClose s
    let s := ledgerSums s 0 0 s.en.lots.sum
    let s := { s with en := { s.en with lots := [], savedEnable := od s OD.LINK_ENABLE } }
    let s := ((List.range 64).filter (bitOf (od s OD.LINK_ENABLE))).foldl linkDisable s
    odSet s OD.POWER_STATE 2
  else s

/-- IDLE_DRAIN_TIMEOUT (R359): ENTERING_IDLE has lasted IDLE_DRAIN_FRAMES. -/
def execIdleDrainTimeout (s : State) : Res :=
  answer s (if od s OD.POWER_STATE = 1 ∧ od s OD.IDLE_DRAIN_FRAMES ≤ frameDiff s.en.idleSince (frameNo s)
    then odSet (odSet s OD.POWER_STATE 0) OD.POWER_REQ_STATUS 1 else s)

/-- R361: metered energy of IDLE accumulates in IDLE_ENERGY: a free amount, taken as the device leaves IDLE. -/
def idleMetered (s : State) : State :=
  let x := takeFree s
  odAdd x.2 OD.IDLE_ENERGY 0 x.1

end Sys2Proof.Machine
end

