-- ==== Sys2Proof/Machine/Beads.lean ====
section
/-! DEFINITION. Chapter 06: the pool manager's commands (R125), clearing (R127) and the bead audit (R143).
Choices of the model here, by the assumption log: log 34 (DEDUCED). -/

namespace Sys2Proof.Machine

/-- ALLOC (R125). -/
def execAlloc (cls stack n o0 row tenant : Nat) (s : State) : Res := answer s (beadAlloc s cls stack n o0 row tenant)
/-- REF (R124, R128). -/
def execRef (b gen : Nat) (s : State) : Res := answer s (beadRef s b gen)
/-- UNREF (R124). -/
def execUnref (b : Nat) (s : State) : Res := answer s (beadUnref s b)
/-- SHARD (R124). -/
def execShard (b : Nat) (s : State) : Res := answer s (beadShard s b)

/-- The units of R127: 204,800 bytes. -/
abbrev clearUnit : Nat := 204800

/-- R124, R127: the head of a CLEARING queue has one more unit zeroed; once every byte is, it joins the READY list. -/
def clearStep (s : State) (cls stack : Nat) : State :=
  let k := listKey cls stack
  match kget s.pool.clearing k [] with
  | [] => s
  | slot :: rest =>
    let b := beadIdx stack slot
    let pos := kget s.pool.clearPos b 0
    let total := classBeadBytes s cls
    let n := min clearUnit (total - pos)
    let s := zeroLines s (beadAddr s cls b + pos) n
    if pos + n < total then { s with pool := { s.pool with clearPos := kput s.pool.clearPos b (pos + n) } }
    else
      let s := { s with pool := { s.pool with clearing := kput s.pool.clearing k rest, clearPos := kdel s.pool.clearPos b } }
      readyAppend (descSet (countMove s cls stack 3 0) b [(BeadDesc.STATE, 0)]) cls stack slot

/-- BEAD_CLEAR_UNIT (R127): a unit starts only where no setting job runs on the stack. -/
def execBeadClearUnit (cls stack : Nat) (s : State) : Res :=
  answer s (if (flightOn s (unitKey 2 stack)).isSome then s else clearStep s cls stack)

/-- R143: may an audit of a class and stack start? -/
def auditOk (s : State) (cls stack : Nat) : Bool :=
  decide (cls ≤ 7) && classF s cls BeadClass.VALID == 1 && decide (stack ≤ 7)

/-- R143: an audit starts. -/
def auditStart (s : State) (cls stack : Nat) (law : Bool) : State :=
  let s := odSet s OD.AUDIT_RESULT (2 ^ 62)
  { s with pool := { s.pool with walks := s.pool.walks ++ [⟨cls, stack, law⟩] } }

/-- AUDIT (R125, R143): the planner's command. -/
def execAudit (cls stack : Nat) (s : State) : Res :=
  answer s (if auditOk s cls stack then auditStart s cls stack false else s)

/-- R143: does a slot's descriptor disagree with its own state? -/
def slotDisagrees (s : State) (cls b : Nat) : Bool :=
  let st := descF s b BeadDesc.STATE
  let refs := descF s b BeadDesc.REFS
  decide (5 < st) || descF s b BeadDesc.CLASS != cls
  || ((st == 1 || st == 4) && refs == 0) || (!(st == 1 || st == 4) && refs != 0)

/-- R143: the walk of a class on a stack: whether the counts agree, and the first slot that disagrees. -/
def auditWalk (s : State) (cls stack : Nat) : Bool × Option Nat :=
  let beads := (span (classF s cls BeadClass.FIRST_SLOT) (classF s cls BeadClass.SLOTS)).map (beadIdx stack)
  let count := fun (x : Nat) => (beads.filter (fun b => descF s b BeadDesc.STATE == x)).length
  let sum := ((beads.filter (fun b => descF s b BeadDesc.STATE == 1 || descF s b BeadDesc.STATE == 4)).map
    (fun b => descF s b BeadDesc.REFS)).sum
  let k := listKey cls stack
  ((List.range 6).all (fun x => count x == odGet s OD.BEAD_STATE_COUNTS (k * 6 + x)) && sum == odGet s OD.REF_SUM k,
    (beads.find? (slotDisagrees s cls)).map beadSlot)

/-- R143: the result of a walk in OD 0x6850.02. -/
def auditResult (w : Bool × Option Nat) : Nat :=
  match w.2 with
  | some slot => mkRec [(fld 63 62, 3), (fld 21 21, 1), (fld 20 0, slot)]
  | none => if w.1 then 2 * 2 ^ 62 else 3 * 2 ^ 62

/-- AUDIT_WALK_DONE (R143): the walk of a class on a stack ends; its result is reported, and the pool manager answers OK (0) or
MISMATCH (4). A walk that law L3 asked for is taken up by AUDIT_DONE. -/
def walkEnd (s : State) (cls stack : Nat) : State × Bool × Option Nat :=
  let w := auditWalk s cls stack
  let s := odSet s OD.AUDIT_RESULT (auditResult w)
  let s := poolAnswer s (if w.1 ∧ w.2 = none then 0 else 4) []
  ({ s with pool := { s.pool with walks := s.pool.walks.filter (fun x => !(x.cls == cls && x.stack == stack)) } }, w)

end Sys2Proof.Machine
end

