-- ==== Sys2Proof/Machine/Locket.lean ====
section
/-! DEFINITION. Chapter 16: the LOCKET steps and direct commands, and the searches of the planner and the clasp unit with the parity
repair of R339. Step statuses are those of R342; ESTATUS 0 OK, 1 MISS, 2 EXISTS, 3 FULL, 4 BAD_ENTRY, 5 WRONG_BANK. A step runs whole
in one command.
Choices of the model here, by the assumption log: log 48 (DEDUCED). -/

namespace Sys2Proof.Machine

/-- The bank as a reader of its shadow. -/
def bankReader (b : Nat) : Reader := ⟨7, b, false, 0, false, 0⟩

/-- The shadow record of a unit read; whether its line is readable (R339, R340). -/
def shadowRead (s : State) (u : Nat) : State × Nat × Bool :=
  let r := readRec s (bankReader (u / 2048)) (od s OD.SHADOW_BASE + 64 * u) 64
  (r.1, r.2.1, r.2.2.1 == 0)

/-- The on-die record of unit `u` of bank `b` that a shadow record gives (R339, R478). -/
def fromShadow (s : State) (u sh : Nat) : Nat :=
  let w := bankWidth s (u / 2048)
  setFs (unitBlank s u) [(LkUnit.KEY_WORD, getF sh LkUnit.KEY_WORD),
    (LkUnit.VALUE, if u % w = 0 then getF sh LkUnit.VALUE else 0), (LkUnit.VALID, getF sh LkUnit.VALID)]

/-- The valid entries of a bank counted anew, after a repair may have changed a VALID bit. -/
def recount (s : State) (b : Nat) : State :=
  odPut s OD.ENTRY_COUNTS b ((bankEntries s b).filter (fun u => getF (unitRec s u) LkUnit.VALID == 1)).length

/-- R339, R340: a unit whose key or value failed parity is rewritten from its shadow; where the shadow line is uncorrectable the
line is written whole from the on-die units, a shadow repair is counted, and the entry is removed from both copies. -/
def parityRepair (s : State) (u : Nat) : State :=
  let r := shadowRead s u
  if r.2.2 then recount (lkCount (unitWrite r.1 u (fromShadow r.1 u r.2.1)) 7) (u / 2048)
  else
    let s := lkCount (unitWrite r.1 u (unitRec r.1 u)) 8
    entryRemove s (u / bankWidth s (u / 2048) * bankWidth s (u / 2048))

/-- The units of bank `b` that fail parity repaired: a search of the bank has met them (R339). -/
def bankRepair (s : State) (b : Nat) : State :=
  ((s.lk.badUnits ++ s.lk.badValues).eraseDups.filter (fun u => u / 2048 == b)).foldl parityRepair s

/-- A search of bank `b` (R331, R339): units failing parity do not match, and are repaired. -/
def searchBank (s : State) (b key : Nat) : State × Option Nat :=
  let r := lkSearchBank s b key
  (bankRepair r.1 b, r.2)

/-- A device search of a kind (R476). -/
def search (s : State) (k key : Nat) : State × Option Nat :=
  match keyBank s k key with
  | none => (lkCount s 0, none)
  | some b => searchBank s b key

/-- The units of the bank a key belongs to repaired after an access to it (R339). -/
def keyRepair (s : State) (k key : Nat) : State :=
  match keyBank s k key with
  | none => s
  | some b => bankRepair s b

/-- A device insert (R335, R337, R476): status and entry. -/
def deviceInsert (s : State) (k key val : Nat) : State × Nat × Nat :=
  let x := lkInsert s k key val
  (keyRepair x.1 k key, x.2)

/-- A DEDUPE entry rewritten as ENDED or DEPARTED (R337), its bank's units repaired (R339). -/
def deviceRewrite (s : State) (rid cls form state row device epoch window : Nat) : State :=
  keyRepair (dedupeRewrite s rid cls form state row device epoch window) 1 (dedupeKey rid cls)

/-- The LOCKET step in flight on a bank. -/
abbrev lkUnit (b : Nat) : Nat := unitKey 7 b

/-- What a LOCKET step has done. -/
structure LkRun where
  s : State
  hits : Nat
  misses : Nat
  failed : Nat
  repairs : Nat
  mem : Bool

/-- A step that has done nothing. -/
def LkRun.start (s : State) : LkRun := ⟨s, 0, 0, 0, 0, false⟩

/-- R342: a LOCKET step completes. -/
def lkEnd (r : LkRun) (b : Nat) (f : Flight) (status : Nat) (how : StepEnd) : State :=
  let s := ringPush r.s OD.LOCKET_COMPLETION_RING (mkRec [(LkComp.FRAME, f.frame), (LkComp.STEP_SLOT, f.slot), (LkComp.BANK, b),
    (LkComp.STATUS, status), (LkComp.CARRIED, b2n f.carried), (LkComp.CLOCKS, compClocks r.s f), (LkComp.HITS, satBits 21 r.hits),
    (LkComp.MISSES, satBits 21 r.misses), (LkComp.FAILED, satBits 11 r.failed), (LkComp.REPAIRS, satBits 11 r.repairs)])
  finishStep s (lkUnit b) how

/-- A step refused by a check: it touches nothing and charges no core-clocks (R333); or one whose descriptor cannot be read (R475). -/
abbrev lkRefuse (s : State) (b : Nat) (f : Flight) (status : Nat) : State :=
  lkEnd (LkRun.start s) b f status (if status = 5 then .unread else .untouched)

/-- The status a step that has run ends with (R334, R342, R475). -/
def lkStatus (r : LkRun) : Nat := if r.mem then 5 else if 0 < r.failed then 8 else 0

/-- R16: is prefix lookup open in the role in force? -/
def prefixOpen (s : State) : Bool := role s == 1 || role s == 4

/-- The LOCKET step in flight on a bank with an opcode; its descriptor read, after check 2 and before check 3 of R333. -/
def lkOn (s : State) (b op : Nat) (run : State → Flight → Nat → State) : Res :=
  match flightOn s (lkUnit b) with
  | none => answer s s
  | some f =>
    if getF f.step StepRec.OPCODE ≠ op then answer s s
    else if (op = 5 ∨ (op = 2 ∧ bankKind s b = 2)) ∧ prefixOpen s = false then answer s (lkRefuse s b f 2)
    else
      let d := readRec s (stepReader f) (getF f.step StepRec.DESC_ADDR) 64
      if d.2.2.1 ≠ 0 then answer s (lkRefuse d.1 b f 5) else answer s (run d.1 f d.2.1)

/-- A key of bank `b`'s width taken from a record (R333). -/
def recKey (s : State) (b rec_ : Nat) : Nat := getF rec_ LkDesc.R_KEY % 2 ^ (64 * bankWidth s b)

/-- R334: is ENTRY a valid entry of bank `b`? -/
def entryOf (s : State) (b e : Nat) : Bool :=
  e / 2048 == b && e % bankWidth s b == 0 && getF (unitRec s e) LkUnit.VALID == 1

/-- What one record answers: ESTATUS, ENTRY and VALUE. -/
structure LkAns where
  s : State
  est : Nat
  entry : Nat
  value : Nat

/-- LOOKUP of one record (R333). -/
def lookupRec (s : State) (b r : Nat) : LkAns :=
  let x := searchBank s b (recKey s b r)
  match x.2 with
  | some u => ⟨x.1, 0, u, lkValue s u⟩
  | none => ⟨x.1, 1, getF r LkDesc.R_ENTRY, getF r LkDesc.R_VALUE⟩

/-- INSERT of one record (R335). -/
def insertRec (s : State) (b r : Nat) : LkAns :=
  let x := lkInsertBank s b (recKey s b r) (getF r LkDesc.R_VALUE)
  let t := bankRepair x.1 b
  if x.2.1 = 2 then ⟨t, 2, x.2.2, lkValue s x.2.2⟩
  else ⟨t, x.2.1, if x.2.1 = 0 then x.2.2 else getF r LkDesc.R_ENTRY, getF r LkDesc.R_VALUE⟩

/-- WRITE or REMOVE of one record: the entry named or matched, acted on by `act` (R334). -/
def changeRec (s : State) (b r : Nat) (act : State → Nat → State) : LkAns :=
  let v := getF r LkDesc.R_VALUE
  let e := getF r LkDesc.R_ENTRY
  if getF r LkDesc.R_BY_INDEX = 1 then
    if entryOf s b e then ⟨act s e, 0, e, v⟩ else ⟨s, 4, e, v⟩
  else
    let x := searchBank s b (recKey s b r)
    match x.2 with
    | some u => ⟨act x.1 u, 0, u, v⟩
    | none => ⟨x.1, 1, e, v⟩

/-- One record of a step of opcode `op` (1 to 4), R334. -/
def oneRec (s : State) (op b r : Nat) : LkAns :=
  if !(getF r LkDesc.R_BY_INDEX == 1 && decide (3 ≤ op)) && keyBank s (bankKind s b) (recKey s b r) != some b then
    ⟨s, 5, getF r LkDesc.R_ENTRY, getF r LkDesc.R_VALUE⟩
  else if op = 1 then lookupRec s b r
  else if op = 2 then insertRec s b r
  else if op = 3 then changeRec s b r (fun t u => entryRewrite t u (getF r LkDesc.R_VALUE))
  else changeRec s b r entryRemove

/-- The counts a record's outcome adds (R342): hits and EXISTS; searches that found nothing; FULL, WRONG_BANK and BAD_ENTRY. -/
def recCounts (op r est : Nat) : Nat × Nat × Nat :=
  (b2n (decide (est = 2 ∨ (est = 0 ∧ op ≠ 2 ∧ ¬ (3 ≤ op ∧ getF r LkDesc.R_BY_INDEX = 1)))),
   b2n (decide (est = 1 ∨ (op = 2 ∧ (est = 0 ∨ est = 3)))),
   b2n (decide (3 ≤ est)))

/-- R334: the records of a step of opcode 1 to 4 in order, each read, run and written back; a read error ends them (R475). -/
def recsRun : Nat → LkRun → Flight → Nat → Nat → Nat → LkRun
  | 0, r, _, _, _, _ => r
  | n + 1, r, f, op, b, a =>
    let d := readRec r.s (stepReader f) a 64
    if d.2.2.1 ≠ 0 then { r with s := d.1, mem := true }
    else
      let x := oneRec d.1 op b d.2.1
      let out := setFs d.2.1 [(LkDesc.R_ESTATUS, x.est), (LkDesc.R_ENTRY, x.entry), (LkDesc.R_VALUE, x.value)]
      let c := recCounts op d.2.1 x.est
      let s := (agentWrite x.s true (stepReader f) a (leBytes 64 out)).1
      recsRun n ⟨s, r.hits + c.1, r.misses + c.2.1, r.failed + c.2.2, r.repairs, false⟩ f op b (a + 64)

/-- The descriptor check and run of opcodes 1 to 4 (R333). -/
def recsStep (op b : Nat) (s : State) (f : Flight) (d : Nat) : State :=
  let n := getF d LkDesc.ENTRIES
  let a := getF d LkDesc.ENTRY_ADDR
  if bankKind s b = 0 ∨ n = 0 ∨ a % 64 ≠ 0 then lkRefuse s b f 7
  else
    let r := recsRun n (LkRun.start s) f op b a
    lkEnd r b f (lkStatus r) .done

/-- LOOKUP (R333). A LOCKET step with an opcode outside the table ends here with BAD_OP. -/
def execLookup (b : Nat) (s : State) : Res :=
  match flightOn s (lkUnit b) with
  | none => answer s s
  | some f =>
    let op := getF f.step StepRec.OPCODE
    if op = 0 ∨ 6 < op then answer s (lkRefuse s b f 4) else lkOn s b 1 (recsStep 1 b)

/-- INSERT (R333, R335). -/
def execInsert (b : Nat) (s : State) : Res := lkOn s b 2 (recsStep 2 b)

/-- WRITE (R333, R334). -/
def execLocketWrite (b : Nat) (s : State) : Res := lkOn s b 3 (recsStep 3 b)

/-- REMOVE (R333, R334). -/
def execRemove (b : Nat) (s : State) : Res := lkOn s b 4 (recsStep 4 b)

/-! PREFIX_WALK (R336). -/

/-- The two 64-bit words of a hash. -/
def hashWords (h : Nat) : List Nat := [h % 2 ^ 64, h / 2 ^ 64]

/-- H_−1: tenant, model slot, adapter enable, version and slot, model tag (R336). -/
def walkSeed (s : State) (tenant slot en ver aslot tag : Nat) : Nat :=
  let m := tenant + slot * 2 ^ 16 + en * 2 ^ 24 + (if en = 1 then ver else 0) * 2 ^ 32
    + (if en = 1 then aslot else 0) * 2 ^ 48 + tag * 2 ^ 64
  sipHash128 (odGet s OD.PREFIX_KEY 0) (odGet s OD.PREFIX_KEY 1) (hashWords m)

/-- H_i from H_(i−1) and the 64 bytes of 16 tokens (R336). -/
def walkHash (s : State) (h tokens : Nat) : Nat :=
  sipHash128 (odGet s OD.PREFIX_KEY 0) (odGet s OD.PREFIX_KEY 1)
    (hashWords h ++ (List.range 8).map (fun i => tokens / 2 ^ (64 * i) % 2 ^ 64))

/-- The hashes of `n` blocks from token bytes (R336). -/
def walkHashes (s : State) (h : Nat) : Nat → List Byte → List Nat
  | 0, _ => []
  | n + 1, bs =>
    let h' := walkHash s h (leNat (bs.take 64))
    h' :: walkHashes s h' n (bs.drop 64)

/-- R137: a retained registration that a walk hits is the one hit last. -/
def hitTouch (s : State) (u : Nat) : State :=
  if (kfind s.pool.retained u).isSome then
    { s with pool := { s.pool with retained := kput s.pool.retained u (frameNo s) } }
  else s

/-- The lookups of a walk in order until the first miss: state, PREFIX values of the hits, and whether a lookup missed. -/
def walkLookups (s : State) : List Nat → State × List Nat × Bool
  | [] => (s, [], false)
  | h :: t =>
    match keyBank s 2 h with
    | none => (s, [], false)
    | some b =>
      let x := searchBank s b h
      match x.2 with
      | none => (x.1, [], true)
      | some u =>
        let v := lkValue s u
        let r := walkLookups (hitTouch x.1 u) t
        (r.1, v :: r.2.1, r.2.2)

/-- The work of a PREFIX_WALK whose descriptor passed: header and records at OUT_ADDR. -/
def walkRun (s : State) (f : Flight) (d : Nat) : LkRun :=
  let n := getF d WalkDesc.BLOCKS
  let t := readMem s true (stepReader f) (getF d WalkDesc.TOKEN_ADDR) (64 * n)
  if t.2.2.1 ≠ 0 then { LkRun.start t.1 with mem := true }
  else
    let h0 := walkSeed t.1 (getF d WalkDesc.TENANT) (getF d WalkDesc.MODEL_SLOT) (getF d WalkDesc.ADAPTER_EN)
      (getF d WalkDesc.ADAPTER_VER) (getF d WalkDesc.ADAPTER_SLOT) (getF d WalkDesc.MODEL_TAG)
    let hs := walkHashes t.1 h0 n t.2.1
    let l := walkLookups t.1 hs
    let hits := l.2.1.length
    let head := leBytes 16 (mkRec [(fld 127 96, hits), (fld 95 64, n)])
    let recs := hs.zipIdx.flatMap (fun p => leBytes 32 (p.1 * 2 ^ 128 + l.2.1.getD p.2 0))
    let w := agentWrite l.1 true (stepReader f) (getF d WalkDesc.OUT_ADDR) (head ++ recs)
    ⟨w.1, hits, b2n l.2.2, 0, 0, w.2.1 != 0⟩

/-- PREFIX_WALK (R333, R336, R476). -/
def execPrefixWalk (b : Nat) (s : State) : Res :=
  lkOn s b 5 (fun s f d =>
    let inGroup := match kindGroup s 2 with
      | some g => decide (g.1 ≤ b ∧ b < g.1 + g.2.1)
      | none => true
    if bankKind s b = 0 ∨ getF d WalkDesc.BLOCKS = 0 ∨ getF d WalkDesc.TOKEN_ADDR % 4 ≠ 0 ∨ getF d WalkDesc.OUT_ADDR % 64 ≠ 0
        ∨ inGroup = false then lkRefuse s b f 7
    else
      let r := walkRun s f d
      lkEnd r b f (lkStatus r) .done)

/-! SCRUB (R339, R340). -/

/-- One unit of a bank compared with its shadow record; the entry that begins here is removed where it is an expired DEDUPE one. -/
def scrubUnit (r : LkRun) (b u : Nat) : LkRun :=
  let sh := shadowRead r.s u
  let s := sh.1
  let bad := s.lk.badUnits.contains u || s.lk.badValues.contains u
  let r := if sh.2.2 = false then
      if bad then { r with s := parityRepair s u } else { r with s := lkCount (unitWrite s u (unitRec s u)) 8 }
    else
      let want := fromShadow s u sh.2.1
      if bad || want != unitRec s u then
        { r with s := recount (lkCount (unitWrite s u want) 6) b, repairs := r.repairs + 1 }
      else { r with s := s }
  if bankKind r.s b = 1 ∧ u % bankWidth r.s b = 0 ∧ getF (unitRec r.s u) LkUnit.VALID = 1 ∧ dedupeLive r.s (lkValue r.s u) = false
    then { r with s := entryRemove r.s u } else r

/-- SCRUB (R333, R339): UNITS units from the bank's pointer, which advances past them. -/
def execLocketScrub (b : Nat) (s : State) : Res :=
  lkOn s b 6 (fun s f d =>
    let n := getF d LkScrubDesc.UNITS
    if bankKind s b = 0 ∨ n = 0 ∨ 2048 < n then lkRefuse s b f 7
    else
      let p := odGet s OD.SCRUB_POINTERS b
      let r := (List.range n).foldl (fun r i => scrubUnit r b (b * 2048 + (p + i) % 2048)) (LkRun.start s)
      lkEnd { r with s := odPut r.s OD.SCRUB_POINTERS b ((p + n) % 2048) } b f 0 .done)

/-- DIRECT_COMMAND (R334): a removal of the entry at `u` (the pool manager's), or with `value` the departure rewrite of it (the clasp
unit's). An index that names no valid entry changes nothing. -/
def execDirectCommand (u : Nat) (value : Option Nat) (s : State) : Res :=
  answer s (
    if u < 65536 ∧ entryOf s (u / 2048) u = true ∧ bankKind s (u / 2048) ≠ 0 then
      match value with
      | none => entryRemove s u
      | some v => entryRewrite s u v
    else s)

end Sys2Proof.Machine
end

