-- ==== Sys2Proof/Machine/Rows.lean ====
section
/-! DEFINITION. Chapter 07: the operations on rows, pins, tenant budgets and reservations, and the commit of prefill positions. Row
states are the codes of R147: 0 FREE, 1 ADMITTED, 2 PREFILL, 3 HANDING, 4 HELD, 5 DECODE, 6 PARKED, 7 SUSPENDED, 8 DONE, 9 FAILED.
Choices of the model here, by the assumption log: log 35, 37, 63 (DEDUCED). -/

namespace Sys2Proof.Machine

/-- R16: the functions of the role table: 0 admission, 1 prefix lookup, 2 prefill, 3 decode, 4 TSU selection, 5 clasp source, 6 clasp
destination, 7 bead copy, 8 erasure-coded groups, 9 probability tiles, 10 training jobs; by role (0 none). -/
def roleOpens (role fn : Nat) : Bool :=
  match fn with
  | 0 | 1 | 2 => role == 1 || role == 4
  | 3 => role == 2 || role == 4
  | 4 => role == 1 || role == 2 || role == 4
  | 5 => decide (1 ≤ role ∧ role ≤ 4)
  | 6 => decide (2 ≤ role ∧ role ≤ 4)
  | 7 => decide (1 ≤ role ∧ role ≤ 5)
  | 8 => role == 3
  | 9 | 10 => role == 5
  | _ => false

/-- R382: a switch whose overlay closes a function has been accepted: nothing more is admitted to it. -/
def fnClosing (s : State) (fn : Nat) : Bool := s.rows.closing != 0 && !roleOpens s.rows.closing fn

/-- Is a function open: in the role in force, and not closed by a switch that has passed its closing boundary (R382)? -/
def fnOpen (s : State) (fn : Nat) : Bool :=
  roleOpens (role s) fn && !(fnClosing s fn && decide (2 ≤ od s OD.SWITCH_STATE))

/-- R16, R17: does the planner plan work of a function: is it open, and no switch under way is to close it? -/
def fnPlans (s : State) (fn : Nat) : Bool := roleOpens (role s) fn && !fnClosing s fn

/-- R435: does the planner place steps of a function: is it planned, and not one that suspect mode stops: decode, coding, training? -/
def fnWorks (s : State) (fn : Nat) : Bool :=
  fnPlans s fn && !(s.ft.suspect && (fn == 3 || fn == 8 || fn == 9 || fn == 10))

/-- Does the clasp unit run: in RUN, and not on an expelled device (R438)? -/
def claspRuns (s : State) : Bool := inRun s && od s OD.EXPEL_STATE == 0 && s.ft.expelFrame.isNone

/-- Does a role serve a row's state (R17)? A row being handed over has not left yet. -/
def stateServed (newRole st : Nat) : Bool :=
  match st with
  | 1 | 2 => roleOpens newRole 2
  | 3 => false
  | 4 | 5 => roleOpens newRole 3
  | 6 => newRole == 3
  | _ => true

/-! Rows. -/

/-- A row's state. -/
abbrev rowState (s : State) (r : Nat) : Nat := rowGet s r Row.STATE

/-- Flag `b` of a row's FLAGS: 7 DEADLINE_EN, 6 END_SEEN, 5 CANCEL, 4 CLOSE, 3 FORK, 2 SUSPEND. -/
abbrev rowFlag (s : State) (r b : Nat) : Bool := bitOf (rowGet s r Row.FLAGS) b

/-- A flag of a row set or cleared. -/
def rowFlagSet (s : State) (r b : Nat) (v : Bool) : State := rowSet s r [(Row.FLAGS, setBit (rowGet s r Row.FLAGS) b v)]

/-- A row's state set, the counts of rows per state kept. -/
def rowMove (s : State) (r st : Nat) : State :=
  let old := rowState s r
  let e := OD.ROW_STATE_COUNTS
  let s := odPut s e old (odGet s e old - 1)
  let s := odPut s e st (odGet s e st + 1)
  rowSet s r [(Row.STATE, st)]

/-- R144: the lowest-numbered FREE row. -/
def freeRow (s : State) : Option Nat := (List.range 32768).find? (fun r => rowState s r == 0)

/-- A row taken: filled with a record, in a state. -/
def rowTake (s : State) (r rec_ st : Nat) : State :=
  let s := odPut s OD.SCOREBOARD_VIEW r (setF rec_ Row.STATE 0)
  let s := odInc (odAdd s OD.ROWS_IN_USE 0 1) OD.ROWS_TAKEN
  rowMove s r st

/-- The selection record of a row. -/
abbrev selRec (s : State) (r : Nat) : Nat := odGet s OD.SELECTION_VIEW r
/-- A native parameter of a row's selection record. -/
abbrev selNat (s : State) (r : Nat) (f : Fld) : Nat := getF (getF (selRec s r) SelRec.PARAMS) f

/-- Does a row use a grammar? -/
def rowGrammar (s : State) (r : Nat) : Option Nat :=
  if getF (selRec s r) SelRec.MODE = 0 ∧ selNat s r SelNat.GRAMMAR_EN = 1 then some (selNat s r SelNat.GRAMMAR_ID) else none

/-- Does any cache node pin anything for a row (R202: a CACHE node pins nothing)? -/
abbrev rowPins (s : State) : Bool := role s != 3

/-- R8, R145: a row image with its rsvd bits 0. -/
def rowClean (row : Nat) : Nat := setFs row [(fld 304 0, 0), (fld 310 309, 0)]

/-- R8: a selection record with its rsvd bits 0. -/
def selClean (sel : Nat) : Nat :=
  setFs sel ((fld 421 256, 0) :: (if getF sel SelRec.MODE = 0 then [(fld 68 0, 0)] else []))

/-! Pins (R159, R163, R177). -/

/-- The version record of a slot and version that is CURRENT or RETIRING. -/
def versionOf (s : State) (slot ver : Nat) : Option Nat :=
  (List.range 4096).find? (fun i => recF s OD.ADAPTER_VERSIONS i AdVer.SLOT == slot
    && recF s OD.ADAPTER_VERSIONS i AdVer.VERSION == ver
    && (recF s OD.ADAPTER_VERSIONS i AdVer.STATE == 2 || recF s OD.ADAPTER_VERSIONS i AdVer.STATE == 3))

/-- The CURRENT version record of a slot. -/
def versionCurrent (s : State) (slot : Nat) : Option Nat :=
  (List.range 4096).find? (fun i => recF s OD.ADAPTER_VERSIONS i AdVer.SLOT == slot && recF s OD.ADAPTER_VERSIONS i AdVer.STATE == 2)

/-- What a row names pinned: its model slot, adapter version and grammar. -/
def pinRow (s : State) (r : Nat) : State :=
  let m := rowGet s r Row.MODEL_SLOT
  let s := recSet s OD.MODEL_SLOTS m [(ModelSlot.PINS, recF s OD.MODEL_SLOTS m ModelSlot.PINS + 1)]
  let s := if rowGet s r Row.ADAPTER_EN = 1 then
      match versionOf s (rowGet s r Row.ADAPTER_SLOT) (rowGet s r Row.ADAPTER_VER) with
      | some i => recSet s OD.ADAPTER_VERSIONS i [(AdVer.PINS, recF s OD.ADAPTER_VERSIONS i AdVer.PINS + 1)]
      | none => s
    else s
  match rowGrammar s r with
  | some g => recSet s OD.GRAMMARS g [(Grammar.PINS, recF s OD.GRAMMARS g Grammar.PINS + 1)]
  | none => s

/-- R159: a DRAINING model slot that no row pins is noted with the frame. -/
def slotNote (s : State) (m : Nat) : State :=
  if recF s OD.MODEL_SLOTS m ModelSlot.STATE = 3 ∧ recF s OD.MODEL_SLOTS m ModelSlot.PINS = 0 then
    { s with rows := { s.rows with slotZero := kput s.rows.slotZero m (frameNo s) } }
  else s

/-- R163: a RETIRING version that no row pins takes the frame. -/
def versionNote (s : State) (i : Nat) : State :=
  if recF s OD.ADAPTER_VERSIONS i AdVer.STATE = 3 ∧ recF s OD.ADAPTER_VERSIONS i AdVer.PINS = 0 then
    recSet s OD.ADAPTER_VERSIONS i [(AdVer.FRAME_RETIRED, frameNo s)]
  else s

/-- What a row pins unpinned. -/
def unpinRow (s : State) (r : Nat) : State :=
  let m := rowGet s r Row.MODEL_SLOT
  let s := slotNote (recSet s OD.MODEL_SLOTS m [(ModelSlot.PINS, recF s OD.MODEL_SLOTS m ModelSlot.PINS - 1)]) m
  let s := if rowGet s r Row.ADAPTER_EN = 1 then
      match versionOf s (rowGet s r Row.ADAPTER_SLOT) (rowGet s r Row.ADAPTER_VER) with
      | some i => versionNote (recSet s OD.ADAPTER_VERSIONS i [(AdVer.PINS, recF s OD.ADAPTER_VERSIONS i AdVer.PINS - 1)]) i
      | none => s
    else s
  match rowGrammar s r with
  | some g => recSet s OD.GRAMMARS g [(Grammar.PINS, recF s OD.GRAMMARS g Grammar.PINS - 1)]
  | none => s

/-! Budgets (R154 to R156). -/

/-- A tenant's record. -/
abbrev tenF (s : State) (t : Nat) (f : Fld) : Nat := recF s OD.TENANTS t f

/-- A tenant's balance. -/
def balance (s : State) (t : Nat) : Int := kget s.rows.bal t 0
/-- A tenant's reservations. -/
def reservations (s : State) (t : Nat) : Nat := kget s.rows.resv t 0

/-- A tenant's balance and reservations set, and what it carries shown (R156). -/
def tenSet (s : State) (t : Nat) (b : Int) (n : Nat) : State :=
  let s := { s with rows := { s.rows with bal := kput s.rows.bal t b, resv := kput s.rows.resv t n } }
  odPut s OD.TENANT_LEDGER (4 * t + 2) (ofInt 64 (b + n))

/-- R154: units reserved for a row where the balance covers them. -/
def reserve (s : State) (r n : Nat) : Option State :=
  let t := rowGet s r Row.TENANT
  if (n : Int) ≤ balance s t then
    some (rowSet (tenSet s t (balance s t - n) (reservations s t + n)) r [(Row.RESERVED, rowGet s r Row.RESERVED + n)])
  else none

/-- R154: units released from a row's reservation, never more than it holds. -/
def release (s : State) (r n : Nat) : State :=
  let t := rowGet s r Row.TENANT
  let m := min n (rowGet s r Row.RESERVED)
  rowSet (tenSet s t (balance s t + m) (reservations s t - m)) r [(Row.RESERVED, rowGet s r Row.RESERVED - m)]

/-- R155: units spent by a row: from its reservation, the rest from the balance; `f` is the field that counts them. -/
def spend (s : State) (r n : Nat) (f : Fld) : State :=
  let t := rowGet s r Row.TENANT
  let m := min n (rowGet s r Row.RESERVED)
  let s := tenSet s t (balance s t - ((n - m : Nat) : Int)) (reservations s t - m)
  let s := odAdd s OD.TENANT_LEDGER (4 * t + 1) n
  rowSet s r [(Row.RESERVED, rowGet s r Row.RESERVED - m), (f, rowGet s r f + n)]

/-- A row's prefill part of its reservation. -/
def prefillPart (s : State) (r : Nat) : Nat := kget s.rows.prefill r 0

/-- R155: the prefill reservation spent whole. -/
def spendPrefill (s : State) (r : Nat) : State :=
  let n := prefillPart s r
  spend { s with rows := { s.rows with prefill := kdel s.rows.prefill r } } r n Row.PREFILL_SPENT

/-- Everything a row has reserved released. -/
def releaseAll (s : State) (r : Nat) : State :=
  release { s with rows := { s.rows with prefill := kdel s.rows.prefill r } } r (rowGet s r Row.RESERVED)

/-- R154: units for positions of a model slot's prompt: ⌈n · f / 256⌉. -/
def prefillUnits (s : State) (slot n : Nat) : Nat := cdiv (n * recF s OD.MODEL_SLOTS slot ModelSlot.PREFILL_FACTOR) 256

/-- BUDGET_REFILL (R154): every tenant's balance gains BUDGET_RATE; what lies above BUDGET_CAP is returned. -/
def budgetRefill (s : State) : State :=
  (List.range 4096).foldl (fun s t =>
    let rate := tenF s t Tenant.BUDGET_RATE
    let b := balance s t + rate
    let back := (b - (tenF s t Tenant.BUDGET_CAP : Int)).toNat
    if rate = 0 ∧ back = 0 then s
    else
      let s := odAdd (odAdd s OD.TENANT_LEDGER (4 * t) rate) OD.TENANT_LEDGER (4 * t + 3) back
      tenSet s t (b - back) (reservations s t)) s

/-! Steps of a row (R15). -/

/-- R15: is a step of a row in flight? -/
def rowInFlight (s : State) (r : Nat) : Bool := s.frm.flights.any (fun p => (stepRows s p.2.step).contains r)

/-- R15, R189: is a step of a row in flight or planned: in flight, waiting in the current table, or in the table being built? -/
def rowBusy (s : State) (r : Nat) : Bool :=
  rowInFlight s r
  || s.frm.curSteps.any (fun p => kget s.frm.slotState p.1 0 == 0 && slotRuns s p.1 && (stepRows s p.2).contains r)
  || s.frm.nextSteps.any (fun p => (stepRows s p.2).contains r)

/-! Commits of prefill positions (R140). -/

/-- Positions whose last-layer append has completed, noted for a row. -/
def appendNote (s : State) (r : Nat) (ps : List Nat) : State :=
  if ps = [] then s
  else { s with rows := { s.rows with appended := kput s.rows.appended r (kget s.rows.appended r [] ++ ps) } }

/-- How far beyond `n` the noted positions reach without a gap. -/
def reach (ps : List Nat) : Nat → Nat → Nat
  | 0, n => n
  | k + 1, n => if ps.contains n then reach ps k (n + 1) else n

/-- R140, R155: a PREFILL row's committed length follows the noted positions; with the last prompt position the prefill reservation is
spent. Nothing of a row in the containment set is committed: what it has written is dead (R217). -/
def prefillCommit (s : State) (r : Nat) : State :=
  if isContained s r (rowGet s r Row.MODEL_SLOT) then { s with rows := { s.rows with appended := kdel s.rows.appended r } }
  else if rowState s r = 2 then
    let ps := kget s.rows.appended r []
    let c := rowGet s r Row.COMMITTED_LEN
    let n := min (reach ps ps.length c) (rowGet s r Row.PROMPT_LEN)
    if n = c then s
    else
      let s := { s with rows := { s.rows with
        appended := kput s.rows.appended r (ps.filter (fun p => n ≤ p)) } }
      let s := rowSet s r [(Row.COMMITTED_LEN, n), (Row.PROV_LEN, n), (Row.LAST_COMMIT_FRAME, frameNo s)]
      if n = rowGet s r Row.PROMPT_LEN then spendPrefill s r else s
  else s

/-- The entries of an append whose layer is the last on the device have completed: row and positions [a, b) of stack `k`. -/
def appendDone (s : State) (k : Nat) (l : List (Nat × Nat × Nat)) : State :=
  l.foldl (fun t e => prefillCommit (appendNote t e.1
    ((span e.2.1 (e.2.2 - e.2.1)).filter (fun p => p / 16 % 8 == k))) e.1) s

/-! Locket entries of requests (R337). -/

/-- A request's entry: of class CONTROL, else of class ADMIT; the first hit decides. -/
def requestEntry (s : State) (rid : Nat) : State × Option Nat :=
  let c := search s 1 (dedupeKey rid 1)
  match c.2 with
  | some u => (c.1, some u)
  | none => search c.1 1 (dedupeKey rid 0)

/-- The row a request occupies here, by its entry (R152). -/
def requestRow (s : State) (rid : Nat) : State × Option Nat :=
  let x := requestEntry s rid
  match x.2 with
  | some u =>
    let v := lkValue x.1 u
    (x.1, if getF v DedupeVal.FORM = 1 then some (getF v DedupeVal.ROW) else none)
  | none => (x.1, none)

/-- The value of a live row's entry. -/
def rowValue (s : State) (r st : Nat) : Nat :=
  mkRec [(DedupeVal.FORM, 1), (DedupeVal.STATE, st), (DedupeVal.ROW, r), (DedupeVal.DEVICE, ownDevice s)]

/-- The entry of a row that ends here: class CONTROL removed, else rewritten as ENDED with the dedupe window. -/
def entryEnded (s : State) (r : Nat) : State :=
  let rid := rowGet s r Row.REQUEST_ID
  let c := search s 1 (dedupeKey rid 1)
  match c.2 with
  | some u => entryRemove c.1 u
  | none => deviceRewrite c.1 rid 0 2 (rowState s r) r (ownDevice s) 0 (tenF s (rowGet s r Row.TENANT) Tenant.DEDUPE_WINDOW)

/-- The entry of a row that leaves by clasp: rewritten as a departure record. -/
def entryDeparted (s : State) (r dev epoch : Nat) : State :=
  let rid := rowGet s r Row.REQUEST_ID
  let w := tenF s (rowGet s r Row.TENANT) Tenant.DEDUPE_WINDOW
  let c := search s 1 (dedupeKey rid 1)
  deviceRewrite c.1 rid (if c.2.isSome then 1 else 0) 3 0xF r dev epoch w

/-- A row returned to FREE: unpinned, its units released, everything held beside it dropped. -/
def rowFree (s : State) (r : Nat) : State :=
  let s := releaseAll s r
  let s := if rowPins s then unpinRow s r else s
  let s := rowMove s r 0
  let s := odPut (odPut s OD.SCOREBOARD_VIEW r 0) OD.SELECTION_VIEW r 0
  let s := odInc (odPut s OD.ROWS_IN_USE 0 (od s OD.ROWS_IN_USE - 1)) OD.ROWS_FREED
  { s with rows := { s.rows with prefill := kdel s.rows.prefill r, prompt := kdel s.rows.prompt r, appended := kdel s.rows.appended r,
                                 missed := s.rows.missed.filter (· != r), suspending := s.rows.suspending.filter (· != r), doomed := kdel s.rows.doomed r,
                                 settled := s.rows.settled.filter (· != r), tokens := kdel s.rows.tokens r,
                                 verified := s.rows.verified.filter (· != r), faulted := s.rows.faulted.filter (· != r),
                                 cows := s.rows.cows.filter (fun x => x.1 != r),
                                 due := s.rows.due.filter (fun d => d.1 != r), dueSealed := s.rows.dueSealed.filter (fun d => d.1 != r),
                                 returns := s.rows.returns.filter (fun x => x.1 != r) } }

/-- R24, R147: a row completes or fails: DONE (8) or FAILED (9) with a final status. -/
def rowEnd (s : State) (r st status : Nat) : State :=
  let s := { s with rows := { s.rows with doomed := kdel s.rows.doomed r } }
  rowMove (rowSet s r [(Row.FINAL_STATUS, status)]) r st

/-- An unrecoverable error on a request (R147): the planner fails the row in a build in which no step of it is in flight. -/
def rowFail (s : State) (r status : Nat) : State :=
  if rowState s r = 0 ∨ 8 ≤ rowState s r ∨ (kfind s.rows.doomed r).isSome then s
  else { s with rows := { s.rows with doomed := kput s.rows.doomed r status } }

/-- A change of state made in a build, which appears at the tick that starts its frame (R147); `status` is the final status with DONE and
FAILED. -/
def rowDue (s : State) (r st status : Nat) : State :=
  { s with rows := { s.rows with due := s.rows.due ++ [(r, st + 16 * status)] } }

/-- Is a change of a row's state due? -/
def hasDue (s : State) (r : Nat) : Bool := s.rows.due.any (fun d => d.1 == r) || s.rows.dueSealed.any (fun d => d.1 == r)

/-- The state a row will be in once what is due has appeared. -/
def rowNext (s : State) (r : Nat) : Nat :=
  match ((s.rows.dueSealed ++ s.rows.due).filter (fun d => d.1 == r)).getLast? with
  | some d => d.2 % 16
  | none => rowState s r

/-- The tokens of a row's positions grow, where the device has had them all. -/
def tokensAdd (s : State) (r : Nat) (l : List Nat) : State :=
  match kfind s.rows.tokens r with
  | some t => { s with rows := { s.rows with tokens := kput s.rows.tokens r (t ++ l) } }
  | none => s

/-- R146: the lengths of a row set by the planner; a TSU write of the same clk is applied after it, so that it leaves them. -/
def plannerLens (s : State) (r : Nat) (l : List (Fld × Nat)) : State :=
  if kfind s.rows.tsuAt r = some s.clk then s else rowSet s r l

end Sys2Proof.Machine
end

