-- ==== Sys2Proof/Machine/Shards.lean ====
section
/-! DEFINITION. Chapter 21: erasure-coded groups: the exchange that places a shard on a member, the member's side of it, the group table,
and lost shards. On a device whose clasp unit has stopped (R438) no message of the exchange has an effect. A shard's places: 0 not coded, 1 to be offered, 2 offered, 4 written and sealed, 5 held, 7 lost; its bead is `noBead`
once the owner holds it no more.
Choices of the model here, by the assumption log: log 58 (DEDUCED). -/

namespace Sys2Proof.Machine

/-! Composition maps (R185, R186). -/

/-- The epoch of a map. -/
def mapEpoch (s : State) (e : Nat) : Nat := odGet s e 7 / 2 ^ 48
/-- Its member count. -/
def mapCount (s : State) (e : Nat) : Nat := odGet s e 7 / 2 ^ 34 % 2 ^ 14
/-- Its member records. -/
def mapMembers (s : State) (e : Nat) : List Nat := (List.range (mapCount s e)).map (fun i => odGet s e (8 + i))
/-- Is there such a map? -/
def mapHeld (s : State) (e : Nat) : Bool := mapCount s e != 0

/-- R440: the member list: the CACHE members of the current map that have this device's CACHE_GROUP and a non-zero WEIGHT, in ascending
device number; empty where the map does not name this device. -/
def memberList (s : State) : List Nat :=
  match (mapMembers s OD.MAP_CURRENT).find? (fun m => getF m Member.DEVICE == ownDevice s) with
  | some me =>
    sortBy (fun a b => decide (a ≤ b)) (((mapMembers s OD.MAP_CURRENT).filter (fun m => getF m Member.POOL == 3 && getF m Member.WEIGHT != 0
      && getF m Member.CACHE_GROUP == getF me Member.CACHE_GROUP)).map (fun m => getF m Member.DEVICE))
  | none => []

/-- R440: the group width over a member list. -/
def groupWidth (s : State) (members : List Nat) : Nat := min (od s OD.GROUP_K) (members.length - 2)

/-- No bead. -/
abbrev noBead : Nat := 2 ^ 24

/-- SHARD_COUNTS element `i`: 0 groups coded, 1 shards placed, 2 shards held, 3 rebuilds, 4 groups lost, 5 uncoded parks. -/
abbrev shardCount (s : State) (i n : Nat) : State := odAdd s OD.SHARD_COUNTS i n

/-- The device offset and class of a bead. -/
def beadPlace (s : State) (b : Nat) : Nat × Nat :=
  match slotClass s (beadSlot b) with
  | some c => (beadAddr s c b, c)
  | none => (0, 0)

/-- The bead class of a row's strand. -/
def strandClass (s : State) (r : Nat) : Nat :=
  match kfind s.sh.coded r with
  | some c => c.cls
  | none => getF (strandHdr s r) StrandHdr.CLASS

/-- The entry of the data bead of ordinal `o` in a group table whose groups hold `k` data beads and two parity beads. -/
def tableEntry (s : State) (base k o : Nat) : Nat := memNat s (base + 16 * (o / k * (k + 2) + o % k)) 16

/-- The bytes of the group table of a strand of `n` beads in groups of `k`. -/
def tableBytes (n k : Nat) : Nat := 16 * (n + 2 * cdiv n k)

/-- The READY queue pair of PASS function that leads to a device (PASS_QPS). -/
def passQp (s : State) (dev : Nat) : Option Nat :=
  let q := odGet s OD.PASS_QPS dev
  if qpState s q = 2 ∧ qpF s q QpCtx.FUNCTION = 3 ∧ qpF s q QpCtx.PEER_DEVICE = dev then some q else none

/-- The geometry of a bead class as a shard message gives it. -/
def geometryOf (s : State) (cls : Nat) : Nat :=
  mkRec [(fld 15 8, classF s cls BeadClass.L_LOCAL), (fld 7 3, classF s cls BeadClass.HKV), (fld 2 1, classF s cls BeadClass.DHEAD),
    (fld 0 0, classF s cls BeadClass.KV_FMT)]

/-- A shard message (R441) posted on the PASS queue pair of a device; with `fence`, after the work before it. Where no such queue pair is
READY nothing is sent, and the answer says so. -/
def shardSend (s : State) (dev hdr : Nat) (fence : Bool) (who : Serve) : State × Bool :=
  match passQp s dev with
  | some q => (postWqe s q (setF (inlineSqe 64) Sqe.FENCE (b2n fence)) (getF hdr ShardMsg.TENANT) (some (leBytes 64 hdr)) who, true)
  | none => (s, false)

/-- The message of a kind about a shard of a row, from its owner. -/
def shardHdr (s : State) (x : Shard) (kind : Nat) : Nat :=
  mkRec [(ShardMsg.KIND, kind), (ShardMsg.REQUEST_ID, rowGet s x.row Row.REQUEST_ID), (ShardMsg.OWNER, ownDevice s),
    (ShardMsg.EPOCH, rowGet s x.row Row.OWNER_EPOCH), (ShardMsg.GROUP, x.group), (ShardMsg.SHARD, x.index),
    (ShardMsg.GEOMETRY, geometryOf s (strandClass s x.row)), (ShardMsg.TENANT, rowGet s x.row Row.TENANT)]

/-! The owner's side. -/

/-- The shards replaced by `f` of each. -/
def mapShards (s : State) (f : Shard → Shard) : State := { s with sh := { s.sh with shards := s.sh.shards.map f } }

/-- A shard of a row. -/
def shardOf (s : State) (row group index : Nat) : Option Shard :=
  s.sh.shards.find? (fun x => x.row == row && x.group == group && x.index == index)

/-- A shard's record replaced. -/
def shardPut (s : State) (y : Shard) : State :=
  mapShards s (fun x => if x.row = y.row ∧ x.group = y.group ∧ x.index = y.index then y else x)

/-- The data beads of group `g` of a strand of `n` beads in groups of `k`. -/
def groupData (n k g : Nat) : Nat := min k (n - k * g)

/-- The stack of a shard on its holder: at the owner the one its bead lies on, at a member (g + s) mod 8 (R440, R441). -/
def shardStack (g idx : Nat) : Nat := (g + idx) % 8

/-- R442: a member known to be lost. -/
def memberLost (s : State) (d : Nat) : Bool := d != ownDevice s && s.ft.expelled.any (fun p => p.1 == d)

/-- R441, R442: the member a shard goes to: its own, or after a refusal or loss the next in the member list that has not refused it; lost
members are passed over. -/
def shardMember (s : State) (c : Coded) (x : Shard) : Option Nat :=
  let n := c.members.length
  let p := c.members.findIdx (· == x.member)
  ((List.range n).map (fun i => c.members.getD ((p + i) % n) 0)).find? (fun d => !x.refused.contains d && !memberLost s d)

/-- A read key with ANY_PEER over a bead, for a row's tenant; none where the region table has no room. -/
def anyReadKey (s : State) (tenant base len : Nat) : Option (State × Nat) :=
  (mrFree s (od s OD.MR_TABLE_ENTRIES) 0).map (fun j =>
    mrRegister s j (mkRec [(Mr.RIGHTS, 8), (Mr.TENANT, tenant), (Mr.ANY_PEER, 1), (Mr.BASE, base), (Mr.LENGTH, len)]))

/-- Where a shard's entry stands in its group's table: the shards of earlier groups, then its own index. -/
def shardEntry (n k g idx : Nat) : Nat := min n (k * g) + 2 * g + idx

/-- R440, R442: a shard held again after its group table was formed: the table names it, and a bead the owner still holds for it is
dropped. -/
def shardTold (s : State) (x : Shard) : State :=
  match (kfind s.sh.coded x.row).bind (fun c => c.table.map (fun t => (t, c.k))) with
  | some c =>
    let e := mkRec [(PassEntry.DEVICE, x.member), (PassEntry.KEY, x.key), (PassEntry.OFFSET, x.offset)]
    let s := ctlPut s (c.1 + 16 * shardEntry (rowGet s x.row Row.BEAD_COUNT) c.2 x.group x.index) 16 e
    if x.member ≠ ownDevice s ∧ x.bead ≠ noBead then shardPut (beadUnref s x.bead) { x with bead := noBead } else s
  | none => s

/-- A shard that stays at the owner: its bead becomes a SHARD bead (R124, R440) under a read key. -/
def shardStays (s : State) (x : Shard) : State :=
  match anyReadKey s (rowGet s x.row Row.TENANT) (beadPlace s x.bead).1 (classBeadBytes s (strandClass s x.row)) with
  | none => s
  | some m =>
    let t := beadShard m.1 x.bead
    let y := { x with member := ownDevice s, place := 5, key := m.2, offset := (beadPlace s x.bead).1 }
    shardTold (shardPut t y) y

/-- R441: a shard that is to be offered is offered to its member, by a device that is not in suspect mode (R435). A device that is not
reached leaves it as it was. -/
def placeShard (s : State) (row group index : Nat) : State :=
  match shardOf s row group index, kfind s.sh.coded row with
  | some x, some c =>
    if x.place ≠ 1 ∨ s.ft.suspect = true ∨ roleOpens (role s) 8 = false then s
    else
      match shardMember s c x with
      | none => shardPut s { x with refused := [] }
      | some d =>
        if d = ownDevice s then shardStays s x
        else
          let t := shardSend s d (shardHdr s x 0x11) false (.shard (shardKey row group index))
          if t.2 then shardPut t.1 { x with member := d, place := 2 } else s
  | _, _ => s

/-- The shard a message of a member answers, in one of two places. -/
def answered (s : State) (dev h : Nat) (place : Nat) : Option Shard :=
  s.sh.shards.find? (fun x => rowGet s x.row Row.REQUEST_ID == getF h ShardMsg.REQUEST_ID && x.group == getF h ShardMsg.GROUP
    && x.index == getF h ShardMsg.SHARD && x.member == dev && x.place == place)

/-- SHARD_GRANT (R441): the owner writes the bead under the member's key and then sends SHARD_SEAL; a refusal makes it place the shard
on the next member. -/
def execShardGrant (dev msg : Nat) (s : State) : Res :=
  answer s (
    if claspRuns s = false then s
    else match answered s dev msg 2, passQp s dev with
    | some x, some q =>
      let k := shardKey x.row x.group x.index
      if getF msg ShardMsg.STATUS ≠ 0 then shardAgain s k
      else
        let sqe := mkRec [(Sqe.OP, 2), (Sqe.LENGTH, classBeadBytes s (strandClass s x.row)), (Sqe.LOCAL_ADDR, (beadPlace s x.bead).1),
          (Sqe.REMOTE_KEY, getF msg ShardMsg.KEY)]
        let s := postWqe s q sqe (rowGet s x.row Row.TENANT) none (.shard k)
        let s := (shardSend s dev (shardHdr s x 0x13) true (.shard k)).1
        shardPut s { x with place := 4, offset := getF msg ShardMsg.OFFSET }
    | _, _ => s)

/-- SHARD_HELD (R441): the shard is placed. -/
def execShardHeld (dev msg : Nat) (s : State) : Res :=
  answer s (
    if claspRuns s = false then s
    else match answered s dev msg 4 with
    | some x =>
      let y := { x with place := 5, key := getF msg ShardMsg.KEY, offset := getF msg ShardMsg.OFFSET }
      shardTold (shardPut (shardCount s 1 1) y) y
    | none => s)

/-- SHARD_FREED (R441): the member has dropped the shard. -/
def execShardFreed (dev msg : Nat) (s : State) : Res :=
  let k := (getF msg ShardMsg.REQUEST_ID, dev, getF msg ShardMsg.GROUP, getF msg ShardMsg.SHARD)
  answer s (if claspRuns s then { s with sh := { s.sh with freeing := s.sh.freeing.filter (· != k) } } else s)

/-- R441: SHARD_FREE sent for a shard that a member holds or is being given. -/
def shardFreeSend (s : State) (x : Shard) : State :=
  let s := { s with sh := { s.sh with freeing := s.sh.freeing ++ [(rowGet s x.row Row.REQUEST_ID, x.member, x.group, x.index)] } }
  (shardSend s x.member (shardHdr s x 0x15) false .host).1

/-- One shard of a coded row given up: SHARD_FREE to a member that has it, UNREF of a bead the owner holds for it that is not in the
strand any more (`tabled`) or never was (parity). -/
def shardGiveUp (s : State) (x : Shard) (k : Nat) (tabled : Bool) : State :=
  let s := if x.member ≠ ownDevice s ∧ (x.place = 2 ∨ x.place = 4 ∨ x.place = 5) then shardFreeSend s x
    else if x.member = ownDevice s ∧ x.place = 5 then mrDeregister s (x.key % 2 ^ 24) else s
  if x.bead ≠ noBead ∧ (tabled = true ∨ k ≤ x.index) then beadUnref s x.bead else s

/-- R25, R196, R441: the beads, strand and shards of a row given up. -/
def strandGiveUp (s : State) (r : Nat) : State :=
  match kfind s.sh.coded r with
  | none => strandRelease s r
  | some c =>
    let n := rowGet s r Row.BEAD_COUNT
    let s := (s.sh.shards.filter (fun x => x.row == r)).foldl (fun t x => shardGiveUp t x (groupData n c.k x.group) c.table.isSome) s
    let s := if c.table.isSome then rowSet s r [(Row.STRAND_ROOT, 0), (Row.BEAD_COUNT, 0)] else strandRelease s r
    { s with sh := { s.sh with shards := s.sh.shards.filter (fun x => x.row != r), coded := kdel s.sh.coded r } }

/-! The member's side. -/

/-- SHARD_DIRECTORY (layout of the model's own: request, owner, epoch, group, shard, bead and key). -/
def directoryShow (s : State) : State :=
  odPuts (odClear s OD.SHARD_DIRECTORY) OD.SHARD_DIRECTORY 0 (s.sh.held.map (fun h =>
    mkRec [(fld 511 448, h.rid), (fld 447 435, h.owner), (fld 434 403, h.epoch), (fld 402 383, h.group), (fld 382 379, h.index),
      (fld 378 355, h.bead), (fld 354 323, h.key)]))

/-- The answer to a shard message: its fields with another kind. -/
def shardAnswer (s : State) (dev msg kind : Nat) (l : List (Fld × Nat)) : State :=
  (shardSend s dev (setFs msg ((ShardMsg.KIND, kind) :: l)) false .host).1

/-- A shard held for an owner. -/
def heldOf (s : State) (dev msg : Nat) : Option HeldShard :=
  s.sh.held.find? (fun h => h.owner == dev && h.rid == getF msg ShardMsg.REQUEST_ID && h.group == getF msg ShardMsg.GROUP
    && h.index == getF msg ShardMsg.SHARD)

/-- A held shard dropped: its key deregistered, its bead given up by UNREF. -/
def heldDrop (s : State) (h : HeldShard) : State :=
  let s := beadUnref (mrDeregister s (h.key % 2 ^ 24)) h.bead
  directoryShow { s with sh := { s.sh with held := s.sh.held.filter (· != h) } }

/-- The valid bead class of a shard message's geometry, the lowest (R441). -/
def shardClass (s : State) (msg : Nat) : Option Nat :=
  (List.range 8).find? (fun c => classF s c BeadClass.VALID == 1 && geometryOf s c == getF msg ShardMsg.GEOMETRY)

/-- A grant: the bead taken, a write key registered for the owner, SHARD_GRANT answered; none where the region table has no room. -/
def shardTake (s : State) (dev msg cls : Nat) : Option State :=
  let g := getF msg ShardMsg.GROUP
  let idx := getF msg ShardMsg.SHARD
  (mrFree s (od s OD.MR_TABLE_ENTRIES) 0).map (fun j =>
    let s := beadAlloc s cls (shardStack g idx) 1 (groupWidth s (memberList s) * g) 0x7FFF (getF msg ShardMsg.TENANT)
    let b := s.pool.answerBeads.headD 0
    let a := beadAddr s cls b
    let m := mrRegister s j (mkRec [(Mr.RIGHTS, 4), (Mr.TENANT, getF msg ShardMsg.TENANT), (Mr.PEER_DEVICE, dev), (Mr.BASE, a),
      (Mr.LENGTH, classBeadBytes s cls)])
    let h : HeldShard := { rid := getF msg ShardMsg.REQUEST_ID, owner := dev, epoch := getF msg ShardMsg.EPOCH, group := g, index := idx,
                           bead := b, key := m.2, isSealed := false }
    let s := directoryShow { m.1 with sh := { m.1.sh with held := m.1.sh.held ++ [h] } }
    shardAnswer s dev msg 0x12 [(ShardMsg.STATUS, 0), (ShardMsg.KEY, m.2), (ShardMsg.OFFSET, a)])

/-- SHARD_OFFER (R441, R435). -/
def execShardOffer (dev msg : Nat) (s : State) : Res :=
  let refuse := fun n => shardAnswer s dev msg 0x12 [(ShardMsg.STATUS, n)]
  answer s (
    if claspRuns s = false then s
    else if roleOpens (role s) 8 = false then refuse 4
    else if s.ft.suspect = true then refuse 3
    else
      match shardClass s msg with
      | none => refuse 2
      | some cls =>
        if (kget s.pool.ready (listKey cls (shardStack (getF msg ShardMsg.GROUP) (getF msg ShardMsg.SHARD))) []).isEmpty then refuse 1
        else (shardTake s dev msg cls).getD (refuse 1))

/-- SHARD_SEAL (R441): the write key is deregistered, the bead becomes a SHARD bead under a read key for any peer, SHARD_HELD answered. -/
def execShardSeal (dev msg : Nat) (s : State) : Res :=
  answer s (
    if claspRuns s = false then s
    else match heldOf s dev msg with
    | none => s
    | some h =>
      if h.isSealed then s
      else
        let a := beadPlace s h.bead
        let s := beadShard (mrDeregister s (h.key % 2 ^ 24)) h.bead
        match anyReadKey s (getF msg ShardMsg.TENANT) a.1 (classBeadBytes s a.2) with
        | none => s
        | some m =>
          let held := m.1.sh.held.map (fun x => if x = h then { h with key := m.2, isSealed := true } else x)
          let s := directoryShow (shardCount { m.1 with sh := { m.1.sh with held := held } } 2 1)
          shardAnswer s dev msg 0x14 [(ShardMsg.KEY, m.2), (ShardMsg.OFFSET, a.1)])

/-- SHARD_FREE (R441): the shard is dropped, SHARD_FREED answered. -/
def execShardFree (dev msg : Nat) (s : State) : Res :=
  answer s (
    if claspRuns s = false then s
    else
      let s := match heldOf s dev msg with
        | some h => heldDrop s h
        | none => s
      shardAnswer s dev msg 0x16 [])

/-! Loss (R442, R443). -/

/-- R442: a group that has lost three shards is lost, and its row fails with MEM_ERROR. -/
def groupCheck (s : State) (row group : Nat) : State :=
  let lost := (s.sh.shards.filter (fun x => x.row == row && x.group == group && x.place == 7)).length
  if 3 ≤ lost then rowFail (if (kfind s.rows.doomed row).isSome then s else shardCount s 4 1) row 5 else s

/-- R442: a shard lost: of a group whose table is formed it is to be rebuilt; before that the owner still holds it, and offers it again. -/
def shardLose (s : State) (x : Shard) : State :=
  let tabled : Bool := match kfind s.sh.coded x.row with | some c => c.table.isSome | none => false
  let y := { x with refused := x.refused ++ [x.member] }
  if x.bead ≠ noBead ∧ x.member ≠ ownDevice s then shardPut s { y with place := 1 }
  else if tabled = true ∧ x.place = 5 then groupCheck (shardPut s { y with place := 7 }) x.row x.group
  else s

/-- R442, R443: a device is lost: shards placed on it are lost, shards held for it dropped, and no answer of it is awaited. -/
def shardPeerLost (s : State) (dev : Nat) : State :=
  let mine := s.sh.shards.filter (fun x => x.member == dev && dev != ownDevice s && (x.place == 2 || x.place == 4 || x.place == 5))
  let s := mine.foldl shardLose s
  let s := (s.sh.held.filter (fun h => h.owner == dev)).foldl heldDrop s
  { s with sh := { s.sh with freeing := s.sh.freeing.filter (fun x => x.2.1 != dev) } }

end Sys2Proof.Machine
end

