-- ==== Sys2Proof/Machine/Clasp.lean ====
section
/-! DEFINITION. Chapter 09: composition maps, offers, acceptance, the pass, commit, release, queries and peer loss. Clasp record states:
0 FREE, 1 OFFERED, 2 ACCEPTED, 3 PULLING, 4 COMMITTED. A message's effect that the rules give to the planner is taken as the message is
handled. Which free record a clasp takes is the lowest.
Choices of the model here, by the assumption log: log 17, 39 (DEDUCED). -/

namespace Sys2Proof.Machine

/-- CLASP_COUNTS element `i` (R203): 0 offers sent, 1 received, 2 accepts sent, 3 received, 4 refusals sent, 5 received, 6 commits,
7 releases, 8 abandonments sent, 9 received, 10 queries, 11 peer-loss resolutions at a source, 12 at a destination, 13 offers open,
14 pulls open. -/
abbrev claspCount (s : State) (i : Nat) : State := odAdd s OD.CLASP_COUNTS i 1
/-- One less. -/
abbrev claspLess (s : State) (i : Nat) : State := odPut s OD.CLASP_COUNTS i (odGet s OD.CLASP_COUNTS i - 1)


/-! Composition maps (R185, R186). -/

/-- R9: comparison of 16-bit map epochs: is `a` later than `b`? -/
def epochLater16 (a b : Nat) : Bool :=
  let d := (a + 2 ^ 16 - b % 2 ^ 16) % 2 ^ 16
  decide (0 < d ∧ d < 2 ^ 15)

/-- The drain counter of PREVIOUS: open records routed under it (R185). -/
def mapDrain (s : State) : Nat :=
  if mapHeld s OD.MAP_PREVIOUS then
    (s.rows.clasp.filter (fun p => recF s OD.CLASP_RECORDS p.1 ClaspRec.MAP_EPOCH == mapEpoch s OD.MAP_PREVIOUS)).length
  else 0

/-- MAP_DRAIN and MAP_STATE brought up to date. -/
def mapShow (s : State) : State :=
  odSet (odSet s OD.MAP_DRAIN (mapDrain s)) OD.MAP_STATE
    (if mapHeld s OD.MAP_NEXT then 2 else if mapHeld s OD.MAP_PREVIOUS then 1 else 0)

/-- One map's words copied over another's. -/
def mapCopy (s : State) (src dst : Nat) : State :=
  let n := 8 + mapCount s src
  odPuts (odClear s dst) dst 0 ((List.range n).map (odGet s src))

/-- MAP_INSTALL (R185): at a boundary where PREVIOUS has drained, PENDING becomes CURRENT and CURRENT becomes PREVIOUS. -/
def mapInstall (s : State) : State :=
  if mapHeld s OD.MAP_NEXT ∧ mapDrain s = 0 then
    let s := if mapHeld s OD.MAP_CURRENT then mapCopy s OD.MAP_CURRENT OD.MAP_PREVIOUS else s
    mapShow (odClear (mapCopy s OD.MAP_NEXT OD.MAP_CURRENT) OD.MAP_NEXT)
  else mapShow s

/-! Records. -/

/-- Fields of a clasp record set. -/
def crSet (s : State) (c : Nat) (l : List (Fld × Nat)) : State := recSet s OD.CLASP_RECORDS c l

/-- What is held beside a record. -/
def claspAux (s : State) (c : Nat) : ClaspAux := (kfind s.rows.clasp c).getD ⟨0, false, 0, 0, [], 0, 0, 0, 0, 0, 0, 0, [], 0, 0, 0x7FFF, 0, false⟩
/-- Replaced. -/
def setAux (s : State) (c : Nat) (a : ClaspAux) : State := { s with rows := { s.rows with clasp := kput s.rows.clasp c a } }

/-- A free clasp record. -/
def freeRecord (s : State) : Option Nat := (List.range 2048).find? (fun c => crF s c ClaspRec.STATE == 0)

/-- A record opened. -/
def recordOpen (s : State) (c rec_ : Nat) (a : ClaspAux) : State :=
  let s := odPut s OD.CLASP_RECORDS c rec_
  let s := { s with rows := { s.rows with queryEnded := s.rows.queryEnded.filter (· != c) } }
  mapShow (setAux s c a)

/-- A record freed, its open count lowered. -/
def recordFree (s : State) (c : Nat) : State :=
  let st := crF s c ClaspRec.STATE
  let s := if st = 1 ∨ st = 2 then claspLess s 13 else if st = 3 then claspLess s 14 else s
  mapShow { odPut s OD.CLASP_RECORDS c 0 with rows := { s.rows with clasp := kdel s.rows.clasp c } }

/-- The open record of a request with a peer on a side. -/
def recordOf (s : State) (side rid peer : Nat) : Option Nat :=
  (s.rows.clasp.find? (fun p => p.2.rid == rid && crF s p.1 ClaspRec.SIDE == side && crF s p.1 ClaspRec.PEER == peer)).map Prod.fst

/-! Messages (R190). -/

/-- A clasp datagram sent. -/
def claspSend (s : State) (dest hdr : Nat) (data : List Byte) : State :=
  send s { vc := 1, kind := 4, dest := dest, hdr := hdr, hlen := 64, data := data, stream := 0, tenant := 0 }

/-- The header every message shares. -/
def claspHdr (s : State) (kind reason mapEp epoch rid dest row toRow purpose side : Nat) : Nat :=
  mkRec [(ClaspMsg.KIND, kind), (ClaspMsg.REASON, reason), (ClaspMsg.MAP_EPOCH, mapEp), (ClaspMsg.EPOCH, epoch),
    (ClaspMsg.REQUEST_ID, rid), (ClaspMsg.FROM_DEVICE, ownDevice s), (ClaspMsg.TO_DEVICE, dest), (ClaspMsg.FROM_ROW, row),
    (ClaspMsg.TO_ROW, toRow), (ClaspMsg.PURPOSE, purpose), (ClaspMsg.FROM_SIDE, side)]

/-- A message about an open record: kind, reason, epoch. -/
def recordMsg (s : State) (c kind reason epoch : Nat) : Nat :=
  claspHdr s kind reason (crF s c ClaspRec.MAP_EPOCH) epoch (claspAux s c).rid (crF s c ClaspRec.PEER) (crF s c ClaspRec.ROW)
    (claspAux s c).peerRow (crF s c ClaspRec.PURPOSE) (crF s c ClaspRec.SIDE)

/-- The answer to a message that meets no record: kind, reason, epoch. -/
def replyMsg (s : State) (h kind reason epoch : Nat) : Nat :=
  claspHdr s kind reason (getF h ClaspMsg.MAP_EPOCH) epoch (getF h ClaspMsg.REQUEST_ID) (getF h ClaspMsg.FROM_DEVICE) 0x7FFF
    (getF h ClaspMsg.FROM_ROW) (getF h ClaspMsg.PURPOSE) (1 - getF h ClaspMsg.FROM_SIDE)

/-- R199: a message that matches nothing. -/
def staleMessage (s : State) : State := odInc s OD.STALE_MESSAGES

/-- R147: an owner whose row holds FLAGS.SUSPEND moves it to SUSPENDED and clears the flag. -/
def ownerFlags (s : State) (r : Nat) : State :=
  if rowFlag s r 2 then
    let st := rowState s r
    let s := rowFlagSet s r 2 false
    if st = 7 then s else rowMove (rowSet s r [(Row.PRIOR_STATE, st)]) r 7
  else s

/-- R147: a clasp resolves to its source: the row returns to its state before the offer. -/
def rowReturn (s : State) (r prior : Nat) : State := ownerFlags (rowMove s r prior) r

/-! Choosing a destination (R188). -/

/-- The pools of a purpose: 0 HANDOFF, 1 PARK, 2 UNPARK, 3 DRAIN of a row that is parked or whose prompt is incomplete. -/
def poolsOf (purpose : Nat) (parked incomplete : Bool) : List Nat :=
  if purpose = 1 then [3]
  else if purpose = 3 then (if parked then [3] else if incomplete then [4] else [2, 4])
  else [2, 4]

/-- R188: the destination of the highest score, the lower device among equals. -/
def pickDest (s : State) (rid : Nat) (pools : List Nat) : Option Nat :=
  let ep := mapEpoch s OD.MAP_CURRENT
  let hold := od s OD.CLASP_REFUSE_HOLD
  let ok := (mapMembers s OD.MAP_CURRENT).filter (fun m =>
    let d := getF m Member.DEVICE
    pools.contains (getF m Member.POOL) && d != ownDevice s && getF m Member.WEIGHT != 0
    && !s.ft.expelled.any (fun x => x.1 == d)
    && !s.rows.refusedBy.any (fun x => x.1 == rid && x.2.1 == d && decide (frameDiff x.2.2 (frameNo s) ≤ hold)))
  let scored := ok.map (fun m => (getF m Member.WEIGHT * philox rid (getF m Member.DEVICE) ep 0 2, getF m Member.DEVICE))
  (scored.foldl (fun (best : Option (Nat × Nat)) x =>
    match best with
    | none => some x
    | some b => if b.1 < x.1 ∨ (b.1 = x.1 ∧ x.2 < b.2) then some x else some b) none).map Prod.snd

/-! Keys (R190, R196). -/

/-- A read key registered over a range for a peer, in the lowest free record at or after `i`: its key, its record. -/
def keyOver (s : State) (i tenant peer base len : Nat) : Option (State × Nat × Nat) :=
  (mrFree s (od s OD.MR_TABLE_ENTRIES - i) i).map (fun j =>
    let x := mrRegister s j (mkRec [(Mr.RIGHTS, 8), (Mr.TENANT, tenant), (Mr.PEER_DEVICE, peer), (Mr.BASE, base), (Mr.LENGTH, len)])
    (x.1, x.2, j))

/-- Read keys over several ranges: keys and records, none where the table has no room. -/
def keysOver (s : State) (tenant peer : Nat) : List (Nat × Nat) → Nat → Option (State × List Nat × List Nat)
  | [], _ => some (s, [], [])
  | (b, n) :: t, i =>
    match keyOver s i tenant peer b n with
    | none => none
    | some (s1, k, j) =>
      match keysOver s1 tenant peer t (j + 1) with
      | none => none
      | some (s2, ks, js) => some (s2, k :: ks, j :: js)

/-- Every key of a record deregistered. -/
def keysDrop (s : State) (c : Nat) : State := (claspAux s c).keys.foldl mrDeregister s

/-! The offer (R189, R190). -/

/-- R189, R202: may a row be offered? A coded one only while every data shard is held. -/
def offerable (s : State) (r : Nat) : Bool :=
  let st := rowState s r
  let c := rowGet s r Row.COMMITTED_LEN
  [1, 2, 4, 5, 6, 7].contains st && !rowBusy s r && rowGet s r Row.PROV_LEN == c && rowGet s r Row.BEAD_COUNT == cdiv c 16
  && !s.rows.clasp.any (fun p => crF s p.1 ClaspRec.ROW == r && crF s p.1 ClaspRec.SIDE == 1)
  && (freeRecord s).isSome && roleOpens (role s) 5 && od s OD.POWER_STATE == 0 && claspRuns s
  && (match kfind s.sh.coded r with
      | some c => c.k == 0 || (c.table.isSome && s.sh.shards.all (fun x => x.row != r
          || decide (groupData (rowGet s r Row.BEAD_COUNT) c.k x.group ≤ x.index) || x.place == 5))
      | none => true)

/-- R190: is [a, a + n) free pass-list area? -/
def areaFree (s : State) (a n : Nat) : Bool :=
  let base := odGet s OD.PASS_LIST_AREA 0
  decide (base ≤ a) && decide (a + n ≤ base + odGet s OD.PASS_LIST_AREA 1)
  && s.rows.clasp.all (fun p => !meets a n p.2.area p.2.size)
  && s.sh.coded.all (fun p => match p.2.table with
      | some t => !meets a n t (tableBytes (rowGet s p.1 Row.BEAD_COUNT) p.2.k)
      | none => true)

/-- The OFFER of a record, as it is sent and sent again (R190, R197). -/
def offerMsg (s : State) (c : Nat) : State :=
  let a := claspAux s c
  let r := crF s c ClaspRec.ROW
  let cls := strandClass s r
  let tag := if role s = 3 then 0 else recF s OD.MODEL_SLOTS (rowGet s r Row.MODEL_SLOT) ModelSlot.MODEL_TAG
  let h := setFs (recordMsg s c 1 0 (crF s c ClaspRec.EPOCH)) [(ClaspMsg.BEAD_COUNT, a.beads), (ClaspMsg.LIST_KEY, a.listKey),
    (ClaspMsg.LIST_ADDR, a.listAddr), (ClaspMsg.TOKENS, a.tokens), (ClaspMsg.L_LOCAL, classF s cls BeadClass.L_LOCAL),
    (ClaspMsg.HKV, classF s cls BeadClass.HKV), (ClaspMsg.DHEAD, classF s cls BeadClass.DHEAD),
    (ClaspMsg.KV_FMT, classF s cls BeadClass.KV_FMT), (ClaspMsg.MODEL_TAG, tag)]
  claspSend s (crF s c ClaspRec.PEER) h (rowImage s r)

/-- A message of an open record sent: SENDS and LAST_SEND_FRAME follow. -/
def noteSend (s : State) (c n : Nat) : State := crSet s c [(ClaspRec.SENDS, n), (ClaspRec.LAST_SEND_FRAME, frameNo s)]

/-- R189: a row's reservation before an offer: released, or for a DRAIN of a row whose prompt is incomplete its prefill part spent. -/
def offerBudget (s : State) (r purpose : Nat) : State :=
  let s := if purpose = 3 ∧ rowGet s r Row.COMMITTED_LEN < rowGet s r Row.PROMPT_LEN then spendPrefill s r else s
  releaseAll s r

/-- OFFER_SEND (R188 to R190): a row offered for a purpose, its pass area at `area`. Where no candidate remains CLASP_NO_DEST counts;
where R189 or the room of the pass-list area or region table does not permit it, nothing is offered. -/
def offerRow (s : State) (r purpose area : Nat) : State :=
  if offerable s r = false then s
  else
    let rid := rowGet s r Row.REQUEST_ID
    let parked := decide (rowState s r = 6 ∨ (rowState s r = 7 ∧ rowGet s r Row.PRIOR_STATE = 6))
    let held := kget s.rows.prompt r []
    let prompt := held.drop (held.length - (rowGet s r Row.PROMPT_LEN - rowGet s r Row.COMMITTED_LEN))
    match pickDest s rid (poolsOf purpose parked (prompt != [])) with
    | none => odInc s OD.CLASP_NO_DEST
    | some dest =>
      let n := rowGet s r Row.BEAD_COUNT
      let size := 192 + 16 * n + 4 * prompt.length
      let ten := rowGet s r Row.TENANT
      let coded := (kfind s.sh.coded r).bind (fun c => c.table.map (fun t => (t, c.k)))
      let beads : List (Nat × Nat) := if coded.isSome then [] else (strandBeads s r).map (fun b =>
        let p := beadPlace s b
        (p.1, classBeadBytes s p.2))
      if areaFree s area size = false then s
      else
        match keysOver s ten dest ((area, size) :: beads) 0, freeRecord s with
        | some (t, keys, recs), some c =>
          let prior := rowState s r
          let s := offerBudget t r purpose
          let s := if prior = 7 then rowFlagSet s r 2 true else s
          let s := rowSet s r [(Row.PEER_DEVICE, dest), (Row.MAP_EPOCH, mapEpoch s OD.MAP_CURRENT)]
          let entries := match coded with
            | some x => (List.range n).map (tableEntry s x.1 x.2)
            | none => ((keys.drop 1).zip beads).map (fun (p : Nat × Nat × Nat) =>
                mkRec [(PassEntry.DEVICE, ownDevice s), (PassEntry.KEY, p.1), (PassEntry.OFFSET, p.2.1)])
          let s := rowMove s r 3
          let s := (writeMem s false ownReader area (rowImage s r ++ entries.flatMap (leBytes 16) ++ prompt.flatMap (leBytes 4))).1
          let e := rowGet s r Row.OWNER_EPOCH
          let s := recordOpen s c (mkRec [(ClaspRec.SIDE, 0), (ClaspRec.STATE, 1), (ClaspRec.PURPOSE, purpose), (ClaspRec.EPOCH, e),
              (ClaspRec.MAP_EPOCH, mapEpoch s OD.MAP_CURRENT), (ClaspRec.PEER, dest), (ClaspRec.ROW, r), (ClaspRec.PRIOR_STATE, prior)])
            { opened := frameNo s, stuck := false, area := area, size := size, keys := recs, rid := rid, listKey := keys.headD 0,
              listAddr := area, tokens := prompt.length, beads := n, firstFrame := 0, pullFrames := 0, landed := [],
              lastLand := frameNo s, flagsAt := rowGet s r Row.FLAGS, peerRow := 0x7FFF, next := 0, queried := false }
          noteSend (offerMsg (claspCount (claspCount s 0) 13) c) c 1
        | _, _ => s

/-! Acceptance (R191, R192). -/

/-- R402: is a tenant's key slot valid on this device? -/
def tenantKeyValid (s : State) (t : Nat) : Bool := (sendSlot s t).isSome

/-- R191, test 7: the bead class for an offer's geometry. -/
def offerClass (s : State) (h slot : Nat) : Option Nat :=
  let fits := fun c => classF s c BeadClass.VALID == 1 && classF s c BeadClass.L_LOCAL == getF h ClaspMsg.L_LOCAL
    && classF s c BeadClass.HKV == getF h ClaspMsg.HKV && classF s c BeadClass.DHEAD == getF h ClaspMsg.DHEAD
    && classF s c BeadClass.KV_FMT == getF h ClaspMsg.KV_FMT
  if role s = 3 then (List.range 8).find? fits
  else
    let c := recF s OD.MODEL_SLOTS slot ModelSlot.BEAD_CLASS
    if fits c then some c else none

/-- R132: the smallest segment capacity, as a power of two, for a strand of `n` beads. -/
def segLog2 (n : Nat) : Nat := ((List.range 18).find? (fun k => decide (2 ≤ k ∧ segCount n 0 ≤ 2 ^ k))).getD 17

/-- The state a commit of a purpose writes (R195, R202). -/
def commitTo (s : State) (purpose : Nat) : Nat := if purpose = 1 ∨ role s = 3 then 6 else 4

/-- R16, R17, R191, test 2: does the overlay open clasp destination, with prefill for a DRAIN whose prompt is incomplete, and no switch under
way close it or lead to a role that would not serve the row? -/
def offerOpen (s : State) (h : Nat) : Bool :=
  fnPlans s 6 && !(getF h ClaspMsg.PURPOSE == 3 && getF h ClaspMsg.TOKENS != 0 && !fnPlans s 2)
  && (s.rows.closing == 0 || stateServed s.rows.closing (commitTo s (getF h ClaspMsg.PURPOSE)))

/-- R191: the tests in order: the first reason that refuses, or the class, record and row that accept. An empty place says that no header
or no segments can be had (R474). -/
def offerTests (s : State) (h row sel : Nat) (place : List Nat) : Nat × Nat × Nat × Nat :=
  let ep := getF h ClaspMsg.MAP_EPOCH
  let ten := getF row Row.TENANT
  let slot := getF row Row.MODEL_SLOT
  let tag := getF h ClaspMsg.MODEL_TAG
  let cache := role s == 3
  let known := (mapHeld s OD.MAP_CURRENT && ep == mapEpoch s OD.MAP_CURRENT)
    || (mapHeld s OD.MAP_PREVIOUS && ep == mapEpoch s OD.MAP_PREVIOUS)
  let nat_ := getF sel SelRec.PARAMS
  let gram := getF nat_ SelNat.GRAMMAR_ID
  let grammarMissing := getF sel SelRec.MODE == 0 && getF nat_ SelNat.GRAMMAR_EN == 1 && (recF s OD.GRAMMARS gram Grammar.STATE != 2
    || recF s OD.GRAMMARS gram Grammar.TAG != Config.grammarTag (getF h ClaspMsg.FROM_DEVICE) gram)
  let refuse := fun n => (n, 0, 0, 0)
  if !known then refuse 8
  else if s.ft.suspect then refuse 0xB
  else if !offerOpen s h then refuse 1
  else if !tenantKeyValid s ten then refuse 9
  else if !cache && (recF s OD.MODEL_SLOTS slot ModelSlot.STATE != 2
      || (tag != 0 && recF s OD.MODEL_SLOTS slot ModelSlot.MODEL_TAG != tag)) then refuse 4
  else if !cache && getF row Row.ADAPTER_EN == 1 && (versionOf s (getF row Row.ADAPTER_SLOT) (getF row Row.ADAPTER_VER)).isNone
    then refuse 5
  else if !cache && grammarMissing then refuse 6
  else
    match offerClass s h slot with
    | none => refuse 7
    | some cls =>
      match freeRecord s, freeRow s with
      | none, _ => refuse 0xA
      | _, none => refuse 2
      | some c, some r =>
        let n := getF h ClaspMsg.BEAD_COUNT
        let short := (List.range 8).any (fun k => decide ((kget s.pool.ready (listKey cls k) []).length < segCount n k))
        if short || place == [] then refuse 3 else (0, cls, c, r)

/-- R191: a refusal. -/
def offerRefuse (s : State) (h reason : Nat) : State :=
  let ep := if reason = 8 then mapEpoch s OD.MAP_CURRENT else getF h ClaspMsg.MAP_EPOCH
  let m := setF (replyMsg s h 3 reason (getF h ClaspMsg.EPOCH)) ClaspMsg.MAP_EPOCH ep
  let s := claspCount (odAdd s OD.REFUSALS_BY_REASON reason 1) 4
  let s := if reason = 3 then odInc s OD.BEAD_DEFERRALS else s
  claspSend s (getF h ClaspMsg.FROM_DEVICE) m []

/-- The ACCEPT of a record (R192). -/
def acceptMsg (s : State) (c : Nat) : State :=
  let a := claspAux s c
  claspSend s (crF s c ClaspRec.PEER) (setFs (recordMsg s c 2 0 (crF s c ClaspRec.EPOCH))
    [(ClaspMsg.BEAD_COUNT, a.beads), (ClaspMsg.FIRST_FRAME, a.firstFrame), (ClaspMsg.PULL_FRAMES, a.pullFrames)]) []

/-- R192: FIRST_FRAME: the next frame, or the one after where VC0_GRANT_PM has passed. -/
def firstFrame (s : State) : Nat :=
  if frameClk s * 1000 < od s OD.VC0_GRANT_PM * od s OD.FRAME_PERIOD_CLK then (frameNo s + 1) % 2 ^ 32 else (frameNo s + 2) % 2 ^ 32

/-- R193: PULL_FRAMES for a number of bytes at a granted rate of `rate` bytes per second, with the codec ratio of a link; at most what its
field holds. -/
def pullFrames (s : State) (bytes rate link : Nat) : Nat :=
  match ofF32 (odGet s OD.CODEC_RATIO link) with
  | .fin false m e =>
    let up := bytes * 10 ^ 10 * (if e < 0 then 2 ^ e.natAbs else 1)
    let down := m * (if e < 0 then 1 else 2 ^ e.natAbs) * rate * getF s.frm.curHdr TableHdr.PERIOD_CLK * 8
    if down = 0 then 2 ^ 24 - 1 else min (cdiv up down) (2 ^ 24 - 1)
  | _ => 2 ^ 24 - 1

/-- R192: the bytes of a pull. -/
def pullBytes (s : State) (h cls : Nat) : Nat :=
  192 + 16 * getF h ClaspMsg.BEAD_COUNT + 4 * getF h ClaspMsg.TOKENS + getF h ClaspMsg.BEAD_COUNT * classBeadBytes s cls

/-- R192: acceptance: row, strand, pins and record taken, ACCEPT sent. -/
def offerAccept (s : State) (h row sel cls c r : Nat) (place : List Nat) (land pull : Nat) : State :=
  let n := getF h ClaspMsg.BEAD_COUNT
  let tokens := getF h ClaspMsg.TOKENS
  let s := odPut s OD.SELECTION_VIEW r (selClean sel)
  let s := rowTake s r (setFs (rowClean row) [(Row.PEER_DEVICE, getF h ClaspMsg.FROM_DEVICE), (Row.MAP_EPOCH, getF h ClaspMsg.MAP_EPOCH),
    (Row.STRAND_ROOT, 0), (Row.BEAD_COUNT, 0), (Row.RESERVED, 0)]) 3
  let s := if role s = 3 then s else pinRow s r
  let s := strandForm s r cls (segLog2 n) place
  let s := (strandReserve s r cls n (getF row Row.TENANT)).getD s
  let s := recordOpen s c (mkRec [(ClaspRec.SIDE, 1), (ClaspRec.STATE, 3), (ClaspRec.PURPOSE, getF h ClaspMsg.PURPOSE),
      (ClaspRec.EPOCH, getF h ClaspMsg.EPOCH), (ClaspRec.MAP_EPOCH, getF h ClaspMsg.MAP_EPOCH),
      (ClaspRec.PEER, getF h ClaspMsg.FROM_DEVICE), (ClaspRec.ROW, r), (ClaspRec.BYTES_EXPECTED, pullBytes s h cls)])
    { opened := frameNo s, stuck := false, area := land, size := 192 + 16 * n + 4 * tokens, keys := [],
      rid := getF h ClaspMsg.REQUEST_ID, listKey := getF h ClaspMsg.LIST_KEY, listAddr := getF h ClaspMsg.LIST_ADDR, tokens := tokens,
      beads := n, firstFrame := firstFrame s, pullFrames := pull, landed := [], lastLand := frameNo s, flagsAt := 0,
      peerRow := getF h ClaspMsg.FROM_ROW, next := 0, queried := false }
  noteSend (acceptMsg (claspCount (claspCount s 2) 14) c) c 1

/-- R190: a clasp message enters the inbox. -/
def toInbox (s : State) (m : Msg) : State := ringPush (takeRx s m) OD.CLASP_INBOX m.hdr

/-- OFFER (R191, R192): `place` names the header and segments of the strand, `land` where the list, tokens and image land, `pull` the
rate granted to the source and the link whose codec ratio the plan takes. Places that are not free are no decision: the message is
then as if lost. An OFFER of a PULLING record is answered with the same ACCEPT; one of a COMMITTED record is not answered. -/
def execOffer (m : Msg) (place : List Nat) (land : Nat) (pull : Nat × Nat) (s : State) : Res :=
  answer s (
    if claspRuns s then
      let s := toInbox s m
      let h := m.hdr
      match recordOf s 1 (getF h ClaspMsg.REQUEST_ID) (getF h ClaspMsg.FROM_DEVICE) with
      | some c => if crF s c ClaspRec.STATE = 3 ∧ crF s c ClaspRec.EPOCH = getF h ClaspMsg.EPOCH then acceptMsg s c else s
      | none =>
        let row := leNat (m.data.take 128)
        let sel := leNat ((m.data.drop 128).take 64)
        let t := offerTests s h row sel place
        if t.1 ≠ 0 then offerRefuse (claspCount s 1) h t.1
        else if areaFree s land (192 + 16 * getF h ClaspMsg.BEAD_COUNT + 4 * getF h ClaspMsg.TOKENS) = false
            ∨ placeOk s (2 ^ segLog2 (getF h ClaspMsg.BEAD_COUNT)) place = false then s
        else offerAccept (claspCount s 1) h row sel t.2.1 t.2.2.1 t.2.2.2 place land (pullFrames s (pullBytes s h t.2.1) pull.1 pull.2)
    else takeRx s m)

/-- The departure record a request has left, if its entry is one. -/
def departed (s : State) (rid : Nat) : State × Bool :=
  let x := requestEntry s rid
  (x.1, match x.2 with | some u => getF (lkValue x.1 u) DedupeVal.FORM == 3 | none => false)

/-- R199: a message that matches no open record: counted, unless the request has left a departure record. -/
def noRecord (s : State) (rid : Nat) : State :=
  let d := departed s rid
  if d.2 then d.1 else staleMessage d.1

/-- The source record a message of a destination answers: its epoch must be `e`. -/
def sourceRec (s : State) (h e : Nat) : Option Nat :=
  (recordOf s 0 (getF h ClaspMsg.REQUEST_ID) (getF h ClaspMsg.FROM_DEVICE)).filter (fun c => crF s c ClaspRec.EPOCH == e)
/-- The destination record a message of a source answers. -/
def destRec (s : State) (h e : Nat) : Option Nat :=
  (recordOf s 1 (getF h ClaspMsg.REQUEST_ID) (getF h ClaspMsg.FROM_DEVICE)).filter (fun c => crF s c ClaspRec.EPOCH == e)

/-- ACCEPT (R197). -/
def execAccept (m : Msg) (s : State) : Res :=
  answer s (
    if claspRuns s then
      let s := toInbox s m
      match sourceRec s m.hdr (getF m.hdr ClaspMsg.EPOCH) with
      | none => noRecord s (getF m.hdr ClaspMsg.REQUEST_ID)
      | some c =>
        if crF s c ClaspRec.STATE = 1 then
          let f := getF m.hdr ClaspMsg.FIRST_FRAME
          let p := getF m.hdr ClaspMsg.PULL_FRAMES
          let s := setAux s c { claspAux s c with firstFrame := f, pullFrames := p, peerRow := getF m.hdr ClaspMsg.FROM_ROW }
          claspCount (crSet s c [(ClaspRec.STATE, 2), (ClaspRec.LIMIT_FRAME, f + 2 * p + od s OD.CLASP_TAKE_SLACK)]) 3
        else s
    else takeRx s m)

/-- R201: a source record resolved here: keys deregistered, the row back in its prior state. -/
def sourceBack (s : State) (c : Nat) : State :=
  let r := crF s c ClaspRec.ROW
  let p := crF s c ClaspRec.PRIOR_STATE
  rowReturn (recordFree (keysDrop s c) c) r p

/-- R197: a source record refused or abandoned: it is free; the planner deregisters the keys and takes the row back in its next build. -/
def sourceEnd (s : State) (c : Nat) : State :=
  let x := (crF s c ClaspRec.ROW, crF s c ClaspRec.PRIOR_STATE, (claspAux s c).keys)
  recordFree { s with rows := { s.rows with returns := s.rows.returns ++ [x] } } c

/-- R197: the planner's part of refusals and abandonments, first in a build (R147): keys deregistered; the row's return appears with what
else the build changes. -/
def claspBuild (s : State) : State :=
  s.rows.returns.foldl (fun t x => rowDue (x.2.2.foldl mrDeregister t) x.1 x.2.1 255) { s with rows := { s.rows with returns := [] } }

/-- REFUSE (R197). -/
def execRefuse (m : Msg) (s : State) : Res :=
  answer s (
    if claspRuns s then
      let s := toInbox s m
      match sourceRec s m.hdr (getF m.hdr ClaspMsg.EPOCH) with
      | none => noRecord s (getF m.hdr ClaspMsg.REQUEST_ID)
      | some c =>
        if crF s c ClaspRec.STATE = 1 then
          let s := claspCount s 5
          let s := { s with rows := { s.rows with
            refusedBy := s.rows.refusedBy ++ [(getF m.hdr ClaspMsg.REQUEST_ID, getF m.hdr ClaspMsg.FROM_DEVICE, frameNo s)] } }
          sourceEnd s c
        else s
    else takeRx s m)

/-- ABANDONED (R197). -/
def execAbandoned (m : Msg) (s : State) : Res :=
  answer s (
    if claspRuns s then
      let s := toInbox s m
      match sourceRec s m.hdr (getF m.hdr ClaspMsg.EPOCH) with
      | none => noRecord s (getF m.hdr ClaspMsg.REQUEST_ID)
      | some c => sourceEnd (claspCount s 9) c
    else takeRx s m)

/-! Release (R196). -/

/-- FLAGS[7:2] set since the destination's last read of the image (R196). -/
def flagsSince (s : State) (c r : Nat) : Nat :=
  let a := (claspAux s c).flagsAt
  ((List.range 6).map (fun i => if rowFlag s r (i + 2) && !bitOf a (i + 2) then 2 ^ i else 0)).sum

/-- The open records of a row as a destination freed: what they were for is over (R184). -/
def destForget (s : State) (r : Nat) : State :=
  ((s.rows.clasp.map Prod.fst).filter (fun c => crF s c ClaspRec.ROW == r && crF s c ClaspRec.SIDE == 1)).foldl recordFree s

/-- CLASP_RELEASE (R196): a row released to a device that has committed an epoch. -/
def claspRelease (s : State) (r : Nat) (c : Option Nat) (dest epoch : Nat) (h : Nat) : State :=
  let s := destForget s r
  let flags := match c with | some c => flagsSince s c r | none => 0
  let s := match c with | some c => keysDrop s c | none => s
  let s := strandGiveUp s r
  let s := entryDeparted s r dest epoch
  let s := claspSend s dest (setF (setF (replyMsg s h 5 0 epoch) ClaspMsg.FROM_ROW r) ClaspMsg.FLAGS flags) []
  let s := rowFree s r
  match c with
  | some c => claspCount (recordFree s c) 7
  | none => s

/-- R9: epoch `a` is later than epoch `b`. -/
abbrev epochLater (a b : Nat) : Bool := frameLater a b

/-- A committed epoch learnt from a TAKE or QUERY (R184, R196 to R199): the row's release; RELEASED again from a departure record; else
`other`. -/
def learnEpoch (s : State) (m : Msg) (other : State → State) : State :=
  let h := m.hdr
  let e := getF h ClaspMsg.EPOCH
  let rid := getF h ClaspMsg.REQUEST_ID
  let dev := getF h ClaspMsg.FROM_DEVICE
  match sourceRec s h ((e + 2 ^ 32 - 1) % 2 ^ 32) with
  | some c => claspRelease s (crF s c ClaspRec.ROW) (some c) dev e h
  | none =>
    let x := requestRow s rid
    match x.2 with
    | some r =>
      if epochLater e (rowGet x.1 r Row.OWNER_EPOCH) then
        let c := (x.1.rows.clasp.find? (fun p => crF x.1 p.1 ClaspRec.ROW == r && crF x.1 p.1 ClaspRec.SIDE == 0)).map Prod.fst
        claspRelease x.1 r c dev e h
      else other x.1
    | none =>
      let d := departed x.1 rid
      if d.2 then claspSend d.1 dev (replyMsg d.1 h 5 0 e) [] else other d.1

/-- TAKE (R196, R199). -/
def execTake (m : Msg) (s : State) : Res :=
  answer s (if claspRuns s then learnEpoch (toInbox s m) m staleMessage else takeRx s m)

/-- RELEASED (R196). -/
def execReleased (m : Msg) (s : State) : Res :=
  answer s (
    if claspRuns s then
      let s := toInbox s m
      match destRec s m.hdr ((getF m.hdr ClaspMsg.EPOCH + 2 ^ 32 - 1) % 2 ^ 32) with
      | none => noRecord s (getF m.hdr ClaspMsg.REQUEST_ID)
      | some c =>
        let r := crF s c ClaspRec.ROW
        if crF s c ClaspRec.STATE ≠ 4 then s
        else
          let s := recordFree s c
          if (rowState s r = 0) = true then s
          else ownerFlags (rowSet s r [(Row.FLAGS, rowGet s r Row.FLAGS ||| 4 * getF m.hdr ClaspMsg.FLAGS)]) r
    else takeRx s m)

/-- ABANDON (R200): a pull given up with a reason. -/
def claspAbandon (s : State) (c reason : Nat) : State :=
  let r := crF s c ClaspRec.ROW
  let s := claspSend s (crF s c ClaspRec.PEER) (recordMsg s c 7 reason (crF s c ClaspRec.EPOCH)) []
  let s := recordFree (claspCount s 8) c
  rowFree (strandRelease s r) r

/-- The TAKE of a record (R195, R197). -/
def takeMsg (s : State) (c : Nat) : State :=
  claspSend s (crF s c ClaspRec.PEER) (recordMsg s c 4 0 (crF s c ClaspRec.EPOCH + 1)) []

/-- QUERY (R198). -/
def execQuery (m : Msg) (s : State) : Res :=
  answer s (
    if claspRuns s then
      let s := toInbox s m
      let h := m.hdr
      let dev := getF h ClaspMsg.FROM_DEVICE
      if getF h ClaspMsg.FROM_SIDE = 0 then
        match destRec s h (getF h ClaspMsg.EPOCH) with
        | some c =>
          if crF s c ClaspRec.STATE = 4 then takeMsg s c
          else
            let s := claspAbandon s c 0x20
            { s with rows := { s.rows with queryEnded := s.rows.queryEnded ++ [c] } }
        | none =>
          let x := requestRow s (getF h ClaspMsg.REQUEST_ID)
          let t := match x.2 with
            | some r =>
              if epochLater (getF h ClaspMsg.EPOCH) (rowGet x.1 r Row.OWNER_EPOCH) then
                let c := (x.1.rows.clasp.find? (fun p => crF x.1 p.1 ClaspRec.ROW == r && crF x.1 p.1 ClaspRec.SIDE == 0)).map Prod.fst
                claspRelease x.1 r c dev (getF h ClaspMsg.EPOCH) h
              else x.1
            | none => x.1
          claspSend t dev (replyMsg t h 7 0x24 (getF h ClaspMsg.EPOCH)) []
      else
        learnEpoch s m (fun t =>
          if (requestRow t (getF h ClaspMsg.REQUEST_ID)).2.isSome then t
          else claspSend t dev (replyMsg t h 5 0x24 (getF h ClaspMsg.EPOCH)) [])
    else takeRx s m)

/-- The frames since a record's last send. -/
def sinceSend (s : State) (c : Nat) : Nat := frameDiff (crF s c ClaspRec.LAST_SEND_FRAME) (frameNo s)

/-- Does a record of a state await an answer that a re-send may bring: OFFERED or COMMITTED? -/
def resends (s : State) (c : Nat) : Bool := crF s c ClaspRec.STATE == 1 || crF s c ClaspRec.STATE == 4

/-- CLASP_RESEND (R197). -/
def execClaspResend (c : Nat) (s : State) : Res :=
  answer s (
    let n := crF s c ClaspRec.SENDS
    if c < 2048 ∧ claspRuns s = true ∧ resends s c = true ∧ n < od s OD.CLASP_RESEND_MAX ∧ od s OD.CLASP_RESEND_FRAMES ≤ sinceSend s c
    then noteSend (if crF s c ClaspRec.STATE = 1 then offerMsg s c else takeMsg s c) c (n + 1)
    else s)

/-- R197: is a record at the point of querying? -/
def queries (s : State) (c : Nat) : Bool :=
  ((resends s c || crF s c ClaspRec.STATE == 2) && decide (od s OD.CLASP_RESEND_MAX ≤ crF s c ClaspRec.SENDS))
  || (crF s c ClaspRec.STATE == 2 && epochLater (frameNo s) (crF s c ClaspRec.LIMIT_FRAME))

/-- CLASP_QUERY_TIMER (R197). -/
def execClaspQueryTimer (c : Nat) (s : State) : Res :=
  answer s (
    if c < 2048 ∧ claspRuns s = true ∧ queries s c = true ∧ od s OD.CLASP_QUERY_FRAMES ≤ sinceSend s c then
      let e := crF s c ClaspRec.EPOCH + crF s c ClaspRec.SIDE
      let s := claspSend s (crF s c ClaspRec.PEER) (recordMsg s c 6 0 e) []
      let s := crSet s c [(ClaspRec.LAST_SEND_FRAME, frameNo s)]
      if (claspAux s c).queried then s else claspCount (setAux s c { claspAux s c with queried := true }) 10
    else s)

/-- CLASP_STUCK (R197). -/
def execClaspStuck (c : Nat) (s : State) : Res :=
  answer s (
    let a := claspAux s c
    if c < 2048 ∧ claspRuns s = true ∧ crF s c ClaspRec.STATE ≠ 0 ∧ a.stuck = false
        ∧ od s OD.CLASP_STUCK_FRAMES < frameDiff a.opened (frameNo s) then
      let w := odGet s OD.CLASP_RECORDS c
      let s := telemetry s 4 ((List.range 4).map (fun i => w / 2 ^ (64 * i) % 2 ^ 64))
      odInc (setAux s c { a with stuck := true }) OD.CLASP_STUCK
    else s)

/-- CLASP_NO_DATA (R197). -/
def execClaspNoData (c : Nat) (s : State) : Res :=
  answer s (if c < 2048 ∧ claspRuns s = true ∧ crF s c ClaspRec.STATE = 3
      ∧ od s OD.CLASP_NO_DATA_FRAMES ≤ frameDiff (claspAux s c).lastLand (frameNo s)
    then claspAbandon s c 0x23 else s)

/-! The pass (R193, R194). -/

/-- One read of a pull that has ended: its bytes have landed, each piece counted once; an error abandons the pull (R194), KEY_REVOKED (13)
with that reason. -/
def pullTake (s : State) (x : Nat × Nat × Nat × Nat) : State :=
  let c := x.1
  if crF s c ClaspRec.STATE ≠ 3 then s
  else if x.2.2.1 ≠ 0 then claspAbandon s c (if x.2.2.1 = 13 then 0x22 else 0x21)
  else
    let a := claspAux s c
    if a.landed.contains x.2.1 then s
    else
      let s := crSet s c [(ClaspRec.BYTES_LANDED, crF s c ClaspRec.BYTES_LANDED + x.2.2.2)]
      setAux s c { a with landed := a.landed ++ [x.2.1], lastLand := frameNo s }

/-- The reads of pulls that have ended are taken. -/
def claspPulls (s : State) : State :=
  let l := s.net.pulls
  if claspRuns s then l.foldl pullTake { s with net := { s.net with pulls := [] } } else s

/-- R196: the source notes its FLAGS as the destination reads the row image. -/
def imageRead (s : State) (m : Msg) : State :=
  let k := getF m.hdr Pkt.KEY
  match s.rows.clasp.find? (fun p => p.2.listKey == k && crF s p.1 ClaspRec.SIDE == 0 && p.2.keys != []) with
  | some p =>
    if getF m.hdr Pkt.REMOTE_OFFSET < 192 then setAux s p.1 { p.2 with flagsAt := rowGet s (crF s p.1 ClaspRec.ROW) Row.FLAGS } else s
  | none => s

/-! Commit (R195). -/

/-- A request entered as a row entry of class CONTROL; an entry it left here before becomes the row's again (R337). -/
def controlInsert (s : State) (r : Nat) : State :=
  let rid := rowGet s r Row.REQUEST_ID
  let x := deviceInsert s 1 (dedupeKey rid 1) (rowValue s r (rowState s r))
  if x.2.1 = 2 then entryRewrite x.1 x.2.2 (rowValue x.1 r (rowState x.1 r)) else x.1

/-- R195, R201: the row written from the final image with an epoch, in a state; the prompt tokens that landed are its own. -/
def commitRow (s : State) (c st epoch : Nat) : State :=
  let a := claspAux s c
  let r := crF s c ClaspRec.ROW
  let img := rowClean (memNat s a.area 128)
  let sel := selClean (memNat s (a.area + 128) 64)
  let root := rowGet s r Row.STRAND_ROOT
  let n := rowGet s r Row.BEAD_COUNT
  let toks := (List.range a.tokens).map (fun i => memNat s (a.area + 192 + 16 * a.beads + 4 * i) 4)
  let s := ctlTouch s a.area (192 + 16 * a.beads + 4 * a.tokens)
  let s := odPut s OD.SELECTION_VIEW r sel
  let s := odPut s OD.SCOREBOARD_VIEW r (setFs img [(Row.STATE, 3), (Row.PEER_DEVICE, crF s c ClaspRec.PEER),
    (Row.MAP_EPOCH, crF s c ClaspRec.MAP_EPOCH), (Row.STRAND_ROOT, root), (Row.BEAD_COUNT, n), (Row.RESERVED, 0), (Row.FINAL_STATUS, 0)])
  let s := { s with rows := { s.rows with prompt := if toks = [] then s.rows.prompt else kput s.rows.prompt r toks } }
  let s := rowMove s r st
  let s := rowSet s r [(Row.OWNER_EPOCH, epoch)]
  ownerFlags (controlInsert s r) r

/-- The state a commit of a record writes. -/
def commitState (s : State) (c : Nat) : Nat := commitTo s (crF s c ClaspRec.PURPOSE)

/-- R195: one entry: its ESTATUS. -/
def commitEntry (s : State) (c : Nat) : State × Nat :=
  if crF s c ClaspRec.STATE = 0 ∧ s.rows.queryEnded.contains c then (s, 3)
  else if crF s c ClaspRec.SIDE ≠ 1 ∨ crF s c ClaspRec.STATE ≠ 3 then (s, 1)
  else if crF s c ClaspRec.BYTES_LANDED ≠ crF s c ClaspRec.BYTES_EXPECTED then (s, 2)
  else
    let s := commitRow s c (commitState s c) (crF s c ClaspRec.EPOCH + 1)
    let s := claspCount (claspLess s 14) 6
    let s := crSet s c [(ClaspRec.STATE, 4)]
    (noteSend (takeMsg s c) c 1, 0)

/-- The CLASP unit. -/
abbrev claspUnit : Nat := unitKey 8 0

/-- R195: a CLASP step completes: status, indexes of entries skipped, commits. -/
def claspEnd (s : State) (f : Flight) (status : Nat) (skipped : List Nat) (commits : Nat) (how : StepEnd) : State :=
  let s := ringPush s OD.CLASP_COMPLETION_RING (mkRec [(ClaspComp.FRAME, f.frame), (ClaspComp.STEP_SLOT, f.slot),
    (ClaspComp.STATUS, status), (ClaspComp.CARRIED, b2n f.carried), (ClaspComp.CLOCKS, compClocks s f),
    (ClaspComp.ENTRIES_SKIPPED, skipped.length), (ClaspComp.FIRST_SKIPPED, skipped.headD 0x7FF), (ClaspComp.COMMITS, commits)])
  finishStep s claspUnit how

/-- R195: the entries in order; a read error ends them (R475). Answers state, skipped, commits, whether a read failed. -/
def commitRun (s : State) (f : Flight) (a : Nat) : Nat → Nat → State × List Nat × Nat × Bool
  | 0, _ => (s, [], 0, false)
  | n + 1, i =>
    let e := readRec s (stepReader f) (a + 8 * i) 8
    if e.2.2.1 ≠ 0 then (e.1, [], 0, true)
    else
      let x := commitEntry e.1 (getF e.2.1 CommitDesc.E_RECORD)
      let t := (agentWrite x.1 true (stepReader f) (a + 8 * i) (leBytes 8 (setF e.2.1 CommitDesc.E_ESTATUS x.2))).1
      let r := commitRun t f a n (i + 1)
      (r.1, if x.2 = 0 then r.2.1 else i :: r.2.1, if x.2 = 0 then r.2.2.1 + 1 else r.2.2.1, r.2.2.2)

/-- COMMIT (R195). A CLASP step with another opcode completes with BAD_OP. -/
def execCommit (s : State) : Res :=
  match flightOn s claspUnit with
  | none => answer s s
  | some f =>
    if getF f.step StepRec.OPCODE ≠ 1 then answer s (claspEnd s f 4 [] 0 .untouched)
    else if !roleOpens (role s) 6 then answer s (claspEnd s f 2 [] 0 .untouched)
    else
      let d := readRec s (stepReader f) (getF f.step StepRec.DESC_ADDR) 64
      let n := getF d.2.1 CommitDesc.ENTRIES
      let a := getF d.2.1 CommitDesc.ENTRY_ADDR
      if d.2.2.1 ≠ 0 then answer s (claspEnd d.1 f 5 [] 0 .unread)
      else if n = 0 ∨ a % 64 ≠ 0 then answer s (claspEnd d.1 f 7 [] 0 .untouched)
      else
        let r := commitRun d.1 f a n 0
        answer s (claspEnd r.1 f (if r.2.2.2 then 5 else if r.2.1 = [] then 0 else 8) r.2.1 r.2.2.1 .done)

/-! Peer loss (R201). -/

/-- One open record of a lost peer resolved. -/
def recordLost (s : State) (c : Nat) : State :=
  let r := crF s c ClaspRec.ROW
  let e := crF s c ClaspRec.EPOCH
  if crF s c ClaspRec.SIDE = 0 then sourceBack (rowSet (claspCount s 11) r [(Row.OWNER_EPOCH, e + 2)]) c
  else if crF s c ClaspRec.STATE = 3 then
    let s := claspCount s 12
    if crF s c ClaspRec.BYTES_LANDED = crF s c ClaspRec.BYTES_EXPECTED then
      recordFree (commitRow s c (commitState s c) (e + 2)) c
    else rowEnd (recordFree (rowSet s r [(Row.OWNER_EPOCH, e + 2)]) c) r 9 6
  else recordFree s c

/-- PEER_LOST (R201), the clasp unit's part. -/
def claspPeerLost (s : State) (dev : Nat) : State :=
  if claspRuns s then
    (s.rows.clasp.map Prod.fst).foldl (fun t c => if crF t c ClaspRec.STATE ≠ 0 ∧ crF t c ClaspRec.PEER = dev then recordLost t c else t) s
  else s

/-! The commands of queue pairs in which a pull's read can end. -/

/-- A queue-pair command's answer, with the pulls it ended taken. -/
def withPulls (s : State) : Res → Res
  | .next t => answer s (claspPulls t)
  | r => r

/-- POST (R254, R193, R194). -/
def execPost (port : Nat) (s : State) : Res := withPulls s (postStep port s)
/-- READ (R253, R194). -/
def execRead (q : Nat) (s : State) : Res := withPulls s (answer s (startNext s q 3))
/-- READ_RESP (R259, R193). -/
def execReadResp (m : Msg) (s : State) : Res := withPulls s (readResp m s)
/-- NAK (R257, R194). -/
def execNak (m : Msg) (s : State) : Res := withPulls s (nakPacket m s)
/-- QP_TIMEOUT (R265). -/
def execQpTimeout (q : Nat) (s : State) : Res := withPulls s (qpTimeout q s)
/-- READ_REQ (R259, R196). -/
def execReadReq (m : Msg) (s : State) : Res :=
  match readReq m s with
  | .next t => answer s (imageRead t m)
  | r => r

end Sys2Proof.Machine
end

