-- ==== Sys2Proof/Machine/Security.lean ====
section
/-! DEFINITION. Chapter 19: secure boot, the fused version, debug tokens, identity, code measurement, attestation reports, the SPDM
responder, partitions and tenant keys. A byte string held in a field has its byte 0 lowest (R7).
Choices of the model here, by the assumption log: log 16, 23 (DESIGN CHOICE); log 24 (PRESUMED); log 54, 55 (DEDUCED). -/

namespace Sys2Proof.Machine

/-! What a write of a dictionary entry answers. -/

/-- The state after a write was applied or refused, the status (0 OK, 2 ACCESS, 3 BAD_LENGTH, 4 BAD_VALUE, 5 REFUSED, 7 PARTITION), the
refusal's reason, and a register's value where the write returns one. -/
structure Wrote where
  st : State
  status : Nat
  reason : Nat
  data : List Byte

/-- Applied. -/
abbrev wOk (s : State) : Wrote := ⟨s, 0, 0, []⟩
/-- Refused with a status. -/
abbrev wBad (s : State) (status : Nat) : Wrote := ⟨s, status, 0, []⟩
/-- Refused with a reason. -/
abbrev wRefuse (s : State) (reason : Nat) : Wrote := ⟨s, 5, reason, []⟩

/-- R410: a breach of the conditions recorded. -/
def breach (s : State) (bit : Nat) : State :=
  odSet s OD.GUARANTEE_CONDITIONS (setBit (od s OD.GUARANTEE_CONDITIONS) bit true)

/-- A byte string cut or filled to a length. -/
def fitBytes (n : Nat) (bs : List Byte) : List Byte := (bs ++ List.replicate n 0).take n

/-! Secure boot (R385 to R388). -/

/-- The length of an RSA signature and of an SLH-DSA signature. -/
abbrev rsaBytes : Nat := 384
/-- SLH-DSA-SHA2-192s. -/
abbrev slhBytes : Nat := 16224

/-- Do both signatures of a root pair verify over a message? The code of the first that does not: 4 RSA, 5 SLH, 0 both do. -/
def twoSigs (index : Nat) (msg sigs : List Byte) : Nat :=
  if Config.sigOk 0 (Config.rootKey 0 index) msg (sigs.take rsaBytes) = false then 4
  else if Config.sigOk 1 (Config.rootKey 1 index) msg ((sigs.drop rsaBytes).take slhBytes) = false then 5
  else 0

/-- R385: a boot image checked, in the order of BOOT_STATUS's codes: 0 accepted, 1 NO_IMAGE, 2 FORMAT, 3 DIGEST, 4 RSA, 5 SLH,
6 ROOT_REVOKED, 7 SVN. -/
def bootCheck (s : State) (img : List Byte) : Nat :=
  let h := leNat (img.take 128)
  let n := getF h BootHdr.BODY_BYTES
  let i := getF h BootHdr.ROOT_INDEX
  if img.length < 128 ∨ getF h BootHdr.MAGIC ≠ 0x444E4254 then 1
  else if getF h BootHdr.FORMAT ≠ 1 ∨ n = 0 ∨ 2 ^ 24 < n ∨ img.length < 128 + n + rsaBytes + slhBytes ∨ 3 < i then 2
  else if leNat (sha384 ((img.drop 128).take n)) ≠ getF h BootHdr.BODY_DIGEST then 3
  else
    let sg := twoSigs i (img.take 128) (img.drop (128 + n))
    if sg ≠ 0 then sg
    else if bitOf (od s OD.ROOT_REVOKED) i then 6
    else if getF h BootHdr.SVN < od s OD.FUSED_SVN then 7
    else 0

/-- A field of a boot image's header. -/
abbrev bootF (img : List Byte) (f : Fld) : Nat := getF (leNat (img.take 128)) f

/-- BOOT_STATUS set: source and outcome of an image. -/
def bootStatus (s : State) (source code : Nat) (img : List Byte) : State :=
  odSet s OD.BOOT_STATUS (mkRec [(fld 31 24, source), (fld 23 16, code), (fld 15 0, if code = 1 then 0 else bootF img BootHdr.SVN)])

/-- R388: the digest of a firmware image recorded: 0 ROM, 1 first stage, 2 planner, 3 base die. -/
def digestPut (s : State) (i d : Nat) : State := odPut s OD.FW_DIGESTS i d

/-- A first stage accepted: it runs. -/
def firstStageRuns (s : State) (img : List Byte) (boot : Nat) : State :=
  let s := digestPut (digestPut s 0 (leNat (fitBytes 48 Config.romDigest))) 1 (bootF img BootHdr.BODY_DIGEST)
  { s with sec := { s.sec with boot := boot, firstSvn := bootF img BootHdr.SVN } }

/-- Planner firmware accepted. -/
def plannerRuns (s : State) (img : List Byte) : State :=
  odSet (digestPut s 2 (bootF img BootHdr.BODY_DIGEST)) OD.FIRMWARE_VERSION (bootF img BootHdr.VERSION)

/-- R386: no image accepted: the device stays in BOOT and raises BOOT_FAIL. -/
def bootFails (s : State) : State := alert { s with sec := { s.sec with boot := 7 } } 8

/-- R391: the public bytes of an identity key. -/
def publicKey (s : State) (key n : Nat) : List Byte := (List.range n).map (Config.derivedKey (od s OD.LIFECYCLE) key)

/-- R391, R389: the identity keys derived, but in RETURNED; the seed's read path is then locked (R392). -/
def deriveKeys (s : State) : State :=
  let s := { s with sec := { s.sec with seedLocked := true } }
  if od s OD.LIFECYCLE = 2 then odSet s OD.ATTEST_STATE 3
  else
    let s := odSetBytes s OD.ID_PUBLIC_RSA (publicKey s 0 384)
    let s := odSetBytes s OD.ID_PUBLIC_SLH (publicKey s 1 48)
    let s := odSetBytes s OD.KEM_PUBLIC (publicKey s 2 1568)
    { s with sec := { s.sec with derived := true } }

/-- A nonce of 32 bytes drawn. -/
def drawNonce (s : State) (e : Nat) : State :=
  let x := takeBytes s 32
  odSetBytes x.2 e x.1

/-- A nonce as a number. -/
def nonceOf (s : State) (e : Nat) : Nat := leNat (odBytes s e 32)

/-- BOOT_ROM_START (R386, R391): the two first stages of the flash in order, then PCIe where the strap selects it. Identity derivation runs
beside it; the nonces are drawn. -/
def execBootRomStart (a b : List Byte) (s : State) : Res :=
  answer s (
    if s.sec.boot = 1 then
      let s := drawNonce (drawNonce (drawNonce (deriveKeys s) OD.DEBUG_NONCE) OD.KEY_NONCE) OD.FENCE_NONCE
      if bootCheck s a = 0 then firstStageRuns (bootStatus s 0 0 a) a 3
      else if bootCheck s b = 0 then firstStageRuns (bootStatus s 1 0 b) b 3
      else if bitOf (od s OD.STRAPS) 5 then
        let s := bootStatus s 2 1 []
        { s with sec := { s.sec with boot := 2 } }
      else bootFails (bootStatus s 1 (bootCheck s b) b)
    else s)

/-- R3, R424: the cores that count: in service or under test. -/
def coresCounted (s : State) : Nat :=
  ((List.range 200).filter (fun c => odGet s OD.CORE_MAP c == 0 || odGet s OD.CORE_MAP c == 2)).length

/-- R424, R430: HEALTH DEGRADED (1), with its alert. A device in suspect mode stays SUSPECT. -/
def degrade (s : State) : State :=
  let s := if od s OD.HEALTH = 2 then s else odSet s OD.HEALTH 1
  alert s 7

/-- R424. -/
def coresCheck (s : State) : State := if coresCounted s < 176 then degrade s else s

/-- R420: the boot test of all cores: those that fail are fenced, the 192 lowest that pass go in service, the others are spares. -/
def coreBist (s : State) (failed : List Nat) : State :=
  let pass := (List.range 200).filter (fun c => !failed.contains c)
  let s := pass.zipIdx.foldl (fun t p => odPut t OD.CORE_MAP p.1 (if p.2 < 192 then 0 else 1)) s
  let bad := (List.range 200).filter (fun c => failed.contains c)
  coresCheck (bad.foldl (fun t c => fenceRecord (odPut t OD.CORE_MAP c 3) 0 c 1) s)

/-- FIRST_STAGE_LOAD (R388, R462, R420): planner firmware from copy A or else B, base-die firmware, and the test of the cores, of which
`failed` fail it. A first stage loaded over PCIe has taken the two images already. -/
def execFirstStageLoad (plannerA plannerB base : List Byte) (failed : List Nat) (s : State) : Res :=
  answer s (
    if s.sec.boot = 8 then
      let s := coreBist s failed
      { s with sec := { s.sec with boot := 6 } }
    else if s.sec.boot = 3 then
      let useA : Bool := bootCheck s plannerA == 0
      let p := if useA then plannerA else plannerB
      let src := if useA then 0 else 1
      if bootCheck s p ≠ 0 then bootFails (bootStatus s src (bootCheck s p) p)
      else
        let s := plannerRuns (bootStatus s src 0 p) p
        if bootCheck s base ≠ 0 then bootFails (bootStatus s 0 (bootCheck s base) base)
        else
          let s := coreBist (digestPut s 3 (bootF base BootHdr.BODY_DIGEST)) failed
          { s with sec := { s.sec with boot := 6 } }
    else s)

/-- Does the ROM or the first stage wait for an image over PCIe (R472), and of which kind? -/
def bootAwaits (s : State) : Option Nat :=
  if s.sec.boot = 2 then some 0 else if s.sec.boot = 4 then some 1 else if s.sec.boot = 5 then some 2 else none

/-- A write of BOOT_LOAD (R472): bytes staged from an offset. -/
def bootLoadWrite (s : State) (off : Nat) (data : List Byte) : Wrote :=
  if (bootAwaits s).isNone then wBad s 2
  else wOk { s with sec := { s.sec with bootLoad := (data.zipIdx off).foldl (fun m p => cellsSet m p.2 p.1) s.sec.bootLoad } }

/-- The bytes staged: as many as the header gives the image, unlisted ones zero. -/
def stagedImage (s : State) : List Byte :=
  let at_ := fun i => kget s.sec.bootLoad i (0 : Byte)
  let n := min (getF (leNat ((List.range 128).map at_)) BootHdr.BODY_BYTES) (2 ^ 24)
  (List.range (128 + n + rsaBytes + slhBytes)).map at_

/-- A write of BOOT_COMMIT (R472): the image staged is verified and runs; one that is not accepted empties the staging area. -/
def bootCommit (s : State) (kind : Nat) : Wrote :=
  match bootAwaits s with
  | none => wBad s 2
  | some k =>
    if kind ≠ k then wBad s 4
    else
      let img := stagedImage s
      let code := bootCheck s img
      let s := bootStatus { s with sec := { s.sec with bootLoad := [] } } 2 code img
      if code ≠ 0 then wOk s
      else if k = 0 then wOk (firstStageRuns s img 4)
      else if k = 1 then
        let s := plannerRuns s img
        wOk { s with sec := { s.sec with boot := 5 } }
      else
        let s := digestPut s 3 (bootF img BootHdr.BODY_DIGEST)
        wOk { s with sec := { s.sec with boot := 8 } }

/-- A write of SVN_COMMIT (R387). The fused field counts to 63. -/
def svnCommit (s : State) (v : Nat) : Wrote :=
  if s.sec.firstSvn < v ∨ v < od s OD.FUSED_SVN ∨ 63 < v then wBad s 4 else wOk (odSet s OD.FUSED_SVN v)

/-! Tenant keys (R402 to R407). -/

/-- KEY_COUNTS element `i`: 0 installs, 1 refusals, 2 revocations, 3 bound revocations, 4 KEY_REVOKED completions. -/
abbrev keyCount (s : State) (i : Nat) : State := odAdd s OD.KEY_COUNTS i 1

/-- A field of a key slot's record. -/
abbrev keyF (s : State) (k : Nat) (f : Fld) : Nat := recF s OD.KEY_SLOTS k f

/-- The slot's KEY entry removed from Locket, where it is this slot's. -/
def keyEntryDrop (s : State) (k : Nat) : State :=
  let x := search s 5 (keyF s k KeySlot.KEY_ID)
  match x.2 with
  | some u => if lkValue x.1 u / 2 ^ 120 = k then entryRemove x.1 u else x.1
  | none => x.1

/-- R406: a VALID slot goes to REVOKING: its key is zeroised, its generation advances, its KEY entry is removed, and pulls of its tenant's
rows under it are abandoned. -/
def slotRevoke (s : State) (k : Nat) : State :=
  if k = 0 ∨ keyF s k KeySlot.STATE ≠ 1 then s
  else
    let ten := keyF s k KeySlot.TENANT
    let mine := (s.rows.clasp.map Prod.fst).filter (fun c => crF s c ClaspRec.SIDE == 1 && crF s c ClaspRec.STATE == 3
      && rowGet s (crF s c ClaspRec.ROW) Row.TENANT == ten && recF s OD.TENANTS ten Tenant.KEY_SLOT == k)
    let s := keyEntryDrop s k
    let s := recSet s OD.KEY_SLOTS k [(KeySlot.STATE, 2), (KeySlot.GEN, keyF s k KeySlot.GEN + 1)]
    let s := keyCount { s with net := { s.net with keys := kdel s.net.keys k } } 2
    if claspRuns s then mine.foldl (fun t c => claspAbandon t c 0x22) s else s

/-- A write of KEY_REVOKE (R406, R402). -/
def keyRevoke (s : State) (k : Nat) : Wrote := if k = 0 then wBad s 4 else wOk (slotRevoke s k)

/-- R407: REVOKING slots with nothing in flight become FREE, at a frame boundary. -/
def keysTick (s : State) : State :=
  (List.range 256).foldl (fun t k =>
    if keyF t k KeySlot.STATE = 2 ∧ keyF t k KeySlot.IN_FLIGHT = 0 then recSet t OD.KEY_SLOTS k [(KeySlot.STATE, 0)] else t) s

/-- R403: a key placed in its slot, with its KEY entry and its segment counter at 0. -/
def keyPlace (s : State) (h : Nat) (key : List Byte) : State :=
  let k := getF h InstallRec.SLOT
  let g := getF h InstallRec.GEN
  let s := odPut s OD.KEY_SLOTS k (mkRec [(KeySlot.STATE, 1), (KeySlot.GEN, g), (KeySlot.TENANT, getF h InstallRec.TENANT),
    (KeySlot.BIND, getF h InstallRec.BIND), (KeySlot.KEY_ID, getF h InstallRec.KEY_ID)])
  let s := { s with net := { s.net with keys := kput s.net.keys k key, segCtr := kput s.net.segCtr k 0 } }
  let v := k * 2 ^ 120 + g * 2 ^ 112
  let x := deviceInsert s 5 (getF h InstallRec.KEY_ID) v
  keyCount (if x.2.1 = 2 then entryRewrite x.1 x.2.2 v else x.1) 0

/-- A write of KEY_INSTALL (R403, R407, R390): a new nonce follows every one. -/
def keyInstall (s : State) (data : List Byte) : Wrote :=
  let h := leNat (data.take 64)
  let k := getF h InstallRec.SLOT
  let fresh := fun (t : State) => drawNonce t OD.KEY_NONCE
  let no := fun (reason : Nat) => wRefuse (fresh (keyCount s 1)) reason
  if od s OD.DEBUG_STATE ≠ 0 ∨ s.sec.unlocking.isSome then wBad (fresh (keyCount s 1)) 2
  else if data.length ≠ 1680 then wBad (fresh (keyCount s 1)) 3
  else if k = 0 then wBad (fresh (keyCount s 1)) 4
  else if getF h InstallRec.NONCE ≠ nonceOf s OD.KEY_NONCE then no 0x10
  else if keyF s k KeySlot.STATE ≠ 0 then no 0x12
  else if s.sec.derived = false then no 0x11
  else
    match Config.kemUnwrap ((data.drop 64).take 1568) (data.drop 1632) (data.take 64) with
    | none => no 0x11
    | some key => wOk (fresh (keyPlace s h (fitBytes 32 key)))

/-! Code measurement (R393, R404). -/

/-- R393: CODE_MEASURE extended with a digest; R404: every VALID bound slot is revoked. -/
def codeExtend (s : State) (d : List Byte) : State :=
  let s := odSetBytes s OD.CODE_MEASURE (sha384 (odBytes s OD.CODE_MEASURE 48 ++ d))
  let s := odInc s OD.MEASURE_EXTENDS
  ((List.range 256).filter (fun k => keyF s k KeySlot.STATE == 1 && keyF s k KeySlot.BIND == 1)).foldl
    (fun t k => slotRevoke (keyCount t 3) k) s

/-! Partitions (R397, R401). -/

/-- A field of a partition record. -/
abbrev partF (s : State) (i : Nat) (f : Fld) : Nat := recF s OD.PARTITIONS i f

/-- Does a range lie wholly in HBM, or wholly in direct commons (R204, R205)? -/
def partPlace (s : State) (a n : Nat) : Bool :=
  decide (a + n ≤ 2 ^ 40)
  || (decide (commonsBase + od s OD.TIER_FRAMES * 65536 ≤ a) && decide (a + n ≤ commonsBase + 2048 * 65536))

/-- A write of PARTITION_CREATE (R397, R390): the lowest FREE record becomes ACTIVE. With none FREE the spec names no answer. -/
def partCreate (s : State) (data : List Byte) : Wrote :=
  let p := leNat (data.take 32)
  let a := getF p Part.BASE
  let n := getF p Part.SIZE
  if od s OD.DEBUG_STATE ≠ 0 ∨ s.sec.unlocking.isSome then wBad s 2
  else if data.length ≠ 32 then wBad s 3
  else if a % 65536 ≠ 0 ∨ n % 65536 ≠ 0 ∨ partPlace s a n = false then wBad s 4
  else if (List.range 64).any (fun i => partF s i Part.STATE != 0 && meets a n (partF s i Part.BASE) (partF s i Part.SIZE)) then
    wRefuse s 2
  else
    match (List.range 64).find? (fun i => partF s i Part.STATE == 0) with
    | none => wBad s 4
    | some i => wOk (odPut s OD.PARTITIONS i (mkRec [(Part.BASE, a), (Part.SIZE, n), (Part.KIND, getF p Part.KIND),
        (Part.TENANT, getF p Part.TENANT), (Part.HIDE_VIEWS, getF p Part.HIDE_VIEWS), (Part.STATE, 1)]))

/-- R401: an ACTIVE record moves to ERASING. -/
def partErase (s : State) (i : Nat) : State :=
  if partF s i Part.STATE = 1 then recSet s OD.PARTITIONS i [(Part.STATE, 2)] else s

/-- A write of PARTITION_RELEASE (R401). -/
def partRelease (s : State) (i : Nat) : Wrote := if 64 ≤ i then wBad s 4 else wOk (partErase s i)

/-- R390, step 4: once every partition is erased the token's scope is in force. -/
def scopeOpen (s : State) : State :=
  match s.sec.unlocking with
  | some scope =>
    if (List.range 64).any (fun i => partF s i Part.STATE != 0) then s
    else
      let s := { s with sec := { s.sec with unlocking := none } }
      let s := odSet (odSet s OD.DEBUG_STATE scope) OD.ATTEST_STATE 3
      let s := if bitOf scope 0 || bitOf scope 2 then breach s 4 else s
      alert s 9
  | none => s

/-- The bytes of a range zeroed, in HBM and in the commons frames that hold its granules (R220, R401). -/
def partZero (s : State) (a n : Nat) : State :=
  let frames := (List.range (od s OD.TIER_FRAMES)).filter (fun f =>
    let g := odGet s OD.GRANULE_MAP f
    bitOf g 31 && decide (a ≤ g % 2 ^ 31 * 65536) && decide (g % 2 ^ 31 * 65536 < a + n))
  frames.foldl (fun t f => zeroLines t (commonsBase + f * 65536) 65536) (zeroLines s a n)

/-- PARTITION_ERASED (R401, R390): every byte is zero; the record becomes FREE. -/
def execPartitionErased (i : Nat) (s : State) : Res :=
  answer s (
    if i < 64 ∧ partF s i Part.STATE = 2 then
      scopeOpen (odPut (partZero s (partF s i Part.BASE) (partF s i Part.SIZE)) OD.PARTITIONS i 0)
    else s)

/-! Debug (R390). -/

/-- SERIAL_TAG: bytes 0 to 7 of SHA-384(SERIAL). -/
def serialTag (s : State) : Nat := leNat ((sha384 (leBytes 64 (od s OD.SERIAL))).take 8)

/-- R390: is a token accepted? -/
def tokenOk (s : State) (data : List Byte) : Bool :=
  let h := leNat (data.take 64)
  let i := getF h DebugTok.ROOT_INDEX
  data.length == 64 + rsaBytes + slhBytes && getF h DebugTok.MAGIC == 0x444E4442 && decide (i ≤ 3)
  && !bitOf (od s OD.ROOT_REVOKED) i && getF h DebugTok.SERIAL_TAG == serialTag s
  && getF h DebugTok.NONCE == nonceOf s OD.DEBUG_NONCE
  && !(bitOf (getF h DebugTok.SCOPE) 2 && od s OD.LIFECYCLE != 0)
  && twoSigs i (data.take 64) (data.drop 64) == 0

/-- R390, step 1: every key slot but 0 is zeroised and FREE. -/
def keysZero (s : State) : State :=
  let s := (span 1 255).foldl (fun t k => if keyF t k KeySlot.STATE = 1 then keyEntryDrop t k else t) s
  let s := (span 1 255).foldl (fun t k => odPut t OD.KEY_SLOTS k 0) s
  { s with net := { s.net with keys := [], segCtr := [] } }

/-- A write of DEBUG_UNLOCK (R390): a new nonce follows every one. -/
def debugUnlock (s : State) (data : List Byte) : Wrote :=
  if tokenOk s data then
    let s := keysZero (drawNonce s OD.DEBUG_NONCE)
    let s := { s with sec := { s.sec with derived := false, seedLocked := true,
                                          unlocking := some (getF (leNat (data.take 64)) DebugTok.SCOPE % 8) } }
    wOk (scopeOpen ((List.range 64).foldl partErase s))
  else wBad (drawNonce s OD.DEBUG_NONCE) 4

/-! Attestation reports (R394, R395). -/

/-- A tagged section, padded with zeros to 8 bytes. -/
def section_ (tag : Nat) (data : List Byte) : List Byte :=
  let all := leBytes 4 tag ++ leBytes 4 data.length ++ data
  all ++ List.replicate ((8 - all.length % 8) % 8) 0

/-- The sections of a report's body. -/
def reportBody (s : State) : List Byte :=
  section_ 1 (leBytes 64 (od s OD.SERIAL) ++ sha384 (odBytes s OD.ID_PUBLIC_RSA 384) ++ sha384 (odBytes s OD.ID_PUBLIC_SLH 48)
    ++ sha384 (odBytes s OD.KEM_PUBLIC 1568))
  ++ section_ 2 ((List.range 4).flatMap (fun i => leBytes 48 (odGet s OD.FW_DIGESTS i)))
  ++ section_ 3 (odBytes s OD.BASE_IMAGE_DIGEST 48 ++ (List.range 16).flatMap (fun i => leBytes 48 (odGet s OD.OVERLAY_DIGESTS i))
    ++ leBytes 1 (od s OD.OVERLAY_ACTIVE))
  ++ section_ 4 (odBytes s OD.CODE_MEASURE 48 ++ leBytes 8 (od s OD.MEASURE_EXTENDS))
  ++ section_ 5 (((List.range 64).filter (fun i => partF s i Part.STATE != 0)).flatMap (fun i => leBytes 32 (odGet s OD.PARTITIONS i)))
  ++ section_ 6 (((List.range 256).filter (fun k => keyF s k KeySlot.STATE != 0)).flatMap (fun k => leBytes 16 (odGet s OD.KEY_SLOTS k)))

/-- Header and body of a report of the values in force now. -/
def reportMsg (s : State) (nonce : List Byte) : List Byte :=
  let body := reportBody s
  let h := mkRec [(ReportHdr.MAGIC, 0x444E4154), (ReportHdr.FORMAT, 1), (ReportHdr.BODY_BYTES, body.length),
    (ReportHdr.NONCE, leNat nonce), (ReportHdr.FRAME, if inRun s then frameNo s else 0), (ReportHdr.LIFECYCLE, od s OD.LIFECYCLE),
    (ReportHdr.DEBUG_STATE, od s OD.DEBUG_STATE), (ReportHdr.FUSED_SVN, od s OD.FUSED_SVN), (ReportHdr.ROOT_REVOKED, od s OD.ROOT_REVOKED),
    (ReportHdr.ROLE, role s)]
  leBytes 128 h ++ body

/-- Can a report be signed: keys derived and no scope open or opening (R389, R390)? -/
def canSign (s : State) : Bool := s.sec.derived && od s OD.DEBUG_STATE == 0 && s.sec.unlocking.isNone

/-- The snapshot of the report being signed taken, where it has not been. -/
def attestSnap (s : State) : State :=
  match s.sec.signing with
  | some a => if a.msg.isNone then { s with sec := { s.sec with signing := some { a with msg := some (reportMsg s a.nonce) } } } else s
  | none => s

/-- The signing of a report starts: its snapshot is the start of the next frame, or now where no frames run. -/
def attestStart (s : State) (a : Attest) : State :=
  let s := odSet { s with sec := { s.sec with signing := some a } } OD.ATTEST_STATE 1
  if framesRun s then s else attestSnap s

/-- R395: a report asked for: signed now, or waiting in the place of any other that waits. -/
def attestAsk (s : State) (nonce : List Byte) (spdm : Bool) : State :=
  let a : Attest := { nonce := nonce, spdm := spdm, msg := none }
  if canSign s = false then odSet s OD.ATTEST_STATE 3
  else if s.sec.signing.isSome then { s with sec := { s.sec with attWaiting := some a } }
  else attestStart s a

/-- A write of ATTEST_REQUEST (R395). -/
def attestRequest (s : State) (data : List Byte) : Wrote :=
  if data.length ≠ 32 then wBad s 3 else wOk (attestAsk s data false)

/-! The SPDM responder (R396). Answers carry the response code of DSP0274 and the content that R396 gives; the protocol's framing is
left out. -/

/-- An SPDM answer given to the host (output kind 8, the response code); one above DataTransferSize is kept for CHUNK_GET, and the host is told
so by ERROR LargeResponse. -/
def spdmOut (s : State) (code : Nat) (data : List Byte) : State :=
  if 4096 < data.length then
    { s with out := s.out ++ [⟨8, 0x7F, [0x0F]⟩], sec := { s.sec with large := some (0, data) } }
  else { s with out := s.out ++ [⟨8, code, data⟩] }

/-- An SPDM error: 1 InvalidRequest, 4 UnexpectedRequest, 7 UnsupportedRequest. -/
def spdmError (s : State) (code : Nat) : State := { s with out := s.out ++ [⟨8, 0x7F, leBytes 1 code⟩] }

/-- Does the responder answer: in CONFIG and RUN? -/
def spdmServes (s : State) : Bool := inConfig s || inRun s

/-- An SPDM request that needs the connection at a phase. -/
def spdmOn (s : State) (phase : Nat) (t : State) : Res :=
  answer s (if spdmServes s = false then s else if s.sec.spdm < phase then spdmError s 4 else t)

/-- GET_VERSION (R396): SPDM 1.3; the connection starts anew. -/
def execGetVersion (s : State) : Res :=
  spdmOn s 0 (spdmOut { s with sec := { s.sec with spdm := 1, large := none } } 0x04 [0x13])

/-- GET_CAPABILITIES (R396): CERT_CAP, CHAL_CAP, MEAS_CAP with signature, CHUNK_CAP as flag bits 1, 2, 4 (of 4:3) and 17, and the
DataTransferSize. -/
def execGetCapabilities (s : State) : Res :=
  spdmOn s 1 (spdmOut { s with sec := { s.sec with spdm := max s.sec.spdm 2 } } 0x61 (leBytes 4 (2 + 4 + 16 + 2 ^ 17) ++ leBytes 4 4096))

/-- NEGOTIATE_ALGORITHMS (R396): the bits offered for base asymmetric algorithm and hash; TPM_ALG_RSAPSS_3072 is bit 4 of the first,
SHA-384 bit 1 of the second. -/
def execNegotiateAlgorithms (asym hash : Nat) (s : State) : Res :=
  spdmOn s 2 (
    if bitOf asym 4 && bitOf hash 1 then spdmOut { s with sec := { s.sec with spdm := 3 } } 0x63 (leBytes 4 16 ++ leBytes 4 2)
    else spdmError s 1)

/-- R392: is a slot's chain served: slot 0 certifies the RSA key, slot 1 the SLH-DSA key, and the keys are derived? -/
def chainServed (s : State) (slot : Nat) (chain : List Byte) : Bool :=
  s.sec.derived && chain != [] && (
    if slot = 0 then Config.certifiedKey chain == odBytes s OD.ID_PUBLIC_RSA 384
    else slot == 1 && Config.certifiedKey chain == odBytes s OD.ID_PUBLIC_SLH 48)

/-- GET_DIGESTS (R396, R392): the slots served, and the SHA-384 of each one's chain, as the flash holds them. -/
def execGetDigests (chain0 chain1 : List Byte) (s : State) : Res :=
  let a := chainServed s 0 chain0
  let b := chainServed s 1 chain1
  spdmOn s 3 (spdmOut s 0x01 (leBytes 1 (b2n a + 2 * b2n b) ++ (if a then sha384 chain0 else []) ++ (if b then sha384 chain1 else [])))

/-- GET_CERTIFICATE (R392): a piece of the chain of a slot, as the flash holds it; a chain that is not served is an empty slot. -/
def execGetCertificate (slot off len : Nat) (chain : List Byte) (s : State) : Res :=
  spdmOn s 3 (
    if chainServed s slot chain then
      let part := (chain.drop off).take len
      spdmOut s 0x02 (leBytes 2 part.length ++ leBytes 2 (chain.length - off - part.length) ++ part)
    else spdmError s 1)

/-- CHALLENGE (R396): signed with the RSA identity key. -/
def execChallenge (slot : Nat) (nonce chain : List Byte) (s : State) : Res :=
  let x := takeBytes s 32
  let msg := sha384 chain ++ x.1 ++ nonce
  spdmOn s 3 (
    if slot = 0 ∧ chainServed s 0 chain = true then spdmOut x.2 0x03 (sha384 chain ++ x.1 ++ fitBytes rsaBytes (Config.signature 0 msg))
    else spdmError s 1)

/-- R396: the digest of measurement block 1 to 6. -/
def measureBlock (s : State) (i : Nat) : List Byte :=
  if 1 ≤ i ∧ i ≤ 4 then leBytes 48 (odGet s OD.FW_DIGESTS (i - 1))
  else if i = 5 then odBytes s OD.BASE_IMAGE_DIGEST 48 else odBytes s OD.CODE_MEASURE 48

/-- GET_MEASUREMENTS (R396, R395): index 0 asks for the number of blocks, 1 to 6 for a digest, 7 for a report, which is answered once it is
signed. -/
def execGetMeasurements (index : Nat) (nonce : List Byte) (s : State) : Res :=
  spdmOn s 3 (
    if index = 0 then spdmOut s 0x60 [7]
    else if index ≤ 6 ∧ canSign s = true then
      let b := measureBlock s index
      spdmOut s 0x60 (b ++ fitBytes rsaBytes (Config.signature 0 (b ++ nonce)))
    else if index = 7 ∧ canSign s = true then attestAsk s nonce true
    else spdmError s 1)

/-- CHUNK_GET (R396): the next chunk of a large response. -/
def execChunkGet (s : State) : Res :=
  spdmOn s 3 (
    match s.sec.large with
    | some x =>
      let part := (x.2.drop x.1).take 4096
      let n := x.1 + part.length
      { s with out := s.out ++ [⟨8, 0x06, part⟩],
               sec := { s.sec with large := if x.2.length ≤ n then none else some (n, x.2) } }
    | none => spdmError s 4)

/-- SPDM_UNSUPPORTED_REQUEST (R396). -/
def execSpdmUnsupportedRequest (s : State) : Res := spdmOn s 0 (spdmError s 7)

/-- ATTEST_SIGNED (R395): signing has ended: the report is placed, or answers GET_MEASUREMENTS; the next that waits starts. A scope opened in
the meantime lets no report be signed. -/
def execAttestSigned (s : State) : Res :=
  answer s (
    match s.sec.signing with
    | none => s
    | some a =>
      match a.msg with
      | none => s
      | some msg =>
        let w := s.sec.attWaiting
        let s := { s with sec := { s.sec with signing := none, attWaiting := none } }
        if canSign s = false then odSet s OD.ATTEST_STATE 3
        else
          let rep := msg ++ fitBytes rsaBytes (Config.signature 0 msg) ++ fitBytes slhBytes (Config.signature 1 msg)
          let s := odSet (odSetBytes (odClear s OD.ATTEST_REPORT) OD.ATTEST_REPORT rep) OD.ATTEST_STATE 2
          let s := if a.spdm then spdmOut s 0x60 (rep ++ fitBytes rsaBytes (Config.signature 0 (rep ++ a.nonce))) else s
          match w with
          | some b => attestStart s b
          | none => s)

end Sys2Proof.Machine
end

