-- ==== Sys2Proof/Machine/Audit.lean ====
section
/-! DEFINITION. Chapter 20: the conservation laws, the audits the device runs of them, and the ownership snapshot. Law i is index i - 1.
AUDIT_TERMS holds each law's terms in a block of 4,096 words of its own (the layout is the model's); L4's, L5's and L6's first ones.
Choices of the model here, by the assumption log: log 56 (DESIGN CHOICE). -/

namespace Sys2Proof.Machine

/-- What an item field reads when a law holds. -/
abbrev noItem : Nat := 0x3FFFFFFF

/-- A law evaluated: the first item that disagrees, none where the law holds, and its terms. -/
abbrev LawView : Type := Option Nat × List Nat

/-- L1: for each ACTIVE link and channel, credits, flits sent and not accepted and the peer's occupancy make up the peer's buffer. Terms:
links skipped, then three for each link and channel. -/
def law1 (s : State) : LawView :=
  let on := (List.range 64).filter (linkActive s)
  let per := on.flatMap (fun l => (List.range 3).map (fun v =>
    let x := lnk s l
    (l * 4 + v + 1, x.credits.getD v 0, x.sentOut.getD v 0, x.buf.getD v 0)))
  ((per.find? (fun p => decide (p.2.2.2 < p.2.1 + p.2.2.1))).map Prod.fst,
    (64 - on.length) :: per.flatMap (fun p => [p.2.1, p.2.2.1, p.2.2.2 - p.2.1 - p.2.2.1]))

/-- L2: on each link, slots granted = filled + returned. -/
def law2 (s : State) : LawView :=
  ((s.net.vc0Sums.find? (fun p => p.2.1 != p.2.2.1 + p.2.2.2)).map (fun p => 4 * p.1),
    s.net.vc0Sums.flatMap (fun p => [p.1, p.2.1, p.2.2.1, p.2.2.2]))

/-- L3: the counts of each valid class and stack make up its slots; the walks that are issued with it check the rest. -/
def law3 (s : State) : LawView :=
  let all := ((List.range 8).filter (fun c => classF s c BeadClass.VALID == 1)).flatMap (fun c => (List.range 8).map (fun k => (c, k)))
  let counts := fun (c k : Nat) => (List.range 6).map (fun x => odGet s OD.BEAD_STATE_COUNTS (listKey c k * 6 + x))
  ((all.find? (fun p => (counts p.1 p.2).sum != classF s p.1 BeadClass.SLOTS)).map (fun p => p.1 * 8 + p.2),
    all.flatMap (fun p => (p.1 * 8 + p.2) :: counts p.1 p.2 ++ [odGet s OD.REF_SUM (listKey p.1 p.2)]))

/-- L4: for each tenant, granted = spent + carried + returned. -/
def law4 (s : State) : LawView :=
  let g := fun (t i : Nat) => odGet s OD.TENANT_LEDGER (4 * t + i)
  ((List.range 4096).find? (fun t => g t 0 % 2 ^ 64 != (g t 1 + g t 2 + g t 3) % 2 ^ 64),
    (List.range 1024).flatMap (fun t => [g t 0, g t 1, g t 2, g t 3]))

/-- L5: granted = spent + carried + returned, and the tenants' energy and housekeeping make up what was spent. -/
def law5 (s : State) : LawView :=
  let g := fun (i : Nat) => odGet s OD.LEDGER_TOTALS i
  let sum := ((List.range 4096).map (odGet s OD.TENANT_ENERGY)).sum + od s OD.HOUSEKEEPING_ENERGY
  let ok := g 0 % 2 ^ 64 == (g 1 + g 2 + g 3) % 2 ^ 64 && sum % 2 ^ 64 == g 1 % 2 ^ 64
  (if ok then none else some 0, [g 0, g 1, g 2, g 3, sum])

/-- The work requests of a queue pair that are posted and not completed: those started and those of its queue not started yet. -/
def openWqes (s : State) (q : Nat) : Nat :=
  let n := (qpSt s q).wqes.length
  n + (qpF s q QpCtx.SQ_PI + 65536 - (qpF s q QpCtx.SQ_CI + n) % 65536) % 65536

/-- L6: on each queue pair posted = completed + outstanding, at most 8,192 sequence numbers outstanding, and no number executed twice. Terms:
queue pair, posted, completed, outstanding, outstanding numbers, numbers executed (up to RECV_PSN and ahead of it), window bits. -/
def law6 (s : State) : LawView :=
  let qs := ((s.net.qps.map Prod.fst).filter (fun q => qpState s q != 0))
  let open_ := fun (q : Nat) => psnDiff (qpF s q QpCtx.ACK_PSN) (qpF s q QpCtx.SEND_PSN)
  let ahead := fun (q : Nat) => (qpSt s q).bitmap.length
  (qs.find? (fun q => (qpF s q QpCtx.SQ_CI + openWqes s q) % 65536 != qpF s q QpCtx.SQ_PI || decide (8192 < open_ q)
      || (qpSt s q).bitmap.eraseDups != (qpSt s q).bitmap),
    (qs.take 580).flatMap (fun q => [q, qpF s q QpCtx.SQ_PI, qpF s q QpCtx.SQ_CI, openWqes s q, open_ q,
      psnAdd (qpF s q QpCtx.RECV_PSN) (ahead q), ahead q]))

/-- The packets under a key slot neither acknowledged nor released. -/
def keyRecount (s : State) (k : Nat) : Nat := (s.net.qps.map (fun p => (p.2.sent.filter (fun x => x.slot == k)).length)).sum

/-- The rows that pin a model slot. -/
def modelRecount (s : State) (m : Nat) : Nat :=
  if rowPins s then ((List.range 32768).filter (fun r => rowState s r != 0 && rowGet s r Row.MODEL_SLOT == m)).length else 0

/-- The rows that pin a version record. -/
def versionRecount (s : State) (i : Nat) : Nat :=
  if rowPins s then ((List.range 32768).filter (fun r => rowState s r != 0 && rowGet s r Row.ADAPTER_EN == 1
    && rowGet s r Row.ADAPTER_SLOT == recF s OD.ADAPTER_VERSIONS i AdVer.SLOT
    && rowGet s r Row.ADAPTER_VER == recF s OD.ADAPTER_VERSIONS i AdVer.VERSION)).length else 0

/-- The rows that pin a grammar. -/
def grammarRecount (s : State) (g : Nat) : Nat :=
  if rowPins s then ((List.range 32768).filter (fun r => rowState s r != 0 && rowGrammar s r == some g)).length else 0

/-- R322: the packets that reference a generation and are unacknowledged. -/
def tableRecount (s : State) (t : BuiltTable) : Nat :=
  (t.refs.filter (fun r => decide (psnDiff (qpF s r.1 QpCtx.ACK_PSN) r.2 < psnDiff (qpF s r.1 QpCtx.ACK_PSN) (qpF s r.1 QpCtx.SEND_PSN)))).length

/-- L7: IN_FLIGHT of each key slot, the count of each codec generation, and PINS of each model slot, version record and grammar counted
again. -/
def law7 (s : State) : LawView :=
  let tables := s.net.codec.tables.map (fun t => (t.id * 256 + t.gen, t.refs.length, tableRecount s t))
  let keys := (List.range 256).map (fun k => (k, keyF s k KeySlot.IN_FLIGHT, if k = 0 then 0 else keyRecount s k))
  let models := (List.range 64).map (fun m => (m, recF s OD.MODEL_SLOTS m ModelSlot.PINS, modelRecount s m))
  let vers := ((List.range 4096).filter (fun i => recF s OD.ADAPTER_VERSIONS i AdVer.STATE != 0)).map (fun i =>
    (i, recF s OD.ADAPTER_VERSIONS i AdVer.PINS, versionRecount s i))
  let grams := ((List.range 4096).filter (fun g => recF s OD.GRAMMARS g Grammar.STATE != 0)).map (fun g =>
    (g, recF s OD.GRAMMARS g Grammar.PINS, grammarRecount s g))
  let all := keys ++ tables ++ models ++ vers ++ grams
  ((all.find? (fun p => p.2.1 != p.2.2)).map Prod.fst, (all.take 1300).flatMap (fun p => [p.1, p.2.1, p.2.2]))

/-- L8: ROWS_TAKEN - ROWS_FREED = ROWS_IN_USE = the rows outside FREE. -/
def law8 (s : State) : LawView :=
  let t := od s OD.ROWS_TAKEN
  let f := od s OD.ROWS_FREED
  let n := od s OD.ROWS_IN_USE
  let sum := ((span 1 9).map (odGet s OD.ROW_STATE_COUNTS)).sum
  (if (t + 2 ^ 64 - f % 2 ^ 64) % 2 ^ 64 = n ∧ n = sum then none else some 0, [t, f, n, sum])

/-- L9: the two identities of R203. -/
def law9 (s : State) : LawView :=
  let c := fun (i : Nat) => odGet s OD.CLASP_COUNTS i
  (if c 0 = c 5 + c 9 + c 7 + c 11 + c 13 ∧ c 2 = c 6 + c 8 + c 12 + c 14 then none else some 0, (List.range 15).map c)

/-- R414: the ownership record of a row. -/
def ownRow (s : State) (r : Nat) : Nat :=
  let handing := s.rows.clasp.any (fun p => crF s p.1 ClaspRec.ROW == r && crF s p.1 ClaspRec.SIDE == 1 && crF s p.1 ClaspRec.STATE == 3)
  mkRec [(OwnSnap.REQUEST_ID, rowGet s r Row.REQUEST_ID), (OwnSnap.EPOCH, rowGet s r Row.OWNER_EPOCH), (OwnSnap.KIND, b2n handing),
    (OwnSnap.STATE, rowState s r), (OwnSnap.DEVICE, ownDevice s)]

/-- R414: the ownership records of DEDUPE values of form ENDED (2) and DEPARTED (3). -/
def ownEntries (s : State) : List Nat :=
  match kindGroup s 1 with
  | none => []
  | some g =>
    (span g.1 g.2.1).flatMap (fun b => (bankEntries s b).filterMap (fun u =>
      let v := lkValue s u
      let form := getF v DedupeVal.FORM
      let rid := entryKey s u (bankWidth s b) % 2 ^ 64
      if getF (unitRec s u) LkUnit.VALID = 1 ∧ form = 3 then
        some (mkRec [(OwnSnap.REQUEST_ID, rid), (OwnSnap.EPOCH, getF v DedupeVal.EPOCH), (OwnSnap.KIND, 2),
          (OwnSnap.DEVICE, getF v DedupeVal.DEVICE)])
      else if getF (unitRec s u) LkUnit.VALID = 1 ∧ form = 2 then
        some (mkRec [(OwnSnap.REQUEST_ID, rid), (OwnSnap.KIND, 3), (OwnSnap.DEVICE, ownDevice s)])
      else none))

/-- R414: OWNER_SNAPSHOT written. -/
def ownSnapshot (s : State) : State :=
  let l := ((List.range 32768).filter (fun r => rowState s r != 0)).map (ownRow s) ++ ownEntries s
  odBlock (odClear { s with aud := { s.aud with ringCount := l.length } } OD.OWNER_SNAPSHOT) OD.OWNER_SNAPSHOT 0 l

/-- A law evaluated. One device cannot prove L10 alone: its part of it is the snapshot. -/
def lawView (s : State) (i : Nat) : LawView :=
  match i with
  | 0 => law1 s | 1 => law2 s | 2 => law3 s | 3 => law4 s | 4 => law5 s | 5 => law6 s | 6 => law7 s | 7 => law8 s | 8 => law9 s
  | _ => (none, [s.aud.ringCount])

/-- The laws of a mask. -/
def lawsOf (mask : Nat) : List Nat := (List.range 10).filter (bitOf mask)

/-- A law's result (R413): status, snapshot frame, item. -/
def lawResult (status frame item : Nat) : Nat := mkRec [(fld 63 62, status), (fld 61 30, frame), (fld 29 0, item)]

/-- R412: the snapshot of an audit: results and terms frozen, AUDIT issued for every valid class on every stack where L3 is asked for. -/
def auditSnap (s : State) (mask : Nat) : State :=
  let laws := lawsOf mask
  let s := if laws.contains 9 then ownSnapshot s else s
  let views := laws.map (fun i => (i, lawView s i))
  let s := { s with aud := { s.aud with
    running := some (mask, frameNo s),
    results := views.map (fun v => (v.1, (v.2.1.isNone, v.2.1.getD noItem))),
    terms := views.map (fun v => (v.1, v.2.2.take 4096)) } }
  let s := laws.foldl (fun t i => odPut t OD.AUDIT_RESULTS i (lawResult 1 (frameNo t) noItem)) (odSet s OD.AUDIT_STATE 2)
  if laws.contains 2 then
    ((List.range 64).filter (fun k => auditOk s (k / 8) (k % 8))).foldl (fun t k => auditStart t (k / 8) (k % 8) true) s
  else s

/-- R412: at the start of a frame the audit that waits for it, if none runs, takes its snapshot. -/
def auditTick (s : State) : State :=
  match s.aud.waiting, s.aud.running with
  | some w, none =>
    if w.2 = 0 ∨ frameLater w.2 (frameNo s) = false then auditSnap { s with aud := { s.aud with waiting := none } } w.1 else s
  | _, _ => s

/-- A write of AUDIT_REQUEST (R412): in power state IDLE no frames run, and the snapshot is taken at once. -/
def auditRequest (s : State) (v : Nat) : Wrote :=
  let mask := v % 1024
  let f := v / 2 ^ 32 % 2 ^ 32
  if f ≠ 0 ∧ frameLater f (frameNo s) = false then wBad s 4
  else if od s OD.POWER_STATE = 2 ∧ s.aud.running.isNone then wOk (auditSnap s mask)
  else
    let s := { s with aud := { s.aud with waiting := some (mask, f) } }
    wOk (if s.aud.running.isNone then odSet s OD.AUDIT_STATE 1 else s)

/-- A write of AUDIT_REQ (R143). -/
def auditReq (s : State) (v : Nat) : Wrote :=
  if auditOk s (v / 256 % 256) (v % 256) then wOk (auditStart s (v / 256 % 256) (v % 256) false) else wBad s 4

/-- AUDIT_WALK_DONE (R143, R412): a walk ends and is reported; one of law L3 adds to that law's result. -/
def execAuditWalkDone (cls stack : Nat) (s : State) : Res :=
  answer s (
    match s.pool.walks.find? (fun w => w.cls == cls && w.stack == stack) with
    | none => s
    | some _ =>
      let law := s.pool.walks.any (fun w => w.cls == cls && w.stack == stack && w.law)
      let x := walkEnd s cls stack
      let ok := x.2.1 && x.2.2.isNone
      if law ∧ ok = false then
        { x.1 with aud := { x.1.aud with results := x.1.aud.results.map (fun r =>
            if r.1 = 2 ∧ r.2.1 = true then (2, (false, cls * 8 + stack)) else r) } }
      else x.1)

/-- AUDIT_DONE (R411, R413): results and terms are published; a mismatch is counted and raises AUDIT_MISMATCH (bit 10). With L3 the audit
ends when its last walk has. In IDLE a request that waited takes its snapshot now. -/
def execAuditDone (s : State) : Res :=
  answer s (
    match s.aud.running with
    | none => s
    | some a =>
      if s.pool.walks.any (fun w => w.law) then s
      else
        let s := s.aud.results.foldl (fun t r =>
          let t := odPut t OD.AUDIT_RESULTS r.1 (lawResult (if r.2.1 then 2 else 3) a.2 r.2.2)
          if r.2.1 then t else alert (odAdd t OD.AUDIT_FAILS r.1 1) 10) s
        let s := s.aud.terms.foldl (fun t x =>
          odBlock t OD.AUDIT_TERMS (4096 * x.1) (x.2 ++ List.replicate (4096 - x.2.length) 0)) s
        let s := { s with aud := { s.aud with running := none, results := [], terms := [] } }
        match s.aud.waiting with
        | none => odSet s OD.AUDIT_STATE 3
        | some w =>
          if od s OD.POWER_STATE = 2 then auditSnap { s with aud := { s.aud with waiting := none } } w.1 else odSet s OD.AUDIT_STATE 1)

end Sys2Proof.Machine
end

