-- ==== Sys2Proof/Machine/Flags.lean ====
section
/-! DEFINITION. The sticky flags of a core step (R66) and how results set them. -/

namespace Sys2Proof.Machine

/-- Flags ORed into a core's sticky flags (R66). -/
def orFlags (cs : CoreSt) (f : SFlags) : CoreSt :=
  { cs with nanOut := cs.nanOut || f.nanOut, infOut := cs.infOut || f.infOut, sat := cs.sat || f.sat,
            intSat := cs.intSat || f.intSat, kvClip := cs.kvClip || f.kvClip }

/-- A core's sticky flags. -/
def coreFlags (cs : CoreSt) : SFlags := ⟨cs.nanOut, cs.infOut, cs.sat, cs.intSat, cs.kvClip⟩

/-- The flags a value written sets: NaN and infinite results (R60). -/
def valFlags (v : Val) : SFlags :=
  match v with
  | .nan => { SFlags.none with nanOut := true }
  | .inf _ => { SFlags.none with infOut := true }
  | .fin _ _ _ => SFlags.none

/-- The flags of a conversion: a result that is NaN or infinite, and SAT (R66). INT8 and INT32 have neither NaN nor infinity. -/
def convFlags (fmt : Nat) (r : Nat × Bool) : SFlags :=
  SFlags.or (if fmt = 5 ∨ fmt = 6 then SFlags.none else valFlags (decodeFmt fmt r.1)) { SFlags.none with sat := r.2 }

/-- Flags of several results ORed. -/
def flagsOf (l : List SFlags) : SFlags := l.foldl SFlags.or SFlags.none

end Sys2Proof.Machine
end

