-- ==== Sys2Proof/Machine/Operands.lean ====
section
/-! DEFINITION. The operand forms of core ops (R71, R72, R77 to R79): where an operand lies, how its elements and scales are read and
how results are stored. Log 20 gives the layout readings.
Choices of the model here, by the assumption log: log 20 (DEDUCED). -/

namespace Sys2Proof.Machine

/-- An operand's place: window memory or accumulator, and its first 16-byte unit. -/
structure Opnd where
  accum : Bool
  unit : Nat
  deriving DecidableEq, Repr

/-- R78: the place an operand field names. -/
def opndOf (cs : CoreSt) (accum : Bool) (field : Nat) : Opnd :=
  let a := cs.ad.getD (field / 2 ^ 17) 0
  if accum then ⟨true, (a % 2 ^ 14 + field % 2 ^ 17) % 2 ^ 14⟩ else ⟨false, (a % 2 ^ 17 + field % 2 ^ 17) % 2 ^ 17⟩

/-- Byte `k` of an operand; addresses past the end wrap (R78). -/
def opByte (s : State) (c : Nat) (o : Opnd) (k : Nat) : Byte :=
  if o.accum then
    BitVec.ofNat 8 (kget s.acc (c * 65536 + (o.unit * 4 + k / 4) % 65536) 0 / 256 ^ (k % 4))
  else memByte s (windowBase c + (o.unit * 16 + k) % 2 ^ 21)

/-- `n` bytes of an operand from byte `k`. -/
def opBytes (s : State) (c : Nat) (o : Opnd) (k n : Nat) : List Byte := (span k n).map (opByte s c o)

/-- `n` bits of an operand from bit `b` (R7). -/
def opBits (s : State) (c : Nat) (o : Opnd) (b n : Nat) : Nat :=
  leNat (opBytes s c o (b / 8) ((b % 8 + n + 7) / 8)) / 2 ^ (b % 8) % 2 ^ n

/-- Byte `k` of an operand stored. -/
def opSetByte (s : State) (c : Nat) (o : Opnd) (k : Nat) (v : Byte) : State :=
  if o.accum then
    let w := c * 65536 + (o.unit * 4 + k / 4) % 65536
    { s with acc := kputD s.acc w (setF (kget s.acc w 0) (fld (8 * (k % 4) + 7) (8 * (k % 4))) v.toNat) 0 }
  else memSet s (windowBase c + (o.unit * 16 + k) % 2 ^ 21) v

/-- Bytes of an operand stored from byte `k` on. -/
def opWrite (s : State) (c : Nat) (o : Opnd) (k : Nat) (bs : List Byte) : State :=
  (bs.zipIdx k).foldl (fun t p => opSetByte t c o p.2 p.1) s

/-- `n` bits of an operand from bit `b` stored; the bits beside them stay. -/
def opSetBits (s : State) (c : Nat) (o : Opnd) (b n v : Nat) : State :=
  let len := (b % 8 + n + 7) / 8
  let old := leNat (opBytes s c o (b / 8) len)
  opWrite s c o (b / 8) (leBytes len (setF old (fld (b % 8 + n - 1) (b % 8)) v))

/-- R78: a format code as an operand in the accumulator takes it: FP32 or INT32 whatever the field says. -/
def accFmt (accum : Bool) (f : Nat) : Nat := if accum then (if f = 6 then 6 else 0) else f

/-- R79: the 16-byte units a row of `y` elements takes, rows starting on 16-byte boundaries. -/
def rowUnits (f y : Nat) : Nat := cdiv (y * fmtBits f) 128

/-- The bit at which element (i, j) of an operand with rows of `y` elements begins. -/
def elemBit (f y i j : Nat) : Nat := 128 * rowUnits f y * i + fmtBits f * j

/-- The code of element (i, j). -/
def elemCode (s : State) (c : Nat) (o : Opnd) (f y i j : Nat) : Nat := opBits s c o (elemBit f y i j) (fmtBits f)

/-- The FP32 bits of element (i, j) of a format 0x0 to 0x6 (R63: exact, INT32 rounded). -/
def elemF32 (s : State) (c : Nat) (o : Opnd) (f y i j : Nat) : Nat :=
  if f = 0 then elemCode s c o f y i j else toF32 (decodeFmt f (elemCode s c o f y i j))

/-- Is a format code an MX one (R77)? -/
def isMx (f : Nat) : Bool := decide (7 ≤ f) && decide (f ≤ 12)

/-- Rows of an MX operand are padded to whole blocks by their producer (R50). -/
def mxRow (f y : Nat) : Nat := if isMx f then cdiv y 32 * 32 else y

/-- R79: the E8M0 scale number `k` of an MX operand stored as `rows` rows of `y` elements: the scale array follows the elements at the
next 16-byte boundary. -/
def mxScale (s : State) (c : Nat) (o : Opnd) (f rows y k : Nat) : Nat := (opByte s c o (16 * rowUnits f y * rows + k)).toNat

/-- A place `n` units on. -/
def opShift (o : Opnd) (n : Nat) : Opnd :=
  if o.accum then ⟨true, (o.unit + n) % 2 ^ 14⟩ else ⟨false, (o.unit + n) % 2 ^ 17⟩

/-- R67, R87: the draw r of element `e` of the op a core executes. -/
def srDraw (cs : CoreSt) (e : Nat) : Nat := philox cs.seed e cs.executed 0 0 % 65536

/-- R67: the rounding an op word selects for element `e`: RNE, or stochastic with its draw. -/
def rndOf (cs : CoreSt) (w e : Nat) : Option Nat := if getF w OpWord.RND = 1 then some (srDraw cs e) else none

/-- Rows of FP32 results converted to a format and stored, each row from a 16-byte boundary: the state and the flags (R66). -/
def storeRows (s : State) (c : Nat) (cs : CoreSt) (w : Nat) (o : Opnd) (f : Nat) (rows : List (List Nat)) : State × SFlags :=
  let y := (rows.headD []).length
  rows.zipIdx.foldl (fun acc r =>
    let codes := r.1.zipIdx.map (fun p => encodeFmt f (rndOf cs w (r.2 * y + p.2)) (getF w OpWord.SAT == 1) p.1)
    let v := (codes.zipIdx.map (fun p => p.1.1 % 2 ^ fmtBits f * 2 ^ (fmtBits f * p.2))).sum
    (opSetBits acc.1 c o (128 * rowUnits f y * r.2) (fmtBits f * y) v,
      SFlags.or acc.2 (flagsOf (codes.map (convFlags f))))) (s, SFlags.none)

/-- Rows of whole bytes stored, each row from a 16-byte boundary. -/
def storeUnits (s : State) (c : Nat) (o : Opnd) (rows : List (List Byte)) : State :=
  let u := cdiv (rows.headD []).length 16
  rows.zipIdx.foldl (fun t r => opWrite t c o (16 * u * r.2) r.1) s

end Sys2Proof.Machine
end

