-- ==== Sys2Proof/Machine/Cores.lean ====
section
/-! DEFINITION. Chapter 04: RUN and CTX steps and the completion of core steps. Ending statuses are those of R95: 1 BAD_FORMAT,
2 ROLE_CLOSED, 3 BAD_PROGRAM, 4 BAD_OP, 5 MEM_ERROR, 6 FAULT. The ops themselves are in CoreOps.lean.
Choices of the model here, by the assumption log: log 68 (DESIGN CHOICE); log 20, 64 (DEDUCED). -/

namespace Sys2Proof.Machine

/-- A core. -/
def coreOf (s : State) (c : Nat) : CoreSt := kget s.cores c CoreSt.reset
/-- A core set. -/
def setCore (s : State) (c : Nat) (cs : CoreSt) : State := { s with cores := kput s.cores c cs }
/-- The core a unit key names. -/
abbrev coreUnit (c : Nat) : Nat := unitKey 1 c

/-- R95: the status a step completes with: the first ending status it met, else MEM_ERROR where R84 applied, else OK. -/
def coreStatus (cs : CoreSt) : Nat := if cs.status ≠ 0 then cs.status else if cs.failAddr.isSome then 5 else 0

/-- R95: the completion record of a core step; FAIL_ADDR holds the low 42 bits of an address (log 68). -/
def coreRecord (s : State) (c : Nat) (f : Flight) (cs : CoreSt) : Nat :=
  mkRec [(CoreComp.FRAME, f.frame), (CoreComp.STEP_SLOT, f.slot), (CoreComp.CORE, c), (CoreComp.STATUS, coreStatus cs),
    (CoreComp.OP_INDEX, cs.opIndex), (CoreComp.CARRIED, b2n f.carried), (CoreComp.FLAGS5, (coreFlags cs).bits),
    (CoreComp.WAIT_EXPIRED, b2n cs.waitExpired), (CoreComp.PROG_CACHED, b2n cs.cached), (CoreComp.CLOCKS, compClocks s f),
    (CoreComp.DROPPED, satBits 32 cs.dropped), (CoreComp.FAIL_ADDR, cs.failAddr.getD 0)]

/-- The counts a completed core step advances (0x5020.01 to 0x5020.08). -/
def coreCounts (s : State) (cs : CoreSt) : State :=
  let st := coreStatus cs
  let s := if cs.nanOut then odInc s OD.NAN_STEPS else s
  let s := if cs.sat || cs.intSat then odInc s OD.SAT_STEPS else s
  let s := if st = 1 then odInc s OD.BAD_FORMAT_STEPS else s
  let s := odAdd s OD.DROPPED_ASSIGNMENTS 0 cs.dropped
  let s := if cs.waitExpired then odInc s OD.WAIT_EXPIRED_STEPS else s
  let s := if st = 5 then odInc s OD.MEM_ERROR_STEPS else s
  let s := if st = 3 then odInc s OD.BAD_PROGRAM_STEPS else s
  if st = 4 then odInc s OD.BAD_OP_STEPS else s

/-- R85, R95: a core step completes: its record, its counts, the core free again with its instruction buffer kept. -/
def coreEnd (s : State) (c : Nat) (f : Flight) (cs : CoreSt) (how : StepEnd) : State :=
  let s := ringPush (coreCounts s cs) OD.CORE_COMPLETION_RING (coreRecord s c f cs)
  finishStep (setCore s c { CoreSt.reset with buffer := cs.buffer }) (coreUnit c) how

/-- A step that ends before its first op, having touched nothing. -/
def coreRefuse (s : State) (c : Nat) (f : Flight) (status opIndex : Nat) (fail : Option Nat) (cached : Bool) : State :=
  coreEnd s c f { coreOf s c with status := status, opIndex := opIndex, failAddr := fail, cached := cached }
    (if status = 5 then .unread else .untouched)

/-! RUN (R73 to R76). -/

/-- R75: is an opcode defined (R81)? -/
def opDefined (op : Nat) : Bool :=
  decide (op ≤ 6) || (decide (8 ≤ op) && decide (op ≤ 0x0A)) || (decide (0x10 ≤ op) && decide (op ≤ 0x13)) || op == 0x20 || op == 0x21
  || (decide (0x30 ≤ op) && decide (op ≤ 0x38)) || (decide (0x40 ≤ op) && decide (op ≤ 0x43)) || op == 0x48
  || (decide (0x50 ≤ op) && decide (op ≤ 0x53)) || op == 0x58 || op == 0x60 || op == 0x61 || op == 0x71

/-- The LOOP ops of a program: index and index of the last op of the body. -/
def progLoops (ws : List Nat) : List (Nat × Nat) :=
  ws.zipIdx.filterMap (fun p => if getF p.1 OpWord.OP = 2 then some (p.2, p.2 + getF p.1 OpWord.Y) else none)

/-- R75, check 3: does the op word at `k` fail? -/
def opWordFails (ws : List Nat) (loops : List (Nat × Nat)) (k w : Nat) : Bool :=
  let enclosing := loops.filter (fun l => decide (l.1 < k) && decide (k ≤ l.2))
  !opDefined (getF w OpWord.OP) || decide (2 ≤ getF w OpWord.RND)
  || (getF w OpWord.OP == 0x48 && decide (5 < getF w OpWord.SEL))
  || (k + 1 == ws.length && getF w OpWord.OP != 1)
  || (getF w OpWord.OP == 2
      && (decide (ws.length ≤ k + getF w OpWord.Y) || enclosing.any (fun l => decide (l.2 < k + getF w OpWord.Y))
          || decide (4 ≤ enclosing.length)))

/-- R75, check 3: the first op word that fails. -/
def progBad (ws : List Nat) : Option Nat :=
  let loops := progLoops ws
  (ws.zipIdx.find? (fun p => opWordFails ws loops p.2 p.1)).map Prod.snd

/-- R75, check 4: the first op that rounds stochastically. -/
def progRnd (ws : List Nat) : Option Nat := (ws.zipIdx.find? (fun p => getF p.1 OpWord.RND == 1)).map Prod.snd

/-- Programs, most recently used first, kept within four programs and 4,096 words: the least recently used leave first (R76). -/
def bufferTrim : List Prog → Nat → Nat → List Prog
  | [], _, _ => []
  | p :: t, n, words =>
    if n < 4 ∧ words + p.words.length ≤ 4096 then p :: bufferTrim t (n + 1) (words + p.words.length) else []

/-- R76: a program made the most recently used of the buffer. -/
def bufferPut (b : List Prog) (p : Prog) : List Prog :=
  bufferTrim (p :: b.filter (fun q => !(q.addr == p.addr && q.tag == p.tag))) 0 0

/-- R73, R75: does PROG_ADDR lie in the program region? -/
def inProgRegion (s : State) (a : Nat) : Bool :=
  decide (od s OD.PROG_REGION_BASE ≤ a) && decide (a < od s OD.PROG_REGION_BASE + od s OD.PROG_REGION_SIZE)

/-- A number's `n` words of 128 bits, first word lowest. -/
def opWords (n v : Nat) : List Nat := (List.range n).map (fun i => v / 2 ^ (128 * i) % 2 ^ 128)

/-- R75 check 3 and 4, and the start: a program that is in the buffer runs from its first op. -/
def runStart (s : State) (c : Nat) (f : Flight) (desc : Nat) (ws : List Nat) (cached : Bool) : State :=
  match progBad ws with
  | some k => coreRefuse s c f 3 k none cached
  | none =>
    match (if role s = 5 then none else progRnd ws) with
    | some k => coreRefuse s c f 2 k none cached
    | none =>
      setCore s c { CoreSt.reset with
        running := true, words := ws, cached := cached, seed := getF desc RunDesc.SEED,
        pr := (List.range 16).map (fun i => getF desc (fld (64 * i + 575) (64 * i + 512))), buffer := (coreOf s c).buffer }

/-- R75 checks 1 and 2: the program found in the buffer, or its header checked and the program loaded. -/
def runLoad (s : State) (c : Nat) (f : Flight) (desc : Nat) : State :=
  let a := getF desc RunDesc.PROG_ADDR
  let tag := getF desc RunDesc.PROG_TAG
  let cs := coreOf s c
  if inProgRegion s a = false then coreRefuse s c f 3 0xFFFF none false
  else match cs.buffer.find? (fun p => p.addr == a && p.tag == tag) with
    | some p =>
      let s := setCore (odInc s OD.PROG_CACHE_HITS) c { cs with buffer := bufferPut cs.buffer p }
      runStart s c f desc p.words true
    | none =>
      let h := readRec s (stepReader f) a 64
      let s := h.1
      if h.2.2.1 ≠ 0 then coreRefuse s c f 5 0xFFFF (some h.2.2.2) false
      else
        let n := getF h.2.1 ProgHdr.OP_WORDS
        if getF h.2.1 ProgHdr.HDR_VERSION ≠ 1 ∨ n = 0 ∨ 4096 < n ∨ getF h.2.1 ProgHdr.PROG_TAG ≠ tag then
          coreRefuse s c f 3 0xFFFF none false
        else
          let r := readRec s (stepReader f) (a + 64) (16 * n)
          let s := r.1
          if r.2.2.1 ≠ 0 then coreRefuse s c f 5 0xFFFF (some r.2.2.2) false
          else
            let p : Prog := ⟨a, tag, opWords n r.2.1⟩
            let s := setCore (odInc s OD.PROG_LOADS) c { cs with buffer := bufferPut cs.buffer p }
            runStart s c f desc p.words false

/-- RUN (R73, R75, R475): the RUN step in flight on a core reads its descriptor, is checked and starts. A CORE step with an opcode
other than RUN and CTX ends at once with BAD_OP; a step on a core that has been fenced ends with FAULT (R426). -/
def execRun (core : Nat) (s : State) : Res :=
  answer s (match flightOn s (coreUnit core) with
    | none => s
    | some f =>
      let op := getF f.step StepRec.OPCODE
      if (coreOf s core).running || op == 2 then s
      else if odGet s OD.CORE_MAP core = 3 then
        coreEnd s core f { coreOf s core with status := 6, opIndex := 0xFFFF } .fault
      else if op ≠ 1 then coreRefuse s core f 4 0xFFFF none false
      else
        let d := readRec s (stepReader f) (getF f.step StepRec.DESC_ADDR) 192
        if d.2.2.1 ≠ 0 then coreRefuse d.1 core f 5 0xFFFF (some d.2.2.2) false
        else runLoad d.1 core f d.2.1)

/-! CTX (R93, R94). -/

/-- Window range `i` of a packed list of four: first unit and length. -/
def ctxRange (packed i : Nat) : Nat × Nat :=
  let r := packed / 2 ^ (35 * (3 - i)) % 2 ^ 35
  (r / 2 ^ 18, r % 2 ^ 18)

/-- The ranges a count names, at most four. -/
def ctxRanges (packed n : Nat) : List (Nat × Nat) := (List.range (min n 4)).map (ctxRange packed)

/-- The bytes of window ranges and accumulator rows, in the order of a save area. -/
def ctxGather (s : State) (c : Nat) (ranges : List (Nat × Nat)) (first rows : Nat) : List Byte :=
  ranges.flatMap (fun r => opBytes s c ⟨false, r.1⟩ 0 (16 * r.2)) ++ opBytes s c ⟨true, 32 * first⟩ 0 (512 * rows)

/-- Bytes in the order of a save area stored in window ranges and accumulator rows. -/
def ctxScatter (s : State) (c : Nat) (first rows : Nat) : List (Nat × Nat) → List Byte → State
  | [], bs => opWrite s c ⟨true, 32 * first⟩ 0 (bs.take (512 * rows))
  | r :: t, bs => ctxScatter (opWrite s c ⟨false, r.1⟩ 0 (bs.take (16 * r.2))) c first rows t (bs.drop (16 * r.2))

/-- Window memory and accumulator of a core zeroed (R70, R94). -/
def coreZero (s : State) (c : Nat) : State :=
  let s := memZero s (windowBase c) 0x200000
  { s with acc := kerase s.acc (c * 65536) 65536, ft := { s.ft with patterned := s.ft.patterned.filter (· != c) } }

/-- Does a window range take in unit `u` (R78: ranges wrap)? -/
def rangeHas (r : Nat × Nat) (u : Nat) : Bool := decide ((u + 2 ^ 17 - r.1 % 2 ^ 17) % 2 ^ 17 < r.2)

/-- Do ranges take in some window unit twice? -/
def rangesLap : List (Nat × Nat) → Bool
  | [] => false
  | r :: t => decide (2 ^ 17 < r.2) || t.any (fun q => (decide (0 < q.2) && rangeHas r q.1) || (decide (0 < r.2) && rangeHas q r.1)) || rangesLap t

/-- The window units that ranges take in more than once. -/
def lapUnits (l : List (Nat × Nat)) : List Nat :=
  if rangesLap l then
    (List.range (2 ^ 17)).filter (fun u => 1 < (l.map (fun r => b2n (rangeHas r u) + b2n (rangeHas (r.1, r.2 - 2 ^ 17) u))).sum)
  else []

/-- R94: restored units that the ranges take in twice: the spec does not order the ranges, and the units' bytes are free. -/
def lapFree (s : State) (c : Nat) (l : List (Nat × Nat)) : State :=
  (lapUnits l).foldl (fun t u =>
    let fr := takeBytes t 16
    opWrite fr.2 c ⟨false, u⟩ 0 fr.1) s

/-- CTX (R93, R94): saved units are read before restored data are written; where the two areas in memory overlap, the spec does not
order the two streams and the bytes restored from there are free. -/
def ctxRun (s : State) (c : Nat) (f : Flight) (d : Nat) : State :=
  let rd := stepReader f
  let sr := ctxRanges (getF d CtxDesc.SAVE_RANGE_0) (getF d CtxDesc.SAVE_N)
  let rr := ctxRanges (getF d CtxDesc.RESTORE_RANGE_0) (getF d CtxDesc.RESTORE_N)
  let sf := getF d CtxDesc.ACC_SAVE_FIRST
  let sn := getF d CtxDesc.ACC_SAVE_ROWS
  let rf := getF d CtxDesc.ACC_RESTORE_FIRST
  let rn := getF d CtxDesc.ACC_RESTORE_ROWS
  let saved := (sr.map (fun r => 16 * r.2)).sum + 512 * sn
  let restored := (rr.map (fun r => 16 * r.2)).sum + 512 * rn
  if 2359296 < saved ∨ 2359296 < restored ∨ 512 < sf + sn ∨ 512 < rf + rn then coreRefuse s c f 4 0xFFFF none false
  else
    let sa := getF d CtxDesc.SAVE_ADDR
    let ra := getF d CtxDesc.RESTORE_ADDR
    let w := agentWrite s true rd sa (ctxGather s c sr sf sn)
    let r := readMem w.1 true rd ra restored
    let fr := takeBytes r.1 restored
    let lap := meets sa saved ra restored
    let s := if lap then fr.2 else r.1
    let bs := if lap then (fr.1.zip r.2.1).zipIdx.map (fun p => if sa ≤ ra + p.2 ∧ ra + p.2 < sa + saved then p.1.1 else p.1.2) else r.2.1
    let s := if getF d CtxDesc.ZERO_REST = 1 then coreZero s c else s
    let s := lapFree (ctxScatter s c rf rn rr bs) c rr
    let fail := if w.2.1 ≠ 0 then some w.2.2 else if r.2.2.1 ≠ 0 then some r.2.2.2 else none
    let s := odAdd (odInc s OD.CTX_SWITCHES) OD.CTX_CLK_TOTAL 0 (s.clk - f.issued)
    coreEnd s c f { coreOf s c with opIndex := 0xFFFF, failAddr := fail } .done

/-- CTX (R93, R475): the CTX step in flight on a core. -/
def execCtx (core : Nat) (s : State) : Res :=
  answer s (match flightOn s (coreUnit core) with
    | none => s
    | some f =>
      if getF f.step StepRec.OPCODE ≠ 2 then s
      else if odGet s OD.CORE_MAP core = 3 then
        coreEnd s core f { coreOf s core with status := 6, opIndex := 0xFFFF } .fault
      else
        let d := readRec s (stepReader f) (getF f.step StepRec.DESC_ADDR) 64
        if d.2.2.1 ≠ 0 then coreRefuse d.1 core f 5 0xFFFF (some d.2.2.2) false
        else ctxRun d.1 core f d.2.1)

/-! Asynchronous accesses (R83, R84) and the end of a step (R85). -/

/-- A tray physical address in the own slot that lies in the window memory of another core: a WSTORE has no path there (R70). -/
def foreignWindow (s : State) (c a : Nat) : Bool :=
  paSlot a == ownSlot s && decide (windowBase 0 ≤ paOff a) && decide (paOff a < windowBase 200)
    && !(decide (windowBase c ≤ paOff a) && decide (paOff a < windowBase (c + 1)))

/-- The pieces of a core's access: lines of own memory, the parts of R278 elsewhere. -/
def corePieces (s : State) (a n : Nat) : List (Nat × Nat) :=
  if paSlot a = ownSlot s ∧ inWindow (paOff a) = false ∧ inApertures (paOff a) = false then pieces a n else accessParts s a n

/-- The pieces of one range started: `off` is the range's place in the window range, `data` the bytes of a store. -/
def startParts (s : State) (c : Nat) (f : Flight) (store : Bool) (a n off : Nat) (data : List Byte) : State × List AsyncPart :=
  (corePieces s a n).foldl (fun acc p =>
    let o := off + (p.1 - a)
    if store && foreignWindow acc.1 c p.1 then (acc.1, acc.2 ++ [⟨0, p.1, p.2, o, true, 3, []⟩])
    else
      let r := accessStart acc.1 (.core c) (stepReader f) (if store then 1 else 0) (p.1 % 2 ^ 47) p.2
        ((data.drop (p.1 - a)).take p.2) 0 0 0
      (r.1, acc.2 ++ [⟨r.2, p.1 % 2 ^ 47, p.2, o, false, 0, []⟩])) (s, [])

/-- The answers that have come in taken for the pieces of an access. -/
def takeParts (s : State) (parts : List AsyncPart) : State × List AsyncPart :=
  parts.foldl (fun acc p =>
    if p.done then (acc.1, acc.2 ++ [p])
    else
      let r := takeResult acc.1 p.acc
      match r.2 with
      | none => (r.1, acc.2 ++ [p])
      | some v => (r.1, acc.2 ++ [{ p with done := true, status := v.1, data := v.2 }])) (s, [])

/-- The first failing address of an access's pieces (R84). -/
def partsFail (parts : List AsyncPart) : Option Nat := (parts.find? (fun p => p.status != 0)).map AsyncPart.addr

/-- The bytes of a load's pieces put in window memory: a failed piece's units zero (R84). -/
def partsFill (s : State) (c : Nat) (win : Nat) (parts : List AsyncPart) : State :=
  parts.foldl (fun t p =>
    opWrite t c ⟨false, win / 16⟩ p.off
      (p.data.take p.len ++ List.replicate (p.len - p.data.length) 0)) s

/-- The first failing address noted (R84). -/
def noteFail (cs : CoreSt) (fail : Option Nat) : CoreSt :=
  if cs.failAddr.isSome then cs else { cs with failAddr := fail }

/-- ASYNC_OP_COMPLETE (R83, R84): outstanding access `k` of a core, oldest first, finishes where every answer has come in. -/
def execAsyncOpComplete (core k : Nat) (s : State) : Res :=
  answer s (
    let cs := coreOf s core
    match cs.asyncs[k]? with
    | none => s
    | some a =>
      let r := takeParts s a.parts
      let s := r.1
      if r.2.all AsyncPart.done then
        let s := if a.store then s else partsFill s core a.win r.2
        setCore s core (noteFail { cs with asyncs := cs.asyncs.eraseIdx k } (partsFail r.2))
      else setCore s core { cs with asyncs := cs.asyncs.set k { a with parts := r.2 } })

/-- CORE_STEP_COMPLETE (R85, R426): a RUN step whose program has ended and whose asynchronous ops have finished completes; with
FAULT it posts no event. -/
def execCoreStepComplete (core : Nat) (s : State) : Res :=
  answer s (match flightOn s (coreUnit core) with
    | none => s
    | some f =>
      let cs := coreOf s core
      if cs.running && cs.ended && cs.asyncs.isEmpty then
        coreEnd s core f cs (if cs.status = 6 then .fault else .done)
      else s)

/-- R426, R427: the step running on a core will complete with FAULT once its asynchronous ops have finished. -/
def coreFault (s : State) (c : Nat) : State :=
  let cs := coreOf s c
  if cs.running then
    setCore s c { cs with ended := true, reduce := none, status := if cs.status = 0 then 6 else cs.status,
                          opIndex := if cs.status = 0 then 0xFFFF else cs.opIndex }
  else match flightOn s (coreUnit c) with
    | some f => coreEnd s c f { cs with status := 6, opIndex := 0xFFFF } .fault
    | none => s

end Sys2Proof.Machine
end

