-- ==== Sys2Proof/Machine/CoreOps.lean ====
section
/-! DEFINITION. Chapter 04: the ops of step programs (R77 to R92). A command names a core; the op runs where the core's program is at
a word of that opcode, and otherwise nothing changes.
Choices of the model here, by the assumption log: log 13, 67, 68 (DESIGN CHOICE); log 14, 20, 65 (DEDUCED). -/

namespace Sys2Proof.Machine

/-! Sequencing. -/

/-- R80: the op after the one at `at_`: a loop whose body ends there repeats, or is left. -/
def nextPc : List LoopSt → Nat → Nat × List LoopSt
  | [], a => (a + 1, [])
  | l :: t, a =>
    if l.last = a then (if 0 < l.left then (l.first, { l with left := l.left - 1 } :: t) else nextPc t a)
    else (a + 1, l :: t)

/-- The op at `a` counted as executed and the next one reached. -/
def stepPast (cs : CoreSt) (a : Nat) : CoreSt :=
  let n := nextPc cs.loops a
  { cs with pc := n.1, loops := n.2, executed := cs.executed + 1, waitFrom := none }

/-- The op at pc done. -/
def opDone (s : State) (c : Nat) (cs : CoreSt) : State := setCore s c (stepPast cs cs.pc)

/-- R82: the step ends at the op at pc with a status. -/
def opStop (s : State) (c : Nat) (cs : CoreSt) (status : Nat) : State :=
  setCore s c { cs with ended := true, status := status, opIndex := cs.pc }

/-- The op word at pc of a core whose program runs and has opcode `op` there. -/
def opAt (s : State) (c op : Nat) : Option (Flight × Nat) :=
  match flightOn s (coreUnit c) with
  | none => none
  | some f =>
    let cs := coreOf s c
    let w := cs.words.getD cs.pc 0
    if cs.running && !cs.ended && getF w OpWord.OP == op then some (f, w) else none

/-- An op run where the program is at it: `body` gets the core and the op word. -/
def opRun (s : State) (c op : Nat) (body : Flight → CoreSt → Nat → State) : Res :=
  answer s (match opAt s c op with
    | none => s
    | some p => body p.1 (coreOf s c) p.2)

/-- X:Y as a 32-bit immediate. -/
def immOf (w : Nat) : Nat := getF w OpWord.X * 65536 + getF w OpWord.Y

/-- The parameter register SEL names, `k` on (R81: SEL + 1 is taken mod 16). -/
def paramOf (cs : CoreSt) (w k : Nat) : Nat := cs.pr.getD ((getF w OpWord.SEL + k) % 16) 0

/-! Control ops. -/

/-- NOP (R81). -/
def execNop (core : Nat) (s : State) : Res := opRun s core 0x00 (fun _ cs _ => opDone s core cs)

/-- END (R81, R83): the program ends once every asynchronous op has finished. -/
def execEndOp (core : Nat) (s : State) : Res :=
  opRun s core 0x01 (fun _ cs _ =>
    if cs.asyncs.isEmpty then setCore s core { cs with ended := true, opIndex := 0xFFFF, executed := cs.executed + 1 } else s)

/-- LOOP (R80): the body of Y words runs as often as X, or a parameter's low 16 bits, says; 0 skips it. -/
def execLoop (core : Nat) (s : State) : Res :=
  opRun s core 0x02 (fun _ cs w =>
    let y := getF w OpWord.Y
    let n := if getF w OpWord.FLAG = 1 then paramOf cs w 0 % 65536 else getF w OpWord.X
    if n = 0 ∨ y = 0 then setCore s core (stepPast cs (cs.pc + y))
    else setCore s core { cs with pc := cs.pc + 1, executed := cs.executed + 1, waitFrom := none,
                                  loops := ⟨cs.pc + 1, cs.pc + y, n - 1⟩ :: cs.loops })

/-- SETAD (R81). -/
def execSetad (core : Nat) (s : State) : Res :=
  opRun s core 0x03 (fun _ cs w => opDone s core { cs with ad := lset cs.ad (getF w OpWord.SEL) (immOf w) })

/-- ADDAD (R81). -/
def execAddad (core : Nat) (s : State) : Res :=
  opRun s core 0x04 (fun _ cs w =>
    let k := getF w OpWord.SEL
    opDone s core { cs with ad := lset cs.ad k ((cs.ad.getD k 0 + immOf w) % 2 ^ 32) })

/-- ADDP (R81): the immediate is sign-extended to 64 bits. -/
def execAddp (core : Nat) (s : State) : Res :=
  opRun s core 0x05 (fun _ cs w =>
    let k := getF w OpWord.SEL
    opDone s core { cs with pr := lset cs.pr k ((cs.pr.getD k 0 + ofInt 64 (sext 32 (immOf w))) % 2 ^ 64) })

/-- MOVPA (R81). -/
def execMovpa (core : Nat) (s : State) : Res :=
  opRun s core 0x06 (fun _ cs w =>
    opDone s core { cs with ad := lset cs.ad (getF w OpWord.SEL) (cs.pr.getD (getF w OpWord.X % 16) 0 % 2 ^ 32) })

/-- EVT_POST (R86, R33): after every earlier op has finished; a carried step's has no effect (R39). -/
def execEvtPost (core : Nat) (s : State) : Res :=
  opRun s core 0x08 (fun f cs w =>
    if cs.asyncs.isEmpty then
      opDone (if f.carried then s else postEvent s (getF w OpWord.X % 4096)) core cs
    else s)

/-- R86: has the EVT_WAIT at pc ended, and at its limit? Whichever of the event and the limit, Y × 64 clk after the wait began, came first
ends it; at the same clk the event does (DESIGN CHOICE, log 68). A carried step's wait is not ended by an event. -/
def waitEnds (s : State) (f : Flight) (cs : CoreSt) (w : Nat) : Option Bool :=
  let limit := cs.waitFrom.getD s.clk + 64 * getF w OpWord.Y
  let posted := match kfind s.frm.events (getF w OpWord.X % 4096) with
    | some c => !f.carried && decide (c ≤ s.clk) && decide (c ≤ limit)
    | none => false
  if posted then some false else if limit ≤ s.clk then some true else none

/-- The EVT_WAIT at pc done where it has ended. -/
def waitDone (s : State) (core : Nat) (cs : CoreSt) (ends : Option Bool) : State :=
  match ends with
  | some x => opDone s core { cs with waitExpired := cs.waitExpired || x }
  | none => s

/-- EVT_WAIT (R86): begins, and ends as soon as its event or its limit has come. -/
def execEvtWait (core : Nat) (s : State) : Res :=
  opRun s core 0x09 (fun f cs w =>
    let cs := { cs with waitFrom := some (cs.waitFrom.getD s.clk) }
    waitDone (setCore s core cs) core cs (waitEnds s f cs w))

/-- EVT_WAIT_EXPIRE (R86): a wait that has begun ends at its limit, Y × 64 clk after it began, unless its event came first. -/
def execEvtWaitExpire (core : Nat) (s : State) : Res :=
  opRun s core 0x09 (fun f cs w => if cs.waitFrom.isNone then s else waitDone s core cs (waitEnds s f cs w))

/-- FENCE (R81, R83). -/
def execFenceOp (core : Nat) (s : State) : Res :=
  opRun s core 0x0A (fun _ cs _ => if cs.asyncs.isEmpty then opDone s core cs else s)

/-! Loads, stores and moves. -/

/-- The byte address of an operand in window memory. -/
def winByte (cs : CoreSt) (field : Nat) : Nat := (opndOf cs false field).unit * 16

/-- An asynchronous op started, at most 64 outstanding (R83). -/
def asyncStart (s : State) (c : Nat) (cs : CoreSt) (store : Bool) (win : Nat) (parts : List AsyncPart) : State :=
  opDone s c { cs with asyncs := cs.asyncs ++ [⟨store, win, cs.pc, parts⟩] }

/-- The memory-side address a parameter gives: bits [46:0], bits [3:0] ignored (R78). -/
def memAddr (p : Nat) : Nat := p % 2 ^ 47 / 16 * 16

/-- A parameter register advanced by the bytes moved where FLAG says so. -/
def postIncr (cs : CoreSt) (w n : Nat) : CoreSt :=
  if getF w OpWord.FLAG = 1 then
    { cs with pr := lset cs.pr (getF w OpWord.SEL) ((paramOf cs w 0 + n) % 2 ^ 64) }
  else cs

/-- WLOAD (R81, R83): window memory from memory, 64 · X bytes, also above the table's 32,768 (log 68). -/
def execWload (core : Nat) (s : State) : Res :=
  opRun s core 0x10 (fun f cs w =>
    let n := 64 * getF w OpWord.X
    if n = 0 then opStop s core cs 4
    else if 64 ≤ cs.asyncs.length then s
    else
      let r := startParts s core f false (memAddr (paramOf cs w 0)) n 0 []
      asyncStart r.1 core (postIncr cs w n) false (winByte cs (getF w OpWord.OPD)) r.2)

/-- WSTORE (R81, R83): memory from window memory, also above 32,768 (log 68). -/
def execWstore (core : Nat) (s : State) : Res :=
  opRun s core 0x11 (fun f cs w =>
    let n := 64 * getF w OpWord.X
    if n = 0 then opStop s core cs 4
    else if 64 ≤ cs.asyncs.length then s
    else
      let data := opBytes s core (opndOf cs false (getF w OpWord.OPA)) 0 n
      let r := startParts s core f true (memAddr (paramOf cs w 0)) n 0 data
      asyncStart r.1 core (postIncr cs w n) true (winByte cs (getF w OpWord.OPA)) r.2)

/-- WCOPY (R81). -/
def execWcopy (core : Nat) (s : State) : Res :=
  opRun s core 0x12 (fun _ cs w =>
    let n := 64 * getF w OpWord.X
    if n = 0 then opStop s core cs 4
    else
      let bs := opBytes s core (opndOf cs false (getF w OpWord.OPA)) 0 n
      opDone (opWrite s core (opndOf cs false (getF w OpWord.OPD)) 0 bs) core cs)

/-- TRANSP (R81): a block of X rows of Y elements written as Y rows of X, also of Y above 128 (log 68). -/
def execTransp (core : Nat) (s : State) : Res :=
  opRun s core 0x13 (fun _ cs w =>
    let x := getF w OpWord.X
    let y := getF w OpWord.Y
    let f := getF w OpWord.FA
    let a := opndOf cs false (getF w OpWord.OPA)
    let d := opndOf cs false (getF w OpWord.OPD)
    if x = 0 ∨ y = 0 then opStop s core cs 4
    else
      let rows := (List.range y).map (fun j => ((List.range x).map (fun i =>
        elemCode s core a f y i j * 2 ^ (fmtBits f * i))).sum)
      opDone (rows.zipIdx.foldl (fun t r =>
        opSetBits t core d (128 * rowUnits f x * r.2) (fmtBits f * x) r.1) s) core cs)

/-! Matrix ops (R57 to R61). -/

/-- An MMA operand: its place, format, rows, row length, and whether its rows run along the reduction (A and the transposed B), which
pads them to whole blocks (R50). -/
structure MmaOpnd where
  at_ : Opnd
  fmt : Nat
  rows : Nat
  len : Nat
  kRows : Bool
  deriving DecidableEq, Repr

/-- The elements a row of an MMA operand takes. -/
def MmaOpnd.row (o : MmaOpnd) : Nat := if o.kRows then mxRow o.fmt o.len else o.len

/-- The code of element (i, j) of an MMA operand. -/
def mmaCode (s : State) (c : Nat) (o : MmaOpnd) (i j : Nat) : Nat := elemCode s c o.at_ o.fmt o.row i j

/-- The value of an element whose scale, for an MX operand, is number `sc` (R79). -/
def mmaVal (s : State) (c : Nat) (o : MmaOpnd) (i j sc : Nat) : Val :=
  if isMx o.fmt then mxDecode o.fmt (mxScale s c o.at_ o.fmt o.rows o.row sc) (mmaCode s c o i j)
  else decodeFmt o.fmt (mmaCode s c o i j)

/-- Element (i, k) of A. -/
def mmaA (s : State) (c : Nat) (a : MmaOpnd) (i k : Nat) : Val := mmaVal s c a i k (i * (a.len / 32) + k / 32)

/-- Element (k, j) of B: stored K × N with K/32 × N scales, or N × K with its scales in row order (R79). -/
def mmaB (s : State) (c : Nat) (b : MmaOpnd) (tr : Bool) (k j : Nat) : Val :=
  if tr then mmaVal s c b j k (j * (b.len / 32) + k / 32) else mmaVal s c b k j (k / 32 * b.len + j)

/-- R61: an INT8 chunk summed exactly into the INT32 accumulator, saturating. -/
def intChunk (acc : Int) (terms : List Int) : Int × Bool :=
  let t := acc + terms.sum
  if t > 2 ^ 31 - 1 then (2 ^ 31 - 1, true) else if t < -(2 ^ 31) then (-(2 ^ 31), true) else (t, false)

/-- R61: INT8 and MXINT8 codes as integers. -/
def mmaInt (s : State) (c : Nat) (o : MmaOpnd) (i j : Nat) : Int := sext 8 (mmaCode s c o i j)

/-- R59 to R61: one element of D: the accumulator's bits after every chunk, and the flags. -/
def mmaElem (s : State) (c : Nat) (a b : MmaOpnd) (tr : Bool) (k kc acc0 i j : Nat) : Nat × SFlags :=
  let bcode := fun (q : Nat) => if tr then mmaInt s c b j q else mmaInt s c b q j
  let scaleA := fun (q : Nat) => e8m0 (mxScale s c a.at_ a.fmt a.rows a.row (i * (a.len / 32) + q))
  let scaleB := fun (q : Nat) => e8m0 (mxScale s c b.at_ b.fmt b.rows b.row (if tr then j * (b.len / 32) + q else q * b.len + j))
  (List.range (cdiv k kc)).foldl (fun (acc : Nat × SFlags) (q : Nat) =>
    let ks := span (q * kc) (min kc (k - q * kc))
    if a.fmt = 5 then
      let r := intChunk (sext 32 acc.1) (ks.map (fun t => mmaInt s c a i t * bcode t))
      (ofInt 32 r.1, SFlags.or acc.2 { SFlags.none with intSat := r.2 })
    else
      let terms : List Val :=
        if a.fmt = 12 then
          match scaleA q, scaleB q with
          | some xa, some xb =>
            let t := (ks.map (fun t => mmaInt s c a i t * bcode t)).sum
            [.fin (decide (t < 0)) t.natAbs (xa + xb - 12)]
          | _, _ => [.nan]
        else ks.map (fun t => vmul (mmaA s c a i t) (mmaB s c b tr t j))
      let r := chunkSum (terms ++ [ofF32 acc.1])
      (r, SFlags.or acc.2 (f32flags r))) (acc0, SFlags.none)

/-- MMA and MMAT (R58, R59, R81, R82): formats are checked first (log 68). -/
def mmaRun (s : State) (c : Nat) (tr : Bool) (cs : CoreSt) (w : Nat) : State :=
  let fa := getF w OpWord.FA
  let fb := getF w OpWord.FB
  let k := getF w OpWord.X
  let n := getF w OpWord.Y / 256 + 1
  let m := getF w OpWord.Y % 256 + 1
  let oa := opndOf cs false (getF w OpWord.OPA)
  let ob := opndOf cs false (getF w OpWord.OPB)
  let d := opndOf cs true (getF w OpWord.OPD)
  if pairOk fa fb = false then opStop s c cs 1
  else if k % 32 ≠ 0 ∨ k < 32 ∨ 16384 < k ∨ getF w OpWord.A_ACC = 1 ∨ getF w OpWord.B_ACC = 1
      ∨ oa.unit % 4 ≠ 0 ∨ ob.unit % 4 ≠ 0 ∨ 128 < m ∨ 128 < n then opStop s c cs 4
  else
    let a : MmaOpnd := ⟨oa, fa, m, k, true⟩
    let b : MmaOpnd := if tr then ⟨ob, fb, n, k, true⟩ else ⟨ob, fb, k, n, false⟩
    let word := fun (i j : Nat) => c * 65536 + (d.unit * 4 + 128 * i + j) % 65536
    let cells := (List.range m).flatMap (fun i => (List.range n).map (fun j =>
      let acc0 := if getF w OpWord.FLAG = 1 then 0 else kget s.acc (word i j) 0
      (word i j, mmaElem s c a b tr k (chunkLen fa fb) acc0 i j)))
    let s := { s with acc := cells.foldl (fun t p => kputD t p.1 p.2.1 0) s.acc }
    opDone s c (orFlags cs (flagsOf (cells.map (fun p => p.2.2))))

/-- MMA (R59). -/
def execMmaOp (core : Nat) (s : State) : Res := opRun s core 0x20 (fun _ cs w => mmaRun s core false cs w)
/-- MMAT (R59). -/
def execMmat (core : Nat) (s : State) : Res := opRun s core 0x21 (fun _ cs w => mmaRun s core true cs w)

/-! Vector, reduction and special-function ops (R63 to R65). -/

/-- Does the op table allow the formats of a vector, reduction or SFN op (R81)? -/
def vecFmtOk (w : Nat) (useB : Bool) : Bool :=
  (getF w OpWord.A_ACC == 1 || decide (getF w OpWord.FA ≤ 6))
  && (!useB || getF w OpWord.B_ACC == 1 || decide (getF w OpWord.FB ≤ 6))
  && (getF w OpWord.D_ACC == 1 || decide (getF w OpWord.FD ≤ 2))

/-- The FP32 bits of element (i, j) of operand A of a vector op of rows of `y`. -/
def vecA (s : State) (c : Nat) (cs : CoreSt) (w y i j : Nat) : Nat :=
  elemF32 s c (opndOf cs (getF w OpWord.A_ACC == 1) (getF w OpWord.OPA)) (accFmt (getF w OpWord.A_ACC == 1) (getF w OpWord.FA)) y i j

/-- The FP32 bits of element (i, j) of operand B. -/
def vecB (s : State) (c : Nat) (cs : CoreSt) (w y i j : Nat) : Nat :=
  elemF32 s c (opndOf cs (getF w OpWord.B_ACC == 1) (getF w OpWord.OPB)) (accFmt (getF w OpWord.B_ACC == 1) (getF w OpWord.FB)) y i j

/-- The FP32 bits of element (i, j) of the destination as it stands. -/
def vecD (s : State) (c : Nat) (cs : CoreSt) (w y i j : Nat) : Nat :=
  let d := getF w OpWord.D_ACC == 1
  elemF32 s c (opndOf cs d (getF w OpWord.OPD)) (if d then 0 else getF w OpWord.FD) y i j

/-- Rows of FP32 results stored at the destination of a vector op, with the flags they set: NAN_OUT and INF_OUT by the FP32 results
(log 67). -/
def vecStore (s : State) (c : Nat) (cs : CoreSt) (w : Nat) (rows : List (List Nat)) : State :=
  let d := getF w OpWord.D_ACC == 1
  let r := storeRows s c cs w (opndOf cs d (getF w OpWord.OPD)) (if d then 0 else getF w OpWord.FD) rows
  opDone r.1 c (orFlags cs (SFlags.or r.2 (flagsOf (rows.flatMap (fun l => l.map f32flags)))))

/-- A vector op of shape X × Y: formats, then shape checked (R82, log 68), every element computed from the operands as they stand. -/
def vecRun (s : State) (c : Nat) (useB : Bool) (cs : CoreSt) (w : Nat) (elem : Nat → Nat → Nat) : State :=
  if vecFmtOk w useB = false then opStop s c cs 1
  else if getF w OpWord.X = 0 ∨ getF w OpWord.Y = 0 then opStop s c cs 4
  else vecStore s c cs w ((List.range (getF w OpWord.X)).map (fun i => (List.range (getF w OpWord.Y)).map (fun j => elem i j)))

/-- A two-operand vector op, element by element. -/
def vecTwo (s : State) (c : Nat) (f : Nat → Nat → Nat) (cs : CoreSt) (w : Nat) : State :=
  let y := getF w OpWord.Y
  vecRun s c true cs w (fun i j => f (vecA s c cs w y i j) (vecB s c cs w y i j))

/-- VADD (R63). -/
def execVadd (core : Nat) (s : State) : Res := opRun s core 0x30 (fun _ cs w => vecTwo s core f32add cs w)
/-- VSUB (R63). -/
def execVsub (core : Nat) (s : State) : Res := opRun s core 0x31 (fun _ cs w => vecTwo s core f32sub cs w)
/-- VMUL (R63). -/
def execVmul (core : Nat) (s : State) : Res := opRun s core 0x32 (fun _ cs w => vecTwo s core f32mul cs w)
/-- VFMA (R63, R81): D = A × B + D, one rounding. -/
def execVfma (core : Nat) (s : State) : Res :=
  opRun s core 0x33 (fun _ cs w =>
    let y := getF w OpWord.Y
    vecRun s core true cs w (fun i j => f32fma (vecA s core cs w y i j) (vecB s core cs w y i j) (vecD s core cs w y i j)))
/-- VMAX (R63). -/
def execVmax (core : Nat) (s : State) : Res := opRun s core 0x34 (fun _ cs w => vecTwo s core f32max cs w)
/-- VMIN (R63). -/
def execVmin (core : Nat) (s : State) : Res := opRun s core 0x35 (fun _ cs w => vecTwo s core f32min cs w)

/-- VAFF (R81): D = A × c + d, one rounding, c and d from a parameter register. -/
def execVaff (core : Nat) (s : State) : Res :=
  opRun s core 0x36 (fun _ cs w =>
    let p := paramOf cs w 0
    let y := getF w OpWord.Y
    vecRun s core false cs w (fun i j => f32fma (vecA s core cs w y i j) (p % 2 ^ 32) (p / 2 ^ 32 % 2 ^ 32)))

/-- VROWSUB (R81): D[i][j] = A[i][j] × c − B[i], one rounding; with CAUSAL, −Inf where kbase + j > qbase + i. -/
def execVrowsub (core : Nat) (s : State) : Res :=
  opRun s core 0x37 (fun _ cs w =>
    let p := paramOf cs w 0
    let q := paramOf cs w 1
    let y := getF w OpWord.Y
    vecRun s core true cs w (fun i j =>
      if getF w OpWord.FLAG = 1 ∧ q / 2 ^ 32 % 2 ^ 32 + i < q % 2 ^ 32 + j then 0xFF800000
      else f32fma (vecA s core cs w y i j) (p % 2 ^ 32) (f32neg (vecB s core cs w (getF w OpWord.X) 0 i))))

/-- VROWMUL (R81): D[i][j] = A[i][j] × B[i]. -/
def execVrowmul (core : Nat) (s : State) : Res :=
  opRun s core 0x38 (fun _ cs w =>
    let y := getF w OpWord.Y
    vecRun s core true cs w (fun i j => f32mul (vecA s core cs w y i j) (vecB s core cs w (getF w OpWord.X) 0 i)))

/-- A reduction: X results, one of each row (R64). -/
def redRun (s : State) (c : Nat) (f : List Nat → Nat) (cs : CoreSt) (w : Nat) : State :=
  let y := getF w OpWord.Y
  if vecFmtOk w false = false then opStop s c cs 1
  else if getF w OpWord.X = 0 ∨ y = 0 then opStop s c cs 4
  else vecStore s c cs w [(List.range (getF w OpWord.X)).map (fun i => f ((List.range y).map (fun j => vecA s c cs w y i j)))]

/-- One level of the tree over exact values: each join rounds once (R64). -/
def valLevel : List Val → List Val
  | a :: b :: t => ofF32 (toF32 (vadd a b)) :: valLevel t
  | l => l

/-- Values reduced along the tree. -/
def valTree : Nat → List Val → Val
  | 0, l => l.headD (.fin false 0 0)
  | n + 1, l =>
    match l with
    | [] => .fin false 0 0
    | [a] => a
    | l => valTree n (valLevel l)

/-- R64: a sum of squares: the squares enter the tree exactly, each join rounds once. -/
def sumSquares (l : List Nat) : Nat := toF32 (valTree l.length (l.map (fun x => vmul (ofF32 x) (ofF32 x))))

/-- RSUM (R64). -/
def execRsum (core : Nat) (s : State) : Res := opRun s core 0x40 (fun _ cs w => redRun s core treeSum cs w)
/-- RMAX (R64). -/
def execRmax (core : Nat) (s : State) : Res :=
  opRun s core 0x41 (fun _ cs w => redRun s core (fun l => treeFold f32max l.length l) cs w)
/-- RMIN (R64). -/
def execRmin (core : Nat) (s : State) : Res :=
  opRun s core 0x42 (fun _ cs w => redRun s core (fun l => treeFold f32min l.length l) cs w)
/-- RSSQ (R64). -/
def execRssq (core : Nat) (s : State) : Res := opRun s core 0x43 (fun _ cs w => redRun s core sumSquares cs w)

/-- SFN (R65). -/
def execSfn (core : Nat) (s : State) : Res :=
  opRun s core 0x48 (fun _ cs w =>
    let y := getF w OpWord.Y
    vecRun s core false cs w (fun i j => sfn (getF w OpWord.SEL) (vecA s core cs w y i j)))

/-! Gather and scatter (R88 to R90). -/

/-- R88: the assignments in rank-major order: expert and gate. -/
def idxAssignments (s : State) (c : Nat) (a b : Opnd) (t k : Nat) : List (Nat × Nat × Nat) :=
  (List.range k).flatMap (fun r => (List.range t).map (fun i =>
    (i, elemCode s c a 14 k i r, elemCode s c b 0 k i r)))

/-- R88: each assignment takes the next free slot of its expert: the slots filled so far, in order, and the count dropped. -/
def idxFill (e cap : Nat) (l : List (Nat × Nat × Nat)) : KMap (List (Nat × Nat)) × Nat :=
  l.foldl (fun acc p =>
    let have_ := kget acc.1 p.2.1 []
    if e ≤ p.2.1 ∨ cap ≤ have_.length then (acc.1, acc.2 + 1)
    else (kput acc.1 p.2.1 (have_ ++ [(p.1, p.2.2)]), acc.2)) ([], 0)

/-- R88: the record of one expert: C indices, then C gates, padded. -/
def idxRecord (cap : Nat) (l : List (Nat × Nat)) : List Byte :=
  l.flatMap (fun p => leBytes 4 p.1) ++ (List.replicate (cap - l.length) (leBytes 4 0xFFFFFFFF)).flatten
  ++ l.flatMap (fun p => leBytes 4 p.2) ++ List.replicate (4 * (cap - l.length)) 0

/-- IDXBUILD (R88). -/
def execIdxbuild (core : Nat) (s : State) : Res :=
  opRun s core 0x50 (fun _ cs w =>
    let t := getF w OpWord.X
    let k := getF w OpWord.Y % 16
    let e := paramOf cs w 0 % 65536
    let cap := paramOf cs w 0 / 65536 % 65536
    if getF w OpWord.A_ACC = 1 ∨ getF w OpWord.B_ACC = 1 ∨ t = 0 ∨ k = 0 ∨ 8 < k ∨ e = 0 ∨ 256 < e ∨ cap % 2 = 1
        ∨ cap < 2 ∨ 65534 < cap then opStop s core cs 4
    else
      let l := idxAssignments s core (opndOf cs false (getF w OpWord.OPA)) (opndOf cs false (getF w OpWord.OPB)) t k
      let r := idxFill e cap l
      let bs := (List.range e).flatMap (fun x => idxRecord cap (kget r.1 x []))
        ++ (List.range e).flatMap (fun x => leBytes 4 (kget r.1 x []).length)
      opDone (opWrite s core (opndOf cs (getF w OpWord.D_ACC == 1) (getF w OpWord.OPD)) 0 bs) core
        { cs with dropped := cs.dropped + r.2 })

/-- Index `i` of a U32 index vector. -/
def idxAt (s : State) (c : Nat) (o : Opnd) (i : Nat) : Nat := leNat (opBytes s c o (4 * i) 4)

/-- GATHER (R81, R83, R89): asynchronous; a padding index gives a zero row and reads no memory. -/
def execGather (core : Nat) (s : State) : Res :=
  opRun s core 0x51 (fun f cs w =>
    let x := getF w OpWord.X
    let n := 16 * getF w OpWord.Y
    if getF w OpWord.A_ACC = 1 ∨ getF w OpWord.B_ACC = 1 ∨ x = 0 ∨ n = 0 then opStop s core cs 4
    else if 64 ≤ cs.asyncs.length then s
    else
      let b := opndOf cs false (getF w OpWord.OPB)
      let r := (List.range x).foldl (fun (acc : State × List AsyncPart) i =>
        let k := idxAt s core b i
        if k = 0xFFFFFFFF then (acc.1, acc.2 ++ [⟨0, 0, n, n * i, true, 0, []⟩])
        else
          let p := startParts acc.1 core f false (memAddr (paramOf cs w 0 + k * paramOf cs w 1)) n (n * i) []
          (p.1, acc.2 ++ p.2)) (s, [])
      asyncStart r.1 core cs false (winByte cs (getF w OpWord.OPD)) r.2)

/-- GATHERW (R81, R89): rows of window memory by index, addresses wrapping (R78). -/
def execGatherw (core : Nat) (s : State) : Res :=
  opRun s core 0x52 (fun _ cs w =>
    let x := getF w OpWord.X
    let y := getF w OpWord.Y
    if getF w OpWord.A_ACC = 1 ∨ getF w OpWord.B_ACC = 1 ∨ x = 0 ∨ y = 0 then opStop s core cs 4
    else
      let a := opndOf cs false (getF w OpWord.OPA)
      let b := opndOf cs false (getF w OpWord.OPB)
      let rows := (List.range x).map (fun i =>
        let k := idxAt s core b i
        if k = 0xFFFFFFFF then List.replicate (16 * y) 0 else opBytes s core (opShift a (k * y)) 0 (16 * y))
      opDone (storeUnits s core (opndOf cs (getF w OpWord.D_ACC == 1) (getF w OpWord.OPD)) rows) core cs)

/-- R90: row `i` of a SCATTER ADD: each FP32 element becomes D + g × S, rounded once. -/
def scatterRow (s : State) (c : Nat) (src dst : Opnd) (gate y i : Nat) : List Nat :=
  (List.range (4 * y)).map (fun j =>
    f32fma gate (leNat (opBytes s c src (16 * y * i + 4 * j) 4)) (leNat (opBytes s c dst (4 * j) 4)))

/-- SCATTER (R81, R90): slots in ascending order; a padding slot writes nothing. -/
def execScatter (core : Nat) (s : State) : Res :=
  opRun s core 0x53 (fun _ cs w =>
    let x := getF w OpWord.X
    let y := getF w OpWord.Y
    if x = 0 ∨ y = 0 then opStop s core cs 4
    else
      let a := opndOf cs (getF w OpWord.A_ACC == 1) (getF w OpWord.OPA)
      let b := opndOf cs (getF w OpWord.B_ACC == 1) (getF w OpWord.OPB)
      let d := opndOf cs (getF w OpWord.D_ACC == 1) (getF w OpWord.OPD)
      let r := (List.range x).foldl (fun (acc : State × SFlags) i =>
        let k := idxAt s core b i
        if k = 0xFFFFFFFF then acc
        else
          let dst := opShift d (k * y)
          if getF w OpWord.FLAG = 1 then
            let row := scatterRow acc.1 core a dst (leNat (opBytes s core b (4 * x + 4 * i) 4)) y i
            (opWrite acc.1 core dst 0 (row.flatMap (leBytes 4)), SFlags.or acc.2 (flagsOf (row.map f32flags)))
          else (opWrite acc.1 core dst 0 (opBytes acc.1 core a (16 * y * i) (16 * y)), acc.2)) (s, SFlags.none)
      opDone r.1 core (orFlags cs r.2))

/-! TOPK, QUANT, DEQUANT (R91, R81). -/

/-- R91: does an element come before another: larger value first, NaN below −Inf, equal values by index? -/
def topBefore (a b : Nat × Nat) : Bool :=
  if f32isNan a.1 ≠ f32isNan b.1 then f32isNan b.1
  else if f32isNan a.1 then decide (a.2 ≤ b.2)
  else if f32lt b.1 a.1 then true else if f32lt a.1 b.1 then false else decide (a.2 ≤ b.2)

/-- R91: the first `k` of a row: value and index. -/
def topRow (k : Nat) (row : List Nat) : List (Nat × Nat) := (sortBy topBefore row.zipIdx).take k

/-- TOPK (R81, R91): per row, k values in the destination's format, then k U32 indices. -/
def execTopk (core : Nat) (s : State) : Res :=
  opRun s core 0x58 (fun _ cs w =>
    let x := getF w OpWord.X
    let y := getF w OpWord.Y
    let k := paramOf cs w 0 % 2048
    let d := getF w OpWord.D_ACC == 1
    let fd := if d then 0 else getF w OpWord.FD
    if (getF w OpWord.A_ACC = 0 ∧ 1 < getF w OpWord.FA) ∨ 2 < fd then opStop s core cs 1
    else if x = 0 ∨ y = 0 ∨ k = 0 ∨ 1024 < k ∨ y < k then opStop s core cs 4
    else
      let o := opndOf cs d (getF w OpWord.OPD)
      let bits := fmtBits fd * k + 32 * k
      let r := (List.range x).foldl (fun (acc : State × SFlags) i =>
        let row := topRow k ((List.range y).map (fun j => vecA s core cs w y i j))
        let codes := row.zipIdx.map (fun p => encodeFmt fd (rndOf cs w (i * k + p.2)) (getF w OpWord.SAT == 1) p.1.1)
        let v := (codes.zipIdx.map (fun p => p.1.1 % 2 ^ fmtBits fd * 2 ^ (fmtBits fd * p.2))).sum
          + (row.zipIdx.map (fun p => p.1.2 * 2 ^ (fmtBits fd * k + 32 * p.2))).sum
        (opSetBits acc.1 core o (128 * cdiv bits 128 * i) bits v, SFlags.or acc.2 (flagsOf (codes.map (convFlags fd))))) (s, SFlags.none)
      opDone r.1 core (orFlags cs r.2))

/-- QUANT to an MX format (R50, R51, R79): blocks of 32 along each row, a short last block padded with zeros. -/
def quantMx (s : State) (c : Nat) (cs : CoreSt) (w : Nat) (o : Opnd) (f x y : Nat) : State × SFlags :=
  let yp := mxRow f y
  let src := fun (i j : Nat) => if j < y then ofF32 (vecA s c cs w y i j) else Val.fin false 0 0
  let blocks := (List.range x).map (fun i => (List.range (yp / 32)).map (fun b =>
    mxQuant f (getF w OpWord.SMODE == 1) ((List.range 32).map (fun j => rndOf cs w (i * y + 32 * b + j)))
      ((List.range 32).map (fun j => src i (32 * b + j)))))
  let s := blocks.zipIdx.foldl (fun t r =>
    let codes := r.1.flatMap (fun q => q.2.1)
    opSetBits t c o (128 * rowUnits f yp * r.2) (fmtBits f * yp)
      ((codes.zipIdx.map (fun p => p.1 % 2 ^ fmtBits f * 2 ^ (fmtBits f * p.2))).sum)) s
  let scales := blocks.flatMap (fun r => r.map (fun q => BitVec.ofNat 8 q.1))
  (opWrite s c o (16 * rowUnits f yp * x) scales,
    flagsOf (blocks.flatMap (fun r => r.map (fun q => { SFlags.none with nanOut := q.1 == 0xFF, sat := q.2.2 }))))

/-- QUANT to bead-scaled FP4 (R53, R55, R81): positions × d_head, a scale for each head block of 16 positions, as a first write. The
scales follow the elements (log 68), and RND is not read (log 67). -/
def quantBead (s : State) (c : Nat) (cs : CoreSt) (w : Nat) (o : Opnd) (x y : Nat) : State × SFlags :=
  let blocks := (List.range (x / 16)).map (fun b => kvWrite true 0 []
    ((List.range (16 * y)).map (fun e => ofF32 (vecA s c cs w y (16 * b + e / y) (e % y)))))
  let rows := blocks.flatMap (fun q => (List.range 16).map (fun i => (q.new.drop (i * y)).take y))
  let s := rows.zipIdx.foldl (fun t r =>
    opSetBits t c o (128 * rowUnits 13 y * r.2) (4 * y) ((r.1.zipIdx.map (fun p => p.1 % 16 * 16 ^ p.2)).sum)) s
  let s := opWrite s c o (16 * rowUnits 13 y * x) (blocks.map (fun q => BitVec.ofNat 8 q.scale))
  let s := odAdd s OD.KV_CLIPPED 0 ((blocks.map KvWrite.clipped).sum)
  let s := odAdd s OD.KV_NONFINITE 0 ((blocks.filter KvWrite.nonfinite).length)
  (s, flagsOf (blocks.map (fun q =>
    { SFlags.none with nanOut := q.nonfinite, sat := decide (0 < q.clipped), kvClip := decide (0 < q.clipped) })))

/-- QUANT (R81, R51, R53, R66, R67): FP32 to any format code 0x1 to 0xD. -/
def execQuant (core : Nat) (s : State) : Res :=
  opRun s core 0x60 (fun _ cs w0 =>
    let w := setF w0 OpWord.FA 0
    let x := getF w OpWord.X
    let y := getF w OpWord.Y
    let d := getF w OpWord.D_ACC == 1
    let fd := accFmt d (getF w OpWord.FD)
    let o := opndOf cs d (getF w OpWord.OPD)
    if !d && (fd == 0 || decide (13 < fd)) || (fd == 13 && x % 16 != 0) then opStop s core cs 1
    else if x = 0 ∨ y = 0 then opStop s core cs 4
    else
      let r := if isMx fd then quantMx s core cs w o fd x y
        else if fd = 13 then quantBead s core cs w o x y
        else storeRows s core cs w o fd ((List.range x).map (fun i => (List.range y).map (fun j => vecA s core cs w y i j)))
      opDone r.1 core (orFlags cs r.2))

/-- The FP32 bits of element (i, j) of a DEQUANT operand: an exact decode (R52, R63). -/
def dequantElem (s : State) (c : Nat) (cs : CoreSt) (w x y i j : Nat) : Nat :=
  let acc := getF w OpWord.A_ACC == 1
  let f := accFmt acc (getF w OpWord.FA)
  let a := opndOf cs acc (getF w OpWord.OPA)
  if isMx f then
    toF32 (mxDecode f (mxScale s c a f x (mxRow f y) (i * (mxRow f y / 32) + j / 32)) (elemCode s c a f (mxRow f y) i j))
  else if f = 13 then
    let b := opndOf cs (getF w OpWord.B_ACC == 1) (getF w OpWord.OPB)
    toF32 (kvDecode (opByte s c b (i / 16)).toNat (elemCode s c a f y i j))
  else elemF32 s c a f y i j

/-- DEQUANT (R81, R52, R63): any format code 0x1 to 0xD to FP32 (log 68). -/
def execDequant (core : Nat) (s : State) : Res :=
  opRun s core 0x61 (fun _ cs w0 =>
    let w := setF w0 OpWord.FD 0
    let x := getF w OpWord.X
    let y := getF w OpWord.Y
    if getF w OpWord.A_ACC = 0 ∧ (getF w OpWord.FA = 0 ∨ 13 < getF w OpWord.FA) then opStop s core cs 1
    else if x = 0 ∨ y = 0 then opStop s core cs 4
    else vecStore s core cs w ((List.range x).map (fun i => (List.range y).map (fun j => dequantElem s core cs w x y i j))))

/-! CREDUCE (R92). -/

/-- The result of a CREDUCE from the bytes of its partials: FP32 word by word along the tree over s. -/
def reduceWords (n parts : Nat) (bytes : Nat → List Byte) : List Nat :=
  let ps := (List.range parts).map (fun p =>
    let bs := bytes p
    (List.range n).map (fun i => leNat ((bs.drop (4 * i)).take 4)))
  (List.range n).map (fun i => treeSum (ps.map (fun l => l.getD i 0)))

/-- The bytes of one partial, from the pieces that lie in it. -/
def partialBytes (len : Nat) (parts : List AsyncPart) (p : Nat) : List Byte :=
  (parts.filter (fun q => q.off / len == p)).flatMap (fun q => q.data.take q.len ++ List.replicate (q.len - q.data.length) 0)

/-- CREDUCE whose pieces are as given: where all have answered, the result is stored; else the op waits. -/
def reduceTry (s : State) (c : Nat) (cs : CoreSt) (w : Nat) (parts : List AsyncPart) : State :=
  if parts.all AsyncPart.done then
    let len := 64 * getF w OpWord.X
    let words := reduceWords (len / 4) (getF w OpWord.Y % 256) (partialBytes len parts)
    let s := opWrite s c (opndOf cs (getF w OpWord.D_ACC == 1) (getF w OpWord.OPD)) 0 (words.flatMap (leBytes 4))
    opDone s c (noteFail (orFlags { cs with reduce := none } (flagsOf (words.map f32flags))) (partsFail parts))
  else setCore s c { cs with reduce := some ⟨false, 0, cs.pc, parts⟩ }

/-- CREDUCE (R92): synchronous: the command starts the reads of the partials, and completes the op once all have answered. -/
def execCreduce (core : Nat) (s : State) : Res :=
  opRun s core 0x71 (fun f cs w =>
    let len := 64 * getF w OpWord.X
    let n := getF w OpWord.Y % 256
    if len = 0 ∨ n < 2 ∨ 192 < n then opStop s core cs 4
    else
      let r := match cs.reduce with
        | some a => takeParts s a.parts
        | none =>
          let st := (List.range n).foldl (fun (acc : State × List AsyncPart) p =>
            let q := startParts acc.1 core f false (memAddr (paramOf cs w 0 + p * len)) len (p * len) []
            (q.1, acc.2 ++ q.2)) (s, [])
          takeParts st.1 st.2
      reduceTry r.1 core cs w r.2)

end Sys2Proof.Machine
end

