-- ==== Sys2Proof/Machine/MemSteps.lean ====
section
/-! DEFINITION. Chapter 10: the MEMORY steps SCRUB, REMAP and MIGRATE, and refresh management. Step statuses are those of R227: 0 OK,
4 BAD_OP, 5 MEM_ERROR, 7 BAD_DESC, 8 PARTIAL.
Choices of the model here, by the assumption log: log 11, 40 (DEDUCED). -/

namespace Sys2Proof.Machine

/-- What a MEMORY step has done: lines, rows or granules; lines corrected and contained; entries failed; first failing address. -/
structure MemRun where
  s : State
  done : Nat
  corr : Nat
  unc : Nat
  skipped : Nat
  fail : Option Nat

/-- A step that has done nothing. -/
def MemRun.start (s : State) : MemRun := ⟨s, 0, 0, 0, 0, none⟩

/-- R227: a read of a descriptor or entry that failed: an uncorrectable line is one contained, and its address the step's first. -/
def MemRun.readFailed (r : MemRun) (status a : Nat) : MemRun :=
  if status = 1 then { r with unc := r.unc + 1, fail := if r.fail.isSome then r.fail else some (a / 64 * 64 % 2 ^ 37) } else r

/-- R227: a MEMORY step completes. -/
def memEnd (r : MemRun) (k : Nat) (f : Flight) (status : Nat) (how : StepEnd) : State :=
  let s := ringPush r.s OD.MEMORY_COMPLETION_RING (mkRec [(MemComp.FRAME, f.frame), (MemComp.STEP_SLOT, f.slot), (MemComp.STACK, k),
    (MemComp.STATUS, status), (MemComp.CARRIED, b2n f.carried), (MemComp.CLOCKS, compClocks r.s f), (MemComp.DONE, r.done),
    (MemComp.CORRECTED, satBits 16 r.corr), (MemComp.UNCORRECTABLE, satBits 16 r.unc), (MemComp.ENTRIES_SKIPPED, r.skipped),
    (MemComp.FAIL_ADDR, r.fail.getD 0)])
  finishStep s (unitKey 9 k) how

/-- The unit of a stack's MEMORY class. -/
abbrev memUnit (k : Nat) : Nat := unitKey 9 k

/-- R210: one line of a stack scrubbed: a corrected line is written back; an uncorrectable one is contained with MEMORY as the
reader. Stack-local line number. -/
def scrubLine (r : MemRun) (rd : Reader) (k line : Nat) : MemRun :=
  let a := stackOff k (64 * line)
  let s := activate r.s a
  let e := kget s.mc.lineErr (a / 64) 0
  if e = 0 then { r with s := s, done := r.done + 1 }
  else if e ≤ 4 then
    let s := noteCorrected s a
    { r with s := { s with mc := { s.mc with lineErr := kdel s.mc.lineErr (a / 64) } }, done := r.done + 1, corr := r.corr + 1 }
  else
    { r with s := noteUncorrectable s a rd, done := r.done + 1, unc := r.unc + 1,
             fail := if r.fail.isSome then r.fail else some (64 * line) }

/-- R210: the scrub pointer past a line; at a wrap the pass ends and the stack's correction tracker is cleared. -/
def scrubAdvance (s : State) (k : Nat) : State :=
  let p := odGet s OD.SCRUB_POINTER k + 1
  if p < 2 ^ 31 then odPut s OD.SCRUB_POINTER k p
  else
    let s := odAdd (odPut s OD.SCRUB_POINTER k 0) OD.SCRUB_PASSES k 1
    { s with mc := { s.mc with tracker := kdel s.mc.tracker k, ueLines := s.mc.ueLines.filter (fun l => l / 2 ^ 31 != k) } }

/-- Lines of a SCRUB step; an AUTO scrub passes over fenced regions (R429). -/
def scrubRun : Nat → MemRun → Reader → Nat → Bool → Nat → MemRun
  | 0, r, _, _, _, _ => r
  | n + 1, r, rd, k, auto, line =>
    let l := if auto then odGet r.s OD.SCRUB_POINTER k else line
    let t := if auto && regionFenced r.s k (l / 2 ^ 24) then r else scrubLine r rd k l
    let t := if auto then { t with s := scrubAdvance t.s k } else t
    scrubRun n t rd k auto (line + 1)

/-- The MEMORY step in flight on stack `k` with an opcode that `mine` takes, its descriptor read. -/
def memOn (s : State) (k : Nat) (mine : Nat → Bool) (run : State → Flight → Nat → Res) : Res :=
  match flightOn s (memUnit k) with
  | none => answer s s
  | some f =>
    if mine (getF f.step StepRec.OPCODE) = false then answer s s
    else
      let d := readRec s (stepReader f) (getF f.step StepRec.DESC_ADDR) 64
      if d.2.2.1 ≠ 0 then answer s (memEnd ((MemRun.start d.1).readFailed d.2.2.1 d.2.2.2) k f 5 .unread) else run d.1 f d.2.1

/-- SCRUB (R210, R225). A MEMORY step with an undefined opcode ends here with BAD_OP. -/
def execScrub (k : Nat) (s : State) : Res :=
  match flightOn s (memUnit k) with
  | none => answer s s
  | some f0 =>
    let op := getF f0.step StepRec.OPCODE
    if op = 0 ∨ 3 < op then answer s (memEnd (MemRun.start s) k f0 4 .untouched)
    else memOn s k (· == 1) (fun t f d =>
      let auto := getF d MemDesc.SCRUB_AUTO == 1
      let n := getF d MemDesc.SCRUB_LINES
      let l := getF d MemDesc.SCRUB_START_LINE
      if n = 0 ∨ (auto = false ∧ 2 ^ 31 < l + n) then answer s (memEnd (MemRun.start t) k f 7 .untouched)
      else answer s (memEnd (scrubRun n (MemRun.start t) (stepReader f) k auto l) k f 0 .done))

/-! REMAP (R212 to R215). -/

/-- The remap entries of a stack that are in use: index in the stack's table and entry. -/
def remapEntries (s : State) (k : Nat) : List (Nat × Nat) :=
  (s.od.filter (fun p => decide (odKey OD.REMAP_TABLE (k * 65536) ≤ p.1) && decide (p.1 < odKey OD.REMAP_TABLE ((k + 1) * 65536))
    && getF p.2 RemapEnt.VALID == 1)).map (fun p => (p.1 - odKey OD.REMAP_TABLE (k * 65536), p.2))

/-- A spare row: stack, channel pair, bank and spare. -/
def spareKey (k pair bank spare : Nat) : Nat := ((k * 8 + pair) * 64 + bank) * 16384 + spare

/-- The lowest free spare of a bank (R213), retired ones excluded. -/
def freeSpare (s : State) (k pair bank : Nat) : Option Nat :=
  let used := ((remapEntries s k).filter (fun p => getF p.2 RemapEnt.CHANNEL_PAIR == pair && getF p.2 RemapEnt.BANK == bank)).map
    (fun p => getF p.2 RemapEnt.SPARE)
  (List.range 16384).find? (fun x => !used.contains x && !s.mc.retired.contains (spareKey k pair bank x))

/-- R213: the 32 lines of a row, as line numbers of device offsets. -/
def rowLines (k pair bank row : Nat) : List Nat :=
  (List.range 32).map (fun i =>
    (stackOff k (mkRec [(StackAddr.ROW, row), (StackAddr.BANK, bank), (StackAddr.COL, i / 2), (StackAddr.PAIR, pair),
      (StackAddr.LINE, i % 2)])) / 64)

/-- The lines of a list that the outer code corrects. -/
def correctable (s : State) (lines : List Nat) : Nat :=
  (lines.filter (fun l => decide (1 ≤ kget s.mc.lineErr l 0) && decide (kget s.mc.lineErr l 0 ≤ 4))).length

/-- R213: a row copied through the outer code, each line read once and written once to the same bank (R211): corrected lines are written
corrected, uncorrectable ones raw. -/
def copyRow (s : State) (lines : List Nat) : State :=
  lines.foldl (fun t l =>
    let t := activate (activate t (64 * l)) (64 * l)
    let e := kget t.mc.lineErr l 0
    if 1 ≤ e ∧ e ≤ 4 then
      let t := noteCorrected t (64 * l)
      { t with mc := { t.mc with lineErr := kdel t.mc.lineErr l } }
    else t) s

/-- The lines of a row of a stack's remap queue. -/
def queuedLines (k row : Nat) : List Nat := rowLines k (row / 2 ^ 23) (row / 2 ^ 17 % 64) (row % 2 ^ 17)

/-- R213, R214: one row of a stack's queue remapped; the answer says whether it was, or REMAP_FULL. -/
def remapRow (s : State) (k row : Nat) : State × Bool :=
  let pair := row / 2 ^ 23
  let bank := row / 2 ^ 17 % 64
  let r := row % 2 ^ 17
  let ents := remapEntries s k
  let old := ents.find? (fun p => getF p.2 RemapEnt.CHANNEL_PAIR == pair && getF p.2 RemapEnt.BANK == bank && getF p.2 RemapEnt.ROW == r)
  match (if old.isNone ∧ 65536 ≤ ents.length then none else freeSpare s k pair bank) with
  | none =>
    let s := odAdd s OD.REMAP_COUNTS (3 * k + 2) 1
    (regionCandidate s k (r / 1024) 5, false)
  | some spare =>
    let s := copyRow s (rowLines k pair bank r)
    let e := mkRec [(RemapEnt.VALID, 1), (RemapEnt.STACK, k), (RemapEnt.CHANNEL_PAIR, pair), (RemapEnt.BANK, bank), (RemapEnt.ROW, r),
      (RemapEnt.SPARE, spare)]
    match old with
    | some p =>
      let s := { s with mc := { s.mc with retired := s.mc.retired ++ [spareKey k pair bank (getF p.2 RemapEnt.SPARE)] } }
      (odPut s OD.REMAP_TABLE (k * 65536 + p.1) e, true)
    | none => (odAdd (odPut s OD.REMAP_TABLE (k * 65536 + ents.length) e) OD.REMAP_COUNTS (3 * k) 1, true)

/-- R225, R227, R429: one row of a REMAP step; a row of a fenced region is passed over. -/
def remapOne (k : Nat) (r : MemRun) (row : Nat) : MemRun :=
  if regionFenced r.s k (row % 2 ^ 17 / 1024) then r
  else
    let x := remapRow r.s k row
    if x.2 then { r with s := x.1, done := r.done + 1, corr := r.corr + correctable r.s (queuedLines k row) }
    else { r with s := x.1, skipped := r.skipped + 1 }

/-- REMAP (R213, R214, R225): rows from the head of the stack's queue. -/
def execRemap (k : Nat) (s : State) : Res :=
  memOn s k (· == 2) (fun t f d =>
    let n := getF d MemDesc.REMAP_ROWS
    if n = 0 then answer s (memEnd (MemRun.start t) k f 7 .untouched)
    else
      let q := kget t.mc.remapQueue k []
      let t := { t with mc := { t.mc with remapQueue := kput t.mc.remapQueue k (q.drop n) } }
      let r := (q.take n).foldl (remapOne k) (MemRun.start t)
      answer s (memEnd r k f (if r.skipped = 0 then 0 else 8) .done))

/-! MIGRATE (R220 to R222). -/

/-- R222: does a granule of HBM meet a bead class, the descriptor table, a strand-segment area, a control area or a fenced region? -/
def granuleExcluded (s : State) (g : Nat) : Bool :=
  let a := g * 65536
  let k := a / 2 ^ 37
  let l := a % 2 ^ 37
  let top := ((List.range 8).map (fun c => if classF s c BeadClass.VALID = 1
    then classF s c BeadClass.FIRST_SLOT + classF s c BeadClass.SLOTS else 0)).foldl max 0
  (List.range 8).any (fun c => classF s c BeadClass.VALID == 1
    && meets l 65536 (classF s c BeadClass.BASE) (classF s c BeadClass.SLOTS * classStride s c))
  || meets l 65536 (od s OD.DESC_BASE) (32 * top)
  || meets l 65536 (odGet s OD.SEGMENT_AREA (2 * k)) (odGet s OD.SEGMENT_AREA (2 * k + 1))
  || meets a 65536 (odGet s OD.STRAND_HEADER_AREA 0) (odGet s OD.STRAND_HEADER_AREA 1)
  || meets a 65536 (odGet s OD.PASS_LIST_AREA 0) (odGet s OD.PASS_LIST_AREA 1)
  || regionFenced s k (l / 2 ^ 30)

/-- R221: 64 KiB copied from one place to another, line errors raw except those the code corrects; the HBM side activates its rows
(R211). -/
def moveGranule (s : State) (src dst : Nat) : State :=
  let s := (span (min src dst / 64) 1024).foldl (fun t l => activate t (64 * l)) s
  let s := (span (src / 64) 1024).foldl (fun t l => if 1 ≤ kget t.mc.lineErr l 0 ∧ kget t.mc.lineErr l 0 ≤ 4
    then noteCorrected t (64 * l) else t) s
  let cells := (s.mem.filter (fun c => decide (src ≤ c.1) && decide (c.1 < src + 65536))).map (fun c => (c.1 - src + dst, c.2))
  let errs := (s.mc.lineErr.filter (fun c => decide (src ≤ 64 * c.1) && decide (64 * c.1 < src + 65536) && decide (4 < c.2))).map
    (fun c => (c.1 - src / 64 + dst / 64, c.2))
  let mem := cells.foldl (fun m c => cellsSet m c.1 c.2) (kerase s.mem dst 65536)
  let le := errs.foldl (fun m c => kput m c.1 c.2) (kerase s.mc.lineErr (dst / 64) 1024)
  { s with mem := mem, mc := { s.mc with lineErr := le } }

/-- Where the copy of a migrate entry begins. -/
def migrateFrom (e : Nat) : Nat :=
  if getF e MemDesc.E_DIR = 0 then getF e MemDesc.E_GRANULE * 65536 else commonsBase + getF e MemDesc.E_FRAME * 65536

/-- R220, R221, R225: one migrate entry: its ESTATUS. -/
def migrateEntry (s : State) (k e : Nat) : State × Nat :=
  let f := getF e MemDesc.E_FRAME
  let g := getF e MemDesc.E_GRANULE
  let here := odGet s OD.GRANULE_MAP f
  let frame := commonsBase + f * 65536
  if od s OD.TIER_FRAMES ≤ f ∨ g / 2 ^ 21 ≠ k then (s, 1)
  else if granuleExcluded s g then (s, 2)
  else if getF e MemDesc.E_DIR = 0 then
    if (tierFrame s g).isSome then (s, 4)
    else if here / 2 ^ 31 = 1 then (s, 3)
    else (odInc (odPut (moveGranule s (g * 65536) frame) OD.GRANULE_MAP f (2 ^ 31 + g)) OD.MIGRATIONS, 0)
  else if here ≠ 2 ^ 31 + g then (s, 5)
  else (odInc (odPut (moveGranule s frame (g * 65536)) OD.GRANULE_MAP f 0) OD.MIGRATIONS, 0)

/-- R225, R227, R475: entry `i` of a MIGRATE step, unless a read has failed. -/
def migrateOne (f : Flight) (k a : Nat) (acc : MemRun × Bool) (i : Nat) : MemRun × Bool :=
  if acc.2 then acc
  else
    let e := readRec acc.1.s (stepReader f) (a + 8 * i) 8
    if e.2.2.1 ≠ 0 then (MemRun.readFailed { acc.1 with s := e.1 } e.2.2.1 e.2.2.2, true)
    else
      let m := migrateEntry e.1 k e.2.1
      let w := (agentWrite m.1 true (stepReader f) (a + 8 * i) (leBytes 8 (setF e.2.1 MemDesc.E_ESTATUS m.2))).1
      let c := correctable e.1 (span (migrateFrom e.2.1 / 64) 1024)
      (if m.2 = 0 then { acc.1 with s := w, done := acc.1.done + 1, corr := acc.1.corr + c }
         else { acc.1 with s := w, skipped := acc.1.skipped + 1 }, false)

/-- MIGRATE (R221, R225, R475): entries in order; a read error ends the step at that entry. -/
def execMigrate (k : Nat) (s : State) : Res :=
  memOn s k (· == 3) (fun t f d =>
    let n := getF d MemDesc.MIGRATE_ENTRIES
    let a := getF d MemDesc.MIGRATE_ENTRY_ADDR
    if n = 0 ∨ a % 64 ≠ 0 then answer s (memEnd (MemRun.start t) k f 7 .untouched)
    else
      let r := (List.range n).foldl (migrateOne f k a) (MemRun.start t, false)
      answer s (memEnd r.1 k f (if r.2 then 5 else if r.1.skipped = 0 then 0 else 8) .done))

/-- REFRESH_MANAGEMENT (R211): a bank whose activation count has reached the threshold has its tracked rows' neighbours refreshed, and
counts from 0 again. -/
def execRefreshManagement (k bank : Nat) (s : State) : Res :=
  answer s (
    let i := k * 512 + bank
    if od s OD.ACT_THRESHOLD ≤ kget s.mc.acts i 0 then
      odAdd { s with mc := { s.mc with acts := kput s.mc.acts i 0 } } OD.RFM_ISSUED k 1
    else s)

/-- R223, R446: the 256 granules with the most samples in the frame, written to the telemetry ring, up to 128 to a record; the counts
start again. -/
def sampleReport (s : State) : State :=
  let top := (sortBy (fun a b => decide (b.1 ≤ a.1)) (s.mc.samples.map (fun p => (p.2, p.1)))).take 256
  let words := top.map (fun p => p.2 * 2 ^ 40 + satBits 32 p.1)
  let s := { s with mc := { s.mc with samples := [] } }
  if words = [] then s
  else
    let s := telemetry s 3 (words.take 128)
    if 128 < words.length then telemetry s 3 (words.drop 128) else s

end Sys2Proof.Machine
end

