-- ==== Sys2Proof/Machine/Scoreboard.lean ====
section
/-! DEFINITION. Chapter 07: admission, client control records, the timers of rows, completion, model slots, adapters and tenants.
Choices of the model here, by the assumption log: log 35, 36, 37 (DEDUCED). -/

namespace Sys2Proof.Machine

/-! The selection record at admission (R169, R179). -/

/-- FP32 bits of a finite number at or above zero (−0 is not below zero). -/
def f32NonNeg (w : Nat) : Bool := decide (w < 0x7F800000) || w == 0x80000000

/-- R169: does a native selection record fail for a model slot and tenant? -/
def selBad (s : State) (sel slot tenant : Nat) : Bool :=
  let p := getF sel SelRec.PARAMS
  let g := getF p SelNat.GRAMMAR_ID
  let topP := getF p SelNat.TOP_P
  let minP := getF p SelNat.MIN_P
  !f32NonNeg (getF p SelNat.INV_TEMP) || decide (1024 < getF p SelNat.TOPK)
  || !decide (0 < topP ∧ topP ≤ 0x3F800000)
  || !(decide (minP < 0x3F800000) || minP == 0x80000000)
  || (getF p SelNat.ALLOW_EN == 1 && getF p SelNat.ALLOW_ADDR % 64 != 0)
  || (getF p SelNat.GRAMMAR_EN == 1 &&
      (recF s OD.GRAMMARS g Grammar.STATE != 2
       || recF s OD.GRAMMARS g Grammar.VOCAB != recF s OD.MODEL_SLOTS slot ModelSlot.VOCAB
       || (recF s OD.GRAMMARS g Grammar.ANY_TENANT == 0 && recF s OD.GRAMMARS g Grammar.TENANT != tenant)
       || decide (recF s OD.GRAMMARS g Grammar.STATE_COUNT ≤ getF p SelNat.START_STATE)))

/-- RNE(1 / x) of positive finite FP32 bits (R179). -/
def f32Recip (w : Nat) : Nat :=
  match ofF32 w with
  | .fin n m e =>
    let q := 2 ^ 80 / m
    toF32 (.fin n (2 * q + b2n (q * m != 2 ^ 80)) (-(81 : Int) - e))
  | v => toF32 v

/-- R179: a DN5420 sampling descriptor: MAGIC 0x5420, TEMP finite and not negative. -/
def compatBad (d : Nat) : Bool := getF d Dn5420.MAGIC != 0x5420 || !f32NonNeg (getF d Dn5420.TEMP)

/-- R179: the native selection record a DN5420 descriptor maps onto, for a vocabulary. -/
def compatMap (d vocab : Nat) : Nat :=
  let temp := getF d Dn5420.TEMP
  let topP := getF d Dn5420.TOP_P
  let eos := getF d Dn5420.EOS
  let params := mkRec [(SelNat.INV_TEMP, if temp % 2 ^ 31 = 0 then 0 else f32Recip temp),
    (SelNat.TOPK, min (getF d Dn5420.TOPK) 1024),
    (SelNat.TOP_P, if topP = 0 then 0x3F800000 else toF32 (.fin false topP (-16)))]
  mkRec [(SelRec.END_TOKEN, if eos < vocab then eos else 0x1FFFFF), (SelRec.MAX_OUTPUT, min (getF d Dn5420.MAX_NEW) (2 ^ 24 - 1)),
    (SelRec.PARAMS, params)]

/-- R169, R179: the record a row takes from a client's: the TSU's own fields at zero. -/
def selTaken (sel vocab : Nat) : Nat :=
  if getF sel SelRec.MODE = 1 then compatMap (getF sel SelRec.PARAMS) vocab
  else setFs (selClean sel) [(SelRec.LAST_TOKEN, 0), (SelRec.OUTPUT_COUNT, 0)]

/-! Admission (R148, R149, R18). -/

/-- An admission message: record, selection record, prompt tokens. -/
abbrev admRec (msg : List Byte) : Nat := leNat (msg.take 64)
/-- Its selection record. -/
abbrev admSel (msg : List Byte) : Nat := leNat ((msg.drop 64).take 64)
/-- Its prompt tokens. -/
def admTokens (msg : List Byte) (n : Nat) : List Nat := (List.range n).map (fun i => leNat ((msg.drop (128 + 4 * i)).take 4))

/-- The row on this device that holds a request, by the scoreboard. -/
def rowOf (s : State) (rid : Nat) : Option Nat :=
  (s.od.find? (fun p => p.1 / 2 ^ 24 == OD.SCOREBOARD_VIEW && getF p.2 Row.REQUEST_ID == rid && getF p.2 Row.STATE != 0)).map
    (fun p => p.1 % 2 ^ 24)

/-- The adapter version an admission pins (R163): the CURRENT one of its slot, where it uses an adapter. -/
def admVersion (s : State) (a : Nat) : Nat :=
  if getF a AdmRec.ADAPTER_EN = 1 then
    match versionCurrent s (getF a AdmRec.ADAPTER_SLOT) with
    | some i => recF s OD.ADAPTER_VERSIONS i AdVer.VERSION
    | none => 0
  else 0

/-- R148, item 5: the parent of a fork. -/
def forkParent (s : State) (a : Nat) : Option Nat :=
  (rowOf s (getF a AdmRec.PARENT_ID)).filter (fun p =>
    (rowState s p == 4 || rowState s p == 5) && rowGet s p Row.TENANT == getF a AdmRec.TENANT
    && rowGet s p Row.MODEL_SLOT == getF a AdmRec.MODEL_SLOT && rowGet s p Row.ADAPTER_EN == getF a AdmRec.ADAPTER_EN
    && (getF a AdmRec.ADAPTER_EN == 0
        || (rowGet s p Row.ADAPTER_SLOT == getF a AdmRec.ADAPTER_SLOT && rowGet s p Row.ADAPTER_VER == admVersion s a)))

/-- R148, R169: the screens in order: 0, or the reason of the REJECTED answer. -/
def admScreen (s : State) (msg : List Byte) : Nat :=
  let a := admRec msg
  let t := getF a AdmRec.TENANT
  let m := getF a AdmRec.MODEL_SLOT
  let fork := getF a AdmRec.FORK == 1
  let n := getF a AdmRec.PROMPT_LEN
  let vocab := recF s OD.MODEL_SLOTS m ModelSlot.VOCAB
  let sel := admSel msg
  if tenF s t Tenant.ENABLED = 0 then 1
  else if recF s OD.MODEL_SLOTS m ModelSlot.STATE ≠ 2 ∨ bitOf (tenF s t Tenant.MODEL_PERMIT) m = false then 2
  else if getF a AdmRec.ADAPTER_EN = 1 ∧ ((versionCurrent s (getF a AdmRec.ADAPTER_SLOT)).any (fun i =>
      recF s OD.ADAPTER_VERSIONS i AdVer.TENANT == t && recF s OD.ADAPTER_VERSIONS i AdVer.MODEL_SLOT == m)) = false then 3
  else if fork = false ∧ (n = 0 ∨ msg.length ≠ 128 + 4 * n ∨ (admTokens msg n).any (fun x => decide (vocab ≤ x))) then 4
  else if fork ∧ msg.length ≠ 128 then 4
  else if fork ∧ (forkParent s a).isNone then 5
  else if fork then 0
  else if getF sel SelRec.MODE = 1 then (if compatBad (getF sel SelRec.PARAMS) then 7 else 0)
  else if selBad s sel m t then 7
  else 0

/-- R271: the demand of an admission on its tenant's wicket, by its UNIT. -/
def admDemand (s : State) (w : Nat) (msg : List Byte) : Nat :=
  let a := admRec msg
  match recF s OD.WICKETS w Wicket.UNIT with
  | 1 => 1
  | 2 => if getF a AdmRec.FORK = 1 then 0 else getF a AdmRec.PROMPT_LEN
  | _ => cdiv msg.length 64

/-- R271, R272: the wicket's test of an admission: GREEN, or YELLOW with PRIORITY 8 or above, conforms; else the hold is counted. -/
def wicketAdmits (s : State) (msg : List Byte) : State × Bool :=
  let a := admRec msg
  let w := tenF s (getF a AdmRec.TENANT) Tenant.WICKET
  let n := admDemand s w msg
  let c := wicketColour s w n
  let ok := c == 0 || (c == 1 && decide (8 ≤ getF a AdmRec.PRIORITY))
  let t := wicketDebit s w n
  if ok then (t, true) else (odInc t OD.WICKET_HOLDS, false)

/-- An admission reply. -/
def admReply (s : State) (dev qp rid status reason state device row : Nat) (for_ : Option Nat) : State :=
  sendReply s ⟨dev, qp, leBytes 16 (mkRec [(AdmReply.REQUEST_ID, rid), (AdmReply.STATUS, status), (AdmReply.REASON, reason),
    (AdmReply.STATE, state), (AdmReply.DEVICE, device), (AdmReply.ROW, row)]), for_⟩

/-- ADMIT_COUNTS: 0 admitted, 1 duplicate, 2 to 4 deferred for WICKET, BUDGET, NO_ROW, 5 rejected, 6 role closed, 7 forks. -/
abbrev admCount (s : State) (i : Nat) : State := odAdd s OD.ADMIT_COUNTS i 1

/-- The reply an admission's own record asks for. -/
def answerAdm (s : State) (a status reason state device row : Nat) (for_ : Option Nat) : State :=
  admReply s (getF a AdmRec.REPLY_NODE) (getF a AdmRec.REPLY_QP) (getF a AdmRec.REQUEST_ID) status reason state device row for_

/-- The DUPLICATE answer to a request whose Locket entry has value `v` (R149, R337): state, device, row. -/
def dupFields (s : State) (v : Nat) : Nat × Nat × Nat :=
  match getF v DedupeVal.FORM with
  | 1 => (rowState s (getF v DedupeVal.ROW), ownDevice s, getF v DedupeVal.ROW)
  | 2 => (getF v DedupeVal.STATE, ownDevice s, getF v DedupeVal.ROW)
  | _ => (0xF, getF v DedupeVal.DEVICE, getF v DedupeVal.ROW)

/-- A message that is no longer waiting. -/
def waitDrop (s : State) (q : Nat) (control : Bool) (msg : List Byte) : State :=
  { s with rows := { s.rows with waiting := s.rows.waiting.filter (fun w => !(w.qp == q && w.control == control && w.msg == msg)) } }

/-- Has the sender of a message been told that it is deferred? -/
def waitTold (s : State) (q : Nat) (control : Bool) (msg : List Byte) : Bool :=
  s.rows.waiting.any (fun w => w.qp == q && w.control == control && w.msg == msg && w.told)

/-- A message that waits in its place of arrival: told that it is deferred or not, taken up in this frame or not. -/
def waitPut (s : State) (q : Nat) (control : Bool) (msg : List Byte) (told tried : Bool) : State :=
  if s.rows.waiting.any (fun w => w.qp == q && w.control == control && w.msg == msg) then
    { s with rows := { s.rows with waiting := s.rows.waiting.map (fun w =>
        if w.qp == q && w.control == control && w.msg == msg then { w with told := w.told || told, tried := w.tried || tried } else w) } }
  else { s with rows := { s.rows with waiting := s.rows.waiting ++ [⟨q, control, msg, told, tried⟩] } }

/-- R149: is it the turn of an admission message: has it not been taken up in this frame, and has every one that waits on a lower queue
pair, or came before it on its own? -/
def admTurn (s : State) (q : Nat) (msg : List Byte) : Bool :=
  let l := s.rows.waiting.filter (fun w => !w.control)
  l.all (fun w => w.tried || decide (q ≤ w.qp))
    && (l.takeWhile (fun w => !(w.qp == q && w.msg == msg))).all (fun w => w.tried || w.qp != q)
    && l.all (fun w => !(w.qp == q && w.msg == msg && w.tried))

/-- R18, R149: an admission deferred: counted by reason, told once, not taken up again in this frame. -/
def admDefer (s : State) (q : Nat) (msg : List Byte) (reason : Nat) : State :=
  let s := admCount s (1 + reason)
  if waitTold s q false msg then waitPut s q false msg true true
  else waitPut (answerAdm s (admRec msg) 2 reason 0 0 0 none) q false msg true true

/-- The fields of a row that an admission fills (R19, R138), over a fork's parent if it has one. -/
def admRow (s : State) (a : Nat) (parent : Option Nat) : Nat :=
  let f := frameNo s
  let flags := mkRec [(fld 7 7, getF a AdmRec.DEADLINE_EN), (fld 3 3, getF a AdmRec.FORK)]
  let own := [(Row.REQUEST_ID, getF a AdmRec.REQUEST_ID), (Row.TENANT, getF a AdmRec.TENANT), (Row.PRIORITY, getF a AdmRec.PRIORITY),
    (Row.MODEL_SLOT, getF a AdmRec.MODEL_SLOT), (Row.ADAPTER_SLOT, getF a AdmRec.ADAPTER_SLOT), (Row.ADAPTER_EN, getF a AdmRec.ADAPTER_EN),
    (Row.ADAPTER_VER, admVersion s a), (Row.OWNER_EPOCH, 1), (Row.REPLY_NODE, getF a AdmRec.REPLY_NODE),
    (Row.REPLY_QP, getF a AdmRec.REPLY_QP), (Row.DEADLINE_FRAME, getF a AdmRec.DEADLINE_FRAME), (Row.ADMIT_FRAME, f)]
  match parent with
  | some p =>
    let c := rowGet s p Row.COMMITTED_LEN
    mkRec (own ++ [(Row.ADAPTER_SLOT, rowGet s p Row.ADAPTER_SLOT), (Row.ADAPTER_VER, rowGet s p Row.ADAPTER_VER),
      (Row.PROMPT_LEN, rowGet s p Row.PROMPT_LEN), (Row.COMMITTED_LEN, c),
      (Row.PROV_LEN, c), (Row.LAST_COMMIT_FRAME, f), (Row.SEED, rowGet s p Row.SEED), (Row.DRAW_COUNT, rowGet s p Row.DRAW_COUNT),
      (Row.GRAMMAR_STATE, rowGet s p Row.GRAMMAR_STATE), (Row.FLAGS, setBit flags 6 (rowFlag s p 6))])
  | none => mkRec (own ++ [(Row.PROMPT_LEN, getF a AdmRec.PROMPT_LEN), (Row.FLAGS, flags)])

/-- R138: a fork's strand: the parent's beads over its committed length, a reference on each; none where a reference is refused. -/
def forkStrand (s : State) (r p : Nat) (place : List Nat) : Option State :=
  let n := cdiv (rowGet s p Row.COMMITTED_LEN) 16
  let beads := (List.range n).map (strandBead s p)
  let s := strandForm s r (strandClass s p) (segLog2 n) place
  let t := beads.zipIdx.foldl (fun (acc : State × Bool) b =>
    if acc.2 then
      let u := beadRef acc.1 b.1 (descF acc.1 b.1 BeadDesc.GEN)
      (strandPut u r b.2 b.1, u.pool.answer == 0)
    else acc) (s, true)
  if t.2 then some (strandCount t.1 r n) else none

/-- FORK (R138): admitted into HELD, nothing reserved. -/
def admFork (s : State) (q : Nat) (msg : List Byte) (place : List Nat) (r p : Nat) : State :=
  let a := admRec msg
  if placeOk s (2 ^ segLog2 (cdiv (rowGet s p Row.COMMITTED_LEN) 16)) place = false then admDefer s q msg 3
  else
    let x := deviceInsert s 1 (dedupeKey (getF a AdmRec.REQUEST_ID) 0) (rowValue s r 1)
    if x.2.1 = 3 then admDefer x.1 q msg 3
    else
      let t := odPut x.1 OD.SELECTION_VIEW r (selRec s p)
      match forkStrand (rowTake t r (admRow s a (some p)) 4) r p place with
      | none => waitDrop (answerAdm (admCount (entryRemove x.1 x.2.2) 5) a 3 5 0 0 0 none) q false msg
      | some t =>
        let t := pinRow t r
        let toks := match kfind t.rows.tokens p with
          | some l => kput t.rows.tokens r (l.take (rowGet t p Row.COMMITTED_LEN))
          | none => t.rows.tokens
        let t := { t with rows := { t.rows with admits := t.rows.admits + 1, tokens := toks } }
        waitDrop (answerAdm (admCount (admCount t 0) 7) a 0 0 4 (ownDevice s) r (some r)) q false msg

/-- R19, R154, R169: an admission of a prompt into ADMITTED, its prefill charge reserved. -/
def admPrompt (s : State) (q : Nat) (msg : List Byte) (r : Nat) : State :=
  let a := admRec msg
  let sel := admSel msg
  let m := getF a AdmRec.MODEL_SLOT
  let n := getF a AdmRec.PROMPT_LEN
  let x := deviceInsert s 1 (dedupeKey (getF a AdmRec.REQUEST_ID) 0) (rowValue s r 1)
  if x.2.1 = 3 then admDefer x.1 q msg 3
  else
    let s := x.1
    let native := selTaken sel (recF s OD.MODEL_SLOTS m ModelSlot.VOCAB)
    let compat := getF sel SelRec.MODE = 1
    let d := getF sel SelRec.PARAMS
    let s := if compat ∧ 1024 < getF d Dn5420.TOPK then odInc s OD.COMPAT_CLAMPS else s
    let seed := if compat ∧ getF d Dn5420.SEED ≠ 0 then getF d Dn5420.SEED else getF a AdmRec.SEED
    let units := prefillUnits s m n
    let s := odPut s OD.SELECTION_VIEW r native
    let s := rowTake s r (setFs (admRow s a none) [(Row.SEED, seed),
      (Row.GRAMMAR_STATE, getF (getF native SelRec.PARAMS) SelNat.START_STATE)]) 1
    let s := pinRow ((reserve s r units).getD s) r
    let s := { s with rows := { s.rows with admits := s.rows.admits + 1, prefill := kput s.rows.prefill r units,
                                            prompt := kput s.rows.prompt r (admTokens msg n),
                                            tokens := kput s.rows.tokens r (admTokens msg n) } }
    waitDrop (answerAdm (admCount s 0) a 0 0 1 (ownDevice s) r (some r)) q false msg

/-- R18: wicket, budget and row, after the duplicate test. -/
def admChecks (s : State) (q : Nat) (msg : List Byte) (place : List Nat) : State :=
  let a := admRec msg
  let w := wicketAdmits s msg
  let s := w.1
  let fork := if getF a AdmRec.FORK = 1 then forkParent s a else none
  let units := if fork.isSome then 0 else prefillUnits s (getF a AdmRec.MODEL_SLOT) (getF a AdmRec.PROMPT_LEN)
  if w.2 = false then admDefer s q msg 1
  else if balance s (getF a AdmRec.TENANT) < (units : Int) ∧ fork.isNone then admDefer s q msg 2
  else
    match freeRow s, fork with
    | none, _ => admDefer s q msg 3
    | some r, some p => admFork s q msg place r p
    | some r, none => admPrompt s q msg r

/-- R13, R149, R360, R430: does the planner take up admissions now? Not once the table that its build is for is sealed. -/
def admTakes (s : State) : Bool :=
  framesRun s && od s OD.POWER_STATE == 0 && s.ft.engineFault == [] && !fnClosing s 0 && decide (s.rows.admits < od s OD.ADMIT_PER_FRAME)
  && getF s.frm.nextHdr TableHdr.SEALED == 0

/-- ADMISSION_RECORD (R148, R149, R18, R19): a message `msg` of client queue pair `q`, at its arrival and each time it is tried again;
`place` names a fork's strand header and segments. -/
def execAdmissionRecord (q : Nat) (msg : List Byte) (place : List Nat) (s : State) : Res :=
  answer s (
    if inRun s = false ∨ 1 < qpF s q QpCtx.FUNCTION then s
    else if fnOpen s 0 = false ∨ qpF s q QpCtx.FUNCTION = 1 then
      waitDrop (answerAdm (admCount s 6) (admRec msg) 4 0 0 0 0 none) q false msg
    else if admTakes s = false ∨ admTurn s q msg = false then waitPut s q false msg false false
    else
      let a := admRec msg
      let why := admScreen s msg
      if why ≠ 0 then waitDrop (answerAdm (admCount s 5) a 3 why 0 0 0 none) q false msg
      else
        let x := search s 1 (dedupeKey (getF a AdmRec.REQUEST_ID) 0)
        match x.2 with
        | some u =>
          let d := dupFields x.1 (lkValue x.1 u)
          waitDrop (answerAdm (admCount x.1 1) a 1 0 d.1 d.2.1 d.2.2 none) q false msg
        | none => admChecks x.1 q msg place)

/-! Client control records (R152). -/

/-- The answer to a control record whose request has no row here: MOVED from a departure record, else REJECTED. -/
def ctlNoRow (s : State) (q rid : Nat) : State :=
  let x := requestEntry s rid
  let s := x.1
  let dev := qpF s q QpCtx.PEER_DEVICE
  let qp := qpF s q QpCtx.PEER_QP
  match x.2 with
  | some u =>
    if getF (lkValue s u) DedupeVal.FORM = 3 then
      let d := dupFields s (lkValue s u)
      admReply s dev qp rid 1 0 d.1 d.2.1 d.2.2 none
    else admReply s dev qp rid 3 0 0 0 0 none
  | none => admReply s dev qp rid 3 0 0 0 0 none

/-- An answer about a row to its reply endpoint. -/
def ctlReply (s : State) (r status reason : Nat) : State :=
  admReply s (rowGet s r Row.REPLY_NODE) (rowGet s r Row.REPLY_QP) (rowGet s r Row.REQUEST_ID) status reason (rowState s r)
    (ownDevice s) r (some r)

/-- A control record takes a flag of its row; while the row is HANDING at its source the image follows (R190). -/
def ctlFlag (s : State) (q rid bit : Nat) : State :=
  let x := requestRow s rid
  match x.2 with
  | none => ctlNoRow s q rid
  | some r => imageSync (rowFlagSet x.1 r bit true) r

/-- CANCEL (R152). -/
def execCancel (q rid : Nat) (s : State) : Res := answer s (if inRun s then ctlFlag s q rid 5 else s)
/-- CLOSE (R152). -/
def execClose (q rid : Nat) (s : State) : Res := answer s (if inRun s then ctlFlag s q rid 4 else s)

/-- The control record of a CONTINUE and its tokens, as received. -/
def contMsg (rid : Nat) (toks : List Nat) : List Byte :=
  leBytes 16 (mkRec [(CtlRec.REQUEST_ID, rid), (CtlRec.KIND, 2), (CtlRec.TOKENS, toks.length)]) ++ toks.flatMap (leBytes 4)

/-- R147, R152, R154: a CONTINUE accepted: reserved, END_SEEN clear, the pending token and its own to be computed. -/
def contAccept (s : State) (r units : Nat) (toks : List Nat) : State :=
  let c := rowGet s r Row.COMMITTED_LEN
  let s := rowFlagSet (rowSet s r [(Row.PROMPT_LEN, c + 1 + toks.length)]) r 6 false
  let fed := getF (selRec s r) SelRec.LAST_TOKEN :: toks
  let s := tokensAdd { s with rows := { s.rows with prefill := kput s.rows.prefill r units, prompt := kput s.rows.prompt r fed } } r fed
  if rowState s r = 4 then rowDue s r (if fnPlans s 2 then 2 else 5) 0 else s

/-- R147, R152: a CONTINUE is applied before a hold limit reached in the same build. -/
def holdWithdraw (s : State) (r : Nat) : State :=
  { s with rows := { s.rows with due := s.rows.due.filter (fun d => !(d.1 == r && d.2 == 8 + 16 * 3 && rowState s r == 6)) } }

/-- CONTINUE (R147, R152, R154, R175): at its arrival and each time it is tried again. -/
def execContinue (q rid : Nat) (toks : List Nat) (s : State) : Res :=
  answer s (
    if inRun s then
      let msg := contMsg rid toks
      let x := requestRow s rid
      match x.2 with
      | none => waitDrop (ctlNoRow s q rid) q true msg
      | some r =>
        let s := holdWithdraw x.1 r
        let n := toks.length
        let m := rowGet s r Row.MODEL_SLOT
        let units := prefillUnits s m n
        if n = 0 ∨ toks.any (fun t => decide (recF s OD.MODEL_SLOTS m ModelSlot.VOCAB ≤ t)) then
          waitDrop (ctlReply s r 3 4) q true msg
        else if od s OD.CONTINUE_MAX < n ∨ 2 ^ 24 < rowGet s r Row.COMMITTED_LEN + 1 + n then waitDrop (ctlReply s r 3 6) q true msg
        else if (rowState s r ≠ 4 ∧ rowState s r ≠ 6) ∨ hasDue s r ∨ rowGet s r Row.COMMITTED_LEN < rowGet s r Row.PROMPT_LEN then
          waitPut s q true msg false false
        else if rowState s r = 4 ∧ fnPlans s 2 = false ∧ fnPlans s 3 = false ∨ role s = 1 then waitDrop (ctlReply s r 4 0) q true msg
        else
          match reserve s r units with
          | none => if waitTold s q true msg then s else waitPut (ctlReply s r 2 2) q true msg true false
          | some t => waitDrop (contAccept t r units toks) q true msg
    else s)

/-! SUSPEND and RESUME (R147, R152). -/

/-- A SUSPEND of a row: at a HANDING row its flag. -/
def suspendRow (s : State) (r : Nat) : State :=
  let st := rowState s r
  if st = 0 ∨ 7 ≤ st then s
  else if st = 3 then imageSync (rowFlagSet s r 2 true) r
  else if s.rows.suspending.contains r then s
  else { s with rows := { s.rows with suspending := s.rows.suspending ++ [r] } }

/-- A RESUME of a row; of one that is not SUSPENDED, or is leaving that state, none. -/
def resumeRow (s : State) (r : Nat) : State :=
  if rowState s r = 7 ∧ hasDue s r = false then rowDue s r (rowGet s r Row.PRIOR_STATE) 0 else s

/-! Timers of rows (R151, R147, R24). -/

/-- DEADLINE_MISS (R151): counted once; with DEADLINE_HARD the row fails. A HANDING row runs no timer (R183). -/
def execDeadlineMiss (r : Nat) (s : State) : Res :=
  answer s (
    let st := rowState s r
    let late := frameLater (frameNo s) (rowGet s r Row.DEADLINE_FRAME)
    if framesRun s ∧ st ≠ 0 ∧ st ≠ 3 ∧ st < 8 ∧ rowFlag s r 7 ∧ late ∧ getF (selRec s r) SelRec.OUTPUT_COUNT = 0
        ∧ s.rows.missed.contains r = false then
      let s := odInc { s with rows := { s.rows with missed := s.rows.missed ++ [r] } } OD.DEADLINE_MISSES
      if tenF s (rowGet s r Row.TENANT) Tenant.DEADLINE_HARD = 1 then rowFail s r 4 else s
    else s)

/-- Frames since a row's last committed position (R24, R147). -/
def rowIdle (s : State) (r : Nat) : Nat := frameDiff (rowGet s r Row.LAST_COMMIT_FRAME) (frameNo s)

/-- PARK_IDLE (R147): a HELD row with nothing to compute, idle for PARK_IDLE_FRAMES, offered to a cache node; its pass area at `area`. -/
def execParkIdle (r area : Nat) (s : State) : Res :=
  answer s (
    if framesRun s ∧ rowState s r = 4 ∧ (role s = 2 ∨ role s = 4) ∧ od s OD.PARK_IDLE_FRAMES ≤ rowIdle s r ∧ hasDue s r = false
        ∧ rowGet s r Row.PROMPT_LEN ≤ rowGet s r Row.COMMITTED_LEN then offerRow s r 1 area
    else s)

/-- HOLD_LIMIT (R24): a PARKED row no CONTINUE has been accepted for, idle for its tenant's hold limit. -/
def execHoldLimit (r : Nat) (s : State) : Res :=
  answer s (
    if framesRun s ∧ rowState s r = 6 ∧ tenF s (rowGet s r Row.TENANT) Tenant.HOLD_LIMIT ≤ rowIdle s r ∧ hasDue s r = false
        ∧ rowGet s r Row.PROMPT_LEN ≤ rowGet s r Row.COMMITTED_LEN then rowDue s r 8 3
    else s)

/-! Completion (R25). -/

/-- The first two items of R25: beads and shards given up, budget settled. -/
def rowSettle (s : State) (r : Nat) : State :=
  let s := releaseAll (strandGiveUp s r) r
  { s with rows := { s.rows with settled := s.rows.settled ++ [r] } }

/-- The fourth and fifth: final status written, Locket entry rewritten, row freed. -/
def rowClose (s : State) (r : Nat) : State :=
  let s := { s with rows := { s.rows with completed := s.rows.completed ++ [(rowGet s r Row.REQUEST_ID, rowGet s r Row.FINAL_STATUS)] } }
  rowFree (entryEnded s r) r

/-- ROW_COMPLETION (R25): a DONE or FAILED row; while its reply queue pair holds outstanding work for it, it waits after the second
item. -/
def execRowCompletion (r : Nat) (s : State) : Res :=
  answer s (
    if 8 ≤ rowState s r ∧ rowInFlight s r = false then
      let s := if s.rows.settled.contains r then s else rowSettle s r
      if rowReplies s r then s else rowClose s r
    else s)

/-! The build's state changes (R147). -/

/-- What the planner decides about a row in a build, beside what its acts name, in the order of R147: an error on the request; client
control (CANCEL, CLOSE; SUSPEND); a timer that fails it (R151); what a commit ends: a prompt on a MIXED node (after the token that follows
it), output. A row completes or fails once no step of it is in flight. -/
def rowBuild (s : State) (r : Nat) : State :=
  let st := rowState s r
  let still := rowInFlight s r = false
  let doom := kget s.rows.doomed r 0
  if st = 0 ∨ st = 3 ∨ 8 ≤ st ∨ hasDue s r then s
  else if doom ≠ 0 ∧ doom ≠ 4 then (if still then rowDue s r 9 doom else s)
  else if rowFlag s r 5 then (if still then rowDue s r 8 1 else s)
  else if rowFlag s r 4 then (if still then rowDue s r 8 (if rowFlag s r 6 then 0 else 2) else s)
  else if s.rows.suspending.contains r then
    rowDue { s with rows := { s.rows with suspending := s.rows.suspending.filter (· != r) } } r 7 0
  else if doom = 4 then (if still then rowDue s r 9 4 else s)
  else if st = 2 ∧ fnOpen s 3 ∧ rowGet s r Row.COMMITTED_LEN = rowGet s r Row.PROMPT_LEN ∧ (kfind s.rows.prompt r).isNone ∧ still then
    rowDue s r 5 0
  else if st = 5 ∧ rowFlag s r 6 ∧ still then rowDue s r 4 0
  else s

/-- The rows in use. -/
def rowsInUse (s : State) : List Nat :=
  (s.od.filter (fun p => p.1 / 2 ^ 24 == OD.SCOREBOARD_VIEW && getF p.2 Row.STATE != 0)).map (fun p => p.1 % 2 ^ 24)

/-- Every row's part of a build. -/
def rowsBuild (s : State) : State := (rowsInUse s).foldl rowBuild s

/-- R147: a change of the build at its tick; 255 in place of a final status marks the return of a row whose offer came to nothing. -/
def dueApply (s : State) (d : Nat × Nat) : State :=
  let r := d.1
  let st := d.2 % 16
  let old := rowState s r
  if old = 3 ∧ d.2 / 16 = 255 then rowReturn s r st
  else if old = 0 ∨ old = 3 ∨ 8 ≤ old then s
  else if 8 ≤ st then rowEnd s r st (d.2 / 16)
  else if st = 7 then rowMove (rowSet s r [(Row.PRIOR_STATE, old)]) r 7
  else rowMove s r st

/-- R147: every change of the build of the frame that begins appears. -/
def duesApply (s : State) : State := s.rows.dueSealed.foldl dueApply { s with rows := { s.rows with dueSealed := [] } }

/-- R147: what a build has changed is fixed with the seal of its table. -/
def duesSeal (s : State) : State := { s with rows := { s.rows with dueSealed := s.rows.dueSealed ++ s.rows.due, due := [] } }

/-! Model slots and adapters (R159, R162, R163). -/

/-- R159: a MODEL_SLOTS write of slot `m` that asks for DRAINING while the overlay in force names the slot as its draft model. -/
def modelInUse (s : State) (m v : Nat) : Bool := getF v ModelSlot.STATE == 3 && Config.draftModel (od s OD.OVERLAY_ACTIVE) m

/-- R159: a model slot record takes effect: PINS stays the part's own. -/
def modelApply (s : State) (m v : Nat) : State :=
  let s := odPut s OD.MODEL_SLOTS m (setF v ModelSlot.PINS (recF s OD.MODEL_SLOTS m ModelSlot.PINS))
  slotNote { s with rows := { s.rows with slotZero := kdel s.rows.slotZero m } } m

/-- MODEL_SLOT_EMPTY (R159): at the end of the drain after the tick of frame `n`. -/
def modelDrain (s : State) (n : Nat) : State :=
  let gone := s.rows.slotZero.filter (fun p => frameGe n p.2)
  let s := { s with rows := { s.rows with slotZero := s.rows.slotZero.filter (fun p => !frameGe n p.2) } }
  gone.foldl (fun t p => recSet t OD.MODEL_SLOTS p.1 [(ModelSlot.STATE, 0)]) s

/-- The live versions of an adapter slot. -/
def liveVersions (s : State) (slot : Nat) : List Nat :=
  (List.range 4096).filter (fun i => recF s OD.ADAPTER_VERSIONS i AdVer.SLOT == slot && recF s OD.ADAPTER_VERSIONS i AdVer.STATE != 0)

/-- Does no version's storage meet [a, a + n)? -/
def adapterFree (s : State) (a n : Nat) : Bool :=
  (List.range 4096).all (fun i => recF s OD.ADAPTER_VERSIONS i AdVer.STATE == 0
    || !meets a n (recF s OD.ADAPTER_VERSIONS i AdVer.BASE) (recF s OD.ADAPTER_VERSIONS i AdVer.BYTES))

/-- The lowest place of the adapter pool with `n` free bytes: its start or the end of a version's storage. -/
def adapterPlace (s : State) (n : Nat) : Option Nat :=
  let base := odGet s OD.ADAPTER_POOL 0
  let size := odGet s OD.ADAPTER_POOL 1
  let ends := ((List.range 4096).filter (fun i => recF s OD.ADAPTER_VERSIONS i AdVer.STATE != 0)).map (fun i =>
    recF s OD.ADAPTER_VERSIONS i AdVer.BASE + recF s OD.ADAPTER_VERSIONS i AdVer.BYTES)
  let ok := (base :: ends).filter (fun a => decide (base ≤ a) && decide (a + n ≤ base + size) && adapterFree s a n)
  ok.foldl (fun (best : Option Nat) a => match best with | none => some a | some b => some (min a b)) none

/-- R163: ADAPTER_LOAD takes a FREE record as LOADING with the slot's next version; none where the slot has 4 live versions or no record
or room is left (VERSIONS_FULL). -/
def adapterLoad (s : State) (v : Nat) : Option State :=
  let slot := getF v (fld 63 54)
  let bytes := 64 * getF v (fld 26 0)
  let free := (List.range 4096).find? (fun i => recF s OD.ADAPTER_VERSIONS i AdVer.STATE == 0)
  if 4 ≤ (liveVersions s slot).length then none
  else
    match free, adapterPlace s bytes with
    | some i, some a =>
      let ver := (kget s.rows.lastVer slot 0 + 1) % 65536
      let s := { s with rows := { s.rows with lastVer := kput s.rows.lastVer slot ver } }
      some (odPut s OD.ADAPTER_VERSIONS i (mkRec [(AdVer.SLOT, slot), (AdVer.VERSION, ver), (AdVer.STATE, 1),
        (AdVer.MODEL_SLOT, getF v (fld 53 48)), (AdVer.TENANT, getF v (fld 47 36)), (AdVer.RANK, getF v (fld 35 27)),
        (AdVer.BASE, a), (AdVer.BYTES, bytes)]))
    | _, _ => none

/-- R163: ADAPTER_COMMIT takes effect: the LOADING version it names becomes CURRENT, the old CURRENT one RETIRING. -/
def adapterCommit (s : State) (v : Nat) : State :=
  let slot := getF v (fld 25 16)
  match (liveVersions s slot).find? (fun i => recF s OD.ADAPTER_VERSIONS i AdVer.VERSION == v % 65536
      && recF s OD.ADAPTER_VERSIONS i AdVer.STATE == 1) with
  | none => s
  | some i =>
    let s := match versionCurrent s slot with
      | some o => versionNote (recSet s OD.ADAPTER_VERSIONS o [(AdVer.STATE, 3)]) o
      | none => s
    recSet s OD.ADAPTER_VERSIONS i [(AdVer.STATE, 2)]

/-- ADAPTER_RETIRE (R163): at the end of the drain after the tick of frame `n`, RETIRING versions that no row pins are FREE. -/
def adapterDrain (s : State) (n : Nat) : State :=
  (List.range 4096).foldl (fun t i =>
    let v := odGet t OD.ADAPTER_VERSIONS i
    if getF v AdVer.STATE = 3 ∧ getF v AdVer.PINS = 0 ∧ frameGe n (getF v AdVer.FRAME_RETIRED) then odPut t OD.ADAPTER_VERSIONS i 0
    else t) s

/-- R158: a tenant's virtual clock at a tick: the frame's core-clocks divided by SHARE; a tenant that gains ready work takes at least the
lowest clock among those that have it. -/
def vclockTick (s : State) (ready : List Nat) : State :=
  let clocks := s.frm.frameClocks ++ s.frm.lateClocks.map (fun p => (p.1 % 8192, p.2))
  let s := clocks.foldl (fun t p =>
    if p.1 < 4096 then odAdd t OD.TENANT_VCLOCK p.1 (p.2 / max 1 (tenF t p.1 Tenant.SHARE)) else t) s
  let low := (s.rows.ready.filter ready.contains).foldl (fun (m : Option Nat) t =>
    match m with | none => some (odGet s OD.TENANT_VCLOCK t) | some v => some (min v (odGet s OD.TENANT_VCLOCK t))) none
  let s := (ready.filter (fun t => !s.rows.ready.contains t)).foldl (fun u t =>
    match low with
    | some v => odPut u OD.TENANT_VCLOCK t (max (odGet u OD.TENANT_VCLOCK t) v)
    | none => u) s
  { s with rows := { s.rows with ready := ready } }

/-- R155, R158: the tenants with ready work: a row in ADMITTED, PREFILL, or DECODE, or HELD with END_SEEN clear. -/
def readyTenants (s : State) : List Nat :=
  ((rowsInUse s).filter (fun r => let st := rowState s r; st == 1 || st == 2 || st == 5 || (st == 4 && !rowFlag s r 6))).map
    (fun r => rowGet s r Row.TENANT) |>.eraseDups

end Sys2Proof.Machine
end

