-- ==== Sys2Proof/Machine/Selection.lean ====
section
/-! DEFINITION. Chapter 08: the token selection unit: masking, sampling, verification of drafts, grammars, the SELECT step.
Choices of the model here, by the assumption log: log 38 (DEDUCED). -/

namespace Sys2Proof.Machine

/-- The unit of a TSU lane. -/
abbrev tsuUnit (lane : Nat) : Nat := unitKey 6 lane

/-- A read that a selection makes: memory goes on, and the first error response's address is kept. -/
structure SelRead where
  s : State
  bad : Bool
  fail : Option Nat
  deriving DecidableEq, Repr

/-- Bytes read on behalf of an entry. -/
def selRead (x : SelRead) (rd : Reader) (a n : Nat) : SelRead × List Byte :=
  let r := readMem x.s true rd a n
  (⟨r.1, x.bad || r.2.2.1 != 0, if x.fail.isNone ∧ r.2.2.1 ≠ 0 then some r.2.2.2 else x.fail⟩, r.2.1)

/-- Bit `t` of a bitmap: bit t mod 8 of byte t / 8 (R170). -/
def maskBit (bs : List Byte) (t : Nat) : Bool := bitOf (bs.getD (t / 8) 0).toNat (t % 8)

/-- R170: the allowed tokens of a logit row and their logits (FP32 bits, +Inf as the largest finite number), in ascending index. -/
def allowedSet (logits : List Nat) (mask allow : Option (List Byte)) : List (Nat × Nat) :=
  (logits.zipIdx.filter (fun p =>
    mask.all (fun m => maskBit m p.2) && allow.all (fun m => maskBit m p.2) && !f32isNan p.1 && p.1 != 0xFF800000)).map
    (fun p => (p.2, if p.1 = 0x7F800000 then 0x7F7FFFFF else p.1))

/-! Sampling (R171, R173). -/

/-- Step 2: the token of the largest logit, the lowest index among equals. -/
def greedyPick (a : List (Nat × Nat)) : Option Nat :=
  (a.foldl (fun (best : Option (Nat × Nat)) p =>
    match best with
    | none => some p
    | some b => if f32lt b.2 p.2 then some p else some b) none).map Prod.fst

/-- λ of R107: the FP32 constant 0x3FB8AA3B. -/
abbrev selLambda : Nat := 0x3FB8AA3B

/-- A weight: 1 for z = z_max, else exp2(RNE(RNE(z − z_max) × λ)). -/
def selWeight (z zmax : Nat) : Nat :=
  if f32key z = f32key zmax then 0x3F800000 else sfn 0 (f32mul (f32sub z zmax) selLambda)

/-- Step 4: z_max and the running sum S over A, in ascending index. -/
def weightPass (zs : List Nat) : Nat × Nat :=
  zs.foldl (fun (acc : Nat × Nat) z =>
    if f32lt acc.1 z then
      let al := if acc.1 = 0xFF800000 then 0 else sfn 0 (f32mul (f32sub acc.1 z) selLambda)
      (z, f32add (f32mul acc.2 al) 0x3F800000)
    else (acc.1, f32add acc.2 (selWeight z acc.1))) (0xFF800000, 0)

/-- Candidate order: descending z, ascending index among equals. -/
def candInsert (p : Nat × Nat) : List (Nat × Nat) → List (Nat × Nat)
  | [] => [p]
  | q :: t => if f32lt p.2 q.2 then q :: candInsert p t else p :: q :: t

/-- A list in candidate order. -/
def candSort (l : List (Nat × Nat)) : List (Nat × Nat) := l.foldr candInsert []

/-- Step 6: the shortest prefix whose cumulative weight reaches a threshold; none where the candidates run out. -/
def topPPrefix (thr cum : Nat) : List (Nat × Nat) → Option (List (Nat × Nat))
  | [] => none
  | p :: t =>
    let c := f32add cum p.2
    if f32lt c thr then (topPPrefix thr c t).map (p :: ·) else some [p]

/-- Step 8: the first token whose cumulative weight is at least θ, else the last one. -/
def drawPick (theta cum : Nat) : List (Nat × Nat) → Nat
  | [] => 0
  | [p] => p.1
  | p :: t =>
    let c := f32add cum p.2
    if f32lt c theta then drawPick theta c t else p.1

/-- The outcome of one logit row: the selection, whether a draw was made, whether top-p was truncated. -/
structure Pick where
  token : Nat
  drew : Bool
  truncated : Bool
  deriving DecidableEq, Repr

/-- R171, steps 2 to 8, over a set that is not empty: parameters, SEED, DRAW_COUNT. -/
def pickToken (nat_ seed draw : Nat) (a : List (Nat × Nat)) : Pick :=
  let inv := getF nat_ SelNat.INV_TEMP
  let topK := getF nat_ SelNat.TOPK
  let topP := getF nat_ SelNat.TOP_P
  let minP := getF nat_ SelNat.MIN_P
  if inv % 2 ^ 31 = 0 then ⟨(greedyPick a).getD 0, false, false⟩
  else
    let zs := a.map (fun p => (p.1, f32mul p.2 inv))
    let ws := weightPass (zs.map Prod.snd)
    let full := topK = 0 ∧ topP = 0x3F800000 ∧ minP % 2 ^ 31 = 0
    let weigh := fun (l : List (Nat × Nat)) => l.map (fun p => (p.1, selWeight p.2 ws.1))
    let cand := if full then weigh zs else weigh ((candSort zs).take (if topK = 0 then 1024 else topK))
    let cut := if full ∨ topP = 0x3F800000 then some cand else topPPrefix (f32mul topP ws.2) 0 cand
    let kept := cut.getD cand
    let zmaxOf := fun (t : Nat) => zs.any (fun p => p.1 == t && f32key p.2 == f32key ws.1)
    let final := if full ∨ minP % 2 ^ 31 = 0 then kept else kept.filter (fun p => !f32lt p.2 minP || zmaxOf p.1)
    let total := final.foldl (fun c p => f32add c p.2) 0
    let u := toF32 (.fin false (philox seed draw 0 0 1 / 256) (-24))
    ⟨drawPick (f32mul u total) 0 final, true, cut.isNone⟩

/-! Grammars (R177, R178). -/

/-- The state record of state `g` of a grammar. -/
def grState (x : SelRead) (rd : Reader) (gr g : Nat) : SelRead × Nat :=
  let r := selRead x rd (getF gr Grammar.BASE + 16 * g) 16
  (r.1, leNat r.2)

/-- The mask of state `g`; none where its index is out of range (R178). -/
def grMask (x : SelRead) (rd : Reader) (gr g vocab : Nat) : SelRead × Option (List Byte) :=
  let st := grState x rd gr g
  let m := getF st.2 GrState.MASK_INDEX
  if getF gr Grammar.MASK_COUNT ≤ m then (st.1, none)
  else
    let a := getF gr Grammar.BASE + 64 * getF gr Grammar.MASK_OFFSET + m * cdiv (getF gr Grammar.VOCAB) 512 * 64
    let r := selRead st.1 rd a (cdiv vocab 8)
    (r.1, some r.2)

/-- The binary search of R178 over records [lo, hi), each read on the way: the index found. -/
def transSearch : Nat → SelRead → Reader → Nat → Nat → Nat → Nat → SelRead × Option Nat
  | 0, x, _, _, _, _, _ => (x, none)
  | n + 1, x, rd, base, t, lo, hi =>
    if lo < hi then
      let mid := (lo + hi) / 2
      let r := selRead x rd (base + 8 * mid) 8
      let k := getF (leNat r.2) GrState.T_TOKEN
      if k = t then (r.1, some (getF (leNat r.2) GrState.T_NEXT))
      else if k < t then transSearch n r.1 rd base t (mid + 1) hi
      else transSearch n r.1 rd base t lo mid
    else (x, none)

/-- The transition tokens of a state, as they lie in memory. -/
def transTokens (s : State) (base n : Nat) : List Nat :=
  (List.range n).map (fun i => memNat s (homeOf s (base + 8 * i)) 8)

/-- Are tokens strictly ascending? -/
def risingTokens : List Nat → Bool
  | [] => true
  | [_] => true
  | a :: b :: t => decide (getF a GrState.T_TOKEN < getF b GrState.T_TOKEN) && risingTokens (b :: t)

/-- δ(g, t) (R178): none where the next state is out of range. In a list that is not sorted, which record of the token is returned, or
DEFAULT_NEXT, is free. -/
def grNext (x : SelRead) (rd : Reader) (gr g t : Nat) : SelRead × Option Nat :=
  let st := grState x rd gr g
  let n := getF st.2 GrState.TRANS_COUNT
  let base := getF gr Grammar.BASE + 8 * getF st.2 GrState.TRANS_OFFSET
  let toks := transTokens x.s base n
  let found := transSearch 17 st.1 rd base t 0 n
  let dflt := getF st.2 GrState.DEFAULT_NEXT
  let out : SelRead × Nat :=
    if risingTokens toks then (found.1, found.2.getD dflt)
    else
      let cands := (toks.filter (fun k => getF k GrState.T_TOKEN == t)).map (fun k => getF k GrState.T_NEXT)
      let v := takeFree found.1.s
      ({ found.1 with s := v.2 }, (dflt :: cands).getD (v.1 % (cands.length + 1)) dflt)
  (out.1, if out.2 < getF gr Grammar.STATE_COUNT then some out.2 else none)

/-! The walk of one entry (R174, R175). -/

/-- What an entry needs: its row, reader, vocabulary, selection record, grammar, drafts, logits and their format. -/
structure SelJob where
  rd : Reader
  row : Nat
  vocab : Nat
  sel : Nat
  gr : Option Nat
  allow : Option (List Byte)
  drafts : List Nat
  logits : Nat
  bf16 : Bool
  seed : Nat
  deriving DecidableEq, Repr

/-- The walk under way: what has been read, tokens emitted, drafts accepted, END_CAUSE, automaton state, DRAW_COUNT, OUTPUT_COUNT,
LAST_TOKEN, and whether the grammar has failed. -/
structure SelWalk where
  x : SelRead
  toks : List Nat
  acc : Nat
  cause : Nat
  g : Nat
  draw : Nat
  count : Nat
  last : Nat
  badGr : Bool
  deriving DecidableEq, Repr

/-- Logit row `i` as FP32 bits (R167). -/
def logitRow (x : SelRead) (j : SelJob) (i : Nat) : SelRead × List Nat :=
  let w := if j.bf16 then 2 else 4
  let r := selRead x j.rd (j.logits + i * (cdiv (j.vocab * w) 64 * 64)) (j.vocab * w)
  (r.1, (List.range j.vocab).map (fun t =>
    let v := leNat ((r.2.drop (w * t)).take w)
    if j.bf16 then v * 65536 else v))

/-- R174: a token emitted without the grammar's advance: END_CAUSE set where output ends. -/
def emitToken (w : SelWalk) (j : SelJob) (t : Nat) : SelWalk :=
  let count := min (w.count + 1) (2 ^ 24 - 1)
  let lim := if getF j.sel SelRec.MAX_OUTPUT = 0 then 2 ^ 24 - 1 else getF j.sel SelRec.MAX_OUTPUT
  { w with toks := w.toks ++ [t], count := count, last := t,
           cause := if t = getF j.sel SelRec.END_TOKEN then 1 else if lim ≤ count then 2 else 0 }

/-- R172: an empty allowed set: END_TOKEN emitted where one is configured, MASK_EMPTY. -/
def emitEmpty (w : SelWalk) (j : SelJob) : SelWalk :=
  let t := getF j.sel SelRec.END_TOKEN
  let v := if t < j.vocab then emitToken w j t else w
  let x := { v.x with s := odInc v.x.s OD.MASK_EMPTY_ROWS }
  { v with x := x, cause := 3 }

/-- One logit row evaluated, its token emitted (R170 to R174): the walk, and whether it goes on. -/
def walkRow (w : SelWalk) (j : SelJob) (i : Nat) : SelWalk × Bool :=
  let m : SelRead × Option (List Byte) × Bool := match j.gr with
    | some gr =>
      let k := grMask w.x j.rd gr w.g j.vocab
      (k.1, k.2, k.2.isNone)
    | none => (w.x, none, false)
  if m.2.2 ∨ m.1.bad then ({ w with x := m.1, badGr := m.2.2 }, false)
  else
    let l := logitRow m.1 j i
    if l.1.bad then ({ w with x := l.1 }, false)
    else
      let nans := (l.2.filter f32isNan).length
      let s := odAdd (odInc l.1.s OD.ROWS_EVALUATED) OD.NAN_LOGITS 0 nans
      let x := { l.1 with s := s }
      let a := allowedSet l.2 m.2.1 j.allow
      if a = [] then (emitEmpty { w with x := x } j, false)
      else
        let p := pickToken (getF j.sel SelRec.PARAMS) j.seed w.draw a
        let x := if p.truncated then { x with s := odInc x.s OD.TRUNCATED_ROWS } else x
        let ok := j.drafts[i]? == some p.token
        let n : SelRead × Option Nat := match j.gr with
          | some gr => grNext x j.rd gr w.g p.token
          | none => (x, some w.g)
        let draw := if p.drew then (w.draw + 1) % 2 ^ 32 else w.draw
        let v := emitToken { w with x := n.1, acc := w.acc + b2n ok, draw := draw, g := n.2.getD w.g, badGr := n.2.isNone } j p.token
        (v, ok && v.cause == 0 && !v.badGr && !v.x.bad)

/-- The rows of an entry in turn. -/
def walkRows : Nat → SelWalk → SelJob → Nat → SelWalk
  | 0, w, _, _ => w
  | n + 1, w, j, i =>
    let r := walkRow w j i
    if r.2 then walkRows n r.1 j (i + 1) else r.1

/-! Entries (R166 to R168, R176). -/

/-- R168: BAD_ENTRY, then ROLE_CLOSED, then a contained row (R217): ESTATUS 0 where the entry runs. -/
def entryScreen (s : State) (e : Nat) : Nat :=
  let r := getF e SelEntry.ROW
  let first := getF e SelEntry.FIRST == 1
  let d := getF e SelEntry.DRAFTS
  let cont := getF e SelEntry.CONT
  let a := getF e SelEntry.LOGITS_ADDR
  let inMem := decide (a < 2 ^ 40) || (decide (commonsBase ≤ a) && decide (a < commonsBase + 2048 * 65536))
  if (first && d != 0) || (first && rowState s r != 2) || (!first && rowState s r != 5) || !inMem
      || getF e SelEntry.DRAFT_ADDR % 4 != 0 || decide (16 < cont) || (cont != 0 && (first || d != 0))
      || (getF e SelEntry.CONT_LAST == 1 && cont == 0) then 1
  else if !first && role s == 1 then 4
  else if isContained s r (rowGet s r Row.MODEL_SLOT) then 3
  else 0

/-- The walk of an entry: drafts and allow-list read first. -/
def entryWalk (s : State) (f : Flight) (bf16 : Bool) (e : Nat) : SelWalk :=
  let r := getF e SelEntry.ROW
  let rd := { stepReader f with rowValid := true, row := r }
  let sel := selRec s r
  let vocab := recF s OD.MODEL_SLOTS (rowGet s r Row.MODEL_SLOT) ModelSlot.VOCAB
  let d := getF e SelEntry.DRAFTS
  let rows := if getF e SelEntry.CONT ≠ 0 ∧ getF e SelEntry.CONT_LAST = 0 then 0 else d + 1
  let x0 : SelRead := ⟨s, false, none⟩
  let dr := selRead x0 rd (getF e SelEntry.DRAFT_ADDR) (4 * d)
  let al : SelRead × Option (List Byte) :=
    if selNat s r SelNat.ALLOW_EN = 1 ∧ rows ≠ 0 then
      let a := selRead dr.1 rd (selNat s r SelNat.ALLOW_ADDR) (cdiv vocab 8)
      (a.1, some a.2)
    else (dr.1, none)
  let j : SelJob := {
    rd := rd, row := r, vocab := vocab, sel := sel, gr := (rowGrammar s r).map (odGet s OD.GRAMMARS), allow := al.2,
    drafts := (List.range d).map (fun i => leNat ((dr.2.drop (4 * i)).take 4)), logits := getF e SelEntry.LOGITS_ADDR, bf16 := bf16,
    seed := rowGet s r Row.SEED }
  let w : SelWalk := {
    x := al.1, toks := [], acc := 0, cause := 0, g := rowGet s r Row.GRAMMAR_STATE, draw := rowGet s r Row.DRAW_COUNT,
    count := getF sel SelRec.OUTPUT_COUNT, last := getF sel SelRec.LAST_TOKEN, badGr := false }
  if al.1.bad then w else walkRows rows w j 0

/-- R176, item 1, R174, R175: the row and its selection record written. -/
def rowSelected (s : State) (e : Nat) (w : SelWalk) : State :=
  let r := getF e SelEntry.ROW
  let c := rowGet s r Row.COMMITTED_LEN
  let cont := getF e SelEntry.CONT
  let n := if getF e SelEntry.FIRST = 1 then c else if cont ≠ 0 then c + cont else c + 1 + w.acc
  let lens := if getF e SelEntry.FIRST = 1 then [] else
    [(Row.COMMITTED_LEN, n), (Row.PROV_LEN, n), (Row.LAST_COMMIT_FRAME, if n = c then rowGet s r Row.LAST_COMMIT_FRAME else frameNo s)]
  let ordinary := cont = 0 ∧ getF e SelEntry.FIRST = 0
  let s := if ordinary then tokensAdd s r ((getF (selRec s r) SelRec.LAST_TOKEN :: w.toks).take (1 + w.acc)) else s
  let s := rowSet s r (lens ++ [(Row.DRAW_COUNT, w.draw), (Row.GRAMMAR_STATE, w.g)])
  let s := { s with rows := { s.rows with
    tsuAt := kput (s.rows.tsuAt.filter (fun p => p.2 == s.clk)) r s.clk,
    verified := if ordinary ∧ s.rows.verified.contains r = false then s.rows.verified ++ [r] else s.rows.verified } }
  let s := if w.cause ≠ 0 then rowFlagSet s r 6 true else s
  recSet s OD.SELECTION_VIEW r [(SelRec.LAST_TOKEN, w.last), (SelRec.OUTPUT_COUNT, w.count)]

/-- R23, R154, R175, R176: what an entry spends and releases, and the tokens it has computed. -/
def entryCharges (s : State) (e : Nat) (w : SelWalk) : State :=
  let r := getF e SelEntry.ROW
  let cont := getF e SelEntry.CONT
  let last := getF e SelEntry.CONT_LAST = 1
  let left : KMap (List Nat) :=
    if cont ≠ 0 then (if last then kdel s.rows.prompt r else kput s.rows.prompt r ((kget s.rows.prompt r []).drop cont))
    else if getF e SelEntry.FIRST = 1 then kdel s.rows.prompt r
    else s.rows.prompt
  let s := { s with rows := { s.rows with prompt := left } }
  let s := if cont ≠ 0 ∧ last then spendPrefill s r else s
  let held := if cont ≠ 0 ∧ ¬last then 0 else getF e SelEntry.DRAFTS + 1
  release (spend s r w.toks.length Row.DECODE_SPENT) r (held - w.toks.length)

/-- R176, item 3: the token message. -/
def tokenMessage (s : State) (e : Nat) (w : SelWalk) : State :=
  let r := getF e SelEntry.ROW
  let n := w.toks.length
  if n = 0 ∧ w.cause = 0 then s
  else
    let h := mkRec [(TokMsg.REQUEST_ID, rowGet s r Row.REQUEST_ID), (TokMsg.FIRST_INDEX, w.count - n), (TokMsg.COUNT, n),
      (TokMsg.END, b2n (w.cause != 0)), (TokMsg.END_CAUSE, w.cause)]
    sendReply s ⟨rowGet s r Row.REPLY_NODE, rowGet s r Row.REPLY_QP, leBytes 16 h ++ w.toks.flatMap (leBytes 4), some r⟩

/-- A SELECT job under way: entries skipped, tokens, first failing address. -/
structure SelRun where
  s : State
  skipped : List Nat
  tokens : Nat
  fail : Option Nat
  deriving DecidableEq, Repr

/-- Item 2: the entry's status written. -/
def entryPut (s : State) (f : Flight) (a e est emitted accepted : Nat) : State :=
  (agentWrite s true (stepReader f) a (leBytes 32 (setFs e [(SelEntry.ESTATUS, est), (SelEntry.EMITTED, emitted),
    (SelEntry.ACCEPTED, accepted)]))).1

/-- An entry skipped (R168): its row is untouched. -/
def entrySkip (r : SelRun) (f : Flight) (a i e est : Nat) : SelRun :=
  let t := entryPut r.s f a e est 0 0
  { r with s := t, skipped := r.skipped ++ [i] }

/-- One entry of a SELECT job. -/
def selEntry (r : SelRun) (f : Flight) (bf16 : Bool) (base i e : Nat) : SelRun :=
  let a := base + 32 * i
  let why := entryScreen r.s e
  if why ≠ 0 then entrySkip r f a i e why
  else
    let w := entryWalk r.s f bf16 e
    let r2 := { r with s := w.x.s, fail := if r.fail.isNone then w.x.fail else r.fail }
    if w.x.bad then entrySkip r2 f a i e 3
    else if w.badGr then
      let t := entrySkip r2 f a i e 2
      { t with s := rowFail (odInc t.s OD.GRAMMAR_FAULTS) (getF e SelEntry.ROW) 8 }
    else
      let n := w.toks.length
      let s := entryCharges (rowSelected r2.s e w) e w
      let s := tokenMessage (entryPut s f a e 0 n w.acc) e w
      let s := odAdd s OD.TOKENS_EMITTED 0 n
      let s := odAdd (odAdd s OD.DRAFTS_OFFERED 0 (getF e SelEntry.DRAFTS)) OD.DRAFTS_ACCEPTED 0 w.acc
      { r2 with s := s, tokens := r2.tokens + n }

/-- R181: a SELECT step completes. -/
def tsuEnd (r : SelRun) (lane : Nat) (f : Flight) (status : Nat) (how : StepEnd) : State :=
  finishStep (ringPush r.s OD.TSU_COMPLETION_RING (mkRec [(TsuComp.FRAME, f.frame), (TsuComp.STEP_SLOT, f.slot), (TsuComp.LANE, lane),
    (TsuComp.STATUS, status), (TsuComp.CARRIED, b2n f.carried), (TsuComp.CLOCKS, compClocks r.s f),
    (TsuComp.ENTRIES_SKIPPED, r.skipped.length), (TsuComp.FIRST_SKIPPED, r.skipped.headD 0x7FF), (TsuComp.TOKENS_WRITTEN, r.tokens),
    (TsuComp.FAIL_ADDR, r.fail.getD 0)])) (tsuUnit lane) how

/-- The entries of a job, in order. -/
def selEntries (s : State) (f : Flight) (bf16 : Bool) (base : Nat) (es : List Nat) : SelRun :=
  es.zipIdx.foldl (fun r p => selEntry r f bf16 base p.2 p.1) ⟨s, [], 0, none⟩

/-- SELECT (R165 to R168, R176, R181, R475). -/
def execSelect (lane : Nat) (s : State) : Res :=
  match flightOn s (tsuUnit lane) with
  | none => answer s s
  | some f =>
    let stop := fun (t : State) (status : Nat) (fail : Option Nat) => answer s (tsuEnd ⟨t, [], 0, fail⟩ lane f status (if status = 5 then .unread else .untouched))
    if getF f.step StepRec.OPCODE ≠ 1 then stop s 4 none
    else if !roleOpens (role s) 4 then stop s 2 none
    else
      let d := readRec s (stepReader f) (getF f.step StepRec.DESC_ADDR) 64
      let n := getF d.2.1 SelDesc.ENTRIES
      let a := getF d.2.1 SelDesc.ENTRY_ADDR
      if d.2.2.1 ≠ 0 then stop d.1 5 (some d.2.2.2)
      else if n = 0 ∨ a % 64 ≠ 0 then stop d.1 7 none
      else
        let t := readMem d.1 true (stepReader f) a (32 * n)
        if t.2.2.1 ≠ 0 then stop t.1 5 (some t.2.2.2)
        else
          let es := (List.range n).map (fun i => leNat ((t.2.1.drop (32 * i)).take 32))
          let r := selEntries t.1 f (getF d.2.1 SelDesc.LOGIT_FMT == 1) a es
          answer s (tsuEnd r lane f (if r.skipped = [] then 0 else 8) .done)

/-! Grammar records (R177). -/

/-- A GRAMMARS write to a record that rows pin is refused IN_USE. -/
def grammarInUse (s : State) (i : Nat) : Bool := recF s OD.GRAMMARS i Grammar.PINS != 0

/-- A grammar record takes effect: PINS stays the part's own. -/
def grammarApply (s : State) (i v : Nat) : State :=
  odPut s OD.GRAMMARS i (setF v Grammar.PINS (recF s OD.GRAMMARS i Grammar.PINS))

end Sys2Proof.Machine
end

