-- ==== Sys2Proof/Machine/Setting.lean ====
section
/-! DEFINITION. Chapter 05: the jobs of the eight setting engines. Step statuses are those of R116: 0 OK, 2 ROLE_CLOSED, 4 BAD_OP,
5 MEM_ERROR, 6 FAULT, 7 BAD_DESC, 8 PARTIAL, 9 PROB_BUDGET; ESTATUS 0 OK, 1 BAD_ENTRY, 2 NO_BEAD, 3 SHARED_BEAD, 4 MEM_ERROR. A job
runs whole in one command.
Choices of the model here, by the assumption log: log 11, 33 (DEDUCED). -/

namespace Sys2Proof.Machine

/-- A job under way: the state, bytes read and moved on the internal path, sticky flags, the first failing stack-local address, and
whether it named a bead that is not HELD or SHARD (U03, R130). -/
structure SetRun where
  s : State
  bytesRead : Nat
  moved : Nat
  nan : Bool
  sat : Bool
  clip : Bool
  nonf : Bool
  fail : Option Nat
  u03 : Bool

/-- A job that has done nothing. -/
def SetRun.start (s : State) : SetRun := ⟨s, 0, 0, false, false, false, false, none, false⟩

/-- An entry of a job: its record, the record's SRAM offset, its ESTATUS, and where its positions of KV_IN and its query rows begin. -/
structure SetEnt where
  raw : Nat
  addr : Nat
  est : Nat
  kvOff : Nat
  kvN : Nat
  qRow : Nat
  deriving DecidableEq, Repr

/-- What an ATTEND or APPEND job works with: stack, layer, layers, key-value heads, d_head, format, SRAM offset of KV_IN. -/
structure SetJob where
  k : Nat
  layer : Nat
  lLocal : Nat
  hkv : Nat
  dh : Nat
  fmt : Nat
  kvIn : Nat
  rdr : Reader
  deriving DecidableEq, Repr

/-- The row an entry's reads are for (R115, R217). -/
def entReader (j : SetJob) (e : SetEnt) : Reader := { j.rdr with rowValid := true, row := getF e.raw SetEntry.ROW }

/-- A read on the internal path: stack-local address. -/
def setRead (r : SetRun) (rd : Reader) (k a n : Nat) : SetRun × List Byte × Bool :=
  let m := readMem r.s false rd (stackOff k (a % 2 ^ 37)) n
  let ok := m.2.2.1 == 0
  ({ r with s := m.1, bytesRead := r.bytesRead + n, moved := r.moved + n,
            fail := if ok ∨ r.fail.isSome then r.fail else some (m.2.2.2 % 2 ^ 37) }, m.2.1, ok)

/-- A write on the internal path. -/
def setWrite (r : SetRun) (rd : Reader) (k a : Nat) (bs : List Byte) : SetRun × Bool :=
  let m := agentWrite r.s false rd (stackOff k (a % 2 ^ 37)) bs
  let ok := m.2.1 == 0
  ({ r with s := m.1, moved := r.moved + bs.length,
            fail := if ok ∨ r.fail.isSome then r.fail else some (m.2.2 % 2 ^ 37) }, ok)

/-- R98: a read of the engine's setting SRAM; offsets wrap modulo 8 MiB. -/
def sramRead (s : State) (rd : Reader) (k off n : Nat) : State × List Byte × Bool :=
  let o := off % 0x800000
  let first := min n (0x800000 - o)
  let a := readMem s false rd (sramBase k + o) first
  let b := readMem a.1 false rd (sramBase k) (n - first)
  (b.1, a.2.1 ++ b.2.1, a.2.2.1 == 0 && b.2.2.1 == 0)

/-- R98: a write of the engine's setting SRAM. -/
def sramWrite (s : State) (rd : Reader) (k off : Nat) (bs : List Byte) : State × Bool :=
  let o := off % 0x800000
  let first := min bs.length (0x800000 - o)
  let a := writeMem s false rd (sramBase k + o) (bs.take first)
  let b := writeMem a.1 false rd (sramBase k) (bs.drop first)
  (b.1, a.2.1 == 0 && b.2.1 == 0)

/-- An SRAM read within a job. -/
def runSram (r : SetRun) (rd : Reader) (k off n : Nat) : SetRun × List Byte × Bool :=
  let m := sramRead r.s rd k off n
  ({ r with s := m.1 }, m.2.1, m.2.2)

/-- The unit of an engine. -/
abbrev engineUnit (k : Nat) : Nat := unitKey 2 k

/-- R116: a SETTING step completes. -/
def setEnd (r : SetRun) (k : Nat) (f : Flight) (status : Nat) (skipped : List Nat) (how : StepEnd) : State :=
  let s := r.s
  let clocks := compClocks s f
  let s := ringPush s OD.SETTING_COMPLETION_RING (mkRec [(SetComp.FRAME, f.frame), (SetComp.STEP_SLOT, f.slot), (SetComp.STACK, k),
    (SetComp.STATUS, status), (SetComp.CARRIED, b2n f.carried), (SetComp.CLOCKS, clocks),
    (SetComp.FLAGS4, 8 * b2n r.nan + 4 * b2n r.sat + 2 * b2n r.clip + b2n r.nonf),
    (SetComp.BYTES_READ, satBits 32 (cdiv r.bytesRead 64)), (SetComp.ENTRIES_SKIPPED, skipped.length),
    (SetComp.FIRST_SKIPPED, skipped.headD 0x7FF), (SetComp.FAIL_ADDR, r.fail.getD 0)])
  let s := odAdd s OD.JOBS_COMPLETED k 1
  let s := odAdd s OD.INTERNAL_BYTES k (cdiv r.moved 64)
  let s := odAdd s OD.BUSY_CLK k clocks
  let s := if status = 9 then odInc s OD.PROB_BUDGET_JOBS else s
  finishStep s (engineUnit k) how

/-- A job that ends before it has touched anything: at once under a check, without core-clocks (R99), or at an error response to its
descriptor or a table (R475). -/
def setRefuse (s : State) (k : Nat) (f : Flight) (status : Nat) : State :=
  setEnd (SetRun.start s) k f status [] (if status = 5 then .unread else .untouched)

/-! Beads (R117, R118). -/

/-- The bytes of a head block. -/
def SetJob.hbBytes (j : SetJob) : Nat := if j.fmt = 0 then 16 * j.dh else 8 * j.dh
/-- R118: the number of head block (layer, head, K 0 or V 1). -/
def hbNum (layer hkv h c : Nat) : Nat := (layer * hkv + h) * 2 + c
/-- R118: the byte of a bead at which a job's head block begins. -/
def SetJob.hbOff (j : SetJob) (h c : Nat) : Nat := hbNum j.layer j.hkv h c * j.hbBytes
/-- R118: the byte of a bead that holds a head block's scale. -/
def SetJob.scaleOff (j : SetJob) (h c : Nat) : Nat := j.lLocal * 2 * j.hkv * j.hbBytes + hbNum j.layer j.hkv h c

/-- R102, R130: a bead by its slot on the engine's own stack: its stack-local address; a bead that was not HELD or SHARD at the step's
issue is noted as U03. -/
def jobBead (r : SetRun) (k idx : Nat) : SetRun × Nat :=
  let slot := idx % 2 ^ 21
  let b := beadIdx k slot
  match slotClass r.s slot with
  | none => ({ r with u03 := true }, 0)
  | some c =>
    let issued := ((flightOn r.s (engineUnit k)).map Flight.issued).getD r.s.clk
    ({ r with u03 := r.u03 || !heldAt r.s b issued }, beadAddr r.s c b % 2 ^ 37)

/-! Appending (R101 to R103). -/

/-- The BF16 values of `n` elements from `off` of a byte list. -/
def bf16At (bs : List Byte) (off n : Nat) : List Val :=
  (List.range n).map (fun d => decodeF bf16 (leNat ((bs.drop (off + 2 * d)).take 2)))

/-- R103: FP8 keys or values of one position of a head block. -/
def appendFp8 (r : SetRun) (j : SetJob) (rd : Reader) (bead h c p : Nat) (vs : List Val) : SetRun × Bool :=
  let codes := vs.map (cvtF e4m3 none true)
  let w := setWrite r rd j.k (bead + j.hbOff h c + p * j.dh) (codes.map (fun q => BitVec.ofNat 8 q.1))
  ({ w.1 with sat := w.1.sat || codes.any Prod.snd }, w.2)

/-- The FP4 codes of a byte list, lower index in the lower nibble (R52). -/
def nibbles (bs : List Byte) : List Nat := bs.flatMap (fun b => [b.toNat % 16, b.toNat / 16])

/-- FP4 codes packed two to a byte (R52). -/
def packNibbles : List Nat → List Byte
  | a :: b :: t => BitVec.ofNat 8 (a % 16 + 16 * (b % 16)) :: packNibbles t
  | [a] => [BitVec.ofNat 8 (a % 16)]
  | [] => []

/-- R103, R53 to R55: one write into a bead-scaled FP4 head block: positions with their values, in order. A head block with scale 0x00
counts as unwritten (R113). -/
def appendFp4 (r : SetRun) (j : SetJob) (rd : Reader) (bead h c : Nat) (ps : List (Nat × List Val)) : SetRun × Bool :=
  let a := setRead r rd j.k (bead + j.hbOff h c) j.hbBytes
  let b := setRead a.1 rd j.k (bead + j.scaleOff h c) 1
  if !(a.2.2 && b.2.2) then (b.1, false)
  else
    let sc := leNat b.2.1
    let old := nibbles a.2.1
    let w := kvWrite (sc % 128 == 0) sc old (ps.flatMap Prod.snd)
    let codes := (ps.zipIdx.foldl (fun acc q =>
      ((w.new.drop (q.2 * j.dh)).take j.dh).zipIdx.foldl (fun l e => l.set (q.1.1 * j.dh + e.2) e.1) acc) w.old)
    let x := setWrite b.1 rd j.k (bead + j.hbOff h c) (packNibbles codes)
    let y := setWrite x.1 rd j.k (bead + j.scaleOff h c) [BitVec.ofNat 8 w.scale]
    let s := y.1.s
    let s := if w.rescaled then odInc s OD.KV_RESCALES else s
    let s := odAdd s OD.KV_CLIPPED 0 w.clipped
    let s := if w.nonfinite then odInc s OD.KV_NONFINITE else s
    ({ y.1 with s := s, clip := y.1.clip || decide (0 < w.clipped), sat := y.1.sat || decide (0 < w.clipped),
                nonf := y.1.nonf || w.nonfinite },
      x.2 && y.2)

/-- Every head block of one bead written with an entry's positions that fall in it. -/
def appendBead (r : SetRun) (j : SetJob) (rd : Reader) (bead : Nat) (ps : List (Nat × List Byte)) : SetRun × Bool :=
  (List.range (2 * j.hkv)).foldl (fun acc hc =>
    if !acc.2 then acc
    else
      let h := hc / 2
      let c := hc % 2
      let vals := ps.map (fun p => (p.1, bf16At p.2 ((2 * h + c) * 2 * j.dh) j.dh))
      if j.fmt = 1 then appendFp4 acc.1 j rd bead h c vals
      else vals.foldl (fun q p => if q.2 then appendFp8 q.1 j rd bead h c p.1 p.2 else q) acc) (r, true)

/-- R102: one ordinal of an entry's append: positions `p0` to `p1` - 1, which lie in one bead of this stack. The answer is the ESTATUS. -/
def appendOrd (r : SetRun) (j : SetJob) (e : SetEnt) (o p0 p1 : Nat) : SetRun × Nat :=
  let rd := entReader j e
  let t := (o - getF e.raw SetEntry.ORD0) / 8
  if getF e.raw SetEntry.SEG_COUNT ≤ t then (r, 2)
  else
    let q := setRead r rd j.k (getF e.raw SetEntry.SEG_ADDR + 4 * t) 4
    if !q.2.2 then (q.1, 4)
    else
      let idx := leNat q.2.1
      let d := setRead q.1 rd j.k (descAddr q.1.s (beadIdx j.k (idx % 2 ^ 21)) % 2 ^ 37) 32
      if !d.2.2 then (d.1, 4)
      else if getF (leNat d.2.1) BeadDesc.REFS ≠ 1 then (d.1, 3)
      else
        let b := jobBead d.1 j.k idx
        let per := j.hkv * 4 * j.dh
        let q0 := getF e.raw SetEntry.QPOS0
        let kv := (span p0 (p1 - p0)).foldl (fun (acc : SetRun × List (Nat × List Byte) × Bool) p =>
          let x := runSram acc.1 rd j.k (j.kvIn + (e.kvOff + (p - q0)) * per) per
          (x.1, acc.2.1 ++ [(p % 16, x.2.1)], acc.2.2 && x.2.2)) (b.1, [], true)
        if !kv.2.2 then (kv.1, 4)
        else
          let w := appendBead kv.1 j rd b.2 kv.2.1
          (w.1, if w.2 then 0 else 4)

/-- R102: an entry's append: `n` positions from QPOS0. -/
def appendEntry (r : SetRun) (j : SetJob) (e : SetEnt) (n : Nat) : SetRun × Nat :=
  let q0 := getF e.raw SetEntry.QPOS0
  let pl := getF e.raw SetEntry.PROV_LEN
  if pl ≤ q0 ∨ 2 ^ 24 < pl ∨ 4096 < n then (r, 1)
  else
    ((span (q0 / 16) ((q0 + n - 1) / 16 + 1 - q0 / 16)).filter (fun o => o % 8 == getF e.raw SetEntry.ORD0)).foldl
      (fun acc o => if acc.2 ≠ 0 then acc
        else appendOrd acc.1 j e o (max q0 (16 * o)) (min (q0 + n) (16 * o + 16))) (r, 0)

/-! Attention (R105 to R108). -/

/-- The parts of an ATTEND descriptor the attention phase uses. -/
structure AttJob where
  d : Nat
  group : Nat
  qn : Nat
  globals : List Nat

/-- R106: is position `p` visible to the query row at position `q`? `bm`: the entry's bitmap. -/
def visible (a : AttJob) (e : SetEnt) (bm : List Byte) (p q : Nat) : Bool :=
  decide (p ≤ q) && decide (p < getF e.raw SetEntry.PROV_LEN)
  && (a.globals.contains p
      || ((getF a.d AttendDesc.WINDOW_EN == 0 || decide (q < p + getF a.d AttendDesc.WINDOW))
          && (getF a.d AttendDesc.BITMAP_EN == 0 || bitOf (bm.getD (p / 16 / 8) 0).toNat (p / 16 % 8) || p / 16 == q / 16)))

/-- A query row's running state (R107). -/
structure RowSt where
  m : Nat
  l : Nat
  o : List Nat
  nan : Bool
  deriving DecidableEq, Repr

/-- R59 with K_c = 32: a dot product from +0. -/
def dot32 (q k : List Val) : Nat :=
  (List.range (cdiv q.length 32)).foldl (fun acc c =>
    chunkSum ((((q.zip k).drop (32 * c)).take 32).map (fun p => vmul p.1 p.2) ++ [ofF32 acc])) 0

/-- R107 steps 1 to 8, R108: one block for one row: its 16 keys and values, which positions are visible; the new state, the p_j and
m_new. -/
def rowBlock (qscale lam : Nat) (row : RowSt) (q : List Val) (ks vs : List (List Val)) (vis : List Bool) : RowSt × List Nat × Nat :=
  let xs := (ks.zip vis).map (fun p => if p.2 then f32mul qscale (dot32 q p.1) else 0xFF800000)
  let bad := row.nan || (xs.zip vis).any (fun p => p.2 && (f32isNan p.1 || f32isInf p.1))
  if bad then (⟨nan32, nan32, row.o.map (fun _ => nan32), true⟩, vis.map (fun v => if v then nan32 else 0), nan32)
  else
    let mn := f32max row.m (xs.foldl f32max 0xFF800000)
    if mn = 0xFF800000 then (row, vis.map (fun _ => 0), 0xFF800000)
    else
      let al := if f32key mn = f32key row.m then 0x3F800000
        else if row.m = 0xFF800000 then 0 else sfn 0 (f32mul (f32sub row.m mn) lam)
      let ps := (xs.zip vis).map (fun p => if p.2 then sfn 0 (f32mul (f32sub p.1 mn) lam) else 0)
      let l := f32add (f32mul row.l al) (treeSum ps)
      let pb := ps.map (fun p => decodeF bf16 (encodeFmt 1 none false p).1)
      let o := row.o.zipIdx.map (fun x =>
        chunkSum ((pb.zip vs).map (fun p => vmul p.1 (p.2.getD x.2 (.fin false 0 0))) ++ [ofF32 (f32mul x.1 al)]))
      (⟨mn, l, o, false⟩, ps, mn)

/-- The 16 positions of a head block, decoded; positions from `nv` on are not read and stand as 0 (R106). -/
def headBlock (r : SetRun) (j : SetJob) (rd : Reader) (bead h c nv : Nat) : SetRun × List (List Val) × Bool :=
  let per := j.hbBytes / 16
  let a := setRead r rd j.k (bead + j.hbOff h c) (nv * per)
  let zeros := List.replicate (16 - nv) (List.replicate j.dh (Val.fin false 0 0))
  if j.fmt = 0 then
    (a.1, (List.range nv).map (fun p => ((a.2.1.drop (p * per)).take per).map (fun b => decodeF e4m3 b.toNat)) ++ zeros, a.2.2)
  else
    let b := setRead a.1 rd j.k (bead + j.scaleOff h c) 1
    let sc := leNat b.2.1
    (b.1, (List.range nv).map (fun p => (nibbles ((a.2.1.drop (p * per)).take per)).map (kvDecode sc)) ++ zeros, a.2.2 && b.2.2)

/-- The attention of one entry under way: rows, tiles stored so far (row · SEG_COUNT + local bead), whether reads have gone well. -/
structure AttRun where
  r : SetRun
  rows : List RowSt
  tiles : KMap (List Nat × Nat)
  ok : Bool

/-- R105, R107: one bead and one key-value head, for every query row that uses it. A value head block stored as NaN makes NaN the rows that
read it, as a key head block does through its scores (R108). -/
def attendHead (x : AttRun) (j : SetJob) (a : AttJob) (e : SetEnt) (qs : List (List Val)) (bm : List Byte) (t bead h : Nat) : AttRun :=
  if !x.ok then x
  else
    let rd := entReader j e
    let p0 := 16 * (getF e.raw SetEntry.ORD0 + 8 * t)
    let nv := min 16 (getF e.raw SetEntry.PROV_LEN - p0)
    let ks := headBlock x.r j rd bead h 0 nv
    let vs := headBlock ks.1 j rd bead h 1 nv
    if !(ks.2.2 && vs.2.2) then { x with r := vs.1, ok := false }
    else
      let lam := if getF a.d AttendDesc.SCORE_BASE = 1 then 0x3F800000 else 0x3FB8AA3B
      let vnan := j.fmt == 1 && vs.2.1.any (fun l => l.any (· == Val.nan))
      (List.range (a.qn * a.group)).foldl (fun (y : AttRun) ig =>
        let i := ig / a.group
        let n := (i * j.hkv + h) * a.group + ig % a.group
        let vis := (span p0 16).map (fun p => visible a e bm p (getF e.raw SetEntry.QPOS0 + i))
        if vis.any id then
          let row := y.rows.getD n ⟨0xFF800000, 0, [], false⟩
          let b := rowBlock (getF a.d AttendDesc.QSCALE) lam { row with nan := row.nan || vnan } (qs.getD n []) ks.2.1 vs.2.1 vis
          { y with rows := y.rows.set n b.1,
                   tiles := kput y.tiles (n * getF e.raw SetEntry.SEG_COUNT + t) (b.2.1, b.2.2) }
        else y) { x with r := vs.1 }

/-- The local beads of a segment that hold positions below PROV_LEN (R105). -/
def segNeed (e : SetEnt) : Nat := (cdiv (getF e.raw SetEntry.PROV_LEN) 16 + 7 - getF e.raw SetEntry.ORD0) / 8

/-- R105, R106: one local bead of an entry: passed over where no position is visible to any row. -/
def attendBead (x : AttRun) (j : SetJob) (a : AttJob) (e : SetEnt) (qs : List (List Val)) (bm : List Byte) (t : Nat) : AttRun :=
  let p0 := 16 * (getF e.raw SetEntry.ORD0 + 8 * t)
  let seen := (List.range a.qn).any (fun i => (span p0 16).any (fun p => visible a e bm p (getF e.raw SetEntry.QPOS0 + i)))
  if !x.ok || !seen then x
  else
    let q := setRead x.r (entReader j e) j.k (getF e.raw SetEntry.SEG_ADDR + 4 * t) 4
    if !q.2.2 then { x with r := q.1, ok := false }
    else
      let b := jobBead q.1 j.k (leNat q.2.1)
      (List.range j.hkv).foldl (fun y h => attendHead y j a e qs bm t b.2 h) { x with r := b.1 }

/-- R104: an output record. -/
def outRec (dh : Nat) (row : RowSt) (est : Nat) : List Byte :=
  leBytes 4 row.m ++ leBytes 4 row.l ++ leBytes 4 est ++ leBytes 4 0 ++ ((List.range dh).flatMap (fun d => leBytes 4 (row.o.getD d 0)))

/-- A row that has met no visible position. -/
def RowSt.empty (dh : Nat) : RowSt := ⟨0xFF800000, 0, List.replicate dh 0, false⟩

/-- R112: an entry's block of tiles and maxima. -/
def tileBlock (rows segs : Nat) (tiles : KMap (List Nat × Nat)) : List Byte :=
  let at_ := fun (i : Nat) => kget tiles i (List.replicate 16 0, 0xFF800000)
  let bs := (List.range (rows * segs)).flatMap (fun i => (at_ i).1.map (fun p => BitVec.ofNat 8 (encodeFmt 3 none true p).1))
    ++ (List.range (rows * segs)).flatMap (fun i => leBytes 4 (at_ i).2)
  bs ++ List.replicate (cdiv bs.length 64 * 64 - bs.length) 0

/-- An entry that has been attended: its ESTATUS and the rows it came to. -/
structure AttDone where
  ent : SetEnt
  rows : List RowSt

/-- R105, step 3: an entry's attention, and its tiles at a stack-local address where they are stored (R112). A NaN or Inf score of an entry
that ends in an error sets NAN_OUT too (R108). -/
def attendEntry (r : SetRun) (j : SetJob) (a : AttJob) (e : SetEnt) (prob : Option Nat) : SetRun × AttDone :=
  let rd := entReader j e
  let rows := a.qn * j.hkv * a.group
  let x : AttRun × Nat :=
    if e.est ≠ 0 then (⟨r, [], [], false⟩, e.est)
    else if getF e.raw SetEntry.SEG_COUNT < segNeed e then (⟨r, [], [], false⟩, 2)
    else
      let q := runSram r rd j.k (getF a.d AttendDesc.Q_ADDR + e.qRow * j.dh * 2) (rows * j.dh * 2)
      let b := if getF a.d AttendDesc.BITMAP_EN = 1
        then runSram q.1 rd j.k (getF e.raw SetEntry.BITMAP_ADDR) (cdiv (cdiv (getF e.raw SetEntry.PROV_LEN) 16) 8) else (q.1, [], true)
      if !(q.2.2 && b.2.2) then (⟨b.1, [], [], false⟩, 4)
      else
        let qs := (List.range rows).map (fun n => bf16At q.2.1 (n * j.dh * 2) j.dh)
        let y := (List.range (segNeed e)).foldl (fun y t => attendBead y j a e qs b.2.1 t)
          ⟨b.1, List.replicate rows (RowSt.empty j.dh), [], true⟩
        (y, if y.ok then 0 else 4)
  let nan := x.1.rows.any (fun row => f32isNan row.m || f32isNan row.l || row.o.any f32isNan)
  let r := { x.1.r with nan := x.1.r.nan || nan }
  match prob with
  | none => (r, ⟨{ e with est := x.2 }, x.1.rows⟩)
  | some pa =>
    let z := setWrite r rd j.k pa (tileBlock rows (getF e.raw SetEntry.SEG_COUNT) (if x.2 = 0 then x.1.tiles else []))
    (z.1, ⟨{ e with est := if x.2 = 0 ∧ z.2 = false then 4 else x.2 }, x.1.rows⟩)

/-- R105, step 4: an entry's output records. -/
def attendOut (r : SetRun) (j : SetJob) (a : AttJob) (d : AttDone) : SetRun × SetEnt :=
  let rows := a.qn * j.hkv * a.group
  let out := if d.ent.est = 0 then d.rows.flatMap (fun row => outRec j.dh row 0)
    else (List.replicate rows (outRec j.dh (RowSt.empty j.dh) d.ent.est)).flatten
  let w := sramWrite r.s (entReader j d.ent) j.k (getF a.d AttendDesc.OUT_ADDR + d.ent.qRow * (16 + 4 * j.dh)) out
  ({ r with s := w.1 }, { d.ent with est := if d.ent.est = 0 ∧ w.2 = false then 4 else d.ent.est })

/-- R112: the bytes of an entry's tiles. -/
def tileBytes (rows segs : Nat) : Nat := cdiv (rows * segs * 20) 64 * 64

/-- R105, step 5, R116: every ESTATUS written, the counts advanced, the step completed. -/
def entriesEnd (r : SetRun) (j : SetJob) (f : Flight) (ents : List SetEnt) (budget : Bool) : State :=
  let s := ents.foldl (fun t e =>
    let t := (sramWrite t (entReader j e) j.k e.addr (leBytes 32 (setF e.raw SetEntry.ESTATUS e.est))).1
    let t := if e.est ≠ 0 then odInc t OD.ENTRIES_SKIPPED else t
    if e.est = 3 then odInc t OD.SHARED_BEAD_SKIPS else t) r.s
  let skipped := (ents.zipIdx.filter (fun p => p.1.est != 0)).map Prod.snd
  setEnd { r with s := s } j.k f (if skipped ≠ [] then 8 else if budget then 9 else 0) skipped .done

/-- The entry table read (R475): entries with their places in KV_IN and Q; none where a read meets an error, after which no more is read. -/
def readEntries (s : State) (j : SetJob) (n addr rows : Nat) (take : Nat → Nat) : State × Option (List SetEnt) :=
  let x := (List.range n).foldl (fun (acc : State × List SetEnt × Bool × Nat) i =>
    if !acc.2.2.1 then acc
    else
      let r := sramRead acc.1 j.rdr j.k (addr + 32 * i) 32
      let w := leNat r.2.1
      let e : SetEnt := ⟨w, addr + 32 * i, 0, acc.2.2.2, take w, i * rows⟩
      (r.1, acc.2.1 ++ [e], r.2.2, acc.2.2.2 + take w)) (s, [], true, 0)
  (x.1, if x.2.2.1 then some x.2.1 else none)

/-- The append phase: every entry in order (R105). -/
def appendPhase (r : SetRun) (j : SetJob) (ents : List SetEnt) : SetRun × List SetEnt :=
  ents.foldl (fun acc e =>
    let x := appendEntry acc.1 j e e.kvN
    (x.1, acc.2 ++ [{ e with est := x.2 }])) (r, [])

/-- R140: the positions a job has appended at the last layer held on the device: row and positions of each entry that ended OK. -/
def appendedOf (j : SetJob) (ents : List SetEnt) : List (Nat × Nat × Nat) :=
  if j.layer + 1 = j.lLocal then
    (ents.filter (fun e => e.est == 0)).map (fun e =>
      (getF e.raw SetEntry.ROW, getF e.raw SetEntry.QPOS0, getF e.raw SetEntry.QPOS0 + e.kvN))
  else []

/-- R101: the checks of APPEND, which ATTEND shares. -/
def appendBad (entries layer lLocal hkv dhead addr : Nat) : Bool :=
  entries == 0 || dhead == 3 || decide (lLocal ≤ layer) || hkv == 0 || addr % 64 != 0

/-- What a job answers: the undefined case U03 where it named a bead that is not HELD or SHARD. -/
def jobAnswer (s : State) (u03 : Bool) (t : State) : Res := if u03 then .fault (.undefinedCase 3) else answer s t

/-- APPEND (R101 to R103). -/
def appendRun (s : State) (k : Nat) (f : Flight) : State × Bool :=
  let rd := stepReader f
  let d := readRec s rd (getF f.step StepRec.DESC_ADDR) 64
  if d.2.2.1 ≠ 0 then (setRefuse d.1 k f 5, false)
  else if appendBad (getF d.2.1 AppendDesc.ENTRIES) (getF d.2.1 AppendDesc.LAYER) (getF d.2.1 AppendDesc.L_LOCAL)
      (getF d.2.1 AppendDesc.HKV) (getF d.2.1 AppendDesc.DHEAD) (getF d.2.1 AppendDesc.ENTRY_ADDR) then (setRefuse d.1 k f 7, false)
  else
    let j : SetJob := ⟨k, getF d.2.1 AppendDesc.LAYER, getF d.2.1 AppendDesc.L_LOCAL, getF d.2.1 AppendDesc.HKV,
      dheadOf (getF d.2.1 AppendDesc.DHEAD), getF d.2.1 AppendDesc.KV_FMT, getF d.2.1 AppendDesc.KV_IN_ADDR, rd⟩
    let es := readEntries d.1 j (getF d.2.1 AppendDesc.ENTRIES) (getF d.2.1 AppendDesc.ENTRY_ADDR) 0
      (fun w => getF w SetEntry.PROV_LEN - getF w SetEntry.QPOS0)
    match es.2 with
    | none => (setRefuse es.1 k f 5, false)
    | some ents =>
      let r := appendPhase (SetRun.start es.1) j ents
      (appendDone (entriesEnd r.1 j f r.2 false) k (appendedOf j r.2), r.1.u03)

/-- R104: the checks of ATTEND. -/
def attendBad (s : State) (d : Nat) : Bool :=
  appendBad (getF d AttendDesc.ENTRIES) (getF d AttendDesc.LAYER) (getF d AttendDesc.L_LOCAL) (getF d AttendDesc.HKV)
    (getF d AttendDesc.DHEAD) (getF d AttendDesc.ENTRY_ADDR)
  || decide (256 < (getF d AttendDesc.GROUP_M1 + 1) * (getF d AttendDesc.QPOS_N_M1 + 1))
  || (getF d AttendDesc.WINDOW_EN == 1 && (getF d AttendDesc.WINDOW == 0 || decide (131072 < getF d AttendDesc.WINDOW)))
  || decide (64 < getF d AttendDesc.GLOBAL_N)
  || (getF d AttendDesc.PROB_EN == 1 && decide (od s OD.PROB_BUDGET_MAX < getF d AttendDesc.PROB_BUDGET))
  || decide (2 ^ 37 < getF d AttendDesc.PROB_ADDR + getF d AttendDesc.PROB_BUDGET)

/-- The attention phase: every entry in order, tiles at rising addresses; then the output records of every entry in order. -/
def attendPhase (r : SetRun) (j : SetJob) (a : AttJob) (prob : Bool) (ents : List SetEnt) : SetRun × List SetEnt :=
  let x := ents.foldl (fun (acc : SetRun × List AttDone × Nat) e =>
    let y := attendEntry acc.1 j a e (if prob then some acc.2.2 else none)
    (y.1, acc.2.1 ++ [y.2], acc.2.2 + tileBytes (a.qn * j.hkv * a.group) (getF e.raw SetEntry.SEG_COUNT)))
    (r, [], getF a.d AttendDesc.PROB_ADDR)
  x.2.1.foldl (fun (acc : SetRun × List SetEnt) d =>
    let y := attendOut acc.1 j a d
    (y.1, acc.2 ++ [y.2])) (x.1, [])

/-- ATTEND (R104 to R108, R112): after its checks. -/
def attendRun (s : State) (k : Nat) (f : Flight) (d : Nat) : State × Bool :=
  let rd := stepReader f
  let group := getF d AttendDesc.GROUP_M1 + 1
  let qn := getF d AttendDesc.QPOS_N_M1 + 1
  let j : SetJob := ⟨k, getF d AttendDesc.LAYER, getF d AttendDesc.L_LOCAL, getF d AttendDesc.HKV,
    dheadOf (getF d AttendDesc.DHEAD), getF d AttendDesc.KV_FMT, getF d AttendDesc.KV_IN_ADDR, rd⟩
  let es := readEntries s j (getF d AttendDesc.ENTRIES) (getF d AttendDesc.ENTRY_ADDR) (qn * j.hkv * group)
    (fun _ => if getF d AttendDesc.APPEND_EN = 1 then qn else 0)
  match es.2 with
  | none => (setRefuse es.1 k f 5, false)
  | some ents =>
    let g := sramRead es.1 rd k (getF d AttendDesc.GLOBAL_ADDR) (4 * getF d AttendDesc.GLOBAL_N)
    if !g.2.2 then (setRefuse g.1 k f 5, false)
    else
      let a : AttJob := ⟨d, group, qn,
        (List.range (getF d AttendDesc.GLOBAL_N)).map (fun i => leNat ((g.2.1.drop (4 * i)).take 4))⟩
      let r := if getF d AttendDesc.APPEND_EN = 1 then appendPhase (SetRun.start g.1) j ents else (SetRun.start g.1, ents)
      let need := (ents.map (fun e => tileBytes (qn * j.hkv * group) (getF e.raw SetEntry.SEG_COUNT))).sum
      let prob := getF d AttendDesc.PROB_EN == 1
      let over_ := prob && decide (getF d AttendDesc.PROB_BUDGET < need)
      let x := attendPhase r.1 j a (prob && !over_) r.2
      (appendDone (entriesEnd x.1 j f x.2 over_) k (if getF d AttendDesc.APPEND_EN = 1 then appendedOf j r.2 else []), x.1.u03)

/-- The stack-local ranges of bead data and outputs that a job in flight on stack `k` names: first address and bytes. -/
def jobSpans (s : State) (k : Nat) (f : Flight) : List (Nat × Nat) :=
  let bead := fun (idx : Nat) => match slotClass s (beadSlot idx) with
    | some c => [(beadAddr s c (beadIdx k (beadSlot idx)) % 2 ^ 37, classStride s c)]
    | none => []
  let da := homeOf s (getF f.step StepRec.DESC_ADDR)
  let d := memNat s da 64
  let op := getF f.step StepRec.OPCODE
  let table := fun (n addr : Nat) => (List.range n).flatMap (fun i =>
    let e := memNat s (sramBase k + (addr + 32 * i) % 0x800000) 32
    let seg := getF e SetEntry.SEG_ADDR
    (seg, 4 * getF e SetEntry.SEG_COUNT)
      :: (List.range (getF e SetEntry.SEG_COUNT)).flatMap (fun t => bead (memNat s (stackOff k (seg + 4 * t)) 4)))
  if op = 1 then table (getF (memNat s da 128) AttendDesc.ENTRIES) (getF (memNat s da 128) AttendDesc.ENTRY_ADDR)
  else if op = 2 then table (getF d AppendDesc.ENTRIES) (getF d AppendDesc.ENTRY_ADDR)
  else if op = 3 then bead (getF d CopyDesc.SRC_BEAD) ++ bead (getF d CopyDesc.DST_BEAD)
  else if op = 4 then
    ((getF d GfDesc.OUT0_ADDR) :: (if getF d GfDesc.N_OUT = 2 then [getF d GfDesc.OUT1_ADDR] else [])
      ++ (List.range (getF d GfDesc.N_IN)).map (fun i =>
        getF (memNat s (sramBase k + (getF d GfDesc.IN_ADDR + 8 * i) % 0x800000) 8) GfIn.ADDR)).map
      (fun a => (a, 64 * getF d GfDesc.LENGTH))
  else []

/-- R115: has a region of the job's stack that the job works in been fenced since it issued? -/
def jobFenced (s : State) (k : Nat) (f : Flight) : Bool :=
  let new := (s.mc.fencedClk.filter (fun p => p.1 / 128 == k && decide (f.issued ≤ p.2))).map (fun p => p.1 % 128)
  new != [] && (jobSpans s k f).any (fun x => new.any (fun g => meets x.1 x.2 (g * 2 ^ 30) (2 ^ 30)))

/-- The job in flight on engine `k` with an opcode that `mine` takes: run, unless the engine or its stack region has been fenced
(R115). -/
def jobOn (s : State) (k : Nat) (mine : Nat → Bool) (run : Flight → State × Bool) : Res :=
  match flightOn s (engineUnit k) with
  | none => answer s s
  | some f =>
    if mine (getF f.step StepRec.OPCODE) then
      if odGet s OD.ENGINE_MAP k = 3 ∨ jobFenced s k f = true then answer s (setEnd (SetRun.start s) k f 6 [] .fault)
      else
        let r := run f
        jobAnswer s r.2 r.1
    else answer s s

/-- ATTEND (R99, R104, R105). A SETTING step with an undefined opcode ends here, with BAD_OP. -/
def execAttend (k : Nat) (s : State) : Res :=
  jobOn s k (fun op => op == 1 || op == 0 || decide (4 < op)) (fun f =>
    if getF f.step StepRec.OPCODE ≠ 1 then (setRefuse s k f 4, false)
    else
      let d := readRec s (stepReader f) (getF f.step StepRec.DESC_ADDR) 128
      if d.2.2.1 ≠ 0 then (setRefuse d.1 k f 5, false)
      else
        let open_ := if getF d.2.1 AttendDesc.PROB_EN = 1 then role s == 5 else role s == 2 || role s == 4
        if !open_ then (setRefuse d.1 k f 2, false)
        else if attendBad s d.2.1 then (setRefuse d.1 k f 7, false)
        else attendRun d.1 k f d.2.1)

/-- APPEND (R99, R101): open in PROMPT, GENERATE, MIXED and TUNE. -/
def execAppend (k : Nat) (s : State) : Res :=
  jobOn s k (fun op => op == 2) (fun f =>
    if role s = 0 ∨ role s = 3 then (setRefuse s k f 2, false) else appendRun s k f)

/-! COPY (R113). -/

/-- R113: does a COPY descriptor fail its checks on stack `k`? -/
def copyBad (s : State) (k d : Nat) : Bool :=
  let src := getF d CopyDesc.SRC_BEAD
  let dst := getF d CopyDesc.DST_BEAD
  let differs := fun (b : Nat) => match slotClass s (beadSlot b) with
    | none => true
    | some c => classF s c BeadClass.L_LOCAL != getF d CopyDesc.L_LOCAL || classF s c BeadClass.HKV != getF d CopyDesc.HKV
        || classF s c BeadClass.DHEAD != getF d CopyDesc.DHEAD || classF s c BeadClass.KV_FMT != getF d CopyDesc.KV_FMT
  beadStack src != k || beadStack dst != k || src == dst || decide (16 < getF d CopyDesc.POSITIONS) || getF d CopyDesc.DHEAD == 3
  || getF d CopyDesc.L_LOCAL == 0 || getF d CopyDesc.HKV == 0 || differs src || differs dst

/-- R113: one head block copied: codes of the first `n` positions, code 0 after them, and the scale. -/
def copyBlock (r : SetRun) (j : SetJob) (src dst n num : Nat) : SetRun × Bool :=
  let per := j.hbBytes / 16
  let a := setRead r j.rdr j.k (src + num * j.hbBytes) (n * per)
  if !a.2.2 then (a.1, false)
  else
    let w := setWrite a.1 j.rdr j.k (dst + num * j.hbBytes) (a.2.1 ++ List.replicate ((16 - n) * per) 0)
    if j.fmt = 0 ∨ w.2 = false then w
    else
      let so := j.lLocal * 2 * j.hkv * j.hbBytes + num
      if n = 0 then setWrite w.1 j.rdr j.k (dst + so) [0]
      else
        let b := setRead w.1 j.rdr j.k (src + so) 1
        if !b.2.2 then (b.1, false) else setWrite b.1 j.rdr j.k (dst + so) b.2.1

/-- COPY (R113): after its checks; `s` has the descriptor read. The flag is of the undefined case U03. -/
def copyRun (s : State) (k : Nat) (f : Flight) (d : Nat) : State × Bool :=
  let j : SetJob := ⟨k, 0, getF d CopyDesc.L_LOCAL, getF d CopyDesc.HKV, dheadOf (getF d CopyDesc.DHEAD),
    getF d CopyDesc.KV_FMT, 0, stepReader f⟩
  let a := jobBead (SetRun.start s) k (getF d CopyDesc.SRC_BEAD)
  let b := jobBead a.1 k (getF d CopyDesc.DST_BEAD)
  let r := (List.range (j.lLocal * j.hkv * 2)).foldl (fun acc num =>
    if acc.2 then copyBlock acc.1 j a.2 b.2 (getF d CopyDesc.POSITIONS) num else acc) (b.1, true)
  (setEnd r.1 k f (if r.2 then 0 else 5) [] .done, r.1.u03)

/-- COPY (R99, R113, R115): open in every role. -/
def execCopy (k : Nat) (s : State) : Res :=
  jobOn s k (fun op => op == 3) (fun f =>
    if role s = 0 then (setRefuse s k f 2, false)
    else
      let d := readRec s (stepReader f) (getF f.step StepRec.DESC_ADDR) 64
      if d.2.2.1 ≠ 0 then (setRefuse d.1 k f 5, false)
      else if copyBad s k d.2.1 then (setRefuse d.1 k f 7, false)
      else copyRun d.1 k f d.2.1)

/-! GFCOMB (R114). -/

/-- Multiplication in GF(2^8) by the polynomial 0x11D, shift and add. -/
def gfMul : Nat → Nat → Nat → Nat
  | 0, _, _ => 0
  | n + 1, a, b =>
    let a2 := if 128 ≤ a then (2 * a) ^^^ 0x11D else 2 * a
    (if b % 2 = 1 then a else 0) ^^^ gfMul n a2 (b / 2)

/-- The product of two bytes in GF(2^8) (R114). -/
def gf8 (a b : Nat) : Nat := gfMul 8 (a % 256) (b % 256)

/-- R114: one line of one output. -/
def gfLine (coef : List Nat) (ins : List (List Byte)) (acc : List Byte) : List Byte :=
  (List.range 64).map (fun i =>
    BitVec.ofNat 8 ((coef.zip ins).foldl (fun v p => v ^^^ gf8 p.1 (p.2.getD i 0).toNat) (acc.getD i 0).toNat))

/-- Lines of the inputs or outputs at line `n` read; whether all could be. -/
def gfRead (r : SetRun) (rd : Reader) (k n : Nat) (addrs : List Nat) : SetRun × List (List Byte) × Bool :=
  addrs.foldl (fun acc a =>
    let x := setRead acc.1 rd k (a + 64 * n) 64
    (x.1, acc.2.1 ++ [x.2.1], acc.2.2 && x.2.2)) (r, [], true)

/-- GFCOMB (R99, R114, R115): open in CACHE only. -/
def execGfcomb (k : Nat) (s : State) : Res :=
  jobOn s k (fun op => op == 4) (fun f =>
    let rd := stepReader f
    if role s ≠ 3 then (setRefuse s k f 2, false)
    else
      let dr := readRec s rd (getF f.step StepRec.DESC_ADDR) 64
      let d := dr.2.1
      let nIn := getF d GfDesc.N_IN
      let nOut := getF d GfDesc.N_OUT
      let len := getF d GfDesc.LENGTH
      if dr.2.2.1 ≠ 0 then (setRefuse dr.1 k f 5, false)
      else if nIn = 0 ∨ 16 < nIn ∨ nOut = 0 ∨ 2 < nOut ∨ len = 0 then (setRefuse dr.1 k f 7, false)
      else
        let ir := sramRead dr.1 rd k (getF d GfDesc.IN_ADDR) (8 * nIn)
        let ins := (List.range nIn).map (fun i => leNat ((ir.2.1.drop (8 * i)).take 8))
        let outs := (if nOut = 2 then [getF d GfDesc.OUT0_ADDR, getF d GfDesc.OUT1_ADDR] else [getF d GfDesc.OUT0_ADDR])
        let inAddr := ins.map (fun w => getF w GfIn.ADDR)
        if !ir.2.2 then (setRefuse ir.1 k f 5, false)
        else if (inAddr ++ outs).any (fun a => decide (2 ^ 37 < a + 64 * len)) then (setRefuse ir.1 k f 7, false)
        else
          let r := (List.range len).foldl (fun (acc : SetRun × Bool) n =>
            if !acc.2 then acc
            else
              let a := gfRead acc.1 rd k n inAddr
              let b := if getF d GfDesc.ACC = 1 then gfRead a.1 rd k n outs else (a.1, outs.map (fun _ => []), true)
              if !(a.2.2 && b.2.2) then (b.1, false)
              else outs.zipIdx.foldl (fun (x : SetRun × Bool) o =>
                let coef := ins.map (fun w => if o.2 = 0 then getF w GfIn.C0 else getF w GfIn.C1)
                if x.2 then setWrite x.1 rd k (o.1 + 64 * n) (gfLine coef a.2.1 (b.2.1.getD o.2 [])) else x) (b.1, true))
                  (SetRun.start ir.1, true)
          (setEnd r.1 k f (if r.2 then 0 else 5) [] .done, false))

end Sys2Proof.Machine
end

