-- ==== Sys2Proof/Machine/Faults.lean ====
section
/-! DEFINITION. Chapter 21: self-test, core and engine faults, watchdogs, fencing, suspect mode, expulsion and fatal errors. CORE_MAP:
0 in service, 1 spare, 2 under test, 3 fenced.
Choices of the model here, by the assumption log: log 23 (DESIGN CHOICE); log 57, 66 (DEDUCED). -/

namespace Sys2Proof.Machine

/-! Cores (R422 to R426). -/

/-- The state of a core. -/
abbrev coreMap (s : State) (c : Nat) : Nat := odGet s OD.CORE_MAP c

/-- R423: the lowest-numbered spare, if there is one, goes in service. -/
def promoteSpare (s : State) : State :=
  match (List.range 200).find? (fun c => coreMap s c == 1) with
  | some c => odPut s OD.CORE_MAP c 0
  | none => s

/-- R423: the spares that fences have asked for are promoted in the next table built. -/
def promoteBuild (s : State) : State :=
  let n := s.ft.promote
  (List.range n).foldl (fun t _ => promoteSpare t) { s with ft := { s.ft with promote := 0 } }

/-- R423: a core in service or spare is fenced with a cause. -/
def coreFence (s : State) (c cause : Nat) : State :=
  let s := fenceRecord (odPut s OD.CORE_MAP c 3) 0 c cause
  coresCheck { s with ft := { s.ft with promote := s.ft.promote + 1 } }

/-- R423: the core under test fails: fenced with BIST_FAIL, no test in progress. -/
def bistFail (s : State) (c : Nat) : State :=
  let s := odAdd (fenceRecord (odPut s OD.CORE_MAP c 3) 0 c 1) OD.BIST_RESULTS (2 * c + 1) 1
  coresCheck { s with ft := { s.ft with bistCore := 200, bistSlices := 0, bistTotal := 0, winBistFail := s.ft.winBistFail + 1 } }

/-- The BIST unit. -/
abbrev bistUnit : Nat := unitKey 10 0

/-- R425: a BIST step completes: its status, target, slice count, slices of the test, failing block. -/
def bistEnd (s : State) (f : Flight) (status target slice slices block : Nat) (how : StepEnd) : State :=
  let s := ringPush s OD.BIST_COMPLETION_RING (mkRec [(BistComp.FRAME, f.frame), (BistComp.STEP_SLOT, f.slot),
    (BistComp.STATUS, status), (BistComp.CARRIED, b2n f.carried), (BistComp.TARGET, target), (BistComp.CLOCKS, compClocks s f),
    (BistComp.SLICE, slice), (BistComp.SLICES, slices), (BistComp.FAIL_BLOCK, block)])
  finishStep s bistUnit how

/-- R425: what TARGET shows. -/
def bistTarget (s : State) : Nat := if s.ft.bistCore = 200 then 0xFF else s.ft.bistCore

/-- SLICE (R421, R423, R425): the BIST step in flight, its patterns run: `block` is the failing block, 0 where the slice passes. -/
def execSlice (block : Nat) (s : State) : Res :=
  match flightOn s bistUnit with
  | none => answer s s
  | some f =>
    if getF f.step StepRec.OPCODE ≠ 1 then answer s (bistEnd s f 4 (bistTarget s) 0 0 0 .untouched)
    else
      let d := readRec s (stepReader f) (getF f.step StepRec.DESC_ADDR) 64
      let n := getF d.2.1 BistDesc.SLICE_CLK
      let s' := d.1
      if d.2.2.1 ≠ 0 then answer s (bistEnd s' f 5 (bistTarget s') 0 0 0 .unread)
      else if n < 2000 ∨ 100000 < n ∨ n % 2000 ≠ 0 then answer s (bistEnd s' f 7 (bistTarget s') 0 0 0 .untouched)
      else if s'.ft.bistCore = 200 ∨ od s' OD.BIST_ENABLE = 0 then answer s (bistEnd s' f 0 (bistTarget s') 0 0 0 .done)
      else
        let c := s'.ft.bistCore
        let total := if s'.ft.bistTotal = 0 then cdiv 384000 n else s'.ft.bistTotal
        let done := if f.carried then s'.ft.bistSlices else s'.ft.bistSlices + 1
        if block ≠ 0 then answer s (bistFail (bistEnd s' f 0xD c done total block .done) c)
        else
          let t := bistEnd s' f 0 c done total 0 .done
          answer s { t with ft := { t.ft with bistSlices := done, bistTotal := total } }

/-- R423: a test whose slices have all passed ends: the core is re-initialised, and goes in service where fewer than 192 others are. -/
def bistPass (s : State) (c : Nat) : State :=
  let s := coreZero s c
  let s := setCore s c { coreOf s c with buffer := [] }
  let others := ((List.range 200).filter (fun x => x != c && coreMap s x == 0)).length
  let s := odPut s OD.CORE_MAP c (if others < 192 then 0 else 1)
  let s := odAdd s OD.BIST_RESULTS (2 * c) 1
  { s with ft := { s.ft with bistCore := 200, bistSlices := 0, bistTotal := 0, winBistPass := s.ft.winBistPass + 1 } }

/-- R422: the next target, passing over fenced cores. -/
def bistNext (s : State) : Option Nat :=
  ((List.range 200).map (fun i => (s.ft.bistNextIdx + i) % 200)).find? (fun c => coreMap s c != 3)

/-- R422: a target announced for the frame after the next. -/
def bistAnnounce (s : State) : State :=
  match bistNext s with
  | some c =>
    let s := odSet s OD.BIST_NEXT (mkRec [(fld 63 32, frameNo s + 2), (fld 7 0, c)])
    { s with ft := { s.ft with bistAnnounced := c, bistNextIdx := (c + 1) % 200 } }
  | none => s

/-- R422, R423: an announced core is taken for test. -/
def bistTake (s : State) : State :=
  let c := s.ft.bistAnnounced
  let was := coreMap s c
  let s := { s with ft := { s.ft with bistAnnounced := 200 } }
  if was = 3 then bistAnnounce s
  else
    let s := { odPut s OD.CORE_MAP c 2 with ft := { s.ft with
      bistCore := c, bistSlices := 0, bistTotal := 0, patterned := if s.ft.patterned.contains c then s.ft.patterned else s.ft.patterned ++ [c] } }
    if was = 0 then promoteSpare s else s

/-- R422: the BIST controller at a tick: a test that has ended, then the announcement or the target announced a frame ago. -/
def bistTick (s : State) : State :=
  let s := if s.ft.bistCore ≠ 200 ∧ s.ft.bistTotal ≠ 0 ∧ s.ft.bistTotal ≤ s.ft.bistSlices then bistPass s s.ft.bistCore else s
  if s.ft.bistAnnounced ≠ 200 then bistTake s
  else if s.ft.bistCore = 200 ∧ od s OD.BIST_ENABLE = 1 then bistAnnounce s
  else s

/-- R426, item 3: the rows that steps of this frame on a core name. -/
def coreRows (s : State) (c : Nat) : List Nat :=
  let here := s.frm.curSteps.filter (fun p => stepUnit p.2 == coreUnit c && kget s.frm.slotState p.1 0 != 0)
  let steps := here.map Prod.snd ++ (match flightOn s (coreUnit c) with | some f => [f.step] | none => [])
  (steps.filter (fun st => getF st StepRec.ROW_VALID == 1)).map (fun st => getF st StepRec.ROW)

/-- CORE_CHECK_FAIL (R426, R423): the running step ends with FAULT, the core is fenced, its rows are contained; a core under test fails its
test instead, in the block named. -/
def execCoreCheckFail (core block : Nat) (s : State) : Res :=
  answer s (
    if core < 200 ∧ coreMap s core ≠ 3 then
      let s := { s with ft := { s.ft with winChecks := s.ft.winChecks + 1 } }
      if coreMap s core = 2 then
        let s := match flightOn s bistUnit with
          | some f => if s.ft.bistCore = core then bistEnd s f 0xD core s.ft.bistSlices s.ft.bistTotal block .done else s
          | none => s
        bistFail s core
      else
        let rows := coreRows s core
        let s := coreFence (coreFault s core) core 2
        rows.foldl joinContained s
    else s)

/-! Engines (R430). -/

/-- R428, R430: a setting engine is fenced. -/
def engineFence (s : State) (k cause : Nat) : State :=
  if odGet s OD.ENGINE_MAP k = 3 then s
  else
    let s := fenceRecord (odPut s OD.ENGINE_MAP k 3) 1 k cause
    { s with ft := { s.ft with engineFault := kput s.ft.engineFault k (frameNo s) } }

/-- ENGINE_CHECK_FAIL (R430). -/
def execEngineCheckFail (k : Nat) (s : State) : Res := answer s (if k < 8 then engineFence s k 4 else s)

/-- R430: the planner's part in a build: DEGRADED, and rows that no destination has accepted within CLASP_STUCK_FRAMES fail with FAULT. -/
def engineBuild (s : State) : State :=
  match s.ft.engineFault with
  | [] => s
  | (_, frame) :: _ =>
    let s := degrade s
    if od s OD.CLASP_STUCK_FRAMES < frameDiff frame (frameNo s) then
      ((List.range 32768).filter (fun r => [1, 2, 4, 5, 6, 7].contains (rowState s r))).foldl (fun t r => rowFail t r 8) s
    else s

/-! Watchdogs (R427). -/

/-- The work requests of a unit that has been reset serve nothing any more. -/
def unitForget (s : State) (u : Nat) : State :=
  { s with net := { s.net with qps := s.net.qps.map (fun p => (p.1, { p.2 with
      posted := p.2.posted.map (fun x => if x.who = .unit u then { x with who := .host } else x),
      wqes := p.2.wqes.map (fun x => if x.who = .unit u then { x with who := .host } else x) })) } }

/-- A step ended with FAULT, under its class's record; a core step that had met an ending status before keeps it (R95). -/
def faultStep (s : State) (u : Nat) (f : Flight) : State :=
  let i := u % 256
  match u / 256 with
  | 1 =>
    let cs := coreOf s i
    coreEnd s i f { cs with status := if cs.status = 0 then 6 else cs.status,
                            opIndex := if cs.status = 0 then 0xFFFF else cs.opIndex, ended := true } .fault
  | 2 => setEnd (SetRun.start s) i f 6 [] .fault
  | 3 => dmaDrop (dmaIdle s i f (dmaOf s i) 6 .fault) i
  | 4 => dmaDrop (dmaIdle s (256 + i) f (dmaOf s (256 + i)) 6 .fault) (256 + i)
  | 5 => unitForget (finishStep s u .fault) u
  | 6 => tsuEnd ⟨s, [], 0, none⟩ i f 6 .fault
  | 7 => lkEnd (LkRun.start s) i f 6 .fault
  | 8 => claspEnd s f 6 [] 0 .fault
  | 9 => memEnd (MemRun.start s) i f 6 .fault
  | 10 => bistEnd s f 6 (bistTarget s) s.ft.bistSlices s.ft.bistTotal 0 .fault
  | 11 => fabricEnd s i f 6 [] 0 0 .fault
  | _ => finishStep s u .fault

/-- R427: what a watchdog does to its unit: a core is fenced, an engine reset and at its second within 1,024 frames fenced, another unit
reset and counted and at its second fatal. -/
def watchdogUnit (s : State) (u : Nat) : State :=
  let again := match kfind s.ft.watchdogs u with
    | some n => decide (frameDiff n (frameNo s) ≤ 1024)
    | none => false
  let s := { s with ft := { s.ft with watchdogs := kput s.ft.watchdogs u (frameNo s), winWatchdogs := s.ft.winWatchdogs + 1 } }
  if u / 256 = 1 then (if coreMap s (u % 256) = 3 then s else coreFence s (u % 256) 3)
  else if u / 256 = 2 then (if again then engineFence s (u % 256) 3 else s)
  else
    let s := odInc s OD.WATCHDOG_RESETS
    if again then fatal s 6 u else s

/-- DRAIN_WATCHDOG (R427): a carried step still running DRAIN_LIMIT_CLK after the tick. -/
def execDrainWatchdog (unit : Nat) (s : State) : Res :=
  answer s (match flightOn s unit with
    | some f =>
      if s.frm.draining = true ∧ f.carried = true ∧ od s OD.DRAIN_LIMIT_CLK ≤ frameClk s then watchdogUnit (faultStep s unit f) unit else s
    | none => s)

/-! Regions, suspect mode and expulsion. -/

/-- A write of FENCE_REGION (R429): [9:7] stack, [6:0] region. -/
def fenceRegionWrite (s : State) (v : Nat) : Wrote := wOk (fenceRegion s (v / 128 % 8) (v % 128) 7)

/-- R435: every prefix registration held is invalidated; a retained one gives up its reference. -/
def prefixClear (s : State) : State :=
  match kindGroup s 2 with
  | none => s
  | some g =>
    let us := (span g.1 g.2.1).flatMap (fun b => (bankEntries s b).filter (fun u => getF (unitRec s u) LkUnit.VALID == 1))
    us.foldl (fun t u =>
      let b := lkValue t u / 2 ^ 104
      let kept := (kfind t.pool.retained u).isSome
      let t := prefixDrop t b
      if kept then beadUnref t b else t) s

/-- R434: suspect mode entered: HEALTH SUSPECT (2), ALERT_N with SUSPECT (bit 12). -/
def suspectEnter (s : State) : State :=
  let s := { s with ft := { s.ft with suspect := true, suspectEnding := false } }
  prefixClear (alert (odSet s OD.HEALTH 2) 12)

/-- A write of DERATE (R434): 1 enters suspect mode, 0 ends it from the next table built. -/
def derate (s : State) (v : Nat) : Wrote :=
  if 1 < v then wBad s 4
  else if v = 1 then wOk (suspectEnter s)
  else wOk { s with ft := { s.ft with suspectEnding := s.ft.suspect } }

/-- R434: suspect mode that is to end does so in a build; HEALTH then tells what remains. -/
def suspectBuild (s : State) : State :=
  if s.ft.suspectEnding then
    let s := { s with ft := { s.ft with suspect := false, suspectEnding := false } }
    odSet s OD.HEALTH (if coresCounted s < 176 ∨ s.ft.engineFault ≠ [] then 1 else 0)
  else s

/-- R437: the window of a frame. -/
def expelWindow (s : State) (frame : Nat) : Nat := frame / od s OD.EXPEL_WINDOW_FRAMES

/-- R437: the devices seen expelled in the current window. -/
def expelledNow (s : State) : List Nat :=
  (s.ft.expelled.filter (fun x => expelWindow s x.2 == expelWindow s (frameNo s))).map Prod.fst

/-- EXPELLED_IN_WINDOW brought up to date: at most eight devices; places without one hold 0. -/
def expelShow (s : State) : State :=
  let l := (expelledNow s).take 8
  odPuts s OD.EXPELLED_IN_WINDOW 0 (l ++ List.replicate (8 - l.length) 0)

/-- R437: a device counts as expelled, once in a window. -/
def noteExpelled (s : State) (dev : Nat) : State :=
  if (expelledNow s).contains dev then s
  else expelShow { s with ft := { s.ft with expelled := s.ft.expelled ++ [(dev, frameNo s)] } }

/-- EXPELLED (R437): a notice from a device. -/
def execExpelled (fromDev : Nat) (s : State) : Res := answer s (noteExpelled s fromDev)

/-- R438: an expulsion honoured. -/
def expelHonour (s : State) : State :=
  let s := { s with ft := { s.ft with expelFrame := some s.clk }, frm := { s.frm with stopped := true } }
  let s := (slotsOf (od s OD.TRAY_MEMBERS)).foldl (fun t k => if k = ownSlot t then t else sendMgmtSlot t 8 k (frameNo t) []) s
  let s := odSet (odSet s OD.EXPEL_STATE 1) OD.EXPEL_RESULT 1
  noteExpelled (alert s 13) (ownDevice s)

/-- R436: the managers, by index, whose approvals verify: the record valid, the signature over the header. -/
def approvals (s : State) (n : Nat) (data : List Byte) : List Nat :=
  let hdr := data.take 64
  ((List.range n).filterMap (fun i =>
    let a := (data.drop (64 + 392 * i)).take 392
    let m := leNat (a.take 8) / 2 ^ 56
    let key := leBytes 392 (odGet s OD.MANAGER_KEYS m)
    if m < 8 ∧ key.headD 0 ≠ 0 ∧ Config.sigOk 0 (key.drop 8) hdr (a.drop 8) = true then some m else none)).eraseDups

/-- A write of FENCE_COMMAND (R436, R437): a new nonce follows every one. -/
def fenceCommand (s : State) (data : List Byte) : Wrote :=
  let h := leNat (data.take 64)
  let n := getF h FenceCmd.APPROVALS
  let t := drawNonce s OD.FENCE_NONCE
  if getF h FenceCmd.MAGIC ≠ 0x444E4645 ∨ n = 0 ∨ 8 < n ∨ getF h FenceCmd.TARGET ≠ ownDevice s then wBad t 4
  else if data.length ≠ 64 + 392 * n then wBad t 3
  else if getF h FenceCmd.NONCE ≠ nonceOf s OD.FENCE_NONCE then wRefuse t 0x10
  else if (approvals s n data).length < od s OD.QUORUM then wRefuse t 0x13
  else if od s OD.EXPEL_STATE = 1 then wOk t
  else if od s OD.EXPEL_BUDGET ≤ (expelledNow s).length then wOk (odSet (suspectEnter t) OD.EXPEL_RESULT 2)
  else wOk (expelHonour t)

/-- EXPEL_DRAIN_END (R438, item 5): nothing is in flight any more, or DRAIN_LIMIT_CLK has passed. -/
def execExpelDrainEnd (s : State) : Res :=
  answer s (match s.ft.expelFrame with
    | some c =>
      if s.frm.flights = [] ∨ c + od s OD.DRAIN_LIMIT_CLK ≤ s.clk then
        let s := (List.range 64).foldl linkDisable s
        cohDown { s with ft := { s.ft with expelFrame := none }, frm := { s.frm with flights := [] }, en := { s.en with savedEnable := 0 } }
      else s
    | none => s)

/-- A write of PEER_LOST (R201, R322, R437, R442, R443): [12:0] the device. -/
def peerLost (s : State) (v : Nat) : Wrote :=
  let dev := v % 8192
  wOk (codecPeerLost (shardPeerLost (claspPeerLost (noteExpelled s dev) dev) dev) dev)

/-- A write of TRAY_SLOT_DEAD (R282, R437, R442, R443): [4:0] the slot, which LINK_PEER maps to its device. -/
def traySlotDead (s : State) (v : Nat) : Wrote :=
  let k := v % 32
  match slotDevice s k with
  | some dev => wOk (codecPeerLost (shardPeerLost (noteExpelled (slotDead s k) dev) dev) dev)
  | none => wOk (slotDead s k)

/-- FATAL_ERROR (R444, R445): an error met on the die, in the planner's firmware, or in a stack's interface: its code and detail. -/
def execFatalError (cause detail : Nat) (s : State) : Res := answer s (if 1 ≤ cause ∧ cause ≤ 6 then fatal s cause detail else s)

end Sys2Proof.Machine
end

