-- ==== Sys2Proof/Machine/HostIf.lean ====
section
/-! DEFINITION. Chapter 22: power events, cold boot, straps, the resets of the host link, configuration writes, MSI-X, BAR2, temperatures
and wake. What the host is sent (output kinds): 0 MSI-X, 1 PCIe message, 2 completion with data, 3 Completer Abort, 5 Unsupported
Request; the number is the TLP's tag.
Choices of the model here, by the assumption log: log 8 (DESIGN CHOICE); log 26 (PRESUMED); log 50, 59 (DEDUCED). -/

namespace Sys2Proof.Machine

/-! Power (R463, R467, R469). -/

/-- What fuses hold: it survives the loss of power. -/
def fuses : List Nat := [OD.PART_NUMBER, OD.PRODUCT_NAME, OD.STEPPING, OD.SERIAL, OD.LIFECYCLE, OD.FUSED_SVN, OD.ROOT_REVOKED,
  OD.PCI_VENDOR_ID]

/-- R470: the part as power comes up: everything volatile is lost; the fuses stay. What has been sent, the count of free values and the
commands that wait are no state of the part. -/
def coldBoot (s : State) : State :=
  let r := { State.reset with freeCtr := s.freeCtr, out := s.out, pending := s.pending }
  fuses.foldl (fun t e => odSet t e (od s e)) r

/-- R463, R363, R467: the regulators turn off, for a reason: 1 want of P48V, 2 DORMANT, 3 a thermal trip. -/
def powerOff (s : State) (why : Nat) : State :=
  let t := coldBoot s
  { t with host := { t.host with power := why, thermtrip := decide (why = 3) || (s.host.thermtrip && why != 1) } }

/-- COLD_BOOT (R469, R470): P48V reaches 40 V with P3V3_SB in range, or P3V3_SB comes into range above it. A DORMANT part waits for WAKE_N,
and one whose THERMTRIP_N is driven for its release. -/
def execColdBoot (s : State) : Res :=
  answer s (if s.host.power = 2 ∨ s.host.thermtrip = true then s else coldBoot s)

/-- PWR_GOOD_RELEASE (R459): every regulator is in regulation; the straps are sampled. -/
def execPwrGoodRelease (straps : Nat) (s : State) : Res :=
  answer s (
    if s.host.power = 0 ∧ s.host.pwrGood = false then
      let s := odSet (odSet (odSet s OD.STRAPS (straps % 64)) OD.TRAY_SLOT (straps % 32)) OD.BARRIER_GROUP (2 ^ (straps % 32))
      { s with host := { s.host with pwrGood := true }, sec := { s.sec with boot := 1 } }
    else s)

/-- P48V_OUT_OF_RANGE (R463): P48V below 36 V or above 62 V for 10 µs. -/
def execP48vOutOfRange (s : State) : Res := answer s (if s.host.thermtrip then s else powerOff s 1)

/-- THERMTRIP (R467): a sensor at 115 °C. -/
def execThermtrip (s : State) : Res := answer s (if s.host.power = 0 then powerOff s 3 else s)

/-- THERMTRIP_N_RELEASE (R467): P48V has been below 36 V for at least 100 ms after a thermal trip. -/
def execThermtripNRelease (s : State) : Res :=
  answer s (if s.host.thermtrip then { s with host := { s.host with power := 1, thermtrip := false } } else s)

/-- P48V_OUTSIDE_OPERATING_RANGE (R410): more than 1 ms outside 40 V to 60 V. -/
def execP48vOutsideOperatingRange (s : State) : Res := answer s (if s.host.power = 0 then breach s 3 else s)

/-- TEMPERATURE_SAMPLE (R357, R410, R465): sensors 0 to 5 of the compute die, 6 to 13 of the base dies [0.01 °C]. -/
def execTemperatureSample (sensor : Nat) (value : Int) (s : State) : Res :=
  answer s (
    if sensor < 14 ∧ s.host.power = 0 then
      let s := odPut s OD.TEMPERATURES sensor (ofInt 32 value)
      let s := { s with en := { s.en with tempMax := max s.en.tempMax value } }
      if 10500 < value then breach s 2 else s
    else s)

/-- R465: does a stack refresh at twice the normal rate: its base die above 85 °C? -/
def refreshDoubled (s : State) (k : Nat) : Bool := decide (8500 < sext 32 (odGet s OD.TEMPERATURES (6 + k)))

/-- WAKE_N (R362, R363): held low for 10 µs: ignored in ACTIVE; in IDLE as POWER_STATE_REQ ACTIVE; in DORMANT a cold boot. -/
def execWakeN (s : State) : Res :=
  answer s (
    if s.host.power = 2 then coldBoot s
    else if s.host.power = 0 ∧ od s OD.POWER_STATE = 2 then idleMetered (powerRequest s 2)
    else s)

/-- A write of POWER_STATE_REQ with 1 (R359, R360). -/
def idleWrite (s : State) : Wrote := wOk (powerRequest s 1)

/-- A write of POWER_STATE_REQ with 2 (R359, R361): as the device leaves IDLE its metered energy is added. -/
def activeWrite (s : State) : Wrote := wOk (if od s OD.POWER_STATE = 2 then idleMetered (powerRequest s 2) else powerRequest s 2)

/-- A write of POWER_STATE_REQ with 3 (R359, R363): the regulators turn off in IDLE; elsewhere refused, POWER_REQ_STATUS NOT_IDLE. -/
def dormantWrite (s : State) : Wrote :=
  if od s OD.POWER_STATE = 2 then wOk (powerOff s 2) else wRefuse (powerRequest s 3) 0

/-! The host link (R447, R453, R454). -/

/-- The mark of a mailbox whose answer is to be discarded (R454). -/
abbrev goneMailbox : Reach := .mailbox 16

/-- R454: the PCIe interface reset, and nothing else; HOST_LINK shows the function in D0 again. -/
def linkReset (s : State) : State :=
  let s := odSet s OD.HOST_LINK (setF (od s OD.HOST_LINK) (fld 14 13) 0)
  let held := s.dct.held.map (fun (w : DictWr) => match w.reach with | .mailbox _ => { w with reach := goneMailbox } | _ => w)
  let boxes := s.dct.mailboxes.map (fun (p : Nat × Mailbox) => (p.1, { p.2 with state := 0 }))
  { s with host := { s.host with bar0 := 0, bar2 := 0, command := 0, msixCtl := 0, pm := 0, msixTable := [], msixPending := [],
                                 waits := [] },
           dct := { s.dct with held := held, mailboxes := boxes },
           sec := { s.sec with bootLoad := [], large := none, spdm := 0 } }

/-- HOST_LINK with the link down. -/
def linkGone (s : State) : State := odSet s OD.HOST_LINK 0

/-- PERST_N (R454): driven low. -/
def execPerstN (s : State) : Res :=
  answer s (let t := linkGone (linkReset s); { t with host := { t.host with perst := true } })

/-- PERST_N_RISE (R454). -/
def execPerstNRise (s : State) : Res :=
  answer s (if s.host.pwrGood then { s with host := { s.host with perst := false } } else s)

/-- Is the PCIe interface out of reset? -/
def linkOut (s : State) : Bool := s.host.pwrGood && !s.host.perst

/-- HOT_RESET (R454). -/
def execHotReset (s : State) : Res := answer s (if linkOut s then linkReset s else s)

/-- FUNCTION_LEVEL_RESET (R454). -/
def execFunctionLevelReset (s : State) : Res := answer s (if linkOut s then linkReset s else s)

/-- HOST_LINK_UP (R454): the link reaches L0 at a rate [GT/s] and width, in Flit Mode or not. -/
def execHostLinkUp (rate width : Nat) (flit : Bool) (s : State) : Res :=
  answer s (
    if linkOut s then odSet s OD.HOST_LINK (mkRec [(fld 31 24, rate), (fld 23 16, width), (fld 15 15, b2n flit),
      (fld 14 13, s.host.pm), (fld 0 0, 1)])
    else s)

/-- HOST_LINK_DOWN (R454): in CONFIG and RUN counted, with HOST_LINK (bit 15). -/
def execHostLinkDown (s : State) : Res :=
  answer s (
    if bitOf (od s OD.HOST_LINK) 0 then
      let t := linkGone (linkReset s)
      if inConfig t || inRun t then alert (odInc t OD.HOST_LINK_DOWNS) 15 else t
    else s)

/-- R453: vectors whose pending bit is set and that nothing masks any more are sent. -/
def msixFlush (s : State) : State :=
  if !bitOf s.host.msixCtl 15 || bitOf s.host.msixCtl 14 || !bitOf s.host.command 2 then s
  else
    let go := s.host.msixPending.filter (fun v => !bitOf (kget s.host.msixTable v (2 ^ 96)) 96)
    let s := { s with host := { s.host with msixPending := s.host.msixPending.filter (fun v => !go.contains v) } }
    go.foldl msixSend s

/-- CONFIGURATION_WRITE (R447): 0 BAR0 (64 MiB), 1 BAR2 (4 GiB), 2 MSI-X control, 3 power state (0 D0, 3 D3hot; another is ignored),
4 command. -/
def execConfigurationWrite (reg v : Nat) (s : State) : Res :=
  answer s (
    if linkOut s = false then s
    else
      match reg with
      | 0 => { s with host := { s.host with bar0 := v % 2 ^ 64 / 2 ^ 26 * 2 ^ 26 } }
      | 1 => { s with host := { s.host with bar2 := v % 2 ^ 64 / 2 ^ 32 * 2 ^ 32 } }
      | 2 => msixFlush { s with host := { s.host with msixCtl := setFs 2047 [(fld 15 15, v / 2 ^ 15), (fld 14 14, v / 2 ^ 14)] } }
      | 3 =>
        if v % 4 = 0 ∨ v % 4 = 3 then
          let s := odSet s OD.HOST_LINK (setF (od s OD.HOST_LINK) (fld 14 13) v)
          { s with host := { s.host with pm := v % 4 } }
        else s
      | 4 => msixFlush { s with host := { s.host with command := v % 8 / 2 * 2 } }
      | _ => s)

/-- Do the BARs answer: memory space enabled, in D0? -/
def barsOpen (s : State) : Bool := linkOut s && bitOf s.host.command 1 && s.host.pm == 0

/-- MSI_X_TABLE_WRITE (R453, R372): a vector's entry written: address, data, mask bit. -/
def execMsiXTableWrite (vector value : Nat) (s : State) : Res :=
  answer s (
    if barsOpen s = true ∧ vector < 2048 then
      msixFlush { s with host := { s.host with msixTable := kputD s.host.msixTable vector (value % 2 ^ 97) (2 ^ 96) } }
    else s)

/-- A completion without data for a request: its kind; AER logs 2 an advisory Completer Abort, 3 an Unsupported Request. -/
def hostError (s : State) (kind tag code : Nat) : State :=
  { s with out := s.out ++ [⟨kind, tag, []⟩], ft := { s.ft with aer := s.ft.aer ++ [code] } }

/-- UNSUPPORTED_REQUEST (R453): a memory request outside both BARs. -/
def execUnsupportedRequest (tag : Nat) (s : State) : Res := answer s (if linkOut s then hostError s 5 tag 3 else s)

/-! BAR2 (R451, R452). -/

/-- R451: a BAR2 access that is refused or fails: a read completes as Completer Abort, a write is dropped; both are logged and counted. -/
def bar2Fail (s : State) (tag : Nat) (read : Bool) : State :=
  let s := odInc { s with ft := { s.ft with aer := s.ft.aer ++ [2] } } OD.BAR2_ERRORS
  if read then { s with out := s.out ++ [⟨3, tag, []⟩] } else s

/-- R398: does a TENANT or SHARED partition close bytes to the host? -/
def bar2Closed (s : State) (a n : Nat) : Bool :=
  (List.range 64).any (fun i => partF s i Part.STATE != 0 && (partF s i Part.KIND == 1 || partF s i Part.KIND == 2)
    && meets a n (partF s i Part.BASE) (partF s i Part.SIZE))

/-- R451: is the place one that BAR2 may not reach: a setting SRAM, or window memory for a write? -/
def bar2Barred (a : Nat) (read : Bool) : Bool :=
  (decide (sramBase 0 ≤ a) && decide (a < sramBcast + 0x800000))
  || (!read && decide (windowBase 0 ≤ a) && decide (a < windowBase 200))

/-- One waiting access: its parts' answers taken once all have come, the completion given; with any part failed, the whole has. -/
def bar2Collect (s : State) (w : HostRead) : State :=
  if w.ids.all (fun i => (kfind s.fab.results i).isSome) then
    let rs := w.ids.map (fun i => kget s.fab.results i (1, []))
    let s := w.ids.foldl (fun t i => (takeResult t i).1) s
    let s := { s with host := { s.host with waits := s.host.waits.filter (· != w) } }
    if rs.any (fun r => r.1 != 0) then bar2Fail s w.tag w.read
    else if w.read then { s with out := s.out ++ [⟨2, w.tag, rs.flatMap Prod.snd⟩] } else s
  else s

/-- The BAR2 accesses that wait, oldest first. -/
def bar2Done (s : State) : State := s.host.waits.foldl bar2Collect s

/-- The host as a reader of memory: no step, TENANT_VALID clear. -/
def hostReader : Reader := { cls := 0, idx := 0, rowValid := false, row := 0, tenValid := false, ten := 0 }

/-- R451: BAR2 offset `x` as a device offset. -/
def bar2Addr (s : State) (x : Nat) : Nat := getF (od s OD.BAR2_WINDOW) (fld 41 32) * 2 ^ 32 + x

/-- A BAR2 access begun, in the parts its target takes. -/
def bar2Start (s : State) (tag a : Nat) (read : Bool) (n : Nat) (data : List Byte) : State :=
  let pa := ownSlot s * 2 ^ 42 + a
  let r := (accessParts s pa n).foldl (fun (x : State × List Nat) p =>
    let y := accessStart x.1 (.host tag) hostReader (if read then 0 else 1) p.1 p.2 ((data.drop (p.1 - pa)).take p.2) 0 0 0
    (y.1, x.2 ++ [y.2])) (s, [])
  let s := cohSettle r.1
  bar2Done { s with host := { s.host with waits := s.host.waits ++ [⟨tag, read, r.2⟩] } }

/-- What meets a BAR2 access before memory: BARs that do not answer, a device in BOOT or FATAL (R386, R445), a place barred, a partition. -/
def bar2Access (s : State) (tag x : Nat) (read : Bool) (n : Nat) (data : List Byte) : State :=
  let a := bar2Addr s x
  if barsOpen s = false ∨ 2 ^ 32 < x + n then (if linkOut s then (if read then hostError s 5 tag 3 else s) else s)
  else if !(inConfig s || inRun s) || bar2Barred a read || decide (2 ^ 42 < a + n) then bar2Fail s tag read
  else if bar2Closed s a n then
    let s := odAdd s OD.PARTITION_DENIALS 0 1
    if read then { s with out := s.out ++ [⟨2, tag, List.replicate n 0⟩] } else s
  else bar2Start s tag a read n data

/-- BAR2_READ (R451, R398): `n` bytes from an offset. -/
def execBar2Read (tag off n : Nat) (s : State) : Res := answer s (bar2Access s tag off true n [])

/-- BAR2_WRITE (R451, R452, R398). -/
def execBar2Write (off : Nat) (data : List Byte) (s : State) : Res := answer s (bar2Access s 0 off false data.length data)

end Sys2Proof.Machine
end

