-- ==== Sys2Proof/Machine/Plan.lean ====
section
/-! DEFINITION. The planner's decisions (R12, R13), each checked against what the manual asks of it: reservation (R134, R154), sharing (R20,
R21, R136, R137), copy-on-write (R139), growth (R133), return (R141), offers (R188), the park victim (R135), erasure-coded groups (R440,
R442), and what a containment record makes it do (R218, R219). A decision the rules do not permit changes nothing.
Choices of the model here, by the assumption log: log 17, 37 (DEDUCED). -/

namespace Sys2Proof.Machine

/-! What the planner writes for its steps. -/

/-- Does device memory from `a` on, `n` bytes, meet the program region (R76)? -/
def inProgram (s : State) (a n : Nat) : Bool := meets a n (od s OD.PROG_REGION_BASE) (od s OD.PROG_REGION_SIZE)

/-- A range that meets no control area (R216), no program image (R76) and no window (R224): what lies there is written by its own
operations alone. -/
def planWritable (s : State) (a n : Nat) : Bool :=
  (pieces a n).all (fun p => !(decide (p.1 < 2 ^ 40) && inControl s (p.1 / 2 ^ 37) (p.1 % 2 ^ 37)) && !inProgram s p.1 p.2
    && !meets p.1 p.2 (windowBase 0) (200 * 0x200000))

/-- Bytes the planner writes for its own steps to read. -/
def planPut (s : State) (a : Nat) (data : List Byte) : State :=
  if planWritable s a data.length then (writeMem s true ownReader a data).1 else s

/-! Strands and reservations. -/

/-- The bead class of a row's model slot. -/
def rowClass (s : State) (r : Nat) : Nat := recF s OD.MODEL_SLOTS (rowGet s r Row.MODEL_SLOT) ModelSlot.BEAD_CLASS

/-- R474: a row's strand formed at a place for `n` beads, where it has none: none where the place does not serve. -/
def strandHave (s : State) (r n : Nat) (place : List Nat) : Option State :=
  if rowGet s r Row.STRAND_ROOT ≠ 0 then
    if segCount n 0 ≤ 2 ^ getF (strandHdr s r) StrandHdr.SEG_CAP_LOG2 then some s else none
  else if placeOk s (2 ^ segLog2 n) place then some (strandForm s r (rowClass s r) (segLog2 n) place)
  else none

/-- R20, R336: the hash of block `i` of a row, over its tokens, tenant, model slot and adapter version; none where the device has not had
all of them. -/
def rowHash (s : State) (r i : Nat) : Option Nat :=
  match kfind s.rows.tokens r with
  | none => none
  | some toks =>
    if toks.length < 16 * i + 16 then none
    else
      let m := rowGet s r Row.MODEL_SLOT
      let h := walkSeed s (rowGet s r Row.TENANT) m (rowGet s r Row.ADAPTER_EN) (rowGet s r Row.ADAPTER_VER) (rowGet s r Row.ADAPTER_SLOT)
        (recF s OD.MODEL_SLOTS m ModelSlot.MODEL_TAG)
      (walkHashes s h (i + 1) ((toks.take (16 * i + 16)).flatMap (leBytes 4))).getLast?

/-- The references of shared beads taken in order until one is stale (R21, R128): the state and the beads shared. -/
def shareRefs (s : State) : List Nat → State × List Nat
  | [] => (s, [])
  | v :: t =>
    let b := v / 2 ^ 104 % 2 ^ 24
    let u := beadRef s b (v / 2 ^ 96 % 256)
    if u.pool.answer = 0 then
      let x := shareRefs u t
      (x.1, b :: x.2)
    else (u, [])

/-- R20, R21: the hits that a PREFIX_WALK over the row's own tokens wrote at `out` shared by an admitted row that has no strand yet: never
the block that holds the last prompt position; their prefill charge is released. -/
def planShare (s : State) (r out : Nat) (place : List Nat) : State :=
  let n := rowGet s r Row.PROMPT_LEN
  if rowState s r ≠ 1 ∨ rowGet s r Row.STRAND_ROOT ≠ 0 ∨ prefixOpen s = false ∨ hasDue s r then s
  else
    let h := readRec s ownReader out 16
    let hits := min (getF h.2.1 (fld 127 96)) ((n - 1) / 16)
    let recs := readMem h.1 true ownReader (out + 16) (32 * hits)
    let got := (List.range hits).map (fun i => leNat ((recs.2.1.drop (32 * i)).take 32))
    let own := (got.zipIdx.takeWhile (fun p => rowHash recs.1 r p.2 == some (p.1 / 2 ^ 128))).map (fun p => p.1 % 2 ^ 128)
    if h.2.2.1 ≠ 0 ∨ recs.2.2.1 ≠ 0 ∨ own = [] then h.1
    else
      match strandHave recs.1 r (cdiv n 16) place with
      | none => odInc recs.1 OD.BEAD_DEFERRALS
      | some t =>
        let x := shareRefs t own
        let u := (x.2.zipIdx).foldl (fun t p => strandPut t r p.2 p.1) x.1
        let u := strandCount u r x.2.length
        let u := rowSet u r [(Row.COMMITTED_LEN, 16 * x.2.length), (Row.PROV_LEN, 16 * x.2.length)]
        let back := 16 * x.2.length * recF u OD.MODEL_SLOTS (rowGet u r Row.MODEL_SLOT) ModelSlot.PREFILL_FACTOR / 256
        let back := min back (prefillPart u r)
        release { u with rows := { u.rows with prefill := kput u.rows.prefill r (prefillPart u r - back) } } r back

/-- R161, R218: may steps of a row's model be planned: its slot is RESIDENT, or DRAINING with the row still on it, and nothing of the model,
adapter version or grammar that the row uses is being reloaded? -/
def modelReady (s : State) (r : Nat) : Bool :=
  let m := rowGet s r Row.MODEL_SLOT
  decide (2 ≤ recF s OD.MODEL_SLOTS m ModelSlot.STATE)
  && s.rows.reloads.all (fun x =>
    !(x.1 == 2 && x.2.1 == m)
    && !(x.1 == 3 && rowGet s r Row.ADAPTER_EN == 1 && versionOf s (rowGet s r Row.ADAPTER_SLOT) (rowGet s r Row.ADAPTER_VER) == some x.2.1)
    && !(x.1 == 4 && rowGrammar s r == some x.2.1))

/-- R147, R151: does the planner plan no further step of a row: it is to fail or to be suspended, or its client has ended it? -/
def rowEnding (s : State) (r : Nat) : Bool :=
  (kfind s.rows.doomed r).isSome || s.rows.suspending.contains r || rowGet s r Row.FLAGS / 16 % 4 != 0

/-- R134, R147: the state a row takes with its next step planned: PREFILL, DECODE, or none where no step of the kind may be planned. -/
def planState (s : State) (r : Nat) : Option Nat :=
  let st := rowState s r
  let left := decide (rowGet s r Row.COMMITTED_LEN < rowGet s r Row.PROMPT_LEN)
  if hasDue s r ∨ rowEnding s r ∨ modelReady s r = false then none
  else if st = 1 ∨ st = 2 then (if fnPlans s 2 then some 2 else none)
  else if st = 4 ∧ left = true ∧ fnPlans s 2 then some 2
  else if (st = 4 ∨ st = 5) ∧ rowFlag s r 6 = false ∧ fnWorks s 3 ∧ rowBusy s r = false then some 5
  else none

/-- R150: does row `a` come before row `b` of its tenant: higher PRIORITY, then the earlier deadline ahead of none, then the earlier
admission, then the lower row? -/
def serveBefore (s : State) (a b : Nat) : Bool :=
  let pa := rowGet s a Row.PRIORITY
  let pb := rowGet s b Row.PRIORITY
  let da := rowGet s a Row.DEADLINE_FRAME
  let db := rowGet s b Row.DEADLINE_FRAME
  let ma := rowGet s a Row.ADMIT_FRAME
  let mb := rowGet s b Row.ADMIT_FRAME
  if pa ≠ pb then decide (pb < pa)
  else if rowFlag s a 7 ≠ rowFlag s b 7 then rowFlag s a 7
  else if rowFlag s a 7 = true ∧ da ≠ db then frameLater db da
  else if ma ≠ mb then frameLater mb ma
  else decide (a < b)

/-- R150: is a row the next of its tenant whose step this build takes up? -/
def serveTurn (s : State) (r : Nat) : Bool :=
  (rowsInUse s).all (fun x => x == r || rowGet s x Row.TENANT != rowGet s r Row.TENANT || s.rows.served.contains x
    || !serveBefore s x r || (planState s x).isNone)

/-- A row whose step this build has taken up. -/
def noteServed (s : State) (r : Nat) : State :=
  if s.rows.served.contains r then s else { s with rows := { s.rows with served := s.rows.served ++ [r] } }

/-- The continuation tokens that wait to be fed to a row by decode steps (R175). -/
def contLeft (s : State) (r : Nat) : Nat := (kget s.rows.prompt r []).length

/-- R154, R175: the units that a step writing up to `prov` needs reserved beside the prefill part: 1 + its drafts; of a continuation 1 for
the step that ends it; of a prefill 1 where it selects the first token. -/
def stepUnits (s : State) (r st prov first : Nat) : Nat :=
  let n := prov - rowGet s r Row.COMMITTED_LEN
  if st = 2 then min first 1 else if contLeft s r = 0 then n else b2n (n == contLeft s r)

/-- R15, R175: may a decode step of a row write up to `prov`: up to 16 positions, of a continuation no more than wait? -/
def provOk (s : State) (r prov : Nat) : Bool :=
  let c := rowGet s r Row.COMMITTED_LEN
  decide (c < prov) && decide (prov ≤ 2 ^ 24) && decide (prov ≤ c + (if contLeft s r = 0 then 16 else min 16 (contLeft s r)))

/-- R139: is the bead that a row's next position lies in shared? -/
def nextShared (s : State) (r : Nat) : Bool :=
  let o := rowGet s r Row.COMMITTED_LEN / 16
  rowGet s r Row.STRAND_ROOT != 0 && decide (o < rowGet s r Row.BEAD_COUNT) && decide (2 ≤ descF s (strandBead s r o) BeadDesc.REFS)

/-- The stacks that cannot supply the beads of a row up to ordinal `n`. -/
def shortStacks (s : State) (r n : Nat) : List Nat :=
  let cls := if rowGet s r Row.STRAND_ROOT = 0 then rowClass s r else getF (strandHdr s r) StrandHdr.CLASS
  let b := rowGet s r Row.BEAD_COUNT
  (List.range 8).filter (fun k => decide ((kget s.pool.ready (listKey cls k) []).length < segCount n k - segCount b k))

/-- R135: a step deferred for want of beads: counted once in a build. -/
def stepDeferred (s : State) (r : Nat) (ks : List Nat) : State :=
  let s := if s.rows.shorts.any (fun p => p.1 == r) then s else odInc s OD.BEAD_DEFERRALS
  { s with rows := { s.rows with shorts := (s.rows.shorts.filter (fun p => p.1 != r)) ++ (if ks = [] then [8] else ks).map (fun k => (r, k)) } }

/-- R155: a step waits for its tenant's budget: counted once in a frame. -/
def stepWaits (s : State) (r : Nat) : State :=
  if s.rows.waits.contains r then s else { odInc s OD.BUDGET_WAITS with rows := { s.rows with waits := s.rows.waits ++ [r] } }

/-- R134, R135, R154, R155: beads and budget reserved for the next step of a row: a prefill every bead of its prompt, a decode step those
up to `prov`. A reservation already made stays. A step whose beads or strand cannot be had is deferred and counted; one whose budget
cannot be had waits and is counted; one that would write into a shared bead is not planned before its copy (R139). -/
def planStep (s : State) (r prov first : Nat) (place : List Nat) : State :=
  match planState s r with
  | none => s
  | some st =>
    if (st = 5 ∧ provOk s r prov = false) ∨ nextShared s r ∨ serveTurn s r = false then s
    else
      let n := if st = 2 then cdiv (rowGet s r Row.PROMPT_LEN) 16 else cdiv prov 16
      let s := noteServed s r
      match reserve s r (stepUnits s r st prov first - (rowGet s r Row.RESERVED - prefillPart s r)) with
      | none => stepWaits s r
      | some t =>
        match (strandHave t r n place).bind (fun u =>
            strandReserve u r (getF (strandHdr u r) StrandHdr.CLASS) n (rowGet u r Row.TENANT)) with
        | none => stepDeferred t r (shortStacks t r n)
        | some u =>
          let u := if st = 5 then plannerLens u r [(Row.PROV_LEN, prov)] else u
          if rowState u r = st then u else rowDue u r st 0

/-- R139: the bead of ordinal `ord` of a row, shared, replaced by a fresh one of the same stack; its COPY must be among the steps
planned before one of the row. -/
def planCow (s : State) (r ord : Nat) : State :=
  let old := strandBead s r ord
  if rowState s r = 0 ∨ rowState s r = 3 ∨ rowGet s r Row.STRAND_ROOT = 0 ∨ rowGet s r Row.BEAD_COUNT ≤ ord
      ∨ descF s old BeadDesc.REFS < 2 ∨ (kfind s.sh.coded r).isSome ∨ fnPlans s 7 = false then s
  else
    let t := beadAlloc s (getF (strandHdr s r) StrandHdr.CLASS) (ord % 8) 1 ord r (rowGet s r Row.TENANT)
    let new := t.pool.answerBeads.headD 0
    if t.pool.answer ≠ 0 then stepDeferred s r [ord % 8]
    else beadUnref (strandPut { odInc t OD.COW_COPIES with rows := { t.rows with cows := t.rows.cows ++ [(r, old, new)] } } r ord new) old

/-- R133: segments of twice the capacity taken for a row; the live entries' copy is among the planned steps. -/
def planGrow (s : State) (r : Nat) (place : List Nat) : State :=
  let cap := 2 ^ (getF (strandHdr s r) StrandHdr.SEG_CAP_LOG2 + 1)
  if rowState s r = 0 ∨ rowState s r = 3 ∨ rowGet s r Row.STRAND_ROOT = 0 ∨ (kfind s.sh.coded r).isSome ∨ (kfind s.pool.growing r).isSome
      ∨ 2 ^ 17 < cap ∨ segsOk s cap place = false then s
  else { s with pool := { s.pool with
    growing := kput s.pool.growing r place,
    segs := s.pool.segs ++ place.zipIdx.map (fun p => (stackOff p.2 p.1, 4 * cap)) } }

/-- R133: do the new segments of a growth hold every live entry of the old ones? -/
def growCopied (s : State) (r : Nat) (place : List Nat) : Bool :=
  let hdr := strandHdr s r
  (List.range 8).all (fun k =>
    let n := 4 * segCount (rowGet s r Row.BEAD_COUNT) k
    memBytes s (stackOff k (place.getD k 0)) n == memBytes s (stackOff k (segAddr hdr k)) n)

/-- R133: the copy has completed, and the new segments hold the live entries: the header names them; the old ones are free at the end of
the drain that follows this frame's tick. -/
def planGrown (s : State) (r : Nat) : State :=
  match kfind s.pool.growing r with
  | none => s
  | some place =>
    let hdr := strandHdr s r
    let new := setFs hdr ((StrandHdr.SEG_CAP_LOG2, getF hdr StrandHdr.SEG_CAP_LOG2 + 1)
      :: place.zipIdx.map (fun p => (segFld p.2, p.1)))
    if rowState s r = 3 ∨ growCopied s r place = false then s
    else
      let s := { s with pool := { s.pool with growing := kdel s.pool.growing r } }
      let s := ctlPut s (strandRoot s r) 64 new
      let old := (List.range 8).map (fun k => (frameNo s, 2 * stackOff k (segAddr hdr k) + 1))
      { s with pool := { s.pool with freed := s.pool.freed ++ old } }

/-- R141: a row's beads beyond a length returned. -/
def specReturn (s : State) (r len : Nat) : State :=
  let n := cdiv len 16
  let have_ := rowGet s r Row.BEAD_COUNT
  if rowGet s r Row.STRAND_ROOT = 0 ∨ (kfind s.sh.coded r).isSome ∨ have_ ≤ n then s
  else odAdd (strandDrop s r n) OD.SPEC_RETURNS 0 (have_ - n)

/-- A step that did not issue given up: the row falls back to its committed length, and its beads beyond that are returned. -/
def planBack (s : State) (r : Nat) : State :=
  if rowState s r = 0 ∨ rowState s r = 3 ∨ rowBusy s r then s
  else specReturn (plannerLens s r [(Row.PROV_LEN, rowGet s r Row.COMMITTED_LEN)]) r (rowGet s r Row.COMMITTED_LEN)

/-- R141: the verifications that the planner reads in a build: beads beyond the committed length are returned, but for those that the table
being built reserves again. -/
def verifyBuild (s : State) : State :=
  s.rows.verified.foldl (fun t r => if rowState t r = 0 ∨ rowState t r = 3 ∨ rowState t r = 2 then t
    else specReturn t r (max (rowGet t r Row.COMMITTED_LEN) (rowGet t r Row.PROV_LEN))) { s with rows := { s.rows with verified := [] } }

/-! Prefix registrations (R136, R137). -/

/-- R136: a bead whose 16 positions are committed registered under its block hash, by an insert here or by an INSERT step that has run; with
PREFIX_RETAIN the registration holds a reference. -/
def planRegister (s : State) (r ord : Nat) : State :=
  let b := strandBead s r ord
  match rowHash s r ord with
  | none => s
  | some hash =>
    if prefixOpen s = false ∨ fnPlans s 1 = false ∨ s.ft.suspect = true ∨ rowState s r = 0 ∨ rowState s r = 3
        ∨ rowGet s r Row.STRAND_ROOT = 0 ∨ rowGet s r Row.COMMITTED_LEN < 16 * ord + 16 ∨ descF s b BeadDesc.PREFIX = 1
        ∨ descF s b BeadDesc.STATE ≠ 1 then s
    else
      let v := b * 2 ^ 104 + descF s b BeadDesc.GEN * 2 ^ 96
      let x := deviceInsert s 2 hash v
      if x.2.1 ≠ 0 ∧ ¬(x.2.1 = 2 ∧ lkValue x.1 x.2.2 / 2 ^ 96 = v / 2 ^ 96) then x.1
      else
        let t := descSet x.1 b [(BeadDesc.PREFIX, 1), (BeadDesc.LOCKET_ENTRY, x.2.2)]
        if od t OD.PREFIX_RETAIN = 1 then
          let u := beadRef t b (descF t b BeadDesc.GEN)
          if u.pool.answer = 0 then { u with pool := { u.pool with retained := kput u.pool.retained x.2.2 (frameNo u) } } else u
        else t

/-- The bead a PREFIX registration names. -/
def regBead (s : State) (u : Nat) : Nat := lkValue s u / 2 ^ 104 % 2 ^ 24

/-- The retained registrations on a stack. -/
def retainedOn (s : State) (k : Nat) : List (Nat × Nat) := s.pool.retained.filter (fun p => beadStack (regBead s p.1) == k)

/-- The READY beads of a stack, of every class. -/
def stackReady (s : State) (k : Nat) : Nat := ((List.range 8).map (fun c => (kget s.pool.ready (listKey c k) []).length)).sum

/-- The beads of a stack that are on their way to READY. -/
def stackComing (s : State) (k : Nat) : Nat :=
  ((List.range 8).map (fun c => (kget s.pool.clearing (listKey c k) []).length)).sum
    + (s.pool.pend.filter (fun p => beadStack p.2 == k)).length

/-- A retained registration given up: the Locket entry is invalidated, then its reference dropped. -/
def retainedDrop (s : State) (u : Nat) : State := beadUnref (prefixDrop s (regBead s u)) (regBead s u)

/-- R135, R137: a retained registration evicted, the least recently hit of its stack, where the stack's READY count has fallen below
RETAIN_LOW_WATER or a step of this build wants a bead of it. -/
def planEvict (s : State) (u : Nat) : State :=
  match kfind s.pool.retained u with
  | none => s
  | some at_ =>
    let k := beadStack (regBead s u)
    if (retainedOn s k).any (fun p => frameLater at_ p.2)
        ∨ (od s OD.RETAIN_LOW_WATER ≤ stackReady s k ∧ s.rows.shorts.all (fun p => p.2 != k)) then s
    else retainedDrop s u

/-- The registration of a stack that was hit longest ago. -/
def oldestRetained (s : State) (k : Nat) : Option Nat :=
  ((retainedOn s k).foldl (fun (best : Option (Nat × Nat)) p => match best with
    | none => some p
    | some b => if frameLater b.2 p.2 then some p else best) none).map Prod.fst

/-- R137: registrations of a stack evicted until those gone and the beads that come back make up what READY lacks of RETAIN_LOW_WATER. -/
def retainEvict : Nat → State → Nat → State
  | 0, s, _ => s
  | n + 1, s, k =>
    if od s OD.RETAIN_LOW_WATER ≤ stackReady s k + stackComing s k then s
    else
      match oldestRetained s k with
      | none => s
      | some u => retainEvict n (retainedDrop s u) k

/-- R137: the evictions of a build. -/
def retainBuild (s : State) : State :=
  (List.range 8).foldl (fun t k => if stackReady t k < od t OD.RETAIN_LOW_WATER then retainEvict (retainedOn t k).length t k else t) s

/-! Offers (R17, R188) and the park victim (R135). -/

/-- Must the rows of this device leave it: a role switch, a fenced engine, suspect mode (R17, R430, R435)? -/
def mustLeave (s : State) : Bool := s.rows.closing != 0 || s.ft.engineFault != [] || s.ft.suspect

/-- R188: does a purpose fit a row: 0 HANDOFF of a finished prompt, 1 PARK, 2 UNPARK for a CONTINUE, 3 DRAIN? -/
def offerFits (s : State) (r purpose : Nat) : Bool :=
  let st := rowState s r
  let left := decide (rowGet s r Row.COMMITTED_LEN < rowGet s r Row.PROMPT_LEN)
  if hasDue s r then false
  else if purpose = 0 then st == 2 && !left && role s == 1
  else if purpose = 1 then st == 4 && mustLeave s
  else if purpose = 2 then st == 6 && left
  else purpose == 3 && mustLeave s

/-- R188 to R190: a row offered for a purpose that fits it. -/
def planOffer (s : State) (r purpose area : Nat) : State := if offerFits s r purpose then offerRow s r purpose area else s

/-- R135: is row `a` a better park victim than row `b`: lower priority, then the later deadline (none is latest), then more beads on the
short stack, then the lower row? -/
def victimBefore (s : State) (stack a b : Nat) : Bool :=
  let pa := rowGet s a Row.PRIORITY
  let pb := rowGet s b Row.PRIORITY
  let ea := rowFlag s a 7
  let eb := rowFlag s b 7
  let da := rowGet s a Row.DEADLINE_FRAME
  let db := rowGet s b Row.DEADLINE_FRAME
  let na := segCount (rowGet s a Row.BEAD_COUNT) stack
  let nb := segCount (rowGet s b Row.BEAD_COUNT) stack
  if pa ≠ pb then decide (pa < pb)
  else if ea ≠ eb then !ea
  else if ea = true ∧ da ≠ db then frameLater da db
  else if na ≠ nb then decide (nb < na)
  else decide (a < b)

/-- R135: the park victim for a row deferred for want of beads on a stack. -/
def parkVictim (s : State) (r stack : Nat) : Option Nat :=
  let ok := (rowsInUse s).filter (fun x => (rowState s x == 4 || rowState s x == 5) && !rowBusy s x && !hasDue s x
    && decide (rowGet s x Row.PRIORITY < rowGet s r Row.PRIORITY))
  ok.foldl (fun (best : Option Nat) x => match best with
    | none => some x
    | some b => if victimBefore s stack x b then some x else best) none

/-- R135: a step of a row was deferred in this build for want of beads on a stack: once no retained registration is left there, one victim
is parked. -/
def planShort (s : State) (r stack area : Nat) : State :=
  if s.rows.shorts.contains (r, stack) = false ∨ 7 < stack ∨ retainedOn s stack ≠ [] then s
  else
    match parkVictim s r stack with
    | none => s
    | some v =>
      let t := offerRow s v 1 area
      if rowState t v = 3 then odInc { t with rows := { t.rows with shorts := t.rows.shorts.map (fun p => if p.1 = r then (r, 8) else p) } } OD.PARKS_FOR_BEADS
      else t

/-- R147: a step of a row has ended with FAULT and the planner does not run it again: the row fails. -/
def planFail (s : State) (r : Nat) : State := if s.rows.faulted.contains r then rowFail s r 8 else s

/-- R13, R252: the VC1 priority, quantum, wicket and spray set of a READY queue pair, which take effect at the next frame boundary. -/
def planVc1 (s : State) (q prio quantum wicketEn wicket spray : Nat) : State :=
  if qpState s q = 2 then
    ctxWrite s q (setFs (qpCtx s q) [(QpCtx.PRIORITY, prio), (QpCtx.QUANTUM, quantum), (QpCtx.WICKET_EN, wicketEn), (QpCtx.WICKET, wicket),
      (QpCtx.SPRAY_SET, spray)])
  else s

/-! Erasure-coded groups (R440, R442). -/

/-- The parity beads of groups: two for each, on coding stack g mod 8; none where a stack cannot supply them. -/
def parityBeads (s : State) (cls k row tenant : Nat) : List Nat → Option (State × List (Nat × Nat))
  | [] => some (s, [])
  | g :: t =>
    let a := beadAlloc s cls (g % 8) 1 (k * g) row tenant
    let b := beadAlloc a cls (g % 8) 1 (k * g) row tenant
    if a.pool.answer ≠ 0 ∨ b.pool.answer ≠ 0 then none
    else (parityBeads b cls k row tenant t).map (fun x => (x.1, (a.pool.answerBeads.headD 0, b.pool.answerBeads.headD 0) :: x.2))

/-- R440: the shards of a group, none placed yet. -/
def groupShards (s : State) (r k : Nat) (members : List Nat) (g : Nat) (pq : Nat × Nat) : List Shard :=
  let d := groupData (rowGet s r Row.BEAD_COUNT) k g
  (List.range (d + 2)).map (fun i =>
    { row := r, group := g, index := i, member := members.getD ((g + i) % members.length) 0,
      bead := if i < d then strandBead s r (k * g + i) else if i = d then pq.1 else pq.2,
      place := 1, key := 0, offset := 0, refused := [] })

/-- R440: a parked row's strand coded into groups over the member list; with fewer than three members it is held uncoded and counted.
Where the parity beads cannot be had it waits. -/
def planCode (s : State) (r : Nat) : State :=
  if roleOpens (role s) 8 = false ∨ rowState s r ≠ 6 ∨ s.ft.suspect = true ∨ (kfind s.sh.coded r).isSome
      ∨ rowGet s r Row.STRAND_ROOT = 0 ∨ rowBusy s r then s
  else
    let m := memberList s
    let cls := getF (strandHdr s r) StrandHdr.CLASS
    if m.length < 3 then
      shardCount { s with sh := { s.sh with coded := kput s.sh.coded r ⟨0, cls, none, m⟩ } } 5 1
    else
      let k := groupWidth s m
      let groups := cdiv (rowGet s r Row.BEAD_COUNT) k
      match parityBeads s cls k r (rowGet s r Row.TENANT) (List.range groups) with
      | none => s
      | some x =>
        let l := (x.2.zipIdx).flatMap (fun p => groupShards s r k m p.2 p.1)
        let t := { x.1 with sh := { x.1.sh with coded := kput s.sh.coded r ⟨k, cls, none, m⟩, shards := x.1.sh.shards ++ l } }
        shardCount ((l.filter (fun y => y.member == ownDevice t)).foldl shardStays t) 0 groups

/-- R440: every shard of a row is held: its group table is formed at `area`, the beads held elsewhere are given up, the segments freed;
STRAND_ROOT names the table. -/
def planWhole (s : State) (r area : Nat) : State :=
  match kfind s.sh.coded r with
  | none => s
  | some c =>
    let mine := s.sh.shards.filter (fun x => x.row == r)
    let n := rowGet s r Row.BEAD_COUNT
    if c.table.isSome ∨ c.k = 0 ∨ rowState s r ≠ 6 ∨ mine.any (fun x => x.place != 5) ∨ area % 64 ≠ 0
        ∨ areaFree s area (tableBytes n c.k) = false then s
    else
      let s := mine.foldl (fun t x => ctlPut t (area + 16 * shardEntry n c.k x.group x.index) 16
        (mkRec [(PassEntry.DEVICE, x.member), (PassEntry.KEY, x.key), (PassEntry.OFFSET, x.offset)])) s
      let s := (mine.filter (fun x => x.member != ownDevice s && x.bead != noBead)).foldl (fun t x =>
        shardPut (beadUnref t x.bead) { x with bead := noBead }) s
      let s := strandFree s r
      let s := rowSet s r [(Row.STRAND_ROOT, area / 64), (Row.BEAD_COUNT, n)]
      { s with sh := { s.sh with coded := kput s.sh.coded r { c with table := some area } } }

/-- R442: a lost shard computed again on the coding stack into a fresh bead, to be placed. -/
def planRebuild (s : State) (row group index : Nat) : State :=
  match shardOf s row group index, kfind s.sh.coded row with
  | some x, some c =>
    if x.place ≠ 7 then s
    else
      let t := beadAlloc s c.cls (group % 8) 1 (c.k * group) row (rowGet s row Row.TENANT)
      if t.pool.answer ≠ 0 then s
      else shardCount (shardPut t { x with bead := t.pool.answerBeads.headD 0, place := 1 }) 3 1
  | _, _ => s

/-- R442: a read of a shard held by a member has failed. -/
def planLose (s : State) (row group index : Nat) : State :=
  match shardOf s row group index with
  | some x => if x.place = 5 then shardLose s x else s
  | none => s

/-- One decision of the planner. -/
def planAct (s : State) : PlanAct → State
  | .put a data => planPut s a data
  | .share r out place => planShare s r out place
  | .plan r prov first place => planStep s r prov first place
  | .cow r ord => planCow s r ord
  | .grow r place => planGrow s r place
  | .grown r => planGrown s r
  | .back r => planBack s r
  | .register r ord => planRegister s r ord
  | .evict e => planEvict s e
  | .offer r purpose area => planOffer s r purpose area
  | .short r stack area => planShort s r stack area
  | .code r => planCode s r
  | .place r g i => placeShard s r g i
  | .whole r area => planWhole s r area
  | .rebuild r g i => planRebuild s r g i
  | .lose r g i => planLose s r g i
  | .fail r => planFail s r
  | .vc1 q prio quantum en wicket spray => planVc1 s q prio quantum en wicket spray

/-- The decisions of a build, in the order taken. -/
def planActs (s : State) (l : List PlanAct) : State := l.foldl planAct s

/-! Containment (R218, R219). -/

/-- R219, source 2: does the device hold the prompt tokens of the positions of ordinal `ord` of a row that it may prefill? -/
def prefillSource (s : State) (r ord : Nat) : Bool :=
  let held := (kget s.rows.prompt r []).length
  let len := rowGet s r Row.PROMPT_LEN
  fnOpen s 2 && (rowState s r == 1 || rowState s r == 2) && decide (16 * ord + 16 ≤ len) && decide (len ≤ 16 * ord + held)

/-- A bead replaced by a fresh one of its stack, to be filled by the prefill of its 16 positions; one that cannot be had waits for a
later build. -/
def rebuildTry (s : State) (p : Nat × Nat) : State :=
  let old := strandBead s p.1 p.2
  if rowState s p.1 = 0 ∨ rowGet s p.1 Row.STRAND_ROOT = 0 ∨ rowGet s p.1 Row.BEAD_COUNT ≤ p.2 then s
  else
    let t := beadAlloc s (getF (strandHdr s p.1) StrandHdr.CLASS) (p.2 % 8) 1 p.2 p.1 (rowGet s p.1 Row.TENANT)
    if t.pool.answer ≠ 0 then { s with rows := { s.rows with rebuilds := s.rows.rebuilds ++ [p] } }
    else beadUnref (strandPut t p.1 p.2 (t.pool.answerBeads.headD 0)) old

/-- R218: a row whose strand, in segment form, holds a bead that is contained: it falls back to its committed length, and its bead is
rebuilt or the row fails with MEM_ERROR. -/
def containRow (s : State) (b r : Nat) : State :=
  match (List.range (rowGet s r Row.BEAD_COUNT)).find? (fun o => strandBead s r o == b) with
  | none => s
  | some o =>
    let s := plannerLens s r [(Row.PROV_LEN, rowGet s r Row.COMMITTED_LEN)]
    if prefillSource s r o then rebuildTry s (r, o) else rowFail s r 5

/-- R218, R219, source 1: a shard's bead on its owner: of a strand in group form it is lost, and its bead given up; before that its
row fails. -/
def containShard (s : State) (x : Shard) : State :=
  let tabled : Bool := match kfind s.sh.coded x.row with | some c => c.table.isSome | none => false
  if tabled = true ∧ x.place = 5 then
    let s := if x.member = ownDevice s then mrDeregister s (x.key % 2 ^ 24) else s
    groupCheck (shardPut (beadUnref s x.bead) { x with place := 7, bead := noBead }) x.row x.group
  else rowFail s x.row 5

/-- R218: a HELD or SHARD bead. -/
def containBead (s : State) (b : Nat) : State :=
  if descF s b BeadDesc.STATE ≠ 1 ∧ descF s b BeadDesc.STATE ≠ 4 then s
  else
    let rows := (rowsInUse s).filter (fun r => (kfind s.sh.coded r).isNone && rowGet s r Row.STRAND_ROOT != 0
      && (strandBeads s r).contains b)
    (s.sh.shards.filter (fun x => x.bead == b)).foldl containShard (rows.foldl (fun t r => containRow t b r) s)

/-- R159, R218: a model slot whose weights are lost: every row pinning it fails with MODEL_LOST, the slot is EMPTY. -/
def modelLost (s : State) (m : Nat) : State :=
  let rows := (rowsInUse s).filter (fun r => rowPins s && rowGet s r Row.MODEL_SLOT == m)
  recSet (rows.foldl (fun t r => rowFail t r 7) s) OD.MODEL_SLOTS m [(ModelSlot.STATE, 0)]

/-- R218: the rows pinning the adapter version, or the grammar, that lies at a device offset. -/
def pinnersAt (s : State) (kind a : Nat) : List Nat :=
  (rowsInUse s).filter (fun r =>
    if kind = 3 then
      rowGet s r Row.ADAPTER_EN == 1 && (match versionOf s (rowGet s r Row.ADAPTER_SLOT) (rowGet s r Row.ADAPTER_VER) with
        | some i => meets (recF s OD.ADAPTER_VERSIONS i AdVer.BASE) (recF s OD.ADAPTER_VERSIONS i AdVer.BYTES) a 64
        | none => false)
    else
      match rowGrammar s r with
      | some g =>
        let base := recF s OD.GRAMMARS g Grammar.BASE
        decide (base ≤ a) && !(List.range 4096).any (fun h => recF s OD.GRAMMARS h Grammar.STATE != 0
          && decide (base < recF s OD.GRAMMARS h Grammar.BASE) && decide (recF s OD.GRAMMARS h Grammar.BASE ≤ a))
      | none => false)

/-- R218: the instruction buffers emptied (R76). -/
def buffersEmpty (s : State) : State := { s with cores := s.cores.map (fun p => (p.1, { p.2 with buffer := [] })) }

/-- R218: rows that are to resume from their committed lengths. -/
def fallBack (s : State) (rows : List Nat) : State :=
  rows.foldl (fun t r => plannerLens t r [(Row.PROV_LEN, rowGet t r Row.COMMITTED_LEN)]) s

/-- R218: the 64 KiB block that holds a device offset waits to be reloaded from its replica by a DMA step; until then no step of its owner
is planned, and the rows that use it resume from their committed lengths. -/
def reloadAsk (s : State) (kind owner a : Nat) (rows : List Nat) : State :=
  let x := (kind, owner, a / 65536 * 65536)
  let s := fallBack s rows
  if s.rows.reloads.contains x then s else { s with rows := { s.rows with reloads := s.rows.reloads ++ [x] } }

/-- The adapter version whose storage holds a device offset. -/
def versionAt (s : State) (a : Nat) : Nat :=
  ((List.range 4096).find? (fun i => recF s OD.ADAPTER_VERSIONS i AdVer.STATE != 0
    && meets (recF s OD.ADAPTER_VERSIONS i AdVer.BASE) (recF s OD.ADAPTER_VERSIONS i AdVer.BYTES) a 64)).getD 4096

/-- The grammar that holds a device offset: the one of the highest BASE at or below it. -/
def grammarAt (s : State) (a : Nat) : Nat :=
  (((List.range 4096).filter (fun g => recF s OD.GRAMMARS g Grammar.STATE != 0 && decide (recF s OD.GRAMMARS g Grammar.BASE ≤ a))).foldl
    (fun (best : Option Nat) g => match best with
      | none => some g
      | some b => if recF s OD.GRAMMARS b Grammar.BASE < recF s OD.GRAMMARS g Grammar.BASE then some g else best) none).getD 4096

/-- R218: a block is whole again: no line of it reads uncorrectable. -/
def blockWhole (s : State) (a : Nat) : Bool :=
  s.mc.lineErr.all (fun p => decide (p.2 ≤ 4) || decide (64 * p.1 < a) || decide (a + 65536 ≤ 64 * p.1))

/-- R218: what a containment record makes the planner do. -/
def containAct (s : State) (rec_ : Nat) : State :=
  let id := getF rec_ ContRec.OWNER_ID
  let replica := decide (recF s OD.OWNER_RANGES id OwnerRange.REPLICA_VALID = 1)
  let a := stackOff (getF rec_ ContRec.STACK) (getF rec_ ContRec.LOCAL_ADDR)
  let slot := getF rec_ ContRec.MODEL_SLOT
  match getF rec_ ContRec.OWNER_KIND with
  | 1 => containBead s id
  | 2 => if replica then reloadAsk s 2 slot a ((rowsInUse s).filter (fun r => rowGet s r Row.MODEL_SLOT == slot)) else modelLost s slot
  | 3 => if replica then reloadAsk s 3 (versionAt s a) a (pinnersAt s 3 a) else (pinnersAt s 3 a).foldl (fun t r => rowFail t r 5) s
  | 4 => if replica then reloadAsk s 4 (grammarAt s a) a (pinnersAt s 4 a) else (pinnersAt s 4 a).foldl (fun t r => rowFail t r 5) s
  | 5 => if replica then buffersEmpty (reloadAsk s 5 0 a []) else fatal s 2 (a / 2 ^ 24)
  | 6 => fatal s 1 (a / 2 ^ 24)
  | _ => s

/-- R218: a build acts on the containment records it sees for the first time, and tries again the rebuilds that wait; blocks that have been
reloaded wait no more. -/
def containBuild (s : State) : State :=
  let n := kget s.rings OD.CONTAINMENT_RING 0
  let depth := match odFind OD.CONTAINMENT_RING with | some r => r.cnt | none => 1
  let first := max s.rows.contSeen (n - depth)
  let waiting := s.rows.rebuilds
  let s := { s with rows := { s.rows with contSeen := n, rebuilds := [], reloads := s.rows.reloads.filter (fun x => !blockWhole s x.2.2) } }
  let s := waiting.foldl rebuildTry s
  ((span first (n - first)).map (fun i => odGet s OD.CONTAINMENT_RING (i % depth))).foldl containAct s

/-! Which steps a table may hold (R13, R15, R16, R134, R139, R147, R155, R161, R175, R218). -/

/-- The descriptor of a step. -/
def stepDesc (s : State) (st : Nat) : Nat := memNat s (homeOf s (getF st StepRec.DESC_ADDR)) 64

/-- The entries of a SELECT step. -/
def selectEntries (s : State) (st : Nat) : List Nat :=
  if getF st StepRec.UNIT_CLASS = 6 ∧ getF st StepRec.OPCODE = 1 then
    (List.range (getF (stepDesc s st) SelDesc.ENTRIES)).map (fun i =>
      memNat s (homeOf s (getF (stepDesc s st) SelDesc.ENTRY_ADDR + 32 * i)) 32)
  else []

/-- R16, R99, R435: is a step's function closed, about to be, or stopped in suspect mode, by its class, opcode and rows? What a TUNE device
plans on its cores is its training jobs. -/
def stepShut (s : State) (st : Nat) : Bool :=
  let op := getF st StepRec.OPCODE
  let shut := fun fn => !fnWorks s fn
  let rowShut := fun r => (rowNext s r == 2 && shut 2) || (rowNext s r == 5 && shut 3)
  let prob := getF (memNat s (homeOf s (getF st StepRec.DESC_ADDR)) 128) AttendDesc.PROB_EN == 1
  match getF st StepRec.UNIT_CLASS with
  | 1 => (getF st StepRec.ROW_VALID == 1 && rowShut (getF st StepRec.ROW)) || (role s == 5 && shut 10)
  | 2 => if op = 1 then (if prob then shut 9 else shut 3) else if op = 3 then shut 7 else if op = 4 then shut 8
      else shut 2 && shut 3 && shut 10
  | 6 => shut 4
  | 7 => op == 5 && shut 1
  | 8 => shut 6
  | _ => false

/-- R139: is the COPY of a copy-on-write among steps: from the shared bead to the fresh one, of the positions committed in it? -/
def copyPlanned (s : State) (steps : List Nat) (x : Nat × Nat × Nat) : Bool :=
  steps.any (fun st =>
    let d := stepDesc s st
    getF st StepRec.UNIT_CLASS == 2 && getF st StepRec.OPCODE == 3 && getF d CopyDesc.SRC_BEAD == x.2.1 && getF d CopyDesc.DST_BEAD == x.2.2
    && getF d CopyDesc.POSITIONS == rowGet s x.1 Row.COMMITTED_LEN % 16)

/-- R147, R151, R161, R218: may a step of a row be in the table: the row is being prefilled or decoded, nothing ends it, and what its model
needs is there? A FREE row is no request's. -/
def rowPlans (s : State) (r : Nat) : Bool :=
  rowState s r == 0 || (((rowNext s r == 2 && fnWorks s 2) || (rowNext s r == 5 && fnWorks s 3)) && !rowEnding s r && modelReady s r)

/-- R15: does a SELECT step in flight, or still to issue in this frame, name a row? -/
def selectWaits (s : State) (r : Nat) : Bool :=
  s.frm.flights.any (fun p => getF p.2.step StepRec.UNIT_CLASS == 6 && (stepRows s p.2.step).contains r)
  || s.frm.curSteps.any (fun p => getF p.2 StepRec.UNIT_CLASS == 6 && kget s.frm.slotState p.1 0 == 0 && slotRuns s p.1
    && (stepRows s p.2).contains r)

/-- R15, R154, R155, R175: may a SELECT entry be in the table: no decode step of its row is unfinished, the row's output has not ended, what
it may emit is reserved, and a continuation that waits is fed in order, whole before an ordinary step? -/
def entryPlans (s : State) (e : Nat) : Bool :=
  let r := getF e SelEntry.ROW
  let cont := getF e SelEntry.CONT
  let left := contLeft s r
  let units := if cont ≠ 0 ∧ getF e SelEntry.CONT_LAST = 0 then 0 else 1 + getF e SelEntry.DRAFTS
  rowPlans s r && !selectWaits s r && !rowFlag s r 6 && decide (units + prefillPart s r ≤ rowGet s r Row.RESERVED)
  && (getF e SelEntry.FIRST == 1 || (left == 0 && cont == 0)
      || (decide (0 < cont ∧ cont ≤ left) && (getF e SelEntry.CONT_LAST == 1) == (cont == left)))

/-- R76, R218: does a core step name a program image in a block that is being reloaded? -/
def programReloads (s : State) (st : Nat) : Bool :=
  getF st StepRec.UNIT_CLASS == 1 && getF st StepRec.OPCODE == 1
  && s.rows.reloads.any (fun x =>
    let a := getF (memNat s (homeOf s (getF st StepRec.DESC_ADDR)) 128) RunDesc.PROG_ADDR
    x.1 == 5 && meets a (64 + 16 * getF (memNat s a 64) ProgHdr.OP_WORDS) x.2.2 65536)

/-- May a step be in the table whose planned steps are `steps`, `seen` the rows that earlier SELECT steps of it name? -/
def stepPlans (s : State) (steps : List Nat) (seen : List Nat) (st : Nat) : Bool :=
  let cls := getF st StepRec.UNIT_CLASS
  !stepShut s st && !programReloads s st
  && (if cls = 1 ∨ cls = 2 ∨ cls = 6 then
        (stepRows s st).all (fun r => rowPlans s r && s.rows.cows.all (fun x => x.1 != r || copyPlanned s steps x))
      else true)
  && (selectEntries s st).all (fun e => entryPlans s e && !seen.contains (getF e SelEntry.ROW))

/-- The steps of a planned section that the rules permit, in order. -/
def planFilter (s : State) (steps : List Nat) : List Nat → List Nat → List Nat
  | _, [] => []
  | seen, st :: t =>
    if stepPlans s steps seen st then
      st :: planFilter s steps (seen ++ (selectEntries s st).map (fun e => getF e SelEntry.ROW)) t
    else planFilter s steps seen t

/-- What the build of a table leaves behind once the table is sealed: its changes are fixed, the copies it plans are done with, and the
next build starts. -/
def buildEnd (s : State) (steps : List Nat) : State :=
  let s := duesSeal s
  { s with rows := { s.rows with cows := s.rows.cows.filter (fun x => !copyPlanned s steps x), shorts := [], served := [] } }

end Sys2Proof.Machine
end

