-- ==== Sys2Proof/Machine/Entries.lean ====
section
/-! DEFINITION. Chapter 18, the entries: what each shows, which values a write may carry, each entry's own rule, and what a write of it
does when it takes effect.
Choices of the model here, by the assumption log: log 11, 51, 53 (DEDUCED). -/

namespace Sys2Proof.Machine

/-! Kinds of entries (R364 to R367, R477, R380). -/

/-- R477: the entries that take one value in several requests. -/
def isStaged (e : Nat) : Bool :=
  [OD.BASE_IMAGE, OD.OVERLAY_LOAD, OD.MR_REGISTER, OD.PARTITION_CREATE, OD.KEY_INSTALL, OD.DEBUG_UNLOCK, OD.FENCE_COMMAND,
   OD.ATTEST_REQUEST].contains e

/-- R367: the layout entries. -/
def isLayout (e : Nat) : Bool :=
  [OD.PROG_REGION_BASE, OD.PROG_REGION_SIZE, OD.BEAD_CLASSES, OD.DESC_BASE, OD.STRAND_HEADER_AREA, OD.SEGMENT_AREA, OD.ADAPTER_POOL,
   OD.PASS_QPS, OD.PASS_LIST_AREA, OD.QP_CONTEXT_BASE, OD.MR_TABLE_BASE, OD.MR_TABLE_ENTRIES, OD.CQ_TABLE, OD.TIER_FRAMES, OD.REMAP_LIST,
   OD.COH_BACKING, OD.BANK_CONFIG, OD.SHADOW_BASE, OD.PREFIX_KEY, OD.LINK_PROFILE, OD.DEVICE_NUMBER].contains e

/-- R380: may an overlay name an entry of this class? -/
def inOverlays (r : OdRow) : Bool :=
  decide (0x400000 ≤ r.ent ∧ r.ent < 0xB00000) && (r.acc == 1 || r.acc == 3)
  && !([OD.ALLOWANCE_UJ, OD.PEAK_UJ, OD.MAP_NEXT, OD.TRAY_MEMBERS, OD.COH_MEMBERS, OD.MODEL_SLOTS, OD.GRAMMARS].contains r.ent)

/-- The element size of an entry as INFO reports it (R371, R477). -/
def entElem (r : OdRow) : Nat := if isStaged r.ent then 0 else if r.ent = OD.PROG_IMAGE then 16 else r.esz

/-- The size of an entry in bytes; PROG_IMAGE takes offsets into the program region. -/
def entSize (s : State) (r : OdRow) : Nat := if r.ent = OD.PROG_IMAGE then od s OD.PROG_REGION_SIZE else r.esz * r.cnt

/-- R370, R477: does a request of an entry that is not staged name an offset and length it may? -/
def lenOk (s : State) (r : OdRow) (off len : Nat) : Bool :=
  if r.ty < 8 then off == 0 && len == r.esz
  else off % entElem r == 0 && len % entElem r == 0 && decide (off + len ≤ entSize s r)

/-- The elements a write names with their values. -/
def writeElems (r : OdRow) (off : Nat) (data : List Byte) : List (Nat × Nat) :=
  (List.range (data.length / r.esz)).map (fun i => (off / r.esz + i, leNat ((data.drop (r.esz * i)).take r.esz)))

/-! Reserved bits (R8): a write of them is ignored and they read 0. -/

/-- The rsvd fields of an element of an entry. -/
def rsvdOf (e i : Nat) : List Fld :=
  if e = OD.CYCLIC_STEPS then [fld 151 128, fld 47 42]
  else if e = OD.BEAD_CLASSES then [fld 143 0]
  else if e = OD.TENANTS then [fld 25 0]
  else if e = OD.MODEL_SLOTS then [fld 324 0]
  else if e = OD.GRAMMARS then [fld 48 0]
  else if e = OD.OWNER_RANGES then [fld 114 0]
  else if e = OD.REMAP_LIST then [fld 19 0]
  else if e = OD.QP_CONTEXTS then [fld 623 0]
  else if e = OD.WICKETS then [fld 140 0]
  else if e = OD.EXPORTS then [fld 153 0]
  else if e = OD.APERTURES then [fld 118 0]
  else if e = OD.CODEC_PROFILES then [fld 7 0]
  else if e = OD.BANK_CONFIG then [fld 47 0]
  else if e = OD.MAP_NEXT then (if i < 7 then [fld 63 0] else if i = 7 then [fld 33 0] else [fld 31 0])
  else if e = OD.DEVICE_NUMBER then [fld 15 13]
  else if e = OD.TRAY_PROFILE ∨ e = OD.STREAM_PROFILE then [fld 7 4]
  else if e = OD.CHANNEL_CONFIG ∨ e = OD.REACH_RIGHTS then [fld 7 3]
  else if e = OD.MANAGER_KEYS then [fld 63 8]
  else if e = OD.ENDPOINTS then [fld 63 61, fld 31 16]
  else if e = OD.ADAPTER_COMMIT then [fld 31 26]
  else if e = OD.BAR2_WINDOW then [fld 63 42, fld 31 0]
  else []

/-- An element's value with its rsvd bits 0. -/
def elemClean (e i v : Nat) : Nat := setFs v ((rsvdOf e i).map (fun f => (f, 0)))

/-! Documented ranges (R370: BAD_VALUE), those that depend on the request and its entry alone. -/

/-- Is an element's value within the range its entry documents? -/
def elemOk (e v : Nat) : Bool :=
  if e = OD.FRAME_PERIOD_CLK then decide (20000 ≤ v ∧ v ≤ 500000)
  else if e = OD.TICK_SOURCE then decide (v ≤ 2)
  else if e = OD.TICK_LINK then decide (v ≤ 63)
  else if e = OD.FRAME_MASTER ∨ e = OD.PREFIX_RETAIN ∨ e = OD.BIST_ENABLE ∨ e = OD.REGION_AUTO_FENCE ∨ e = OD.LINK_PROFILE
      ∨ e = OD.DERATE then decide (v ≤ 1)
  else if e = OD.TIER_FRAMES then decide (v ≤ 2048)
  else if e = OD.MR_TABLE_ENTRIES then decide (v ≤ 2 ^ 24)
  else if e = OD.QUORUM then decide (1 ≤ v ∧ v ≤ 8)
  else if e = OD.GROUP_K then decide (2 ≤ v ∧ v ≤ 14)
  else if e = OD.DEVICE_NUMBER then decide (v ≤ 8191)
  else if e = OD.POWER_STATE_REQ then decide (1 ≤ v ∧ v ≤ 3)
  else if e = OD.BOOT_COMMIT then decide (v ≤ 2)
  else if e = OD.ROW_CONTROL then v / 2 ^ 30 == 1 || v / 2 ^ 30 == 2
  else if e = OD.ADAPTER_LOAD then decide (1 ≤ getF v (fld 35 27) ∧ getF v (fld 35 27) ≤ 256)
  else if e = OD.PROG_REGION_BASE then v % 256 == 0
  else if e = OD.SHADOW_BASE then v % 64 == 0
  else if e = OD.COH_BACKING then v % 2 ^ 28 == 0
  else if e = OD.QP_CONTEXTS then ctxOk v
  else if e = OD.REMAP_LIST then decide (getF v RemapEnt.ROW ≤ 131071) && decide (getF v RemapEnt.SPARE ≤ 16383)
  else true

/-- The classes' units of R31. -/
def unitOk (cls idx : Nat) : Bool :=
  decide (idx < (if cls = 1 then 200 else if cls = 2 then 8 else if cls = 3 then 256 else if cls = 4 then 256 else if cls = 5 then 16
    else if cls = 6 then 4 else if cls = 7 then 32 else if cls = 8 then 1 else if cls = 9 then 8 else if cls = 10 then 1
    else if cls = 11 then 4 else if cls = 12 then 1 else 0))

/-- R35: a step's own checks: unit, descriptor address, start clock below the period. -/
def stepOk (period st : Nat) : Bool :=
  unitOk (getF st StepRec.UNIT_CLASS) (getF st StepRec.UNIT_INDEX) && getF st StepRec.DESC_ADDR % 64 == 0
  && decide (getF st StepRec.START_CLK < period)

/-- Do start clocks never fall? -/
def startsRise : List Nat → Bool
  | a :: b :: t => decide (getF a StepRec.START_CLK ≤ getF b StepRec.START_CLK) && startsRise (b :: t)
  | _ => true

/-- The cyclic section in force. -/
def cyclicSection (s : State) : List Nat := (List.range (od s OD.CYCLIC_COUNT)).map (odGet s OD.CYCLIC_STEPS)

/-! The values as accepted writes will leave them (R368, R344). -/

/-- A CYCLIC_STEPS write over a section (R30): the records it names replaced, the section ended after them. -/
def cyclicPut (s : State) (off : Nat) (recs : List Nat) : State :=
  let sec := ((cyclicSection s).take off) ++ recs
  odSet (odPuts (odClear s OD.CYCLIC_STEPS) OD.CYCLIC_STEPS 0 sec) OD.CYCLIC_COUNT sec.length

/-- A write's values stored, and nothing else done. -/
def putPlain (s : State) (r : OdRow) (off : Nat) (data : List Byte) : State :=
  let l := (writeElems r off data).map (fun p => (p.1, elemClean r.ent p.1 p.2))
  if r.ent = OD.CYCLIC_STEPS then cyclicPut s (off / 32) (l.map Prod.snd)
  else if r.ent = OD.PROG_IMAGE ∨ r.ent = OD.QP_CONTEXTS then s
  else l.foldl (fun t p => odPut t r.ent p.1 p.2) s

/-- One write's values stored. -/
def putWr (s : State) (w : DictWr) : State :=
  match odFind w.entry with
  | some r => putPlain s r w.off w.data
  | none => s

/-- The values as they will stand once every write accepted so far has taken effect. -/
def future (s : State) : State := (s.dct.rwfSealed ++ s.dct.rwf).foldl putWr s

/-- One record of an image (R377): entry, type code, offset, data. -/
structure ImgEntry where
  ent : Nat
  ty : Nat
  off : Nat
  data : List Byte
  deriving DecidableEq, Repr

/-- `n` records parsed from bytes: the records and the bytes that follow; none where they end early. -/
def imgParse : Nat → List Byte → Option (List ImgEntry × List Byte)
  | 0, bs => some ([], bs)
  | n + 1, bs =>
    let h := leNat (bs.take 16)
    let len := getF h ImgRec.LENGTH
    let whole := 16 + (len + 7) / 8 * 8
    if bs.length < whole then none
    else
      match imgParse n (bs.drop whole) with
      | none => none
      | some (l, rest) =>
        some (⟨getF h ImgRec.INDEX * 256 + getF h ImgRec.SUBINDEX, getF h ImgRec.TYPE, getF h ImgRec.OFFSET, (bs.drop 16).take len⟩ :: l, rest)

/-- The records of an image. -/
def imgRecords (img : List Byte) : Option (List ImgEntry × List Byte) :=
  imgParse (getF (leNat (img.take 64)) ImgHdr.RECORDS) (img.drop 64)

/-- The records of a stored overlay (R380). -/
def overlayRecords (s : State) (slot : Nat) : List ImgEntry :=
  match imgRecords (kget s.dct.images slot []) with
  | some x => x.1
  | none => []

/-- An image record as a write. -/
def recWr (x : ImgEntry) : DictWr := ⟨.bus 0, x.ent, x.off, x.data, 0⟩

/-- R384: the values as a pending overlay would leave them. -/
def afterOverlay (s : State) : State :=
  if od s OD.SWITCH_STATE = 0 then s else (overlayRecords s s.dct.switchSlot).foldl (fun t x => putWr t (recWr x)) s

/-! Each entry's own rule. -/

/-- R119: are the bead classes well laid out? Only the tests for overlap look at VALID. -/
def classesOk (s : State) : Bool :=
  let ok := fun (c : Nat) =>
    let f := classF s c
    let stride := f BeadClass.STRIDE_4K * 4096
    getF (odGet s OD.BEAD_CLASSES c) BeadClass.DHEAD != 3 && decide (classBeadBytes s c ≤ stride)
    && decide (f BeadClass.FIRST_SLOT + f BeadClass.SLOTS ≤ 2 ^ 21) && decide (f BeadClass.BASE + f BeadClass.SLOTS * stride ≤ 2 ^ 37)
  let valid := (List.range 8).filter (fun c => classF s c BeadClass.VALID == 1)
  let bytes := fun c => classF s c BeadClass.SLOTS * (classF s c BeadClass.STRIDE_4K * 4096)
  (List.range 8).all ok && valid.all (fun c => valid.all (fun d => decide (d ≤ c)
    || (!meets (classF s c BeadClass.FIRST_SLOT) (classF s c BeadClass.SLOTS) (classF s d BeadClass.FIRST_SLOT) (classF s d BeadClass.SLOTS)
        && !meets (classF s c BeadClass.BASE) (bytes c) (classF s d BeadClass.BASE) (bytes d))))

/-- R329, R330: are the Locket banks well grouped? -/
def banksOk (s : State) : Bool :=
  let rec_ := odGet s OD.BANK_CONFIG
  let widthOk := fun (r : Nat) =>
    let k := getF r BankCfg.KIND
    let w := getF r BankCfg.WIDTH
    if k = 1 ∨ k = 2 then w == 1 else if k = 3 ∨ k = 4 ∨ k = 5 then w == 0 else w != 3
  (List.range 32).all (fun b =>
    let r := rec_ b
    let k := getF r BankCfg.KIND
    decide (k ≤ 6) && widthOk r
    && (k == 0 || (List.range 32).all (fun c =>
      let inside := decide (getF r BankCfg.FIRST ≤ c ∧ c < getF r BankCfg.FIRST + getF r BankCfg.COUNT)
      (getF (rec_ c) BankCfg.KIND == k) == inside && (!inside || rec_ c == r))
      && decide (getF r BankCfg.FIRST + getF r BankCfg.COUNT ≤ 32)))

/-- Do two of the first `n` elements of an entry overlap, by their BASE, SIZE and a test of use? -/
def rangesOverlap (s : State) (e n : Nat) (used : Nat → Bool) : Bool :=
  let l := (List.range n).filter (fun i => used (odGet s e i))
  l.any (fun i => l.any (fun j => decide (i < j)
    && meets (recF s e i OwnerRange.BASE) (recF s e i OwnerRange.SIZE) (recF s e j OwnerRange.BASE) (recF s e j OwnerRange.SIZE)))

/-- The remap entries of a list, by element. -/
def remapListed (s : State) : List (Nat × Nat) :=
  (s.od.filter (fun p => decide (odKey OD.REMAP_LIST 0 ≤ p.1) && decide (p.1 < odKey OD.REMAP_LIST 524288))).filterMap (fun p =>
    if getF p.2 RemapEnt.VALID = 1 then some (p.1 - odKey OD.REMAP_LIST 0, p.2) else none)

/-- R215: does a list name a spare of a bank twice? -/
def remapTwice (s : State) : Bool :=
  let keys := (remapListed s).map (fun p => (getF p.2 RemapEnt.STACK, getF p.2 RemapEnt.CHANNEL_PAIR, getF p.2 RemapEnt.BANK, getF p.2 RemapEnt.SPARE))
  keys != keys.eraseDups

/-- R344: MIN for the values a state holds. -/
def minOf (s : State) : Nat :=
  minAllowance (od s OD.FRAME_PERIOD_CLK) (((cyclicSection s).map (fun r => getF r StepRec.PRICE)).sum)

/-- R344: would a write that leaves state `g` of values `f` raise MIN above ALLOWANCE_UJ? -/
def raisesMin (f g : State) : Bool := decide (minOf f < minOf g) && decide (od g OD.ALLOWANCE_UJ < minOf g)

/-- An entry's own rule (R370): status and reason of a write of checked range, 0 where it passes. -/
def ownCheck (s : State) (r : OdRow) (off : Nat) (data : List Byte) : Nat × Nat :=
  let f := future s
  let g := putPlain f r off data
  let e := r.ent
  let refuse := fun (bad : Bool) (reason : Nat) => if bad then (5, reason) else (0, 0)
  if e = OD.BEAD_CLASSES then refuse (!classesOk g) 1
  else if e = OD.BANK_CONFIG then refuse (!banksOk g) 1
  else if e = OD.OWNER_RANGES then refuse (rangesOverlap g e 64 (fun v => getF v OwnerRange.SIZE != 0)) 2
  else if e = OD.EXPORTS then refuse (rangesOverlap g e 64 (fun v => getF v ExportRec.VALID == 1)) 2
  else if e = OD.MODEL_SLOTS then refuse ((writeElems r off data).any (fun p => modelInUse s p.1 p.2)) 3
  else if e = OD.GRAMMARS then refuse ((writeElems r off data).any (fun p => recF s e p.1 Grammar.PINS != 0)) 3
  else if e = OD.MAP_NEXT then
    refuse (mapHeld s OD.MAP_CURRENT && !epochLater16 (mapEpoch g OD.MAP_NEXT) (mapEpoch s OD.MAP_CURRENT)) 5
  else if e = OD.TRAY_TIMEOUT_CLK then refuse (decide (leNat data < 10000)) 6
  else if e = OD.ALLOWANCE_UJ then
    if leNat data < minOf f ∨ leNat data < minOf (afterOverlay f) then (5, 6) else refuse (decide (od f OD.PEAK_UJ < leNat data)) 7
  else if e = OD.PEAK_UJ then refuse (decide (leNat data < od f OD.ALLOWANCE_UJ)) 7
  else if e = OD.FRAME_PERIOD_CLK then
    if (cyclicSection f).any (fun x => decide (leNat data ≤ getF x StepRec.START_CLK)) then (5, 0x14) else refuse (raisesMin f g) 8
  else if e = OD.CYCLIC_STEPS then
    if od f OD.CYCLIC_COUNT * 32 < off then (3, 0)
    else if (writeElems r off data).all (fun p => stepOk (od f OD.FRAME_PERIOD_CLK) p.2) && startsRise (cyclicSection g) then
      refuse (raisesMin f g) 8
    else (4, 0)
  else if e = OD.REMAP_LIST then (if remapTwice g then (4, 0) else (0, 0))
  else (0, 0)

/-! What a write does when it takes effect. -/

/-- LINK_ENABLE written (R231): bits set and cleared act on their links; in IDLE, where the links are off, the value is the one restored
as the device leaves it (R359). -/
def linkEnables (s : State) (v : Nat) : State :=
  if od s OD.POWER_STATE = 2 then { odSet s OD.LINK_ENABLE v with en := { s.en with savedEnable := v } }
  else (List.range 64).foldl (fun t l =>
    if bitOf v l = bitOf (od t OD.LINK_ENABLE) l then t else if bitOf v l then linkEnable t l else linkDisable t l) s

/-- R30, R393: a CYCLIC_STEPS value takes effect: the section is measured. -/
def cyclicEffect (s : State) (off : Nat) (recs : List Nat) : State :=
  let s := minUpdate (cyclicPut s off recs)
  codeExtend s (sha384 ((cyclicSection s).flatMap (leBytes 32)))

/-- R76, R393: program bytes stored, every instruction buffer emptied, the write measured. -/
def programEffect (s : State) (off : Nat) (data : List Byte) : State :=
  let a := od s OD.PROG_REGION_BASE + off
  codeExtend (buffersEmpty (writeMem s true ownReader a data).1) (sha384 (data ++ leBytes 8 a))

/-- A write of an RW, RWF or RWI entry takes effect. -/
def takeEffect (s : State) (r : OdRow) (off : Nat) (data : List Byte) : State :=
  let e := r.ent
  let l := (writeElems r off data).map (fun p => (p.1, elemClean e p.1 p.2))
  let v := elemClean e 0 (leNat data)
  if e = OD.CYCLIC_STEPS then cyclicEffect s (off / 32) (l.map Prod.snd)
  else if e = OD.PROG_IMAGE then programEffect s off data
  else if e = OD.QP_CONTEXTS then l.foldl (fun t p => ctxWrite t p.1 p.2) s
  else if e = OD.LINK_ENABLE then linkEnables s v
  else if e = OD.FRAME_PERIOD_CLK then minUpdate (odSet s e v)
  else if e = OD.WICKETS then l.foldl (fun t p => wicketReset (odPut t e p.1 p.2) p.1) s
  else if e = OD.MODEL_SLOTS then l.foldl (fun t p => modelApply t p.1 p.2) s
  else if e = OD.GRAMMARS then l.foldl (fun t p => odPut t e p.1 (setF p.2 Grammar.PINS (recF t e p.1 Grammar.PINS))) s
  else if e = OD.ADAPTER_COMMIT then adapterCommit (odSet s e v) v
  else if e = OD.MAP_NEXT then mapShow (putPlain s r off data)
  else if e = OD.TRAY_MEMBERS then trayMembersSet s v
  else if e = OD.CHANNEL_PAUSE then (List.range 512).foldl (fun t c =>
    if bitOf v c = bitOf (od t e) c then t else dmaPauseSet t c (bitOf v c)) s
  else putPlain s r off data

/-- One accepted write takes effect. -/
def effectWr (s : State) (w : DictWr) : State :=
  match odFind w.entry with
  | some r => takeEffect s r w.off w.data
  | none => s

/-- R252, R265: would the write be the undefined case U06? -/
def writesU06 (s : State) (r : OdRow) (off : Nat) (data : List Byte) : Bool :=
  r.ent == OD.QP_CONTEXTS && (writeElems r off data).any (fun p => ctxUndefined s p.1 p.2)

/-! Reads. -/

/-- R319 to R322: BUILT_TABLES, ID · 2 + generation parity: lengths, then generation, state and references (the layout is the model's own). -/
def builtShown (s : State) (i : Nat) : Nat :=
  match s.net.codec.tables.find? (fun t => t.id == i / 2 && t.gen % 2 == i % 2) with
  | some t => packLengths t.lengths + 2 ^ 1024 * (t.gen % 256 + 256 * t.state + 65536 * (t.refs.length % 2 ^ 32))
  | none => 0

/-- R323: TABLE_STORE, oldest first: lengths, then device, ID and generation (the layout is the model's own). -/
def storeShown (s : State) (i : Nat) : Nat :=
  match s.net.codec.store[i]? with
  | some t => packLengths t.lengths + 2 ^ 1024 * (t.dev % 65536 + 65536 * (t.id % 256) + 2 ^ 24 * (t.gen % 256))
  | none => 0

/-- The value of element `i` of an entry as a read shows it (R365): the value in force, or what the device computes it from. -/
def odShown (s : State) (e i : Nat) : Nat :=
  if e = OD.QP_CONTEXTS then qpCtx s i
  else if e = OD.PROG_IMAGE then mapNat s (od s OD.PROG_REGION_BASE + 16 * i) 16
  else if e = OD.CLASS_DEV_BASE then
    if classF s (i / 8) BeadClass.VALID = 1 then stackOff (i % 8) (classF s (i / 8) BeadClass.BASE) else 0
  else if e = OD.CORES_IN_SERVICE then ((List.range 200).filter (fun c => coreMap s c == 0)).length
  else if e = OD.CORE_CORRECTED then (if inRun s then Config.corrections 0 i s.clk % 2 ^ 32 else 0)
  else if e = OD.INNER_CORR then (if inConfig s || inRun s then Config.corrections 1 i s.clk % 2 ^ 64 else 0)
  else if e = OD.REMAP_QUEUE then (kget s.mc.remapQueue (i / 64) []).getD (i % 64) 0
  else if e = OD.FIXED_TABLES then packLengths (fixedTable i)
  else if e = OD.BUILT_TABLES then builtShown s i
  else if e = OD.PEER_ACKED then kget s.net.codec.peerAcked i 0 % 256
  else if e = OD.TABLE_STORE then storeShown s i
  else odGet s e i

/-- R398: is a tenant one whose partition hides its views? -/
def tenantHidden (s : State) (t : Nat) : Bool :=
  (List.range 64).any (fun i => partF s i Part.STATE != 0 && partF s i Part.KIND == 1 && partF s i Part.TENANT == t
    && partF s i Part.HIDE_VIEWS == 1)

/-- R398: the tenant of a Locket unit's entry: of a live row, a bead, an adapter version or a key. -/
def unitTenant (s : State) (u : Nat) : Option Nat :=
  let v := odGet s OD.LOCKET_VIEW u
  let k := getF v LkUnit.KIND
  let x := getF v LkUnit.VALUE
  if getF v LkUnit.VALID = 0 then none
  else if k = 1 then (if getF x DedupeVal.FORM = 1 then some (rowGet s (getF x DedupeVal.ROW) Row.TENANT) else none)
  else if k = 2 then some (descF s (getF x (fld 127 104)) BeadDesc.TENANT)
  else if k = 4 then some (getF v (fld 511 500))
  else if k = 5 then some (keyF s (getF x (fld 127 120)) KeySlot.TENANT)
  else none

/-- R398: is element `i` of a view hidden? -/
def elemHidden (s : State) (e i : Nat) : Bool :=
  if e = OD.SCOREBOARD_VIEW ∨ e = OD.SELECTION_VIEW then rowState s i != 0 && tenantHidden s (rowGet s i Row.TENANT)
  else if e = OD.LOCKET_VIEW then
    match unitTenant s i with
    | some t => tenantHidden s t
    | none => false
  else false

/-- A hidden element: of a row, STATE and TENANT still show. -/
def hiddenShown (s : State) (e i : Nat) : Nat :=
  if e = OD.SCOREBOARD_VIEW then mkRec [(Row.STATE, rowGet s i Row.STATE), (Row.TENANT, rowGet s i Row.TENANT)] else 0

/-- A checked read (R365, R398): its data, or PARTITION where every element named is hidden. -/
def readEntry (s : State) (r : OdRow) (off len : Nat) : Wrote :=
  let el := entElem r
  let l := span (off / el) (len / el)
  let hid := l.filter (elemHidden s r.ent)
  if hid = [] then ⟨s, 0, 0, l.flatMap (fun i => leBytes el (odShown s r.ent i))⟩
  else
    let s := odAdd s OD.PARTITION_DENIALS 1 1
    if hid.length = l.length then wBad s 7
    else ⟨s, 0, 0, l.flatMap (fun i => leBytes el (if elemHidden s r.ent i then hiddenShown s r.ent i else odShown s r.ent i))⟩

/-- R371: INFO: type, access class, layout entry, permitted in overlays; element size; size. -/
def infoBytes (s : State) (r : OdRow) : List Byte :=
  leBytes 16 (mkRec [(fld 127 124, r.ty), (fld 123 121, r.acc), (fld 120 120, b2n (isLayout r.ent)), (fld 119 119, b2n (inOverlays r)),
    (fld 95 64, entElem r), (fld 63 0, entSize s r)])

end Sys2Proof.Machine
end

