-- ==== Sys2Proof/Machine/Dict.lean ====
section
/-! DEFINITION. Chapter 18, the server: the checks of a write in their order, staged values, commands (WO entries), images, overlays, and
writes held during a switch.
Choices of the model here, by the assumption log: log 51, 52 (DEDUCED). -/

namespace Sys2Proof.Machine

/-- What became of a request: the state, status, refusal reason, EFFECTIVE_FRAME, data; the undefined case it is (0 none); whether it is
held unanswered (R384). -/
structure DictRes where
  st : State
  status : Nat
  reason : Nat
  frame : Nat
  data : List Byte
  undef : Nat
  held : Bool

/-- A request answered with a status alone. -/
abbrev dStatus (s : State) (status : Nat) : DictRes := ⟨s, status, 0, 0, [], 0, false⟩
/-- A request refused with a reason. -/
abbrev dRefuse (s : State) (reason : Nat) : DictRes := ⟨s, 5, reason, 0, [], 0, false⟩
/-- A write's outcome as a request's. -/
def dWrote (w : Wrote) : DictRes := ⟨w.st, w.status, w.reason, 0, w.data, 0, false⟩

/-- R384: is a switch under way? -/
abbrev switching (s : State) : Bool := od s OD.SWITCH_STATE != 0

/-- R368: the frame at whose start an RWF write accepted now takes effect: that of the first table sealed after it. -/
def effectFrame (s : State) : Nat := (frameNo s + 1 + getF s.frm.nextHdr TableHdr.SEALED) % 2 ^ 32

/-- R375: does a reach hold the write right of an entry's range? BAR0 always does for 0x2000 and 0x3000, and a mailbox for the boot
entries of R472, which serve before any image can have given rights. -/
def hasRight (s : State) (by_ : Reach) (e : Nat) : Bool :=
  let rights := odGet s OD.REACH_RIGHTS (e / 2 ^ 20)
  match by_ with
  | .mailbox _ => bitOf rights 2 || e / 2 ^ 20 == 2 || e / 2 ^ 20 == 3 || e == OD.BOOT_LOAD || e == OD.BOOT_COMMIT
  | .bus _ => bitOf rights 1
  | .fabric _ => bitOf rights 0

/-- The checks of a write that rest on its entry and the device's state alone (R365, R375, R378, R472): status and reason. -/
def accessCheck (s : State) (by_ : Reach) (r : OdRow) : Nat × Nat :=
  let boot := r.ent == OD.BOOT_LOAD || r.ent == OD.BOOT_COMMIT
  if r.acc = 0 then (2, 0)
  else if boot && (bootAwaits s).isNone then (2, 0)
  else if !boot && !(inConfig s || inRun s) then (2, 0)
  else if !hasRight s by_ r.ent then (6, 0)
  else if r.ent = OD.BASE_IMAGE ∧ inConfig s = false then (5, 0xA)
  else (0, 0)

/-- R370: are the values a write names within their documented ranges? -/
def rangesOk (r : OdRow) (off : Nat) (data : List Byte) : Bool :=
  if isStaged r.ent || r.ent == OD.PROG_IMAGE || r.ent == OD.BOOT_LOAD then true
  else (writeElems r off data).all (fun p => elemOk r.ent (elemClean r.ent p.1 p.2))

/-- R365 to R370: the rest of the checks of a write of an RW, RWF or RWI entry, then the write: in force at once, or for an RWF entry
in RUN at the boundary. An RWI write in RUN outside IDLE is the undefined case U09 (R366). -/
def acceptSetting (s : State) (r : OdRow) (w : DictWr) : DictRes :=
  if r.acc = 4 ∧ inRun s ∧ od s OD.POWER_STATE ≠ 2 then { dStatus s 0 with undef := 9 }
  else if !rangesOk r w.off w.data then dStatus s 4
  else if isLayout r.ent ∧ inRun s then dRefuse s 9
  else
    let c := ownCheck s r w.off w.data
    if c.1 ≠ 0 then ⟨s, c.1, c.2, 0, [], 0, false⟩
    else if writesU06 s r w.off w.data then { dStatus s 0 with undef := 6 }
    else
      let s := if r.ent = OD.ALLOWANCE_UJ then leaseRenew s else s
      if r.acc = 3 ∧ inRun s then
        { dStatus { s with dct := { s.dct with rwf := s.dct.rwf ++ [w] } } 0 with frame := effectFrame s }
      else dStatus (takeEffect s r w.off w.data) 0

/-! Images (R377). -/

/-- R377: the check of a whole image of a kind: 0, or the reason FORMAT (0xE) or DIGEST (0xD). -/
def imageCheck (kind lo hi : Nat) (img : List Byte) : Nat :=
  let h := leNat (img.take 64)
  let n := getF h ImgHdr.RECORDS
  let typeOk := fun (x : ImgEntry) => match odFind x.ent with
    | some r => r.ty == x.ty
    | none => true
  if img.length < 112 ∨ getF h ImgHdr.MAGIC ≠ 0x444F4E44 ∨ getF h ImgHdr.FORMAT ≠ 1 ∨ getF h ImgHdr.KIND ≠ kind ∨ n < lo ∨ hi < n
      ∨ getF h ImgHdr.BYTES ≠ img.length then 0xE
  else match imgRecords img with
    | none => 0xE
    | some (l, rest) =>
      if rest.length ≠ 48 ∨ l.all typeOk = false then 0xE
      else if sha384 (img.take (img.length - 48)) = rest then 0 else 0xD

/-- The digest an image ends with. -/
def imageDigest (img : List Byte) : List Byte := img.drop (img.length - 48)

/-- How far the records of an image went: the state, and the index, status and reason of the first refusal, or the undefined case met. -/
structure ImgRun where
  st : State
  idx : Nat
  status : Nat
  reason : Nat
  undef : Nat

/-- R378: the records of a base image in order, each checked over the values the ones before it have set, and written. -/
def baseRun : List ImgEntry → State → Nat → ImgRun
  | [], s, i => ⟨s, i, 0, 0, 0⟩
  | x :: t, s, i =>
    match odFind x.ent with
    | none => ⟨s, i, 1, 0, 0⟩
    | some r =>
      if r.acc = 0 ∨ r.acc = 2 then ⟨s, i, 2, 0, 0⟩
      else if !lenOk s r x.off x.data.length then ⟨s, i, 3, 0, 0⟩
      else
        let d := acceptSetting s r (recWr x)
        if d.undef ≠ 0 then ⟨s, i, 0, 0, d.undef⟩
        else if d.status ≠ 0 then ⟨s, i, d.status, d.reason, 0⟩
        else baseRun t d.st (i + 1)

/-- BASE_FAULT (R378): record, status, reason. -/
def baseFault (s : State) (idx status reason : Nat) : State :=
  odSet (odSet s OD.BASE_STATE 2) OD.BASE_FAULT (mkRec [(fld 63 32, idx), (fld 23 16, status), (fld 15 0, reason)])

/-- A base image applied whole, or abandoned (R378, R393). -/
def baseImage (s : State) (img : List Byte) : DictRes :=
  let c := imageCheck 1 1 (2 ^ 21 - 1) img
  if c ≠ 0 then dRefuse (baseFault s 0xFFFFFFFF 5 c) c
  else
    let l := match imgRecords img with | some x => x.1 | none => []
    let x := baseRun l s 0
    if x.undef ≠ 0 then { dStatus s 0 with undef := x.undef }
    else if x.status ≠ 0 then ⟨baseFault s x.idx x.status x.reason, x.status, x.reason, 0, [], 0, false⟩
    else
      let t := odSet (odSet x.st OD.BASE_STATE 1) OD.BASE_FAULT 0
      dStatus (codeExtend (odSetBytes t OD.BASE_IMAGE_DIGEST (imageDigest img)) (imageDigest img)) 0

/-! Overlays (R380 to R384). -/

/-- A field of an overlay slot's record. -/
abbrev ovF (s : State) (k : Nat) (f : Fld) : Nat := recF s OD.OVERLAY_SLOTS k f

/-- R380: one record checked alone: status and reason. -/
def overlayRecOk (s : State) (x : ImgEntry) : Nat × Nat :=
  match odFind x.ent with
  | none => (1, 0)
  | some r =>
    if !inOverlays r then (5, 0xC)
    else if !lenOk s r x.off x.data.length then (3, 0)
    else if !rangesOk r x.off x.data then (4, 0)
    else (0, 0)

/-- A write of OVERLAY_LOAD (R380): an image stored in the slot its header names. -/
def overlayLoad (s : State) (img : List Byte) : Wrote :=
  let h := leNat (img.take 64)
  let slot := getF h ImgHdr.SLOT
  let role_ := getF h ImgHdr.ROLE
  let l := match imgRecords img with | some x => x.1 | none => []
  let c := imageCheck 2 0 512 img
  if c = 0xE ∨ 65536 < img.length ∨ l.any (fun x => decide (512 < x.data.length)) ∨ role_ = 0 ∨ 5 < role_ then wRefuse s 0xE
  else if c ≠ 0 then wRefuse s c
  else if ovF s slot OvSlot.STATE = 3 then wRefuse s 3
  else match (l.map (overlayRecOk s)).find? (fun x => x.1 != 0) with
    | some x => ⟨s, x.1, x.2, []⟩
    | none =>
      let s := odPut s OD.OVERLAY_SLOTS slot (mkRec [(OvSlot.STATE, 1), (OvSlot.ROLE, role_), (OvSlot.ENTRIES, l.length),
        (OvSlot.TAG, getF h ImgHdr.TAG)])
      let s := odPut s OD.OVERLAY_DIGESTS slot (leNat (imageDigest img))
      wOk { s with dct := { s.dct with images := kput s.dct.images slot img } }

/-- A write of OVERLAY_ERASE (R380). -/
def overlayErase (s : State) (slot : Nat) : Wrote :=
  if ovF s slot OvSlot.STATE = 3 then wRefuse s 3
  else
    let s := odPut (odPut s OD.OVERLAY_SLOTS slot 0) OD.OVERLAY_DIGESTS slot 0
    wOk { s with dct := { s.dct with images := kdel s.dct.images slot } }

/-- R382: every record as a write after every write accepted and the records before it: the first that would be refused. -/
def overlayRun : List ImgEntry → State → Nat → ImgRun
  | [], s, i => ⟨s, i, 0, 0, 0⟩
  | x :: t, s, i =>
    let c := overlayRecOk s x
    if c.1 ≠ 0 then ⟨s, i, c.1, c.2, 0⟩
    else
      let o := match odFind x.ent with | some r => ownCheck s r x.off x.data | none => (1, 0)
      if o.1 ≠ 0 then ⟨s, i, o.1, o.2, 0⟩
      else overlayRun t { s with dct := { s.dct with rwf := s.dct.rwf ++ [recWr x] } } (i + 1)

/-- The overlay check (R382) of a slot: the state with SWITCH_RESULT, status and reason. -/
def overlayCheck (s : State) (slot : Nat) : State × Nat × Nat :=
  let x := overlayRun (overlayRecords s slot) s 0
  if x.status = 0 then (s, 0, 0)
  else (odSet s OD.SWITCH_RESULT (mkRec [(fld 63 56, x.status), (fld 55 40, x.reason), (fld 31 0, x.idx)]), x.status, x.reason)

/-- OVERLAY_COUNTS element `i`: 0 applies, 1 refused requests, 2 writes held, 3 SWITCH_STUCK. -/
abbrev overlayCount (s : State) (i : Nat) : State := odAdd s OD.OVERLAY_COUNTS i 1

/-- A write of OVERLAY_REQUEST (R382, R47). The planner's estimate of the drain is a free value. -/
def overlayRequest (s : State) (slot : Nat) : Wrote :=
  if inRun s = false ∨ od s OD.POWER_STATE ≠ 0 then wBad (overlayCount s 1) 2
  else if ovF s slot OvSlot.STATE = 0 then wRefuse (overlayCount s 1) 3
  else if switching s then wRefuse (overlayCount s 1) 0xB
  else
    let c := overlayCheck s slot
    if c.2.1 ≠ 0 then ⟨overlayCount c.1 1, c.2.1, c.2.2, []⟩
    else
      let s := odSet (recSet s OD.OVERLAY_SLOTS slot [(OvSlot.STATE, 3)]) OD.SWITCH_STATE 1
      let est := takeFree s
      let s := odSet est.2 OD.ROLE_DRAIN_EST_FRAMES (est.1 % 2 ^ 32)
      wOk { s with dct := { s.dct with switchFrom := frameNo s, switchStuck := false, switchSlot := slot },
                   rows := { s.rows with closing := ovF s slot OvSlot.ROLE } }

/-- SWITCH_LIMIT (R382): a switch still CLOSING or DRAINING after SWITCH_LIMIT_FRAMES raises SWITCH_STUCK (bit 6) once. -/
def execSwitchLimit (s : State) : Res :=
  answer s (
    let st := od s OD.SWITCH_STATE
    if (st = 1 ∨ st = 2) ∧ s.dct.switchStuck = false ∧ od s OD.SWITCH_LIMIT_FRAMES < frameDiff s.dct.switchFrom (frameNo s) then
      alert (overlayCount { s with dct := { s.dct with switchStuck := true } } 3) 6
    else s)

/-- A write of RUN_REQUEST (R379); outside CONFIG the entry does not allow it. -/
def runRequest (s : State) (slot : Nat) : Wrote :=
  if inConfig s = false then wBad s 2
  else if od s OD.BASE_STATE ≠ 1 then wRefuse (odSet s OD.RUN_STATUS 3) 0xF
  else if ovF s slot OvSlot.STATE = 0 then wRefuse (odSet s OD.RUN_STATUS 3) 3
  else
    let c := overlayCheck s slot
    if c.2.1 ≠ 0 then ⟨odSet c.1 OD.RUN_STATUS 3, c.2.1, c.2.2, []⟩
    else wOk { odSet s OD.RUN_STATUS 1 with dct := { s.dct with runSlot := slot } }

/-- The undefined case that the records of an overlay meet as they take effect: U06. -/
def overlayUndef : List ImgEntry → State → Nat
  | [], _ => 0
  | x :: t, s =>
    match odFind x.ent with
    | some r => if writesU06 s r x.off x.data then 6 else overlayUndef t (takeEffect s r x.off x.data)
    | none => overlayUndef t s

/-- R382, R393: the records of an overlay take effect in image order; the slot is ACTIVE; the tray read cache is invalidated (R284). -/
def overlayEffect (s : State) (slot : Nat) : State :=
  let s := (overlayRecords s slot).foldl (fun t x => effectWr t (recWr x)) s
  let s := (List.range 16).foldl (fun t k => if ovF t k OvSlot.STATE = 2 then recSet t OD.OVERLAY_SLOTS k [(OvSlot.STATE, 1)] else t) s
  let s := recSet s OD.OVERLAY_SLOTS slot [(OvSlot.STATE, 2), (OvSlot.APPLIED_FRAME, frameNo s)]
  let s := odSet (odSet (overlayCount s 0) OD.ROLE (ovF s slot OvSlot.ROLE)) OD.OVERLAY_ACTIVE slot
  trcInvalAll (codeExtend s (leBytes 48 (odGet s OD.OVERLAY_DIGESTS slot)))

/-! The entries that are commands. -/

/-- A write of ALERT_CLEAR (R460). -/
def alertClear (s : State) (v : Nat) : Wrote :=
  let c := od s OD.ALERT_CAUSES
  wOk (odSet s OD.ALERT_CAUSES (c - Nat.land c v))

/-- A write of ROW_CONTROL (R147, R152): [31:30] 1 SUSPEND, 2 RESUME; [14:0] the row. -/
def rowControl (s : State) (v : Nat) : Wrote :=
  if v / 2 ^ 30 = 1 then wOk (suspendRow s (v % 2 ^ 15)) else if v / 2 ^ 30 = 2 then wOk (resumeRow s (v % 2 ^ 15)) else wBad s 4

/-- A write of MR_REGISTER (R261, R398): a U32 index, then the record; the answer carries the key. -/
def registerWrite (s : State) (data : List Byte) : Wrote :=
  let i := leNat (data.take 4)
  let rec_ := leNat (data.drop 4)
  if od s OD.MR_TABLE_ENTRIES ≤ i then wBad s 4
  else if mrBarred s rec_ then wBad (odAdd s OD.PARTITION_DENIALS 1 1) 7
  else
    let x := mrRegister s i (setF rec_ (fld 76 0) 0)
    ⟨x.1, 0, 0, leBytes 4 x.2⟩

/-- A write of MR_DEREGISTER (R261). -/
def deregisterWrite (s : State) (v : Nat) : Wrote :=
  if od s OD.MR_TABLE_ENTRIES ≤ v % 2 ^ 24 then wBad s 4 else wOk (mrDeregister s (v % 2 ^ 24))

/-- A write of POWER_STATE_REQ (R359). -/
def powerWrite (s : State) (v : Nat) : Wrote :=
  if v = 1 then idleWrite s else if v = 2 then activeWrite s else dormantWrite s

/-- A write of ADAPTER_LOAD (R163). -/
def adapterWrite (s : State) (v : Nat) : Wrote :=
  match adapterLoad s v with
  | some t => wOk t
  | none => wRefuse s 4

/-- A write of a WO entry, a staged one whole. -/
def commandWrite (s : State) (e off : Nat) (data : List Byte) : Wrote :=
  let v := leNat data
  if e = OD.ALERT_CLEAR then alertClear s v
  else if e = OD.AUDIT_REQ then auditReq s v
  else if e = OD.ROW_CONTROL then rowControl s v
  else if e = OD.ADAPTER_LOAD then adapterWrite s v
  else if e = OD.PEER_LOST then peerLost s (v % 2 ^ 13)
  else if e = OD.FENCE_LINK then wOk (fenceLinkWrite s (v % 64))
  else if e = OD.MR_REGISTER then registerWrite s data
  else if e = OD.MR_DEREGISTER then deregisterWrite s v
  else if e = OD.TRAY_SLOT_DEAD then traySlotDead s (v % 32)
  else if e = OD.TRC_INVAL_ALL then wOk (trcInvalAll s)
  else if e = OD.COH_RESET then wOk (cohReset s v)
  else if e = OD.POWER_STATE_REQ then powerWrite s v
  else if e = OD.RUN_REQUEST then runRequest s (v % 16)
  else if e = OD.OVERLAY_LOAD then overlayLoad s data
  else if e = OD.OVERLAY_ERASE then overlayErase s (v % 16)
  else if e = OD.OVERLAY_REQUEST then overlayRequest s (v % 16)
  else if e = OD.SVN_COMMIT then svnCommit s v
  else if e = OD.BOOT_LOAD then bootLoadWrite s off data
  else if e = OD.BOOT_COMMIT then bootCommit s v
  else if e = OD.DEBUG_UNLOCK then debugUnlock s data
  else if e = OD.KEY_INSTALL then keyInstall s data
  else if e = OD.KEY_REVOKE then keyRevoke s v
  else if e = OD.ATTEST_REQUEST then attestRequest s data
  else if e = OD.PARTITION_CREATE then partCreate s data
  else if e = OD.PARTITION_RELEASE then partRelease s v
  else if e = OD.AUDIT_REQUEST then auditRequest s v
  else if e = OD.FENCE_REGION then fenceRegionWrite s v
  else if e = OD.DERATE then derate s v
  else if e = OD.FENCE_COMMAND then fenceCommand s data
  else wBad s 2

/-- A write whose access and length have passed, of any class. -/
def acceptWrite (s : State) (r : OdRow) (w : DictWr) : DictRes :=
  if r.acc = 2 then
    if r.ent = OD.BASE_IMAGE then baseImage s w.data
    else if !rangesOk r w.off w.data then dStatus s 4
    else dWrote (commandWrite s r.ent w.off w.data)
  else acceptSetting s r w

/-! Staging and holding. -/

/-- R477: the length of a staged entry's value, once the bytes that carry it are staged. -/
def stagedLen (e : Nat) (data : List Byte) : Option Nat :=
  if e = OD.BASE_IMAGE ∨ e = OD.OVERLAY_LOAD then
    (if data.length < 54 then none else some (getF (leNat (data.take 64)) ImgHdr.BYTES))
  else if e = OD.FENCE_COMMAND then
    (if data.length < 64 then none else some (64 + 392 * getF (leNat (data.take 64)) FenceCmd.APPROVALS))
  else if e = OD.MR_REGISTER then some 36
  else if e = OD.PARTITION_CREATE ∨ e = OD.ATTEST_REQUEST then some 32
  else if e = OD.KEY_INSTALL then some 1680
  else some (64 + rsaBytes + slhBytes)

/-- A reach's staging of an entry. -/
def stagingOf (s : State) (by_ : Reach) (e : Nat) : Option (List Byte) :=
  (s.dct.staging.find? (fun x => decide (x.reach = by_) && x.entry == e)).map Staging.data

/-- A reach's staging of an entry set, or discarded. -/
def stagingSet (s : State) (by_ : Reach) (e : Nat) (data : Option (List Byte)) : State :=
  let rest := s.dct.staging.filter (fun x => !(decide (x.reach = by_) && x.entry == e))
  { s with dct := { s.dct with staging := match data with | some d => rest ++ [⟨by_, e, d⟩] | none => rest } }

/-- R477: one request of a staged entry; with the last byte the value is acted on as one write. -/
def stageWrite (s : State) (r : OdRow) (w : DictWr) : DictRes :=
  let old := if w.off = 0 then some [] else stagingOf s w.reach w.entry
  let gone := stagingSet s w.reach w.entry none
  match old with
  | none => dStatus gone 3
  | some b =>
    if b.length ≠ w.off then dStatus gone 3
    else
      let all := b ++ w.data
      match stagedLen w.entry all with
      | none => dStatus (stagingSet s w.reach w.entry (some all)) 0
      | some n =>
        if n < all.length then dStatus gone 3
        else if n = all.length then acceptWrite gone r { w with off := 0, data := all }
        else dStatus (stagingSet s w.reach w.entry (some all)) 0

/-- R384: is a write held during a switch? -/
def isHeldWrite (s : State) (r : OdRow) : Bool := switching s && r.acc != 2 && !decide (0xA00000 ≤ r.ent ∧ r.ent < 0xB00000)

/-- R384: a write held, or answered at once where its own checks fail or 256 are held. -/
def holdWrite (s : State) (r : OdRow) (w : DictWr) : DictRes :=
  if r.acc = 4 then { dStatus s 0 with undef := 9 }
  else if !rangesOk r w.off w.data then dStatus s 4
  else if 256 ≤ s.dct.held.length then dStatus s 8
  else
    let s := overlayCount s 2
    { dStatus { s with dct := { s.dct with held := s.dct.held ++ [w] } } 0 with held := true }

/-- A write request served (R369 to R384). A write of range 0xF000, whose entries the spec does not document, answers ACCESS where the
range may not be written, and NO_ENTRY where it may. -/
def serveWrite (s : State) (w : DictWr) : DictRes :=
  match odFind w.entry with
  | none =>
    let diag := bitOf (od s OD.DEBUG_STATE) 0
    let may := match w.reach with | .mailbox _ => inConfig s || (inRun s && diag) | _ => false
    dStatus s (if decide (0xF00000 ≤ w.entry) && !may then 2 else 1)
  | some r =>
    let a := accessCheck s w.reach r
    if a.1 ≠ 0 then ⟨s, a.1, a.2, 0, [], 0, false⟩
    else if isStaged r.ent then stageWrite s r w
    else if !lenOk s r w.off w.data.length then dStatus s 3
    else if isHeldWrite s r then holdWrite s r w
    else acceptWrite s r w

/-- A read request served. -/
def serveRead (s : State) (e off len : Nat) : DictRes :=
  match odFind e with
  | none => dStatus s 1
  | some r => if r.acc = 2 then dStatus s 2 else if !lenOk s r off len then dStatus s 3 else dWrote (readEntry s r off len)

/-- An INFO request served (R371). -/
def serveInfo (s : State) (e : Nat) : DictRes :=
  match odFind e with
  | none => dStatus s 1
  | some r => ⟨s, 0, 0, 0, infoBytes s r, 0, false⟩

/-- R386, R445, R361: what a reach is served in the device's state: none where the request gets no answer, false where the entry is not
served. -/
def served (s : State) (by_ : Reach) (op e : Nat) : Option Bool :=
  let block := e / 256
  let state := od s OD.DEVICE_STATE
  match by_ with
  | .fabric _ => if (state = 1 ∨ state = 2) ∧ od s OD.POWER_STATE ≠ 2 then some true else none
  | .mailbox _ => if state = 3 then none else if state = 0 then some (block == 0x1010 || block == 0xB010) else some true
  | .bus _ =>
    if state = 3 then (if op = 1 ∧ (e / 2 ^ 20 = 1 ∨ e / 2 ^ 20 = 0xC ∨ e / 2 ^ 20 = 0xD) then some true else none)
    else if state = 0 then some (block == 0x1010 || block == 0xB010) else some true

/-- A request served by its header (R371): none where it gets no answer. The bytes of a write are the first LENGTH of its data; a request
of an unknown OP answers BAD_VALUE. -/
def serve (s : State) (by_ : Reach) (h : Nat) (data : List Byte) : Option DictRes :=
  let op := getF h DictReq.OP
  let e := getF h DictReq.INDEX * 256 + getF h DictReq.SUBINDEX
  let off := getF h DictReq.OFFSET
  let len := getF h DictReq.LENGTH
  match served s by_ op e with
  | none => none
  | some false => some (dStatus s 1)
  | some true =>
    some (if op = 1 then serveRead s e off len
      else if op = 2 then
        (if data.length < len then dStatus s 3 else serveWrite s ⟨by_, e, off, data.take len, getF h DictReq.TAG⟩)
      else if op = 3 then serveInfo s e
      else dStatus s 4)

/-- The response header (R371): LENGTH counts the bytes returned or written. -/
def respHeader (h : Nat) (d : DictRes) : Nat :=
  let n := if d.status ≠ 0 then 0 else if getF h DictReq.OP = 2 then getF h DictReq.LENGTH else d.data.length
  mkRec [(DictResp.STATUS, d.status), (DictResp.REASON, d.reason), (DictResp.TAG, getF h DictReq.TAG), (DictResp.LENGTH, n),
    (DictResp.EFFECTIVE_FRAME, d.frame)]

end Sys2Proof.Machine
end

