-- ==== Sys2Proof/Machine/Server.lean ====
section
/-! DEFINITION. Chapter 18, the reaches: the BAR0 mailboxes, the management bus and the fabric; the commands that are writes of one
entry; and the entry to CONFIG (chapter 22).
Choices of the model here, by the assumption log: log 25 (PRESUMED); log 11, 51, 62 (DEDUCED). -/

namespace Sys2Proof.Machine

/-! Answers. -/

/-- The server's last answer noted. -/
def noteAnswer (s : State) (d : DictRes) : State :=
  { s with dct := { s.dct with last := ⟨d.status, d.reason, d.frame, d.data⟩ } }

/-- R373: a BUSY mailbox gets its response and data, reads DONE, and signals its vector. One reset meanwhile has none to give it to
(R454). -/
def mailboxDone (s : State) (m h : Nat) (d : DictRes) : State :=
  match kfind s.dct.mailboxes m with
  | none => s
  | some b =>
    if b.state ≠ 1 then s
    else
      let b := { b with state := 2, resp := respHeader h d, data := if getF h DictReq.OP = 2 ∧ d.data = [] then b.data else d.data }
      msix { s with dct := { s.dct with mailboxes := kput s.dct.mailboxes m b } } (odGet s OD.MAILBOX_VECTORS m)

/-- R374: a response on the management bus (output kind 32, the endpoint). -/
def busDone (s : State) (endpoint h : Nat) (d : DictRes) : State :=
  { s with out := s.out ++ [⟨32, endpoint, leBytes 16 (respHeader h d) ++ d.data⟩] }

/-- R375: the responses kept to a source's last 64 requests. -/
def keepResp (l : List KeptResp) (x : KeptResp) : List KeptResp :=
  let mine := l.filter (fun k => k.dev == x.dev)
  let oldest := mine.length + 1 - 64
  let drop := (mine.take oldest)
  l.filter (fun k => !drop.contains k) ++ [x]

/-- R375: a response to a device, sent and kept. -/
def fabricDone (s : State) (dev h : Nat) (d : DictRes) : State :=
  let bs := leBytes 16 (respHeader h d) ++ d.data
  let s := sendMgmt s 10 dev (frameNo s) bs
  { s with dct := { s.dct with kept := keepResp s.dct.kept ⟨dev, getF h DictReq.TAG, bs⟩ } }

/-- An answer given to the reach a request came by. -/
def answerReach (s : State) (by_ : Reach) (h : Nat) (d : DictRes) : State :=
  match by_ with
  | .mailbox m => mailboxDone s m h d
  | .bus e => busDone s e h d
  | .fabric dev => fabricDone s dev h d

/-- The header of a write request. -/
def writeHeader (w : DictWr) : Nat :=
  mkRec [(DictReq.OP, 2), (DictReq.INDEX, w.entry / 256), (DictReq.SUBINDEX, w.entry % 256), (DictReq.OFFSET, w.off),
    (DictReq.LENGTH, w.data.length), (DictReq.TAG, w.tag)]

/-- The most data bytes a reach carries (R372, R374, R375). -/
def reachMost : Reach → Nat
  | .mailbox _ => 65472
  | .bus _ => 1024
  | .fabric _ => 4032

/-- A request by a reach, served and answered; held ones are answered at release (R384). More data than the reach carries answers
BAD_LENGTH. An undefined case stops. -/
def request (s : State) (by_ : Reach) (h : Nat) (data : List Byte) : Res :=
  let x := if reachMost by_ < getF h DictReq.LENGTH ∧ (served s by_ (getF h DictReq.OP) 0x101001).isSome then some (dStatus s 3)
    else serve s by_ h data
  match x with
  | none => answer s s
  | some d =>
    if d.undef ≠ 0 then .fault (.undefinedCase d.undef)
    else if d.held then answer s d.st
    else answer s (answerReach (noteAnswer d.st d) by_ h d)

/-- R373: a request submitted through a mailbox that is not BUSY. -/
def mailboxRequest (s : State) (m h : Nat) (data : List Byte) : Res :=
  if 16 ≤ m ∨ barsOpen s = false ∨ (kget s.dct.mailboxes m ⟨0, 0, 0, []⟩).state = 1 then answer s s
  else
    let s1 := { s with dct := { s.dct with mailboxes := kput s.dct.mailboxes m ⟨1, h, 0, data⟩ } }
    request s1 (.mailbox m) h data

/-- R375: a request from a device: a re-send of one already answered gets the kept response, of one still held nothing; a closed reach
answers none (R361, R445). -/
def fabricRequest (s : State) (dev h : Nat) (data : List Byte) : Res :=
  let tag := getF h DictReq.TAG
  if (served s (.fabric dev) (getF h DictReq.OP) 0x101001).isNone then answer s s
  else match s.dct.kept.find? (fun k => k.dev == dev && k.tag == tag) with
  | some k => answer s (sendMgmt s 10 dev (frameNo s) k.data)
  | none =>
    if s.dct.held.any (fun w => decide (w.reach = .fabric dev) && w.tag == tag) then answer s s
    else request s (.fabric dev) h data

/-- A request by any reach. -/
def reachRequest (s : State) (by_ : Reach) (h : Nat) (data : List Byte) : Res :=
  match by_ with
  | .mailbox m => mailboxRequest s m h data
  | .bus e => if s.dct.dynAddr.isSome then request s (.bus e) h data else answer s s
  | .fabric dev => fabricRequest s dev h data

/-- DOORBELL (R373, R452): 1 written to a mailbox's doorbell, with the request header and data the mailbox holds. -/
def execDoorbell (m req : Nat) (data : List Byte) (s : State) : Res := mailboxRequest s m req data

/-- A write request of an entry. -/
def writeRequest (s : State) (by_ : Reach) (tag e off : Nat) (data : List Byte) : Res :=
  reachRequest s by_ (writeHeader ⟨by_, e, off, data, tag⟩) data

/-- DICT_WRITE (R365, R368). -/
def execDictWrite (r : Reach) (tag entry off : Nat) (data : List Byte) (s : State) : Res := writeRequest s r tag entry off data

/-- DICT_INFO (R371). -/
def execDictInfo (r : Reach) (tag entry : Nat) (s : State) : Res :=
  reachRequest s r (mkRec [(DictReq.OP, 3), (DictReq.INDEX, entry / 256), (DictReq.SUBINDEX, entry % 256), (DictReq.TAG, tag)]) []

/-- DICT_REQUEST (R375): a management message's payload from a device: header, then data. -/
def execDictRequest (fromDev : Nat) (data : List Byte) (s : State) : Res :=
  fabricRequest s fromDev (leNat (data.take 32)) (data.drop 32)

/-- DICT_RESPONSE (R375): an answer to a request of this device's own, kept for its requester. -/
def execDictResponse (fromDev : Nat) (data : List Byte) (s : State) : Res :=
  answer s { s with dct := { s.dct with answers := s.dct.answers ++ [(fromDev, data)] } }

/-! The management bus (R374). MCTP control answers have the layout of DSP0236 (output kind 33, the command's code). -/

/-- Is the bus interface powered? -/
def busOn (s : State) : Bool := s.host.power == 0 && s.host.pwrGood

/-- ENTDAA (R374): a dynamic address taken. -/
def execEntdaa (addr : Nat) (s : State) : Res :=
  answer s (if busOn s then { s with dct := { s.dct with dynAddr := some (addr % 128) } } else s)

/-- An MCTP control answer. -/
def mctpOut (s : State) (code : Nat) (data : List Byte) : State :=
  if busOn s && s.dct.dynAddr.isSome then { s with out := s.out ++ [⟨33, code, data⟩] } else s

/-- SET_ENDPOINT_ID (R374): 0 and 255 are no endpoint IDs. -/
def execSetEndpointId (eid : Nat) (s : State) : Res :=
  answer s (
    if !(busOn s && s.dct.dynAddr.isSome) then s
    else if eid = 0 ∨ 255 ≤ eid then mctpOut s 1 [2]
    else mctpOut { s with dct := { s.dct with eid := eid } } 1 [0, 0, BitVec.ofNat 8 eid, 0])

/-- GET_ENDPOINT_ID (R374). -/
def execGetEndpointId (s : State) : Res := answer s (mctpOut s 2 [0, BitVec.ofNat 8 s.dct.eid, 0, 0])

/-- GET_MCTP_VERSION_SUPPORT (R374): one version, which the spec does not state. -/
def execGetMctpVersionSupport (s : State) : Res :=
  answer s (if busOn s && s.dct.dynAddr.isSome then
      let x := takeBytes s 4
      mctpOut x.2 4 ([0, 1] ++ x.1)
    else s)

/-- GET_MESSAGE_TYPE_SUPPORT (R374): message type 0x7E. -/
def execGetMessageTypeSupport (s : State) : Res := answer s (mctpOut s 5 [0, 1, 0x7E])

/-! Writes of one entry. -/

/-- AUDIT_REQ (R143). -/
def execAuditReq (r : Reach) (tag off : Nat) (data : List Byte) (s : State) : Res := writeRequest s r tag OD.AUDIT_REQ off data
/-- SUSPEND (R147): ROW_CONTROL with [31:30] 1. -/
def execSuspend (r : Reach) (tag row : Nat) (s : State) : Res :=
  writeRequest s r tag OD.ROW_CONTROL 0 (leBytes 4 (2 ^ 30 + row % 2 ^ 15))
/-- RESUME (R147): ROW_CONTROL with [31:30] 2. -/
def execResume (r : Reach) (tag row : Nat) (s : State) : Res :=
  writeRequest s r tag OD.ROW_CONTROL 0 (leBytes 4 (2 * 2 ^ 30 + row % 2 ^ 15))
/-- MODEL_SLOTS (R159). -/
def execModelSlots (r : Reach) (tag off : Nat) (data : List Byte) (s : State) : Res := writeRequest s r tag OD.MODEL_SLOTS off data
/-- ADAPTER_LOAD (R163). -/
def execAdapterLoad (r : Reach) (tag off : Nat) (data : List Byte) (s : State) : Res := writeRequest s r tag OD.ADAPTER_LOAD off data
/-- ADAPTER_COMMIT (R163). -/
def execAdapterCommit (r : Reach) (tag off : Nat) (data : List Byte) (s : State) : Res := writeRequest s r tag OD.ADAPTER_COMMIT off data
/-- GRAMMARS (R177). -/
def execGrammars (r : Reach) (tag off : Nat) (data : List Byte) (s : State) : Res := writeRequest s r tag OD.GRAMMARS off data
/-- PEER_LOST (R201). -/
def execPeerLost (r : Reach) (tag off : Nat) (data : List Byte) (s : State) : Res := writeRequest s r tag OD.PEER_LOST off data
/-- MAP_NEXT (R185). -/
def execMapNext (r : Reach) (tag off : Nat) (data : List Byte) (s : State) : Res := writeRequest s r tag OD.MAP_NEXT off data
/-- QP_CONTEXTS (R252). -/
def execQpContexts (r : Reach) (tag off : Nat) (data : List Byte) (s : State) : Res := writeRequest s r tag OD.QP_CONTEXTS off data
/-- MR_REGISTER (R261). -/
def execMrRegister (r : Reach) (tag off : Nat) (data : List Byte) (s : State) : Res := writeRequest s r tag OD.MR_REGISTER off data
/-- MR_DEREGISTER (R261). -/
def execMrDeregister (r : Reach) (tag off : Nat) (data : List Byte) (s : State) : Res := writeRequest s r tag OD.MR_DEREGISTER off data
/-- WICKETS (R272). -/
def execWickets (r : Reach) (tag off : Nat) (data : List Byte) (s : State) : Res := writeRequest s r tag OD.WICKETS off data
/-- TRAY_SLOT_DEAD (R282). -/
def execTraySlotDead (r : Reach) (tag off : Nat) (data : List Byte) (s : State) : Res := writeRequest s r tag OD.TRAY_SLOT_DEAD off data
/-- TRAY_MEMBERS (R282). -/
def execTrayMembers (r : Reach) (tag off : Nat) (data : List Byte) (s : State) : Res := writeRequest s r tag OD.TRAY_MEMBERS off data
/-- TRC_INVAL_ALL (R284). -/
def execTrcInvalAll (r : Reach) (tag off : Nat) (data : List Byte) (s : State) : Res := writeRequest s r tag OD.TRC_INVAL_ALL off data
/-- COH_RESET (R298). -/
def execCohReset (r : Reach) (tag off : Nat) (data : List Byte) (s : State) : Res := writeRequest s r tag OD.COH_RESET off data
/-- ALLOWANCE_UJ (R343, R344). -/
def execAllowanceUj (r : Reach) (tag off : Nat) (data : List Byte) (s : State) : Res := writeRequest s r tag OD.ALLOWANCE_UJ off data
/-- PEAK_UJ (R344). -/
def execPeakUj (r : Reach) (tag off : Nat) (data : List Byte) (s : State) : Res := writeRequest s r tag OD.PEAK_UJ off data
/-- IDLE_REQUEST (R359, R360): POWER_STATE_REQ 1. -/
def execIdleRequest (r : Reach) (tag : Nat) (s : State) : Res := writeRequest s r tag OD.POWER_STATE_REQ 0 [1]
/-- ACTIVE_REQUEST (R359): POWER_STATE_REQ 2. -/
def execActiveRequest (r : Reach) (tag : Nat) (s : State) : Res := writeRequest s r tag OD.POWER_STATE_REQ 0 [2]
/-- DORMANT_REQUEST (R359, R363): POWER_STATE_REQ 3. -/
def execDormantRequest (r : Reach) (tag : Nat) (s : State) : Res := writeRequest s r tag OD.POWER_STATE_REQ 0 [3]
/-- BASE_IMAGE (R378). -/
def execBaseImage (r : Reach) (tag off : Nat) (data : List Byte) (s : State) : Res := writeRequest s r tag OD.BASE_IMAGE off data
/-- CYCLIC_STEPS (R30). -/
def execCyclicSteps (r : Reach) (tag off : Nat) (data : List Byte) (s : State) : Res := writeRequest s r tag OD.CYCLIC_STEPS off data
/-- PROG_IMAGE (R76). -/
def execProgImage (r : Reach) (tag off : Nat) (data : List Byte) (s : State) : Res := writeRequest s r tag OD.PROG_IMAGE off data
/-- OVERLAY_LOAD (R380). -/
def execOverlayLoad (r : Reach) (tag off : Nat) (data : List Byte) (s : State) : Res := writeRequest s r tag OD.OVERLAY_LOAD off data
/-- OVERLAY_ERASE (R380). -/
def execOverlayErase (r : Reach) (tag off : Nat) (data : List Byte) (s : State) : Res := writeRequest s r tag OD.OVERLAY_ERASE off data
/-- OVERLAY_REQUEST (R382). -/
def execOverlayRequest (r : Reach) (tag off : Nat) (data : List Byte) (s : State) : Res := writeRequest s r tag OD.OVERLAY_REQUEST off data
/-- RUN_REQUEST (R379). -/
def execRunRequest (r : Reach) (tag off : Nat) (data : List Byte) (s : State) : Res := writeRequest s r tag OD.RUN_REQUEST off data
/-- ALERT_CLEAR (R460). -/
def execAlertClear (r : Reach) (tag off : Nat) (data : List Byte) (s : State) : Res := writeRequest s r tag OD.ALERT_CLEAR off data
/-- BAR2_WINDOW (R451). -/
def execBar2Window (r : Reach) (tag off : Nat) (data : List Byte) (s : State) : Res := writeRequest s r tag OD.BAR2_WINDOW off data
/-- BOOT_COMMIT (R472). -/
def execBootCommit (r : Reach) (tag off : Nat) (data : List Byte) (s : State) : Res := writeRequest s r tag OD.BOOT_COMMIT off data
/-- SVN_COMMIT (R387). -/
def execSvnCommit (r : Reach) (tag off : Nat) (data : List Byte) (s : State) : Res := writeRequest s r tag OD.SVN_COMMIT off data
/-- DEBUG_UNLOCK (R390). -/
def execDebugUnlock (r : Reach) (tag off : Nat) (data : List Byte) (s : State) : Res := writeRequest s r tag OD.DEBUG_UNLOCK off data
/-- KEY_INSTALL (R403). -/
def execKeyInstall (r : Reach) (tag off : Nat) (data : List Byte) (s : State) : Res := writeRequest s r tag OD.KEY_INSTALL off data
/-- KEY_REVOKE (R406). -/
def execKeyRevoke (r : Reach) (tag off : Nat) (data : List Byte) (s : State) : Res := writeRequest s r tag OD.KEY_REVOKE off data
/-- ATTEST_REQUEST (R395). -/
def execAttestRequest (r : Reach) (tag off : Nat) (data : List Byte) (s : State) : Res := writeRequest s r tag OD.ATTEST_REQUEST off data
/-- PARTITION_CREATE (R397). -/
def execPartitionCreate (r : Reach) (tag off : Nat) (data : List Byte) (s : State) : Res := writeRequest s r tag OD.PARTITION_CREATE off data
/-- PARTITION_RELEASE (R401). -/
def execPartitionRelease (r : Reach) (tag off : Nat) (data : List Byte) (s : State) : Res := writeRequest s r tag OD.PARTITION_RELEASE off data
/-- AUDIT_REQUEST (R412). -/
def execAuditRequest (r : Reach) (tag off : Nat) (data : List Byte) (s : State) : Res := writeRequest s r tag OD.AUDIT_REQUEST off data
/-- FENCE_REGION (R429). -/
def execFenceRegion (r : Reach) (tag off : Nat) (data : List Byte) (s : State) : Res := writeRequest s r tag OD.FENCE_REGION off data
/-- DERATE_ENTER (R434): DERATE 1. -/
def execDerateEnter (r : Reach) (tag : Nat) (s : State) : Res := writeRequest s r tag OD.DERATE 0 [1]
/-- DERATE_LEAVE (R434): DERATE 0. -/
def execDerateLeave (r : Reach) (tag : Nat) (s : State) : Res := writeRequest s r tag OD.DERATE 0 [0]
/-- FENCE_COMMAND (R436). -/
def execFenceCommand (r : Reach) (tag off : Nat) (data : List Byte) (s : State) : Res := writeRequest s r tag OD.FENCE_COMMAND off data

/-! The entry to CONFIG (R470, R471). -/

/-- Does a region of the flash begin with the header of an image of a kind? -/
def regionImage (kind : Nat) (region : List Byte) : Option (List Byte) :=
  let h := leNat (region.take 64)
  if getF h ImgHdr.MAGIC = 0x444F4E44 ∧ getF h ImgHdr.FORMAT = 1 ∧ getF h ImgHdr.KIND = kind then
    some (region.take (getF h ImgHdr.BYTES))
  else none

/-- CONFIG_ENTRY (R470, R471): all images loaded and the identity keys derived, or in RETURNED none to derive: DEVICE_STATE CONFIG; the
base image and the overlays of the flash, as their regions hold them, are loaded. -/
def execConfigEntry (base : List Byte) (overlays : List (List Byte)) (s : State) : Res :=
  if od s OD.DEVICE_STATE ≠ 0 ∨ s.sec.boot ≠ 6 ∨ (s.sec.derived = false ∧ od s OD.LIFECYCLE ≠ 2) then answer s s
  else
    let s1 := odSet s OD.DEVICE_STATE 1
    let d := match regionImage 1 base with
      | some img => baseImage s1 img
      | none => dStatus s1 0
    if d.undef ≠ 0 then .fault (.undefinedCase d.undef)
    else answer s ((overlays.take 16).foldl (fun t o => match regionImage 2 o with
      | some img => (overlayLoad t img).st
      | none => t) d.st)

end Sys2Proof.Machine
end

