-- ==== Sys2Proof/Machine/Tick.lean ====
section
/-! DEFINITION. The tick, the seal, the end of the drain and of an overlay apply, and entry to RUN (chapter 02; R379, R382, R417 to
R419).
Choices of the model here, by the assumption log: log 9, 29 (DESIGN CHOICE); log 11, 27, 28, 52 (DEDUCED). -/

namespace Sys2Proof.Machine

/-! The end of a frame (R33, R38, R39, R44). -/

/-- R38: the reason, with UNMET, why the step at a slot of the current table has not issued; `busy` are the units of earlier steps in the
merged order that run or have not issued. -/
def skipReason (s : State) (slot st : Nat) (busy : List Nat) : Nat × Nat :=
  let u := stepUnit st
  if slotSkipped s slot then (if s.frm.mode = .rejected then 4 else 5, 0)
  else if fencedSince s st then (3, 0)
  else if decide (frameClk s < getF st StepRec.START_CLK) || s.frm.draining then (0, 0)
  else if unmetEvents s st ≠ 0 then (1, unmetEvents s st)
  else if busy.contains u || (flightOn s u).isSome then (2, 0)
  else (0, 0)

/-- A step that the tick skips: slot, record, reason, UNMET. -/
structure Skip where
  slot : Nat
  step : Nat
  reason : Nat
  unmet : Nat
  deriving DecidableEq, Repr

/-- R38: the steps of the current table that have not issued. -/
def skippedSteps (s : State) : List Skip :=
  ((mergedSteps s).foldl (fun (a : List Nat × List Skip) p =>
    let u := stepUnit p.2
    let state := kget s.frm.slotState p.1 0
    if state = 2 then a
    else if state = 1 then (u :: a.1, a.2)
    else
      let r := skipReason s p.1 p.2 a.1
      (if slotSkipped s p.1 then a.1 else u :: a.1, a.2 ++ [⟨p.1, p.2, r.1, r.2⟩])) ([], [])).2

/-- R38: the overrun record of a skipped step of a frame. -/
def overrunRecord (frame : Nat) (x : Skip) : Nat :=
  mkRec [(OverrunRec.FRAME, frame), (OverrunRec.STEP_SLOT, x.slot), (OverrunRec.UNIT_CLASS, getF x.step StepRec.UNIT_CLASS),
    (OverrunRec.UNIT_INDEX, getF x.step StepRec.UNIT_INDEX), (OverrunRec.REASON, x.reason), (OverrunRec.UNMET, x.unmet)]

/-- R38: every step that has not issued is skipped and reported; the entry frame reports none (R379). -/
def skipUnissued (s : State) : State :=
  if s.frm.mode = .entry then s
  else
    let l := skippedSteps s
    if l = [] then s
    else
      let s := l.foldl (fun t x => ringPush t OD.OVERRUN_RING (overrunRecord (frameNo s) x)) s
      odAdd (odInc s OD.OVERRUN_FRAMES) OD.SKIPPED_STEPS 0 l.length

/-- R39: what still runs is carried. -/
def carrySteps (s : State) : State :=
  let new := (s.frm.flights.filter (fun p => !p.2.carried)).length
  let s := odAdd s OD.CARRIED_STEPS 0 new
  { s with frm := { s.frm with flights := s.frm.flights.map (fun p => (p.1, { p.2 with carried := true })) } }

/-- R446: the core-clocks of a frame written to telemetry, at most 255 words a record. -/
def clockWords (s : State) (frame : Nat) (clocks : KMap Nat) : State :=
  let words := (kget clocks 4096 0 % 2 ^ 52) ::
    ((clocks.filter (fun p => decide (p.1 < 4096) && p.2 != 0)).map (fun p => mkRec [(fld 63 52, p.1), (fld 51 0, p.2)]))
  (List.range (cdiv words.length 255)).foldl (fun t i => telemetryOf t frame 1 ((words.drop (255 * i)).take 255)) s

/-- R44, R446: the frame's core-clocks written to telemetry and counted from 0 again; what carried steps have added since to the counts
of earlier frames (R39) is written in further records of those frames. -/
def clockReport (s : State) : State :=
  let s := clockWords s (frameNo s) s.frm.frameClocks
  let s := ((s.frm.lateClocks.map (fun p => p.1 / 8192)).eraseDups).foldl (fun t n =>
    clockWords t n ((s.frm.lateClocks.filter (fun p => p.1 / 8192 == n)).map (fun p => (p.1 % 8192, p.2)))) s
  { s with frm := { s.frm with frameClocks := [], lateClocks := [] } }

/-- What a tick does to the frame it ends: unissued steps are skipped, a POST that has issued completes, a BARRIER ends with TIMEOUT
(R43), DMA steps that wait on a trigger end (R307), the others are carried; VC0 slots are returned (R42); clocks are reported. -/
def frameEnd (s : State) : State :=
  let n := frameNo s
  let s := skipUnissued s
  let s := if (seqFlight s 2).isSome then finishStep s (unitKey 12 0) .done else s
  let s := if (seqFlight s 1).isSome then barrierEnd s true else s
  let s := vc0FrameEnd (vc0Carry (carrySteps (dmaTick s))) n
  let s := clockReport (vclockTick s (readyTenants s))
  let s := qpTick (sampleReport s) (s.frm.mode != .entry)
  let s := { s with frm := { s.frm with events := [], slotState := [], barrierSent := false } }
  { s with en := { s.en with tempEnded := s.en.tempMax, tempMax := -27315 } }

/-- The frames that have ended and are not closed, oldest first. -/
def endedFrames (s : State) : List Nat := (s.en.frames.map Prod.fst).filter (fun f => f != frameNo s)

/-- R17, R382: have every handoff, park and queue-pair drain that a switch asks for been done? A switch to the role in force asks for
none. -/
def switchDrained (s : State) : Bool :=
  s.rows.closing == role s
  || ((rowsInUse s).all (fun r =>
        let st := rowState s r
        stateServed s.rows.closing (if st = 7 then rowGet s r Row.PRIOR_STATE else st))
      && s.net.qps.all (fun p => qpState s p.1 != 3))

/-- R17, R46: an overlay that the table of this frame carries starts to apply, unless a request that the new role does not serve has come to
the device since the seal: then a later table carries it again. -/
def applyStart (s : State) : State :=
  if s.frm.mode == .whole && getF s.frm.curHdr TableHdr.OVERLAY_APPLY == 1 && od s OD.SWITCH_STATE == 3 && !s.frm.applying
      && switchDrained s then
    { s with frm := { s.frm with applying := true, applyFrom := s.clk } }
  else s

/-- R353: the frames that have ended close. -/
def closeEnded (s : State) : State :=
  let s := (endedFrames s).foldl frameClose s
  { s with en := { s.en with tempClosed := s.en.tempEnded } }

/-- The beads, slots and versions given up by the end of frame `n` are free. -/
def drainFree (s : State) (n : Nat) : State := adapterDrain (modelDrain (poolDrain s n) n) n

/-- What follows the drain of R39 after the tick of frame `n`. -/
def drainDone (s : State) (n : Nat) : State :=
  applyStart (closeEnded (drainFree { s with frm := { s.frm with draining := false } } n))

/-- The frame before this one. -/
def lastFrame (s : State) : Nat := (frameNo s + 2 ^ 32 - 1) % 2 ^ 32

/-- DRAIN_END (R39): every carried step has completed. -/
def execDrainEnd (s : State) : Res :=
  answer s (if s.frm.draining ∧ s.frm.flights.all (fun p => !p.2.carried) then drainDone s (lastFrame s) else s)

/-- R359: a device that is ENTERING_IDLE with nothing in flight, and is quiescent at this tick, closes its last frame and is IDLE. -/
def idleTry (s : State) (n : Nat) : State :=
  if od s OD.POWER_STATE = 1 ∧ s.frm.flights = [] then idleEntry (drainFree s n) else s

/-! The start of a frame. -/

/-- R26, R28: the frame that begins now is numbered: FRAME_START where it is the first a device numbers itself. -/
def numberStep (s : State) : State :=
  let n := if s.frm.numberNext then od s OD.FRAME_START else (frameNo s + 1) % 2 ^ 32
  let s := odSet s OD.FRAME_NUMBER n
  { s with frm := { s.frm with tickClk := s.clk, numberNext := false } }

/-- R28: the frame master's FRAME_SYNC, in the first frame it numbers and in every sixteenth. -/
def syncStep (s : State) (first : Bool) : State :=
  if od s OD.FRAME_MASTER = 1 ∧ (2 ≤ od s OD.TICK_STATE ∨ inRun s) ∧ (first ∨ frameNo s % 16 = 0) then frameSyncSend s else s

/-- R376: the value of an entry as the shadow holds it: a scalar or a BITS entry of at most 64 bits. -/
def shadowed (r : OdRow) : Bool := (decide (r.ty ≤ 6) && decide (r.esz ≤ 8)) && r.cnt == 1 && r.acc != 2

/-- R376: every scalar entry copied into the dictionary shadow; other words read 0. -/
def shadowCopy (s : State) : State :=
  let s := memZero s shadowBase (2 ^ 27)
  (odTable.filter shadowed).foldl (fun t r =>
    memPut t (shadowBase + r.ent / 256 * 2048 + r.ent % 256 * 8) 8 (odShown t r.ent 0)) s

/-- INPUT_48V_MV: a reading of the part's own meter, a free value. -/
def meter48 (s : State) : State :=
  let v := takeFree s
  odSet v.2 OD.INPUT_48V_MV (v.1 % 2 ^ 32)

/-- R458: TICK_OUT repeats the tick the device runs on, internal and held-over ones included. -/
def tickOut (s : State) : State := { s with out := s.out ++ [⟨40, 0, []⟩] }

/-- R26, R239: the tick forwarded on the ACTIVE links that this device is set to forward it on: the TICK message with the number of the
frame it starts, and the mark for the next control flit. -/
def tickForward (s : State) : State :=
  ((List.range 64).filter (fun l => Config.tickForward l && linkActive s l)).foldl (fun t l =>
    let dev := getF (odGet t OD.LINK_PEER l) (fld 31 19)
    let h := mkRec [(MgmtHdr.MKIND, 2), (MgmtHdr.FROM_DEVICE, ownDevice t), (MgmtHdr.TO_DEVICE, dev), (MgmtHdr.FRAME, frameNo t)]
    let m : Msg := { vc := 3, kind := 0, dest := dev, hdr := h, hlen := 32, data := [], stream := 0, tenant := 0 }
    putOnLink (setLnk t l { lnk t l with mark := some t.clk }) m l) s

/-- What every tick does, whether steps run or not: the pulse on TICK_OUT, the tick forwarded, queued BAR2 answers, link counts, keys that
nothing uses, audits and reports that wait for a frame's start, FRAME_SYNC, the shadow. -/
def tickChores (s : State) (first : Bool) : State :=
  let s := tickForward (tickOut s)
  let s := attestSnap (auditTick (keysTick (linksTick (bar2Done s))))
  shadowCopy (meter48 (syncStep (expelShow s) first))

/-- A tick of CONFIG, or while frames do not run. -/
def idleTick (s : State) : State :=
  let first := s.frm.numberNext
  let s := qpBoundary (numberStep s)
  let h := mkRec [(TableHdr.FRAME, frameNo s), (TableHdr.PERIOD_CLK, od s OD.FRAME_PERIOD_CLK)]
  tickChores { s with frm := { s.frm with curHdr := h } } first

/-- R368: the RWF writes accepted before the seal take effect in order. -/
def sealedWrites (s : State) : State :=
  s.dct.rwfSealed.foldl effectWr { s with dct := { s.dct with rwfSealed := [] } }

/-- The functions of a mask of R250. -/
def fnList (w : Nat) : List Nat := (List.range 8).filter (bitOf w)

/-- R382: the closing boundary of a switch: the functions that the new role does not have are closed, their queue pairs DRAINING. -/
def switchBoundary (s : State) : State :=
  if od s OD.SWITCH_STATE = 1 then
    let gone := (fnList (roleFunctions (role s))).filter (fun f => !bitOf (roleFunctions s.rows.closing) f)
    qpClose (odSet s OD.SWITCH_STATE 2) gone
  else s

/-- R35: do a table's steps pass the check, each section and against the period? -/
def tableOk (cyc planned : List Nat) (period : Nat) : Bool :=
  startsRise cyc && startsRise planned && (cyc ++ planned).all (stepOk period)

/-- R35: how much of the table that has been built may run. -/
def nextMode (s : State) : TableMode :=
  let hdr := s.frm.nextHdr
  if getF hdr TableHdr.SEALED = 0 then .unsealed
  else if tableOk (cyclicSection s) (s.frm.nextSteps.map Prod.snd) (getF hdr TableHdr.PERIOD_CLK) = true
      ∧ getF hdr TableHdr.CYCLIC_COUNT ≤ getF hdr TableHdr.STEP_COUNT then .whole
  else .rejected

/-- The tables are swapped (R30, R35): the cyclic section in force, then the planned steps of the table that was built. -/
def tableSwap (s : State) : State :=
  let hdr := s.frm.nextHdr
  let cyc := cyclicSection s
  let planned := s.frm.nextSteps.map Prod.snd
  let mode := nextMode s
  let h := setFs hdr [(TableHdr.FRAME, frameNo s), (TableHdr.STEP_COUNT, cyc.length + planned.length),
    (TableHdr.CYCLIC_COUNT, cyc.length),
    (TableHdr.PERIOD_CLK, if mode = .unsealed then od s OD.FRAME_PERIOD_CLK else getF hdr TableHdr.PERIOD_CLK),
    (TableHdr.MAP_EPOCH, mapEpoch s OD.MAP_CURRENT)]
  let s := if mode = .unsealed then odInc s OD.UNSEALED_FRAMES else if mode = .rejected then odInc s OD.TABLE_REJECTS else s
  let steps := (cyc ++ planned).zipIdx.map (fun p => (p.2, p.1))
  { s with frm := { s.frm with
      curHdr := h, curSteps := steps, nextHdr := 0, nextSteps := [], mode := mode,
      fencedAtSeal := s.frm.fencedNext, fencedNext := [] } }

/-- R43: arrivals of the frame that begins now which came early. -/
def earlyTake (s : State) : State :=
  let n := frameNo s
  let here := s.frm.earlyArrivals.filter (fun p => p.1 / 32 == n && bitOf (od s OD.BARRIER_GROUP) (p.1 % 32))
  let rest := s.frm.earlyArrivals.filter (fun p => frameLater (p.1 / 32) n)
  let now : KMap Nat := here.map (fun p => (p.1 % 32, p.2))
  let last := now.foldl (fun (m : Nat × Nat) p => if m.2 ≤ p.2 then p else m) (s.frm.barrierLast, 0)
  { s with frm := { s.frm with arrivals := now, earlyArrivals := rest, barrierLast := last.1 } }

/-- What a frame starts with, its table in place: the ledger, the drain, the chores of a tick in RUN, and the planner's decisions. -/
def frameBegin (s : State) (first : Bool) (acts : List PlanAct) : State :=
  let s := ledgerOpen (earlyTake s) (frameNo s) (getF s.frm.curHdr TableHdr.PERIOD_CLK)
  let s := if s.frm.flights = [] then drainDone s (lastFrame s) else { s with frm := { s.frm with draining := true } }
  let s := duesApply (bistTick s)
  let s := { s with rows := { s.rows with admits := 0, waits := [], waiting := s.rows.waiting.map (fun w => { w with tried := false }) } }
  planActs (tickChores s first) acts

/-- A frame starts in RUN (R26): budgets refill (R154), sealed writes take effect, a map is installed (R185), a switch closes functions,
the tables are swapped. -/
def frameStart (s : State) (acts : List PlanAct) : State :=
  let first := s.frm.numberNext
  let s := qpBoundary (sealedWrites (budgetRefill (numberStep s)))
  frameBegin (tableSwap (switchBoundary (mapInstall s))) first acts

/-! Entry to RUN (R379, R417 to R419). -/

/-- Areas that the layout entries place, with the bead classes and COH_BACKING (R367, R415): device offset and bytes. -/
def layoutAreas (s : State) : List (Nat × Nat) :=
  let valid := (List.range 8).filter (fun c => classF s c BeadClass.VALID == 1)
  let top := (valid.map (fun c => classF s c BeadClass.FIRST_SLOT + classF s c BeadClass.SLOTS)).foldl max 0
  let cqs := (s.od.filter (fun p => p.1 / 2 ^ 24 == OD.CQ_TABLE)).map (fun p => (p.2 % 2 ^ 42, 32 * (p.2 / 2 ^ 64 % 2 ^ 32)))
  [(od s OD.PROG_REGION_BASE, od s OD.PROG_REGION_SIZE),
   (odGet s OD.STRAND_HEADER_AREA 0, odGet s OD.STRAND_HEADER_AREA 1),
   (odGet s OD.PASS_LIST_AREA 0, odGet s OD.PASS_LIST_AREA 1),
   (odGet s OD.ADAPTER_POOL 0, odGet s OD.ADAPTER_POOL 1),
   (od s OD.QP_CONTEXT_BASE, 2 ^ 27), (od s OD.MR_TABLE_BASE, 32 * od s OD.MR_TABLE_ENTRIES), (od s OD.SHADOW_BASE, 2 ^ 22)]
  ++ (List.range 8).map (fun k => (stackOff k (od s OD.DESC_BASE), 32 * top))
  ++ (List.range 8).map (fun k => (stackOff k (odGet s OD.SEGMENT_AREA (2 * k)), odGet s OD.SEGMENT_AREA (2 * k + 1)))
  ++ cqs
  ++ (List.range 8).flatMap (fun k => valid.map (fun c => (stackOff k (classF s c BeadClass.BASE), classF s c BeadClass.SLOTS * classStride s c)))
  ++ (if bitOf (od s OD.COH_MEMBERS) (ownSlot s) then [(od s OD.COH_BACKING, 2 ^ 28)] else [])

/-- Do two areas of a list overlap? -/
def areasClash : List (Nat × Nat) → Bool
  | [] => false
  | a :: t => t.any (fun b => meets a.1 a.2 b.1 b.2) || areasClash t

/-- R122, R129: a class's slots of a stack as RUN begins: READY in ascending order, FENCED in fenced regions; the counts of R142. -/
def classEntry (s : State) (c k : Nat) : State :=
  let first := classF s c BeadClass.FIRST_SLOT
  let slots := span first (classF s c BeadClass.SLOTS)
  let shut := fun x => (beadRegions s (beadIdx k x)).any (regionFenced s k)
  let ready := slots.filter (fun x => !shut x)
  let fenced := slots.filter shut
  let s := codeZero s (descAddr s (beadIdx k first)) (32 * slots.length)
  let s := slots.foldl (fun t x => descSet t (beadIdx k x) [(BeadDesc.CLASS, c), (BeadDesc.NEXT, beadIdx k x)]) s
  let s := relink s k ready
  let s := fenced.foldl (fun t x => descSet t (beadIdx k x) [(BeadDesc.STATE, 5)]) s
  let key := listKey c k
  let s := odPuts s OD.BEAD_STATE_COUNTS (key * 6) [ready.length, 0, 0, 0, 0, fenced.length]
  { s with pool := { s.pool with ready := kput s.pool.ready key ready } }

/-- The bead pool as RUN begins. -/
def poolEntry (s : State) : State :=
  ((List.range 8).filter (fun c => classF s c BeadClass.VALID == 1)).foldl
    (fun t c => (List.range 8).foldl (fun t k => classEntry t c k) t) { s with pool := PoolSt.reset }

/-- R215: the entries of REMAP_LIST installed, each stack's in their order; a later entry for a row replaces an earlier one. -/
def remapInstall (s : State) : State :=
  let rowKey := fun (e : Nat) => (getF e RemapEnt.STACK, getF e RemapEnt.CHANNEL_PAIR, getF e RemapEnt.BANK, getF e RemapEnt.ROW)
  let l := (remapListed s).map Prod.snd
  let kept := l.foldl (fun (a : List Nat) e =>
    if a.any (fun x => rowKey x == rowKey e) then a.map (fun x => if rowKey x == rowKey e then e else x) else a ++ [e]) []
  (List.range 8).foldl (fun t k => odPuts t OD.REMAP_TABLE (k * 65536) (kept.filter (fun e => getF e RemapEnt.STACK == k)))
    (odClear s OD.REMAP_TABLE)

/-- R417: memory's own state as RUN begins: REMAP_LIST, disturbance counts, correction tracker, scrub pointers; window memory,
accumulators and setting SRAMs zero; instruction buffers and the tray read cache empty. -/
def memoryEntry (s : State) : State :=
  let half := od s OD.ACT_THRESHOLD / 2
  let s := odClear (remapInstall s) OD.SCRUB_POINTER
  let s := codeZero (memZero s (windowBase 0) (200 * 0x200000)) (sramBase 0) (8 * 0x800000)
  { s with mc := { s.mc with acts := (List.range 4096).map (fun b => (b, half)), tracker := [], remapQueue := [], samples := [], sampleTick := 0 },
           acc := [], cores := [], fab := { s.fab with trc := [] }, ft := { s.ft with patterned := [] } }

/-- R417, R419, R432: budgets, clocks, clasp records, built tables, wickets, health and audits as RUN begins. -/
def historyEntry (s : State) : State :=
  let s := [OD.TENANT_LEDGER, OD.TENANT_VCLOCK, OD.CLASP_RECORDS, OD.CODEC_RATIO, OD.AUDIT_RESULTS, OD.PEER_SUSPECT,
    OD.GRANULE_MAP].foldl odClear s
  let s := windowOpen ((s.net.wicket.map Prod.fst).foldl wicketReset s)
  { s with rows := { s.rows with bal := [], resv := [], ready := [], refusedBy := [], clasp := [] },
           net := { s.net with codec := ⟨[], [], [], [], [], [], []⟩, wicketClk := s.clk,
                               qps := s.net.qps.map (fun p => (p.1, { p.2 with deficit := 0 })) } }

/-- R418: a member of the coherence domain begins in RESETTING with epoch 0. -/
def domainEntry (s : State) : State := if bitOf (od s OD.COH_MEMBERS) (ownSlot s) then cohReset s 0 else s

/-- R417: every mechanism in its cold state. -/
def coldEntry (s : State) : State :=
  domainEntry (poolEntry (locketClear (ledgerEntry (historyEntry (memoryEntry s)))))

/-- Is entry to RUN due at the next tick (R379): a slot waits and the tick is LOCKED? -/
def entryDue (s : State) : Bool := inConfig s && od s OD.RUN_STATUS == 1 && od s OD.TICK_STATE == 2

/-- The undefined case that entry to RUN would be: U10, areas that overlap; or one an overlay record meets. -/
def entryUndef (s : State) : Nat :=
  if areasClash (layoutAreas s) then 10 else overlayUndef (overlayRecords s s.dct.runSlot) s

/-- R379: the tick at which RUN is entered: the slot's overlay applies, every mechanism takes its cold state, and the entry frame runs the
cyclic section. -/
def runEntry (s : State) (acts : List PlanAct) : State :=
  let first := s.frm.numberNext
  let s := overlayEffect (numberStep s) s.dct.runSlot
  let s := odSet (odSet s OD.DEVICE_STATE 2) OD.RUN_STATUS 2
  let s := qpOpen (odSet s OD.QP_FUNCTIONS_OPEN 0) (fnList (roleFunctions (role s)))
  let s := mapInstall (coldEntry (qpBoundary s))
  let cyc := cyclicSection s
  let h := mkRec [(TableHdr.FRAME, frameNo s), (TableHdr.STEP_COUNT, cyc.length), (TableHdr.CYCLIC_COUNT, cyc.length),
    (TableHdr.PERIOD_CLK, od s OD.FRAME_PERIOD_CLK), (TableHdr.MAP_EPOCH, mapEpoch s OD.MAP_CURRENT)]
  let f := { s.frm with
    curHdr := h, curSteps := cyc.zipIdx.map (fun p => (p.2, p.1)), nextHdr := 0, nextSteps := [], mode := .entry,
    fencedAtSeal := [], fencedNext := [], slotState := [], events := [], arrivals := [], draining := false, applying := false }
  frameBegin { s with frm := f } first acts

/-! The tick (R26, R27). -/

/-- May frames resume as the device leaves IDLE (R359): the tick is LOCKED and the first table sealed? -/
def resumeDue (s : State) : Bool := od s OD.POWER_STATE == 3 && od s OD.TICK_STATE == 2 && s.en.exitSealed

/-- A tick taken. In RUN a frame ends and the next begins, unless the device becomes IDLE; in CONFIG frames are counted, and RUN is
entered where that is due. -/
def boundary (s : State) (acts : List PlanAct) : State :=
  if framesRun s then
    let t := idleTry (frameEnd s) (frameNo s)
    if od t OD.POWER_STATE = 2 then t else frameStart t acts
  else if inRun s && resumeDue s then frameStart (odSet s OD.POWER_STATE 0) acts
  else if entryDue s then runEntry s acts
  else if (inRun s || inConfig s) && od s OD.POWER_STATE != 2 then idleTick s
  else s

/-- A tick's answer: the undefined case where it would be one. -/
def tickRes (s t : State) (acts : List PlanAct) : Res :=
  if entryDue t ∧ entryUndef t ≠ 0 then .fault (.undefinedCase (entryUndef t)) else answer s (boundary t acts)

/-- R27, R28: a tick counted in LOCKING: the sixteenth in a row adopts the phase; the frame master is then LOCKED, and in CONFIG numbers
its next frame with FRAME_START. -/
def lockCountTick (s : State) : State :=
  let n := s.frm.lockCount + 1
  let s := { s with frm := { s.frm with lockCount := n } }
  if 16 ≤ n then
    if od s OD.FRAME_MASTER = 1 then odSet { s with frm := { s.frm with numberNext := inConfig s } } OD.TICK_STATE 2
    else { s with frm := { s.frm with adopted := true } }
  else s

/-- R27: a tick `off` clk from the expected time lies within the capture window; in LOCKING the first tick opens it. -/
def tickWindow (s : State) (off : Int) : Bool :=
  decide (off.natAbs ≤ od s OD.TICK_CAPTURE_CLK) || (od s OD.TICK_STATE == 1 && s.frm.lockCount == 0)

/-- TICK_PHASE_NS: the offset of a tick from the expected time. -/
def phaseNote (s : State) (off : Int) : State := odSet s OD.TICK_PHASE_NS (ofInt 32 (off * 4 / 5))

/-- R27: the tick is LOCKED on the tick that has just come. -/
def tickCentre (s : State) (off : Int) : State :=
  let s := odSet (phaseNote s off) OD.TICK_STATE 2
  { s with frm := { s.frm with missed := 0, slipCount := 0 } }

/-- R239: how far a tick lies from the expected time [clk]: from the tick mark where the device takes its tick from a link that has sent
one, else as the capture of TICK_IN measured it. -/
def tickOffset (s : State) (off : Int) : Int :=
  match s.frm.markTick with
  | some t => if od s OD.TICK_SOURCE = 1 then t / 80 - (s.frm.tickClk + getF s.frm.curHdr TableHdr.PERIOD_CLK) else off
  | none => off

/-- The tick mark has been used. -/
def markDone (s : State) : State := { s with frm := { s.frm with markTick := none } }

/-- R28: the first internal tick: the device is LOCKED at once, and in CONFIG numbers the frame that this tick begins with FRAME_START. -/
def internalFirst (s : State) (off : Int) : State :=
  odSet { phaseNote s off with frm := { s.frm with lockCount := 1, numberNext := inConfig s } } OD.TICK_STATE 2

/-- TICK (R26, R27): a tick within the window, `x` clk from the expected time as captured. `acts` are the planner's decisions of the frame
that begins. -/
def execTick (x : Int) (acts : List PlanAct) (s : State) : Res :=
  let off := tickOffset s x
  if tickWindow s off = false ∨ od s OD.TICK_STATE = 0 then answer s s
  else if od s OD.TICK_STATE = 1 then
    if od s OD.TICK_SOURCE = 2 then tickRes s (internalFirst s off) acts
    else answer s (lockCountTick (boundary (phaseNote (markDone s) off) acts))
  else tickRes s (tickCentre (markDone s) off) acts

/-- R27: the `n`th slip in a row at one phase counted. -/
def slipNote (s : State) (off : Int) (n : Nat) : State :=
  let t := odInc (phaseNote s off) OD.TICK_SLIPS
  { t with frm := { t.frm with slipCount := n, slipPhase := off } }

/-- TICK_OUT_OF_WINDOW (R27): in LOCKING the count starts again with this tick; later it is a slip, and the third in a row at one phase
ends the frame and is the new phase. -/
def execTickOutOfWindow (x : Int) (acts : List PlanAct) (s0 : State) : Res :=
  let off := tickOffset s0 x
  let s := markDone s0
  if tickWindow s off = true ∨ od s OD.TICK_STATE = 0 then answer s s0
  else if od s OD.TICK_STATE = 1 then
    answer s (boundary { phaseNote s off with frm := { s.frm with lockCount := 1, adopted := false } } acts)
  else
    let same := 0 < s.frm.slipCount ∧ (off - s.frm.slipPhase).natAbs ≤ od s OD.TICK_CAPTURE_CLK
    let n := if same then s.frm.slipCount + 1 else 1
    let t := slipNote s off n
    if n < 3 then answer s t else tickRes s (tickCentre t off) acts

/-- R27: a tick the device generates itself counted: HOLDOVER, unless the tick is lost. -/
def holdoverNote (s : State) : State :=
  let t := if od s OD.TICK_STATE = 0 then s else odSet s OD.TICK_STATE 3
  odInc { t with frm := { t.frm with missed := t.frm.missed + 1 } } OD.HOLDOVER_FRAMES

/-- HOLDOVER_TICK (R27): no tick came by the end of the window: the device generates it; a device that has lost its tick runs on so. -/
def execHoldoverTick (acts : List PlanAct) (s : State) : Res :=
  if od s OD.TICK_SOURCE = 2 ∨ od s OD.TICK_STATE = 1 ∨ (od s OD.TICK_STATE = 0 ∧ inRun s = false) then answer s s
  else tickRes s (holdoverNote s) acts

/-- RUN_ENTRY (R379): the tick after the lock. -/
def execRunEntry (acts : List PlanAct) (s : State) : Res :=
  if entryDue s then tickRes s s acts else answer s s

/-! The seal (R34). -/

/-- May the table for the next frame be sealed now: at the seal clock, or as the device leaves IDLE with its tick LOCKED? -/
def sealDue (s : State) : Bool :=
  getF s.frm.nextHdr TableHdr.SEALED == 0
  && ((framesRun s && decide (getF s.frm.curHdr TableHdr.PERIOD_CLK ≤ frameClk s + od s OD.SEAL_MARGIN_CLK))
      || (inRun s && od s OD.POWER_STATE == 3 && od s OD.TICK_STATE == 2))

/-- What is fenced or under test now: cores, engines, regions, links (R36). -/
def fencedNames (s : State) : List Nat :=
  ((List.range 200).map (unitKey 1) ++ (List.range 8).map (unitKey 2) ++ (List.range 1024).map (regionName 0)
    ++ (List.range 64).map linkName).filter (nameFenced s)

/-- The planner's build, but for the table: its decisions, then what chapters 06, 07, 10, 17 and 21 assign to a build. -/
def buildPlan (s : State) (acts : List PlanAct) (period : Nat) : State :=
  let s := retainBuild (verifyBuild (planActs s acts))
  let s := engineBuild (suspectBuild (promoteBuild s))
  rowsBuild (claspBuild (containBuild (ledgerSeal s period)))

/-- R30: the planned section's slots, up to STEP_COUNT. -/
def plannedSlots (hdr : Nat) (planned : List Nat) (cyc : Nat) : KMap Nat :=
  (List.range (min (getF hdr TableHdr.STEP_COUNT - cyc) (4096 - cyc))).map (fun i => (cyc + i, planned.getD i 0))

/-- R35: the planner has placed steps in the table for the next frame and has not sealed it. -/
def tableLeft (s : State) (hdr : Nat) (planned : List Nat) (cyc : Nat) : State :=
  { s with frm := { s.frm with nextHdr := setFs 0 [(TableHdr.STEP_COUNT, getF hdr TableHdr.STEP_COUNT), (TableHdr.CYCLIC_COUNT, cyc)],
                               nextSteps := plannedSlots hdr planned cyc } }

/-- R30, R34, R382: the table sealed: STEP_COUNT and PRICE_TOTAL are the planner's, but for steps that the rules do not permit, which are
left out; an overlay whose drain is done, or that an earlier table could not apply, is named. -/
def sealTable (s : State) (hdr : Nat) (listed : List Nat) (cyc period : Nat) : State :=
  let apply := ((od s OD.SWITCH_STATE == 3 && !s.frm.applying) || od s OD.SWITCH_STATE == 2) && switchDrained s
  let steps := listed.take (getF hdr TableHdr.STEP_COUNT - cyc)
  let planned := planFilter s steps [] steps
  let count := getF hdr TableHdr.STEP_COUNT - (steps.length - planned.length)
  let hdr := setF hdr TableHdr.STEP_COUNT count
  let s := buildEnd s planned
  let slot := s.dct.switchSlot
  let h := mkRec [(TableHdr.FRAME, (frameNo s + 1) % 2 ^ 32), (TableHdr.STEP_COUNT, count), (TableHdr.CYCLIC_COUNT, cyc),
    (TableHdr.SEALED, 1), (TableHdr.PERIOD_CLK, period), (TableHdr.PRICE_TOTAL, getF hdr TableHdr.PRICE_TOTAL),
    (TableHdr.MAP_EPOCH, mapEpoch s OD.MAP_CURRENT), (TableHdr.OVERLAY_APPLY, b2n apply),
    (TableHdr.OVERLAY_SLOT, if apply then slot else 0), (TableHdr.OVERLAY_ENTRIES, if apply then (overlayRecords s slot).length else 0)]
  let s := if apply then odSet s OD.SWITCH_STATE 3 else s
  { s with frm := { s.frm with nextHdr := h, nextSteps := plannedSlots hdr planned cyc, fencedNext := fencedNames s },
           dct := { s.dct with rwfSealed := s.dct.rwfSealed ++ s.dct.rwf, rwf := [] },
           en := { s.en with exitSealed := od s OD.POWER_STATE == 3 } }

/-- TABLE_SEAL (R34, R35): at the seal clock the planner seals the table for the next frame: `hdr` gives STEP_COUNT, PRICE_TOTAL and
SEALED, `planned` the planned section. With SEALED clear it has placed its steps and not finished the table. -/
def execTableSeal (hdr : Nat) (planned : List Nat) (acts : List PlanAct) (s : State) : Res :=
  answer s (
    if sealDue s then
      let f := future s
      let period := od f OD.FRAME_PERIOD_CLK
      if getF hdr TableHdr.SEALED = 0 then tableLeft s hdr planned (od f OD.CYCLIC_COUNT)
      else sealTable (buildPlan s acts period) hdr planned (od f OD.CYCLIC_COUNT) period
    else s)

/-! The end of an overlay apply (R382 to R384). -/

/-- R384: the held writes taken in order, each answered now; an undefined case ends them. -/
def releaseHeld : List DictWr → State → State × Nat
  | [], s => (s, 0)
  | w :: t, s =>
    let d := serveWrite s w
    if d.undef ≠ 0 then (s, d.undef)
    else releaseHeld t (answerReach (noteAnswer d.st d) w.reach (writeHeader w) d)

/-- Has the apply run T_apply (R46)? -/
def applyDone (s : State) : Bool :=
  s.frm.applying && decide (s.frm.applyFrom + 64 + 2 * getF s.frm.curHdr TableHdr.OVERLAY_ENTRIES ≤ s.clk)

/-- R382: the overlay in force: its values, role and functions. -/
def applyEffect (s : State) : State :=
  let s := overlayEffect s s.dct.switchSlot
  let s := qpOpen s ((fnList (roleFunctions (role s))).filter (fun f => !bitOf (od s OD.QP_FUNCTIONS_OPEN) f))
  let s := odSet s OD.SWITCH_STATE 0
  { s with frm := { s.frm with applying := false }, rows := { s.rows with closing := 0 }, dct := { s.dct with held := [] } }

/-- OVERLAY_APPLY_COMPLETE (R382, R384). -/
def execOverlayApplyComplete (s : State) : Res :=
  if applyDone s then
    let u := overlayUndef (overlayRecords s s.dct.switchSlot) s
    let r := releaseHeld s.dct.held (applyEffect s)
    if u ≠ 0 then .fault (.undefinedCase u)
    else if r.2 ≠ 0 then .fault (.undefinedCase r.2)
    else answer s r.1
  else answer s s

end Sys2Proof.Machine
end

