-- ==== Sys2Proof/Machine/Dispatch.lean ====
section
/-! DEFINITION. What each command does: one direct call of its meaning, arm by arm.
Choices of the model here, by the assumption log: log 10 (DESIGN CHOICE). -/

namespace Sys2Proof.Machine

/-- The effect of a command on everything but the queue. -/
def exec (i : Instr) (s : State) : Host.Outcome State Fault Refusal :=
  match i with
  | .tick off acts => Sys2Proof.Machine.execTick off acts s
  | .tickSourceEnable => Sys2Proof.Machine.execTickSourceEnable s
  | .tickOutOfWindow off acts => Sys2Proof.Machine.execTickOutOfWindow off acts s
  | .holdoverTick acts => Sys2Proof.Machine.execHoldoverTick acts s
  | .tickLost => Sys2Proof.Machine.execTickLost s
  | .frameSync frame periodClk => Sys2Proof.Machine.execFrameSync frame periodClk s
  | .tickMessage link frame => Sys2Proof.Machine.execTickMessage link frame s
  | .tableSeal hdr planned acts => Sys2Proof.Machine.execTableSeal hdr planned acts s
  | .stepIssue => Sys2Proof.Machine.execStepIssue s
  | .drainEnd => Sys2Proof.Machine.execDrainEnd s
  | .drainWatchdog unit => Sys2Proof.Machine.execDrainWatchdog unit s
  | .seqPost => Sys2Proof.Machine.execSeqPost s
  | .barrier => Sys2Proof.Machine.execBarrier s
  | .barrierArrive slot frame => Sys2Proof.Machine.execBarrierArrive slot frame s
  | .vc0Request port => Sys2Proof.Machine.execVc0Request port s
  | .vc0Grant port => Sys2Proof.Machine.execVc0Grant port s
  | .vc0RequestReceive fromDev frame recs => Sys2Proof.Machine.execVc0RequestReceive fromDev frame recs s
  | .vc0GrantReceive fromDev frame recs => Sys2Proof.Machine.execVc0GrantReceive fromDev frame recs s
  | .vc0GrantDeadline => Sys2Proof.Machine.execVc0GrantDeadline s
  | .ctx core => Sys2Proof.Machine.execCtx core s
  | .overlayApplyComplete => Sys2Proof.Machine.execOverlayApplyComplete s
  | .run core => Sys2Proof.Machine.execRun core s
  | .nop core => Sys2Proof.Machine.execNop core s
  | .endOp core => Sys2Proof.Machine.execEndOp core s
  | .loop core => Sys2Proof.Machine.execLoop core s
  | .setad core => Sys2Proof.Machine.execSetad core s
  | .addad core => Sys2Proof.Machine.execAddad core s
  | .addp core => Sys2Proof.Machine.execAddp core s
  | .movpa core => Sys2Proof.Machine.execMovpa core s
  | .evtPost core => Sys2Proof.Machine.execEvtPost core s
  | .evtWait core => Sys2Proof.Machine.execEvtWait core s
  | .evtWaitExpire core => Sys2Proof.Machine.execEvtWaitExpire core s
  | .fenceOp core => Sys2Proof.Machine.execFenceOp core s
  | .wload core => Sys2Proof.Machine.execWload core s
  | .wstore core => Sys2Proof.Machine.execWstore core s
  | .wcopy core => Sys2Proof.Machine.execWcopy core s
  | .transp core => Sys2Proof.Machine.execTransp core s
  | .mmaOp core => Sys2Proof.Machine.execMmaOp core s
  | .mmat core => Sys2Proof.Machine.execMmat core s
  | .vadd core => Sys2Proof.Machine.execVadd core s
  | .vsub core => Sys2Proof.Machine.execVsub core s
  | .vmul core => Sys2Proof.Machine.execVmul core s
  | .vfma core => Sys2Proof.Machine.execVfma core s
  | .vmax core => Sys2Proof.Machine.execVmax core s
  | .vmin core => Sys2Proof.Machine.execVmin core s
  | .vaff core => Sys2Proof.Machine.execVaff core s
  | .vrowsub core => Sys2Proof.Machine.execVrowsub core s
  | .vrowmul core => Sys2Proof.Machine.execVrowmul core s
  | .rsum core => Sys2Proof.Machine.execRsum core s
  | .rmax core => Sys2Proof.Machine.execRmax core s
  | .rmin core => Sys2Proof.Machine.execRmin core s
  | .rssq core => Sys2Proof.Machine.execRssq core s
  | .sfn core => Sys2Proof.Machine.execSfn core s
  | .idxbuild core => Sys2Proof.Machine.execIdxbuild core s
  | .gather core => Sys2Proof.Machine.execGather core s
  | .gatherw core => Sys2Proof.Machine.execGatherw core s
  | .scatter core => Sys2Proof.Machine.execScatter core s
  | .topk core => Sys2Proof.Machine.execTopk core s
  | .quant core => Sys2Proof.Machine.execQuant core s
  | .dequant core => Sys2Proof.Machine.execDequant core s
  | .creduce core => Sys2Proof.Machine.execCreduce core s
  | .asyncOpComplete core k => Sys2Proof.Machine.execAsyncOpComplete core k s
  | .coreStepComplete core => Sys2Proof.Machine.execCoreStepComplete core s
  | .coreCheckFail core block => Sys2Proof.Machine.execCoreCheckFail core block s
  | .attend k => Sys2Proof.Machine.execAttend k s
  | .append k => Sys2Proof.Machine.execAppend k s
  | .copy k => Sys2Proof.Machine.execCopy k s
  | .gfcomb k => Sys2Proof.Machine.execGfcomb k s
  | .beadClearUnit cls stack => Sys2Proof.Machine.execBeadClearUnit cls stack s
  | .alloc cls stack n o0 row tenant => Sys2Proof.Machine.execAlloc cls stack n o0 row tenant s
  | .ref b gen => Sys2Proof.Machine.execRef b gen s
  | .unref b => Sys2Proof.Machine.execUnref b s
  | .shard b => Sys2Proof.Machine.execShard b s
  | .audit cls stack => Sys2Proof.Machine.execAudit cls stack s
  | .auditReq r tag off data => Sys2Proof.Machine.execAuditReq r tag off data s
  | .auditWalkDone cls stack => Sys2Proof.Machine.execAuditWalkDone cls stack s
  | .admissionRecord q msg place => Sys2Proof.Machine.execAdmissionRecord q msg place s
  | .cancel q rid => Sys2Proof.Machine.execCancel q rid s
  | .continue q rid toks => Sys2Proof.Machine.execContinue q rid toks s
  | .close q rid => Sys2Proof.Machine.execClose q rid s
  | .suspend r tag row => Sys2Proof.Machine.execSuspend r tag row s
  | .resume r tag row => Sys2Proof.Machine.execResume r tag row s
  | .deadlineMiss r => Sys2Proof.Machine.execDeadlineMiss r s
  | .parkIdle r area => Sys2Proof.Machine.execParkIdle r area s
  | .holdLimit r => Sys2Proof.Machine.execHoldLimit r s
  | .rowCompletion r => Sys2Proof.Machine.execRowCompletion r s
  | .modelSlots r tag off data => Sys2Proof.Machine.execModelSlots r tag off data s
  | .adapterLoad r tag off data => Sys2Proof.Machine.execAdapterLoad r tag off data s
  | .adapterCommit r tag off data => Sys2Proof.Machine.execAdapterCommit r tag off data s
  | .select lane => Sys2Proof.Machine.execSelect lane s
  | .grammars r tag off data => Sys2Proof.Machine.execGrammars r tag off data s
  | .offer m place land pull => Sys2Proof.Machine.execOffer m place land pull s
  | .accept m => Sys2Proof.Machine.execAccept m s
  | .refuse m => Sys2Proof.Machine.execRefuse m s
  | .take m => Sys2Proof.Machine.execTake m s
  | .released m => Sys2Proof.Machine.execReleased m s
  | .query m => Sys2Proof.Machine.execQuery m s
  | .abandoned m => Sys2Proof.Machine.execAbandoned m s
  | .claspResend c => Sys2Proof.Machine.execClaspResend c s
  | .claspQueryTimer c => Sys2Proof.Machine.execClaspQueryTimer c s
  | .claspStuck c => Sys2Proof.Machine.execClaspStuck c s
  | .claspNoData c => Sys2Proof.Machine.execClaspNoData c s
  | .commit => Sys2Proof.Machine.execCommit s
  | .peerLost r tag off data => Sys2Proof.Machine.execPeerLost r tag off data s
  | .mapNext r tag off data => Sys2Proof.Machine.execMapNext r tag off data s
  | .scrub k => Sys2Proof.Machine.execScrub k s
  | .remap k => Sys2Proof.Machine.execRemap k s
  | .migrate k => Sys2Proof.Machine.execMigrate k s
  | .refreshManagement k bank => Sys2Proof.Machine.execRefreshManagement k bank s
  | .linkEnableSet l => Sys2Proof.Machine.execLinkEnableSet l s
  | .linkEnableClear l => Sys2Proof.Machine.execLinkEnableClear l s
  | .linkTrained l part device slot link profile bufs occ freed delay => Sys2Proof.Machine.execLinkTrained l part device slot link profile bufs occ freed delay s
  | .trainingTimeout l => Sys2Proof.Machine.execTrainingTimeout l s
  | .groupAckTimeout l => Sys2Proof.Machine.execGroupAckTimeout l s
  | .fecLockLost l => Sys2Proof.Machine.execFecLockLost l s
  | .peerTrainingRecord l => Sys2Proof.Machine.execPeerTrainingRecord l s
  | .recoveryComplete l occ freed delay => Sys2Proof.Machine.execRecoveryComplete l occ freed delay s
  | .recoveryTimeout l => Sys2Proof.Machine.execRecoveryTimeout l s
  | .fenceLink v => Sys2Proof.Machine.execFenceLink v s
  | .flitGroupReceive l hdr descs data corrected uncorrected => Sys2Proof.Machine.execFlitGroupReceive l hdr descs data corrected uncorrected s
  | .chunkForward l => Sys2Proof.Machine.execChunkForward l s
  | .qpContexts r tag off data => Sys2Proof.Machine.execQpContexts r tag off data s
  | .qpDrained q => Sys2Proof.Machine.execQpDrained q s
  | .post port => Sys2Proof.Machine.execPost port s
  | .send q => Sys2Proof.Machine.execSend q s
  | .write q => Sys2Proof.Machine.execWrite q s
  | .read q => Sys2Proof.Machine.execRead q s
  | .fetchAdd q => Sys2Proof.Machine.execFetchAdd q s
  | .cmpSwap q => Sys2Proof.Machine.execCmpSwap q s
  | .sendPacket m => Sys2Proof.Machine.execSendPacket m s
  | .writePacket m => Sys2Proof.Machine.execWritePacket m s
  | .readReq m => Sys2Proof.Machine.execReadReq m s
  | .readResp m => Sys2Proof.Machine.execReadResp m s
  | .atomic m => Sys2Proof.Machine.execAtomic m s
  | .atomicResp m => Sys2Proof.Machine.execAtomicResp m s
  | .ack m => Sys2Proof.Machine.execAck m s
  | .nak m => Sys2Proof.Machine.execNak m s
  | .ackTimer q => Sys2Proof.Machine.execAckTimer q s
  | .qpTimeout q => Sys2Proof.Machine.execQpTimeout q s
  | .retryAfterResend q psn => Sys2Proof.Machine.execRetryAfterResend q psn s
  | .stallLimit q psn => Sys2Proof.Machine.execStallLimit q psn s
  | .pageResident q psn => Sys2Proof.Machine.execPageResident q psn s
  | .cqEntry cq => Sys2Proof.Machine.execCqEntry cq s
  | .mrRegister r tag off data => Sys2Proof.Machine.execMrRegister r tag off data s
  | .mrDeregister r tag off data => Sys2Proof.Machine.execMrDeregister r tag off data s
  | .wicketFill => Sys2Proof.Machine.execWicketFill s
  | .wickets r tag off data => Sys2Proof.Machine.execWickets r tag off data s
  | .trayRead m => Sys2Proof.Machine.execTrayRead m s
  | .trayWrite m => Sys2Proof.Machine.execTrayWrite m s
  | .trayAtomic m => Sys2Proof.Machine.execTrayAtomic m s
  | .trayReadResp m => Sys2Proof.Machine.execTrayReadResp m s
  | .trayWriteResp m => Sys2Proof.Machine.execTrayWriteResp m s
  | .trayAtomicResp m => Sys2Proof.Machine.execTrayAtomicResp m s
  | .trayTimeout tag => Sys2Proof.Machine.execTrayTimeout tag s
  | .traySlotDead r tag off data => Sys2Proof.Machine.execTraySlotDead r tag off data s
  | .trayMembers r tag off data => Sys2Proof.Machine.execTrayMembers r tag off data s
  | .trcInvalAll r tag off data => Sys2Proof.Machine.execTrcInvalAll r tag off data s
  | .fabricAtomic port => Sys2Proof.Machine.execFabricAtomic port s
  | .inval port => Sys2Proof.Machine.execInval port s
  | .getS m => Sys2Proof.Machine.execGetS m s
  | .getM m => Sys2Proof.Machine.execGetM m s
  | .putM m => Sys2Proof.Machine.execPutM m s
  | .putE m => Sys2Proof.Machine.execPutE m s
  | .fwdS m => Sys2Proof.Machine.execFwdS m s
  | .fwdM m => Sys2Proof.Machine.execFwdM m s
  | .inv m => Sys2Proof.Machine.execInv m s
  | .recall m => Sys2Proof.Machine.execRecall m s
  | .dataOp m => Sys2Proof.Machine.execDataOp m s
  | .dataE m => Sys2Proof.Machine.execDataE m s
  | .invAck m => Sys2Proof.Machine.execInvAck m s
  | .copyBack m => Sys2Proof.Machine.execCopyBack m s
  | .putAck m => Sys2Proof.Machine.execPutAck m s
  | .cohHoldEnd key => Sys2Proof.Machine.execCohHoldEnd key s
  | .cohTimeout line => Sys2Proof.Machine.execCohTimeout line s
  | .domainDown fromDev epoch => Sys2Proof.Machine.execDomainDown fromDev epoch s
  | .cohReset r tag off data => Sys2Proof.Machine.execCohReset r tag off data s
  | .cohReady fromDev epoch => Sys2Proof.Machine.execCohReady fromDev epoch s
  | .apertureTimeout id => Sys2Proof.Machine.execApertureTimeout id s
  | .dmaRun ch => Sys2Proof.Machine.execDmaRun ch s
  | .dmaResume ch => Sys2Proof.Machine.execDmaResume ch s
  | .dmaReset ch => Sys2Proof.Machine.execDmaReset ch s
  | .dmaTrigger ch n => Sys2Proof.Machine.execDmaTrigger ch n s
  | .triggerExpired ch => Sys2Proof.Machine.execTriggerExpired ch s
  | .dmaDescriptorComplete ch => Sys2Proof.Machine.execDmaDescriptorComplete ch s
  | .dmaErrorResponse ch => Sys2Proof.Machine.execDmaErrorResponse ch s
  | .channelPause ch v => Sys2Proof.Machine.execChannelPause ch v s
  | .dmaPauseComplete ch => Sys2Proof.Machine.execDmaPauseComplete ch s
  | .tableDef dev id gen lengths => Sys2Proof.Machine.execTableDef dev id gen lengths s
  | .tableAck dev id gen => Sys2Proof.Machine.execTableAck dev id gen s
  | .tableRefused dev id gen => Sys2Proof.Machine.execTableRefused dev id gen s
  | .tableDrop dev id gen => Sys2Proof.Machine.execTableDrop dev id gen s
  | .dropAck dev id gen => Sys2Proof.Machine.execDropAck dev id gen s
  | .tableBuild id => Sys2Proof.Machine.execTableBuild id s
  | .tableRebuild id => Sys2Proof.Machine.execTableRebuild id s
  | .tableDefResend dev id => Sys2Proof.Machine.execTableDefResend dev id s
  | .tableDropResend dev id => Sys2Proof.Machine.execTableDropResend dev id s
  | .tableRetire id => Sys2Proof.Machine.execTableRetire id s
  | .lookup b => Sys2Proof.Machine.execLookup b s
  | .insert b => Sys2Proof.Machine.execInsert b s
  | .locketWrite b => Sys2Proof.Machine.execLocketWrite b s
  | .remove b => Sys2Proof.Machine.execRemove b s
  | .prefixWalk b => Sys2Proof.Machine.execPrefixWalk b s
  | .locketScrub b => Sys2Proof.Machine.execLocketScrub b s
  | .directCommand u value => Sys2Proof.Machine.execDirectCommand u value s
  | .allowanceUj r tag off data => Sys2Proof.Machine.execAllowanceUj r tag off data s
  | .peakUj r tag off data => Sys2Proof.Machine.execPeakUj r tag off data s
  | .leaseExpiry => Sys2Proof.Machine.execLeaseExpiry s
  | .idleRequest r tag => Sys2Proof.Machine.execIdleRequest r tag s
  | .idleDrainTimeout => Sys2Proof.Machine.execIdleDrainTimeout s
  | .activeRequest r tag => Sys2Proof.Machine.execActiveRequest r tag s
  | .dormantRequest r tag => Sys2Proof.Machine.execDormantRequest r tag s
  | .wakeN => Sys2Proof.Machine.execWakeN s
  | .doorbell m req data => Sys2Proof.Machine.execDoorbell m req data s
  | .dictWrite r tag entry off data => Sys2Proof.Machine.execDictWrite r tag entry off data s
  | .dictInfo r tag entry => Sys2Proof.Machine.execDictInfo r tag entry s
  | .dictRequest fromDev data => Sys2Proof.Machine.execDictRequest fromDev data s
  | .dictResponse fromDev data => Sys2Proof.Machine.execDictResponse fromDev data s
  | .entdaa addr => Sys2Proof.Machine.execEntdaa addr s
  | .setEndpointId eid => Sys2Proof.Machine.execSetEndpointId eid s
  | .getEndpointId => Sys2Proof.Machine.execGetEndpointId s
  | .getMctpVersionSupport => Sys2Proof.Machine.execGetMctpVersionSupport s
  | .getMessageTypeSupport => Sys2Proof.Machine.execGetMessageTypeSupport s
  | .baseImage r tag off data => Sys2Proof.Machine.execBaseImage r tag off data s
  | .cyclicSteps r tag off data => Sys2Proof.Machine.execCyclicSteps r tag off data s
  | .progImage r tag off data => Sys2Proof.Machine.execProgImage r tag off data s
  | .overlayLoad r tag off data => Sys2Proof.Machine.execOverlayLoad r tag off data s
  | .overlayErase r tag off data => Sys2Proof.Machine.execOverlayErase r tag off data s
  | .overlayRequest r tag off data => Sys2Proof.Machine.execOverlayRequest r tag off data s
  | .switchLimit => Sys2Proof.Machine.execSwitchLimit s
  | .runRequest r tag off data => Sys2Proof.Machine.execRunRequest r tag off data s
  | .runEntry acts => Sys2Proof.Machine.execRunEntry acts s
  | .alertClear r tag off data => Sys2Proof.Machine.execAlertClear r tag off data s
  | .bar2Window r tag off data => Sys2Proof.Machine.execBar2Window r tag off data s
  | .bootRomStart a b => Sys2Proof.Machine.execBootRomStart a b s
  | .firstStageLoad plannerA plannerB base failed => Sys2Proof.Machine.execFirstStageLoad plannerA plannerB base failed s
  | .bootCommit r tag off data => Sys2Proof.Machine.execBootCommit r tag off data s
  | .svnCommit r tag off data => Sys2Proof.Machine.execSvnCommit r tag off data s
  | .debugUnlock r tag off data => Sys2Proof.Machine.execDebugUnlock r tag off data s
  | .keyInstall r tag off data => Sys2Proof.Machine.execKeyInstall r tag off data s
  | .keyRevoke r tag off data => Sys2Proof.Machine.execKeyRevoke r tag off data s
  | .attestRequest r tag off data => Sys2Proof.Machine.execAttestRequest r tag off data s
  | .attestSigned => Sys2Proof.Machine.execAttestSigned s
  | .getVersion => Sys2Proof.Machine.execGetVersion s
  | .getCapabilities => Sys2Proof.Machine.execGetCapabilities s
  | .negotiateAlgorithms asym hash => Sys2Proof.Machine.execNegotiateAlgorithms asym hash s
  | .getDigests chain0 chain1 => Sys2Proof.Machine.execGetDigests chain0 chain1 s
  | .getCertificate slot off len chain => Sys2Proof.Machine.execGetCertificate slot off len chain s
  | .challenge slot nonce chain => Sys2Proof.Machine.execChallenge slot nonce chain s
  | .getMeasurements index nonce => Sys2Proof.Machine.execGetMeasurements index nonce s
  | .chunkGet => Sys2Proof.Machine.execChunkGet s
  | .spdmUnsupportedRequest => Sys2Proof.Machine.execSpdmUnsupportedRequest s
  | .partitionCreate r tag off data => Sys2Proof.Machine.execPartitionCreate r tag off data s
  | .partitionRelease r tag off data => Sys2Proof.Machine.execPartitionRelease r tag off data s
  | .partitionErased idx => Sys2Proof.Machine.execPartitionErased idx s
  | .auditRequest r tag off data => Sys2Proof.Machine.execAuditRequest r tag off data s
  | .auditDone => Sys2Proof.Machine.execAuditDone s
  | .slice block => Sys2Proof.Machine.execSlice block s
  | .engineCheckFail k => Sys2Proof.Machine.execEngineCheckFail k s
  | .fenceRegion r tag off data => Sys2Proof.Machine.execFenceRegion r tag off data s
  | .healthWindowClose => Sys2Proof.Machine.execHealthWindowClose s
  | .derateEnter r tag => Sys2Proof.Machine.execDerateEnter r tag s
  | .derateLeave r tag => Sys2Proof.Machine.execDerateLeave r tag s
  | .fenceCommand r tag off data => Sys2Proof.Machine.execFenceCommand r tag off data s
  | .expelled fromDev => Sys2Proof.Machine.execExpelled fromDev s
  | .expelDrainEnd => Sys2Proof.Machine.execExpelDrainEnd s
  | .fatalError cause detail => Sys2Proof.Machine.execFatalError cause detail s
  | .shardOffer dev msg => Sys2Proof.Machine.execShardOffer dev msg s
  | .shardGrant dev msg => Sys2Proof.Machine.execShardGrant dev msg s
  | .shardSeal dev msg => Sys2Proof.Machine.execShardSeal dev msg s
  | .shardHeld dev msg => Sys2Proof.Machine.execShardHeld dev msg s
  | .shardFree dev msg => Sys2Proof.Machine.execShardFree dev msg s
  | .shardFreed dev msg => Sys2Proof.Machine.execShardFreed dev msg s
  | .coldBoot => Sys2Proof.Machine.execColdBoot s
  | .pwrGoodRelease straps => Sys2Proof.Machine.execPwrGoodRelease straps s
  | .configEntry base overlays => Sys2Proof.Machine.execConfigEntry base overlays s
  | .perstN => Sys2Proof.Machine.execPerstN s
  | .hotReset => Sys2Proof.Machine.execHotReset s
  | .functionLevelReset => Sys2Proof.Machine.execFunctionLevelReset s
  | .hostLinkDown => Sys2Proof.Machine.execHostLinkDown s
  | .bar2Read tag off n => Sys2Proof.Machine.execBar2Read tag off n s
  | .bar2Write off data => Sys2Proof.Machine.execBar2Write off data s
  | .thermtrip => Sys2Proof.Machine.execThermtrip s
  | .p48vOutOfRange => Sys2Proof.Machine.execP48vOutOfRange s
  | .flitGroupSend l => Sys2Proof.Machine.execFlitGroupSend l s
  | .temperatureSample sensor value => Sys2Proof.Machine.execTemperatureSample sensor value s
  | .p48vOutsideOperatingRange => Sys2Proof.Machine.execP48vOutsideOperatingRange s
  | .thermtripNRelease => Sys2Proof.Machine.execThermtripNRelease s
  | .perstNRise => Sys2Proof.Machine.execPerstNRise s
  | .hostLinkUp rate width flit => Sys2Proof.Machine.execHostLinkUp rate width flit s
  | .configurationWrite reg v => Sys2Proof.Machine.execConfigurationWrite reg v s
  | .msiXTableWrite vector value => Sys2Proof.Machine.execMsiXTableWrite vector value s
  | .unsupportedRequest tag => Sys2Proof.Machine.execUnsupportedRequest tag s

end Sys2Proof.Machine
end

