-- ==== Sys2Proof/Machine/Step.lean ====
section
/-! DEFINITION. One step of the block: the command at the front of the queue is carried out; with none waiting, one core clock passes.
Choices of the model here, by the assumption log: log 1, 60 (DESIGN CHOICE). -/

namespace Sys2Proof.Machine

/-- An idle step: one core clock (R10), and nothing else. What a clock makes due is a command of its own. -/
def idle (s : State) : State := { s with clk := s.clk + 1 }

/-- The next step: the front command, with the queue's rest behind it. -/
def step (s : State) : Host.Outcome State Fault Refusal :=
  match s.pending with
  | [] => .next (idle s)
  | c :: rest => exec c { s with pending := rest }

/-- The state with the command that a word spells at the front of its queue: none is spelt by any word. -/
def State.withFetchWord (s : State) (nbits w : Nat) : State :=
  match decodeTableWord nbits w with
  | some c => { s with pending := c :: s.pending }
  | none => s

end Sys2Proof.Machine
end

