-- ==== Sys2Proof/WellFormed.lean ====
section
/-! DEFINITION. Which commands are well formed: every operand within the range the spec gives the thing it names. A command that is not
well formed names something the part does not have. -/

namespace Sys2Proof

open Machine (Reach Msg)

/-- R31: a unit key, class · 256 + index, of the unit class table. -/
def unitOf (u : Nat) : Bool :=
  let n := match u / 256 with
    | 1 => 200 | 2 => 8 | 3 => 256 | 4 => 256 | 5 => 16 | 6 => 4 | 7 => 32 | 8 => 1 | 9 => 8 | 10 => 1 | 11 => 4 | 12 => 1
    | _ => 0
  decide (u % 256 < n)

/-- A reach: one of 16 mailboxes (R372), a management-bus endpoint, a system device number (R375). -/
def reachOk : Reach → Bool
  | .mailbox m => decide (m < 16)
  | .bus e => decide (e < 256)
  | .fabric d => decide (d < 8192)

/-- A message: a virtual channel, a kind, the other end (a slot behind a switch: 8,192 + the slot), a header of its length. -/
def msgOk (m : Msg) : Bool :=
  decide (m.vc < 4) && decide (m.kind < 5) && decide (m.dest < 8192 + 32) && decide (m.hlen ≤ 64) && decide (m.hdr < 256 ^ m.hlen)
  && decide (m.tenant ≤ 4096)

/-- A place for a strand: none, a header and eight segments (R474), or eight segments. -/
def placeLen (l : List Nat) : Bool := l.length == 0 || l.length == 8 || l.length == 9

/-- A planner decision: rows, beads and addresses that exist. -/
def actOk : PlanAct → Bool
  | .put addr data => decide (addr + data.length ≤ 2 ^ 42)
  | .share row out place => decide (row < 32768) && decide (out < 2 ^ 42) && placeLen place
  | .plan row prov first place => decide (row < 32768) && decide (prov < 2 ^ 32) && decide (first < 2) && placeLen place
  | .cow row ord => decide (row < 32768) && decide (ord < 2 ^ 20)
  | .grow row place => decide (row < 32768) && placeLen place
  | .grown row => decide (row < 32768)
  | .back row => decide (row < 32768)
  | .register row ord => decide (row < 32768) && decide (ord < 2 ^ 20)
  | .evict entry => decide (entry < 65536)
  | .offer row purpose area => decide (row < 32768) && decide (purpose < 4) && decide (area < 2 ^ 42)
  | .short row stack area => decide (row < 32768) && decide (stack < 8) && decide (area < 2 ^ 42)
  | .code row => decide (row < 32768)
  | .place row group index => decide (row < 32768) && decide (group < 2 ^ 20) && decide (index < 16)
  | .whole row area => decide (row < 32768) && decide (area < 2 ^ 42)
  | .rebuild row group index => decide (row < 32768) && decide (group < 2 ^ 20) && decide (index < 16)
  | .lose row group index => decide (row < 32768) && decide (group < 2 ^ 20) && decide (index < 16)
  | .fail row => decide (row < 32768)
  | .vc1 qp priority quantum wicketEn wicket spray => decide (qp < 65536) && decide (priority < 8) && decide (quantum < 65536)
    && decide (wicketEn < 2) && decide (wicket < 4096) && decide (spray < 64)

/-- Is a command well formed? -/
def Instr.wf : Instr → Bool
  | .tick off acts => decide (-(2 ^ 29) ≤ off ∧ off < 2 ^ 29) && acts.all actOk
  | .tickSourceEnable => true
  | .tickOutOfWindow off acts => decide (-(2 ^ 29) ≤ off ∧ off < 2 ^ 29) && acts.all actOk
  | .holdoverTick acts => acts.all actOk
  | .tickLost => true
  | .frameSync frame periodClk => decide (frame < 2 ^ 32) && decide (periodClk < 2 ^ 20)
  | .tickMessage link frame => decide (link < 64) && decide (frame < 2 ^ 32)
  | .tableSeal hdr planned acts => decide (hdr < 2 ^ 512) && planned.all (fun x => decide (x < 2 ^ 256)) && acts.all actOk
  | .stepIssue => true
  | .drainEnd => true
  | .drainWatchdog unit => unitOf unit
  | .seqPost => true
  | .barrier => true
  | .barrierArrive slot frame => decide (slot < 32) && decide (frame < 2 ^ 32)
  | .vc0Request port => decide (port < 16)
  | .vc0Grant port => decide (port < 16)
  | .vc0RequestReceive fromDev frame recs => decide (fromDev < 8192) && decide (frame < 2 ^ 32) && recs.all (fun x => decide (x < 2 ^ 64))
  | .vc0GrantReceive fromDev frame recs => decide (fromDev < 8192) && decide (frame < 2 ^ 32) && recs.all (fun x => decide (x < 2 ^ 64))
  | .vc0GrantDeadline => true
  | .ctx core => decide (core < 200)
  | .overlayApplyComplete => true
  | .run core => decide (core < 200)
  | .nop core => decide (core < 200)
  | .endOp core => decide (core < 200)
  | .loop core => decide (core < 200)
  | .setad core => decide (core < 200)
  | .addad core => decide (core < 200)
  | .addp core => decide (core < 200)
  | .movpa core => decide (core < 200)
  | .evtPost core => decide (core < 200)
  | .evtWait core => decide (core < 200)
  | .evtWaitExpire core => decide (core < 200)
  | .fenceOp core => decide (core < 200)
  | .wload core => decide (core < 200)
  | .wstore core => decide (core < 200)
  | .wcopy core => decide (core < 200)
  | .transp core => decide (core < 200)
  | .mmaOp core => decide (core < 200)
  | .mmat core => decide (core < 200)
  | .vadd core => decide (core < 200)
  | .vsub core => decide (core < 200)
  | .vmul core => decide (core < 200)
  | .vfma core => decide (core < 200)
  | .vmax core => decide (core < 200)
  | .vmin core => decide (core < 200)
  | .vaff core => decide (core < 200)
  | .vrowsub core => decide (core < 200)
  | .vrowmul core => decide (core < 200)
  | .rsum core => decide (core < 200)
  | .rmax core => decide (core < 200)
  | .rmin core => decide (core < 200)
  | .rssq core => decide (core < 200)
  | .sfn core => decide (core < 200)
  | .idxbuild core => decide (core < 200)
  | .gather core => decide (core < 200)
  | .gatherw core => decide (core < 200)
  | .scatter core => decide (core < 200)
  | .topk core => decide (core < 200)
  | .quant core => decide (core < 200)
  | .dequant core => decide (core < 200)
  | .creduce core => decide (core < 200)
  | .asyncOpComplete core _ => decide (core < 200)
  | .coreStepComplete core => decide (core < 200)
  | .coreCheckFail core block => decide (core < 200) && decide (block < 256)
  | .attend k => decide (k < 8)
  | .append k => decide (k < 8)
  | .copy k => decide (k < 8)
  | .gfcomb k => decide (k < 8)
  | .beadClearUnit cls stack => decide (cls < 8) && decide (stack < 8)
  | .alloc cls stack n o0 row tenant => decide (cls < 8) && decide (stack < 8) && decide (n ≤ 4096) && decide (o0 < 2 ^ 20) && decide (row < 32768) && decide (tenant < 4096)
  | .ref b gen => decide (b < 2 ^ 24) && decide (gen < 256)
  | .unref b => decide (b < 2 ^ 24)
  | .shard b => decide (b < 2 ^ 24)
  | .audit cls stack => decide (cls < 8) && decide (stack < 8)
  | .auditReq r tag off data => reachOk r && decide (tag < 2 ^ 16) && decide (off < 2 ^ 32) && decide (data.length ≤ 2 ^ 27)
  | .auditWalkDone cls stack => decide (cls < 8) && decide (stack < 8)
  | .admissionRecord q msg place => decide (q < 65536) && decide (msg.length ≤ 2 ^ 27) && placeLen place
  | .cancel q rid => decide (q < 65536) && decide (rid < 2 ^ 64)
  | .continue q rid toks => decide (q < 65536) && decide (rid < 2 ^ 64) && toks.all (fun x => decide (x < 2 ^ 32))
  | .close q rid => decide (q < 65536) && decide (rid < 2 ^ 64)
  | .suspend r tag row => reachOk r && decide (tag < 2 ^ 16) && decide (row < 32768)
  | .resume r tag row => reachOk r && decide (tag < 2 ^ 16) && decide (row < 32768)
  | .deadlineMiss r => decide (r < 32768)
  | .parkIdle r area => decide (r < 32768) && decide (area < 2 ^ 42)
  | .holdLimit r => decide (r < 32768)
  | .rowCompletion r => decide (r < 32768)
  | .modelSlots r tag off data => reachOk r && decide (tag < 2 ^ 16) && decide (off < 2 ^ 32) && decide (data.length ≤ 2 ^ 27)
  | .adapterLoad r tag off data => reachOk r && decide (tag < 2 ^ 16) && decide (off < 2 ^ 32) && decide (data.length ≤ 2 ^ 27)
  | .adapterCommit r tag off data => reachOk r && decide (tag < 2 ^ 16) && decide (off < 2 ^ 32) && decide (data.length ≤ 2 ^ 27)
  | .select lane => decide (lane < 4)
  | .grammars r tag off data => reachOk r && decide (tag < 2 ^ 16) && decide (off < 2 ^ 32) && decide (data.length ≤ 2 ^ 27)
  | .offer m place land pull => msgOk m && placeLen place && decide (land < 2 ^ 42) && decide (pull.1 < 2 ^ 64) && decide (pull.2 < 64)
  | .accept m => msgOk m
  | .refuse m => msgOk m
  | .take m => msgOk m
  | .released m => msgOk m
  | .query m => msgOk m
  | .abandoned m => msgOk m
  | .claspResend c => decide (c < 2048)
  | .claspQueryTimer c => decide (c < 2048)
  | .claspStuck c => decide (c < 2048)
  | .claspNoData c => decide (c < 2048)
  | .commit => true
  | .peerLost r tag off data => reachOk r && decide (tag < 2 ^ 16) && decide (off < 2 ^ 32) && decide (data.length ≤ 2 ^ 27)
  | .mapNext r tag off data => reachOk r && decide (tag < 2 ^ 16) && decide (off < 2 ^ 32) && decide (data.length ≤ 2 ^ 27)
  | .scrub k => decide (k < 8)
  | .remap k => decide (k < 8)
  | .migrate k => decide (k < 8)
  | .refreshManagement k bank => decide (k < 8) && decide (bank < 512)
  | .linkEnableSet l => decide (l < 64)
  | .linkEnableClear l => decide (l < 64)
  | .linkTrained l part device slot link profile bufs occ freed delay => decide (l < 64) && decide (part < 3) && decide (device < 8192) && decide (slot < 32) && decide (link < 64) && decide (profile < 2 ^ 8) && (bufs.length == 3) && (occ.length == 3) && (freed.length == 3) && decide (delay < 2 ^ 32)
  | .trainingTimeout l => decide (l < 64)
  | .groupAckTimeout l => decide (l < 64)
  | .fecLockLost l => decide (l < 64)
  | .peerTrainingRecord l => decide (l < 64)
  | .recoveryComplete l occ freed delay => decide (l < 64) && (occ.length == 3) && (freed.length == 3) && decide (delay < 2 ^ 32)
  | .recoveryTimeout l => decide (l < 64)
  | .fenceLink v => decide (v < 256)
  | .flitGroupReceive l hdr descs data _ _ => decide (l < 64) && decide (hdr < 2 ^ 2048) && (descs.length == 15 && descs.all (fun x => decide (x < 2 ^ 128))) && (data.length == 15 && data.all (fun x => x.length == 256))
  | .chunkForward l => decide (l < 64)
  | .qpContexts r tag off data => reachOk r && decide (tag < 2 ^ 16) && decide (off < 2 ^ 32) && decide (data.length ≤ 2 ^ 27)
  | .qpDrained q => decide (q < 65536)
  | .post port => decide (port < 16)
  | .send q => decide (q < 65536)
  | .write q => decide (q < 65536)
  | .read q => decide (q < 65536)
  | .fetchAdd q => decide (q < 65536)
  | .cmpSwap q => decide (q < 65536)
  | .sendPacket m => msgOk m
  | .writePacket m => msgOk m
  | .readReq m => msgOk m
  | .readResp m => msgOk m
  | .atomic m => msgOk m
  | .atomicResp m => msgOk m
  | .ack m => msgOk m
  | .nak m => msgOk m
  | .ackTimer q => decide (q < 65536)
  | .qpTimeout q => decide (q < 65536)
  | .retryAfterResend q psn => decide (q < 65536) && decide (psn < 2 ^ 32)
  | .stallLimit q psn => decide (q < 65536) && decide (psn < 2 ^ 32)
  | .pageResident q psn => decide (q < 65536) && decide (psn < 2 ^ 32)
  | .cqEntry cq => decide (cq < 4096)
  | .mrRegister r tag off data => reachOk r && decide (tag < 2 ^ 16) && decide (off < 2 ^ 32) && decide (data.length ≤ 2 ^ 27)
  | .mrDeregister r tag off data => reachOk r && decide (tag < 2 ^ 16) && decide (off < 2 ^ 32) && decide (data.length ≤ 2 ^ 27)
  | .wicketFill => true
  | .wickets r tag off data => reachOk r && decide (tag < 2 ^ 16) && decide (off < 2 ^ 32) && decide (data.length ≤ 2 ^ 27)
  | .trayRead m => msgOk m
  | .trayWrite m => msgOk m
  | .trayAtomic m => msgOk m
  | .trayReadResp m => msgOk m
  | .trayWriteResp m => msgOk m
  | .trayAtomicResp m => msgOk m
  | .trayTimeout tag => decide (tag < 4096)
  | .traySlotDead r tag off data => reachOk r && decide (tag < 2 ^ 16) && decide (off < 2 ^ 32) && decide (data.length ≤ 2 ^ 27)
  | .trayMembers r tag off data => reachOk r && decide (tag < 2 ^ 16) && decide (off < 2 ^ 32) && decide (data.length ≤ 2 ^ 27)
  | .trcInvalAll r tag off data => reachOk r && decide (tag < 2 ^ 16) && decide (off < 2 ^ 32) && decide (data.length ≤ 2 ^ 27)
  | .fabricAtomic port => decide (port < 4)
  | .inval port => decide (port < 4)
  | .getS m => msgOk m
  | .getM m => msgOk m
  | .putM m => msgOk m
  | .putE m => msgOk m
  | .fwdS m => msgOk m
  | .fwdM m => msgOk m
  | .inv m => msgOk m
  | .recall m => msgOk m
  | .dataOp m => msgOk m
  | .dataE m => msgOk m
  | .invAck m => msgOk m
  | .copyBack m => msgOk m
  | .putAck m => msgOk m
  | .cohHoldEnd key => decide (key < 2 ^ 27)
  | .cohTimeout line => decide (line < 2 ^ 22)
  | .domainDown fromDev epoch => decide (fromDev < 8192) && decide (epoch < 2 ^ 16)
  | .cohReset r tag off data => reachOk r && decide (tag < 2 ^ 16) && decide (off < 2 ^ 32) && decide (data.length ≤ 2 ^ 27)
  | .cohReady fromDev epoch => decide (fromDev < 8192) && decide (epoch < 2 ^ 16)
  | .apertureTimeout _ => true
  | .dmaRun ch => decide (ch < 512)
  | .dmaResume ch => decide (ch < 512)
  | .dmaReset ch => decide (ch < 512)
  | .dmaTrigger ch _ => decide (ch < 512)
  | .triggerExpired ch => decide (ch < 512)
  | .dmaDescriptorComplete ch => decide (ch < 512)
  | .dmaErrorResponse ch => decide (ch < 512)
  | .channelPause ch _ => decide (ch < 512)
  | .dmaPauseComplete ch => decide (ch < 512)
  | .tableDef dev id gen lengths => decide (dev < 8192) && decide (id < 16) && decide (gen < 256) && decide (lengths < 2 ^ 1024)
  | .tableAck dev id gen => decide (dev < 8192) && decide (id < 16) && decide (gen < 256)
  | .tableRefused dev id gen => decide (dev < 8192) && decide (id < 16) && decide (gen < 256)
  | .tableDrop dev id gen => decide (dev < 8192) && decide (id < 16) && decide (gen < 256)
  | .dropAck dev id gen => decide (dev < 8192) && decide (id < 16) && decide (gen < 256)
  | .tableBuild id => decide (id < 16)
  | .tableRebuild id => decide (id < 16)
  | .tableDefResend dev id => decide (dev < 8192) && decide (id < 16)
  | .tableDropResend dev id => decide (dev < 8192) && decide (id < 16)
  | .tableRetire id => decide (id < 16)
  | .lookup b => decide (b < 32)
  | .insert b => decide (b < 32)
  | .locketWrite b => decide (b < 32)
  | .remove b => decide (b < 32)
  | .prefixWalk b => decide (b < 32)
  | .locketScrub b => decide (b < 32)
  | .directCommand u value => decide (u < 65536) && value.all (fun x => decide (x < 2 ^ 128))
  | .allowanceUj r tag off data => reachOk r && decide (tag < 2 ^ 16) && decide (off < 2 ^ 32) && decide (data.length ≤ 2 ^ 27)
  | .peakUj r tag off data => reachOk r && decide (tag < 2 ^ 16) && decide (off < 2 ^ 32) && decide (data.length ≤ 2 ^ 27)
  | .leaseExpiry => true
  | .idleRequest r tag => reachOk r && decide (tag < 2 ^ 16)
  | .idleDrainTimeout => true
  | .activeRequest r tag => reachOk r && decide (tag < 2 ^ 16)
  | .dormantRequest r tag => reachOk r && decide (tag < 2 ^ 16)
  | .wakeN => true
  | .doorbell m req data => decide (m < 16) && decide (req < 2 ^ 256) && decide (data.length ≤ 2 ^ 27)
  | .dictWrite r tag entry off data => reachOk r && decide (tag < 2 ^ 16) && decide (entry < 2 ^ 24) && decide (off < 2 ^ 32) && decide (data.length ≤ 2 ^ 27)
  | .dictInfo r tag entry => reachOk r && decide (tag < 2 ^ 16) && decide (entry < 2 ^ 24)
  | .dictRequest fromDev data => decide (fromDev < 8192) && decide (data.length ≤ 4096)
  | .dictResponse fromDev data => decide (fromDev < 8192) && decide (data.length ≤ 4096)
  | .entdaa addr => decide (addr < 128)
  | .setEndpointId eid => decide (eid < 256)
  | .getEndpointId => true
  | .getMctpVersionSupport => true
  | .getMessageTypeSupport => true
  | .baseImage r tag off data => reachOk r && decide (tag < 2 ^ 16) && decide (off < 2 ^ 32) && decide (data.length ≤ 2 ^ 27)
  | .cyclicSteps r tag off data => reachOk r && decide (tag < 2 ^ 16) && decide (off < 2 ^ 32) && decide (data.length ≤ 2 ^ 27)
  | .progImage r tag off data => reachOk r && decide (tag < 2 ^ 16) && decide (off < 2 ^ 32) && decide (data.length ≤ 2 ^ 27)
  | .overlayLoad r tag off data => reachOk r && decide (tag < 2 ^ 16) && decide (off < 2 ^ 32) && decide (data.length ≤ 2 ^ 27)
  | .overlayErase r tag off data => reachOk r && decide (tag < 2 ^ 16) && decide (off < 2 ^ 32) && decide (data.length ≤ 2 ^ 27)
  | .overlayRequest r tag off data => reachOk r && decide (tag < 2 ^ 16) && decide (off < 2 ^ 32) && decide (data.length ≤ 2 ^ 27)
  | .switchLimit => true
  | .runRequest r tag off data => reachOk r && decide (tag < 2 ^ 16) && decide (off < 2 ^ 32) && decide (data.length ≤ 2 ^ 27)
  | .runEntry acts => acts.all actOk
  | .alertClear r tag off data => reachOk r && decide (tag < 2 ^ 16) && decide (off < 2 ^ 32) && decide (data.length ≤ 2 ^ 27)
  | .bar2Window r tag off data => reachOk r && decide (tag < 2 ^ 16) && decide (off < 2 ^ 32) && decide (data.length ≤ 2 ^ 27)
  | .bootRomStart _ _ => true
  | .firstStageLoad _ _ _ failed => failed.all (fun x => decide (x < 200))
  | .bootCommit r tag off data => reachOk r && decide (tag < 2 ^ 16) && decide (off < 2 ^ 32) && decide (data.length ≤ 2 ^ 27)
  | .svnCommit r tag off data => reachOk r && decide (tag < 2 ^ 16) && decide (off < 2 ^ 32) && decide (data.length ≤ 2 ^ 27)
  | .debugUnlock r tag off data => reachOk r && decide (tag < 2 ^ 16) && decide (off < 2 ^ 32) && decide (data.length ≤ 2 ^ 27)
  | .keyInstall r tag off data => reachOk r && decide (tag < 2 ^ 16) && decide (off < 2 ^ 32) && decide (data.length ≤ 2 ^ 27)
  | .keyRevoke r tag off data => reachOk r && decide (tag < 2 ^ 16) && decide (off < 2 ^ 32) && decide (data.length ≤ 2 ^ 27)
  | .attestRequest r tag off data => reachOk r && decide (tag < 2 ^ 16) && decide (off < 2 ^ 32) && decide (data.length ≤ 2 ^ 27)
  | .attestSigned => true
  | .getVersion => true
  | .getCapabilities => true
  | .negotiateAlgorithms asym hash => decide (asym < 2 ^ 32) && decide (hash < 2 ^ 32)
  | .getDigests _ _ => true
  | .getCertificate slot off len _ => decide (slot < 256) && decide (off < 2 ^ 16) && decide (len < 2 ^ 16)
  | .challenge slot nonce _ => decide (slot < 256) && (nonce.length == 32)
  | .getMeasurements index nonce => decide (index < 256) && (nonce.length == 32)
  | .chunkGet => true
  | .spdmUnsupportedRequest => true
  | .partitionCreate r tag off data => reachOk r && decide (tag < 2 ^ 16) && decide (off < 2 ^ 32) && decide (data.length ≤ 2 ^ 27)
  | .partitionRelease r tag off data => reachOk r && decide (tag < 2 ^ 16) && decide (off < 2 ^ 32) && decide (data.length ≤ 2 ^ 27)
  | .partitionErased idx => decide (idx < 64)
  | .auditRequest r tag off data => reachOk r && decide (tag < 2 ^ 16) && decide (off < 2 ^ 32) && decide (data.length ≤ 2 ^ 27)
  | .auditDone => true
  | .slice block => decide (block < 256)
  | .engineCheckFail k => decide (k < 8)
  | .fenceRegion r tag off data => reachOk r && decide (tag < 2 ^ 16) && decide (off < 2 ^ 32) && decide (data.length ≤ 2 ^ 27)
  | .healthWindowClose => true
  | .derateEnter r tag => reachOk r && decide (tag < 2 ^ 16)
  | .derateLeave r tag => reachOk r && decide (tag < 2 ^ 16)
  | .fenceCommand r tag off data => reachOk r && decide (tag < 2 ^ 16) && decide (off < 2 ^ 32) && decide (data.length ≤ 2 ^ 27)
  | .expelled fromDev => decide (fromDev < 8192)
  | .expelDrainEnd => true
  | .fatalError cause detail => decide (cause < 256) && decide (detail < 2 ^ 24)
  | .shardOffer dev msg => decide (dev < 8192) && decide (msg < 2 ^ 512)
  | .shardGrant dev msg => decide (dev < 8192) && decide (msg < 2 ^ 512)
  | .shardSeal dev msg => decide (dev < 8192) && decide (msg < 2 ^ 512)
  | .shardHeld dev msg => decide (dev < 8192) && decide (msg < 2 ^ 512)
  | .shardFree dev msg => decide (dev < 8192) && decide (msg < 2 ^ 512)
  | .shardFreed dev msg => decide (dev < 8192) && decide (msg < 2 ^ 512)
  | .coldBoot => true
  | .pwrGoodRelease straps => decide (straps < 2 ^ 32)
  | .configEntry _ _ => true
  | .perstN => true
  | .hotReset => true
  | .functionLevelReset => true
  | .hostLinkDown => true
  | .bar2Read tag off n => decide (tag < 2 ^ 16) && decide (off < 2 ^ 32) && decide (n < 4097)
  | .bar2Write off data => decide (off < 2 ^ 32) && decide (data.length ≤ 4096)
  | .thermtrip => true
  | .p48vOutOfRange => true
  | .flitGroupSend l => decide (l < 64)
  | .temperatureSample sensor value => decide (sensor < 14) && decide (-(2 ^ 31) ≤ value ∧ value < 2 ^ 31)
  | .p48vOutsideOperatingRange => true
  | .thermtripNRelease => true
  | .perstNRise => true
  | .hostLinkUp rate width _ => decide (rate < 2 ^ 16) && decide (width < 32)
  | .configurationWrite reg v => decide (reg < 5) && decide (v < 2 ^ 64)
  | .msiXTableWrite vector value => decide (vector < 2048) && decide (value < 2 ^ 128)
  | .unsupportedRequest tag => decide (tag < 2 ^ 16)

end Sys2Proof
end

