-- ==== Sys2Proof/Safety.lean ====
section
/-! DEFINITION. What a safe run is, and the terms the statements use. -/

namespace Sys2Proof.Machine

/-- Every command that waits is well formed. -/
def State.queueOk (s : State) : Prop := ∀ c ∈ s.pending, c.wf = true

/-- The memory is in its canonical form. -/
def State.memOk (s : State) : Prop := Memory.wf s.mem = true

/-- A step is safe where it ends in a next state: no undefined case of R415 has been met. -/
def safeStep (s : State) : Prop := ∃ t, step s = .next t

/-- The machine stops at an undefined case. -/
def stopsAt (s : State) (n : Nat) : Prop := step s = .fault (.undefinedCase n)

/-- Command `i` completes at `s`: it answers a next state, which is `t`, with the queue as `s` has it. -/
def completes (i : Instr) (s t : State) : Prop := exec i s = .next { t with pending := s.pending }

/-- A command's answer ends well: a next state with the queue as it was, or a stop at an undefined case of R415; never a refusal. -/
def endsWell (s : State) (r : Res) : Prop :=
  (∃ t, r = .next t ∧ t.pending = s.pending) ∨ ∃ n, r = .fault (.undefinedCase n)

/-- R32, with R35 and R36: a step of the merged order, at its place after the steps `before`, may issue now. It has neither issued nor
completed, its part of the table runs, its START_CLK is reached, every event of its WAIT_MASK is met, its unit runs no step, it names
nothing fenced after the seal, and its unit has completed every earlier step addressed to it that is not of a section skipped whole. -/
def issueReady (s : State) (before : List (Nat × Nat)) (p : Nat × Nat) : Prop :=
  kget s.frm.slotState p.1 0 ≠ 1 ∧ kget s.frm.slotState p.1 0 ≠ 2 ∧ slotRuns s p.1 = true
  ∧ getF p.2 StepRec.START_CLK ≤ frameClk s
  ∧ (∀ i < 64, bitOf (getF p.2 StepRec.WAIT_MASK) i = true → eventMet s (64 * getF p.2 StepRec.WAIT_WINDOW + i) = true)
  ∧ flightOn s (stepUnit p.2) = none
  ∧ fencedSince s p.2 = false
  ∧ ∀ q ∈ before, stepUnit q.2 = stepUnit p.2 → kget s.frm.slotState q.1 0 = 2 ∨ slotSkipped s q.1 = true

/-- R373 to R375: a reach takes a request and has it served: the state it is served in. A mailbox that answers and is not BUSY holds it;
the bus has its address; the fabric reach is not closed, and a device's request is neither answered already nor held. -/
def submitted (s : State) (by_ : Reach) (h : Nat) (data : List Byte) : Option State :=
  match by_ with
  | .mailbox m =>
    if 16 ≤ m ∨ barsOpen s = false ∨ (kget s.dct.mailboxes m ⟨0, 0, 0, []⟩).state = 1 then none
    else some { s with dct := { s.dct with mailboxes := kput s.dct.mailboxes m ⟨1, h, 0, data⟩ } }
  | .bus _ => if s.dct.dynAddr.isSome then some s else none
  | .fabric dev =>
    if (served s (.fabric dev) (getF h DictReq.OP) 0x101001).isNone
      || s.dct.kept.any (fun k => k.dev == dev && k.tag == getF h DictReq.TAG)
      || s.dct.held.any (fun w => decide (w.reach = .fabric dev) && w.tag == getF h DictReq.TAG) then none
    else some s

/-- The core of an op that reaches no memory side and posts no event. -/
def localOp : Instr → Option Nat
  | .nop c | .endOp c | .loop c | .setad c | .addad c | .addp c | .movpa c | .evtWait c | .evtWaitExpire c | .fenceOp c => some c
  | .wcopy c | .transp c | .mmaOp c | .mmat c | .vadd c | .vsub c | .vmul c | .vfma c | .vmax c | .vmin c | .vaff c => some c
  | .vrowsub c | .vrowmul c | .rsum c | .rmax c | .rmin c | .rssq c | .sfn c | .idxbuild c | .gatherw c | .scatter c => some c
  | .topk c | .quant c | .dequant c => some c
  | _ => none

/-- The commands that can stop at an undefined case that their meaning detects: the ticks that can enter RUN, step issue, a setting
engine's jobs, FLIT_GROUP_SEND, and what reaches the dictionary server. -/
def mayStop : Instr → Bool
  | .tick .. | .tickOutOfWindow .. | .holdoverTick .. | .runEntry .. | .stepIssue | .overlayApplyComplete | .configEntry .. => true
  | .attend .. | .append .. | .copy .. | .gfcomb .. | .flitGroupSend .. => true
  | .doorbell .. | .dictWrite .. | .dictInfo .. | .dictRequest .. => true
  | .auditReq .. | .suspend .. | .resume .. | .modelSlots .. | .adapterLoad .. | .adapterCommit .. | .grammars .. | .peerLost ..
  | .mapNext .. | .qpContexts .. | .mrRegister .. | .mrDeregister .. | .wickets .. | .traySlotDead .. | .trayMembers ..
  | .trcInvalAll .. | .cohReset .. | .allowanceUj .. | .peakUj .. | .idleRequest .. | .activeRequest .. | .dormantRequest ..
  | .baseImage .. | .cyclicSteps .. | .progImage .. | .overlayLoad .. | .overlayErase .. | .overlayRequest .. | .runRequest ..
  | .alertClear .. | .bar2Window .. | .bootCommit .. | .svnCommit .. | .debugUnlock .. | .keyInstall .. | .keyRevoke ..
  | .attestRequest .. | .partitionCreate .. | .partitionRelease .. | .auditRequest .. | .fenceRegion .. | .derateEnter ..
  | .derateLeave .. | .fenceCommand .. => true
  | _ => false

end Sys2Proof.Machine
end

