-- ==== Sys2Proof/Certificates/Slice0/Obligations.lean ====
section
/-! DEFINITION. The statements for the provers: what the commands do, by the rules of the spec. -/

open Sys2Proof Sys2Proof.Machine

/-- For every command c and state s, a step of s with c put at the front of its queue is exec of c on s, whose queue is the rest.
(01_architecture.md, 18_object_dictionary.md.) -/
def Obligations.StepRunsFrontCommand : Prop :=
  ∀ (c : Instr) (s : State), step { s with pending := c :: s.pending } = exec c s

/-- With an empty queue a step answers the same state one clk later (that an idle step is one clock is the model's choice, log 1). (R10,
00_scope.md.) -/
def Obligations.StepIdlesOnEmptyQueue : Prop :=
  ∀ s : State, s.pending = [] → step s = .next { s with clk := s.clk + 1 }

/-- For every command and every state, exec answers a next state whose queue is as it was, or stops at a numbered undefined case; it
never refuses. (R6, R415, 20_guarantees.md.) -/
def Obligations.EveryCommandEndsWell : Prop :=
  ∀ (i : Instr) (s : State), endsWell s (exec i s)

/-- From every state whose waiting commands are all well formed, a step that answers a next state leaves exactly the rest of the queue,
all well formed. (R6, 01_architecture.md.) -/
def Obligations.StepKeepsQueue : Prop :=
  ∀ s t : State, s.queueOk → step s = .next t → t.pending = s.pending.tail ∧ t.queueOk

/-- Every command outside mayStop (ticks that can enter RUN, step issue, setting jobs, SCRUB, DMA_TRIGGER, FLIT_GROUP_SEND, and what
reaches the dictionary server) answers a next state, with the queue as it was, on every state and all operands. (R6, R415,
20_guarantees.md.) -/
def Obligations.OnlyListedCommandsStop : Prop :=
  ∀ (i : Instr) (s : State), mayStop i = false → ∃ t, exec i s = .next t ∧ t.pending = s.pending

/-- After reset every dictionary value reads its default, DEVICE_STATE reads BOOT, TICK_STATE UNLOCKED, POWER_STATE 0; nothing is queued,
sent or in flight, PWR_GOOD is not released and the host link is in reset; memory is in its canonical form and every byte reads 0 (the
bytes' value is the model's choice, log 2). (R364, R469, R470, 22_host_pins_startup.md.) -/
def Obligations.ResetState : Prop :=
  (∀ e i, odGet State.reset e i = odDefault e i)
    ∧ od State.reset OD.DEVICE_STATE = 0 ∧ od State.reset OD.TICK_STATE = 0 ∧ od State.reset OD.POWER_STATE = 0
    ∧ State.reset.pending = [] ∧ State.reset.txq = [] ∧ State.reset.out = [] ∧ State.reset.frm.flights = []
    ∧ State.reset.host.pwrGood = false ∧ State.reset.host.perst = true
    ∧ State.reset.memOk ∧ State.reset.queueOk ∧ ∀ a, memByte State.reset a = 0

/-- A number stored in n bytes reads back modulo 256^n, byte k of it being bits 8k+7 to 8k; every byte outside those n reads as before;
the memory keeps its canonical form; nothing but memory changes. (R7, 00_scope.md.) -/
def Obligations.MemoryReadsBackLittleEndian : Prop :=
  ∀ (s : State) (a n v : Nat),
    memNat (memPut s a n v) a n = v % 256 ^ n
    ∧ (∀ k < n, (memByte (memPut s a n v) (a + k)).toNat = v / 256 ^ k % 256)
    ∧ (∀ c, c < a ∨ a + n ≤ c → memByte (memPut s a n v) c = memByte s c)
    ∧ (s.memOk → (memPut s a n v).memOk)
    ∧ { memPut s a n v with mem := s.mem } = s

/-- A value put at an element of an entry reads back there, and every other element below 2^24 of every entry reads as before; nothing
but the dictionary changes. (R364, 18_object_dictionary.md.) -/
def Obligations.DictionaryValuesReadBack : Prop :=
  ∀ (s : State) (e i v e' i' : Nat), i < 2 ^ 24 → i' < 2 ^ 24 →
    odGet (odPut s e i v) e' i' = (if e' = e ∧ i' = i then v else odGet s e' i') ∧ { odPut s e i v with od := s.od } = s

/-- Frame a is at or after frame b exactly when (a - b) mod 2^32 lies in 0 to 2^31 - 1, and the distance between frames is that
difference. (R9, 00_scope.md.) -/
def Obligations.FramesCompareUnderR9 : Prop :=
  ∀ a b : Nat, a < 2 ^ 32 → b < 2 ^ 32 →
    (frameGe a b = true ↔ ((a : Int) - b) % 2 ^ 32 < 2 ^ 31) ∧ (frameDiff b a : Int) = ((a : Int) - b) % 2 ^ 32

/-- TICK_SOURCE_ENABLE in CONFIG with TICK_STATE UNLOCKED opens capture. TICK_LOST at the holdover limit unlocks and raises ALERT_N cause
0. A FRAME_SYNC up to frame clock 8,000, or a TICK message on the link the tick comes from, numbers the frame of a device in LOCKING that
has adopted a phase and locks it; a LOCKED or HOLDOVER device keeps its number, and counts FRAME_MISMATCHES and raises cause 0 when they
differ. Later ones are ignored. Nothing else changes but where an alert is signalled. (R27, R28, 02_frames.md.) -/
def Obligations.TickStates : Prop :=
  (∀ s : State, od s OD.DEVICE_STATE = 1 → od s OD.TICK_STATE = 0 →
      completes .tickSourceEnable s
        { odSet s OD.TICK_STATE 1 with frm := { s.frm with lockCount := 0, adopted := false, missed := 0 } })
    ∧ (∀ s : State, od s OD.TICK_STATE = 3 → od s OD.TICK_HOLDOVER_MAX ≤ s.frm.missed →
      ∃ t, completes .tickLost s t ∧ od t OD.TICK_STATE = 0 ∧ bitOf (od t OD.ALERT_CAUSES) 0 = true
        ∧ { t with od := s.od, out := s.out, host := s.host } = s)
    ∧ (∀ (s : State) (frame period : Nat), frame < 2 ^ 32 → period < 2 ^ 20 → frameClk s ≤ 8000 → od s OD.TICK_STATE = 1 →
      s.frm.adopted = true →
      completes (.frameSync frame period) s (odSet (odSet s OD.FRAME_NUMBER frame) OD.TICK_STATE 2))
    ∧ (∀ (s : State) (frame period : Nat), frame < 2 ^ 32 → period < 2 ^ 20 → frameClk s ≤ 8000 →
      od s OD.TICK_STATE = 2 ∨ od s OD.TICK_STATE = 3 → frame = frameNo s → completes (.frameSync frame period) s s)
    ∧ (∀ (s : State) (frame period : Nat), frame < 2 ^ 32 → period < 2 ^ 20 → frameClk s ≤ 8000 →
      od s OD.TICK_STATE = 2 ∨ od s OD.TICK_STATE = 3 → frame ≠ frameNo s →
      ∃ t, completes (.frameSync frame period) s t ∧ frameNo t = frameNo s ∧ bitOf (od t OD.ALERT_CAUSES) 0 = true
        ∧ od t OD.FRAME_MISMATCHES = (od s OD.FRAME_MISMATCHES + 1) % 2 ^ 32
        ∧ { t with od := s.od, out := s.out, host := s.host } = s)
    ∧ (∀ (s : State) (frame period : Nat), 8000 < frameClk s → completes (.frameSync frame period) s s)
    ∧ (∀ (s : State) (link frame : Nat), frame < 2 ^ 32 → frameClk s ≤ 8000 → od s OD.TICK_SOURCE = 1 → od s OD.TICK_LINK = link →
      od s OD.TICK_STATE = 1 → s.frm.adopted = true →
      completes (.tickMessage link frame) s (odSet (odSet s OD.FRAME_NUMBER frame) OD.TICK_STATE 2))

/-- TICK: a tick within the capture window of a LOCKED device, or of one in HOLDOVER, centres the window, locks the tick and runs the
boundary of the frame; in LOCKING the boundary runs and the tick is counted, or at the first internal tick of a lone device the device is
LOCKED and the boundary runs. TICK_OUT_OF_WINDOW: in LOCKING the boundary runs and the count starts again; later the tick is a slip, the
first and second at one phase counted in TICK_SLIPS and the frame going on, the third running the boundary at the new phase.
HOLDOVER_TICK: the device counts the tick as missing, is in HOLDOVER (unless it has lost its tick) and runs the boundary. RUN_ENTRY:
entry to RUN runs at the tick where it is due. Where entry to RUN is due and would be an undefined case, the machine stops there. A
boundary of a running frame numbers the frame that begins. (R26, R27, R239, R379, 02_frames.md.) -/
def Obligations.TicksRunTheBoundary : Prop :=
  (∀ (s : State) (x : Int) (acts : List PlanAct), tickWindow s (tickOffset s x) = true → od s OD.TICK_STATE = 1 → od s OD.TICK_SOURCE ≠ 2 →
      completes (.tick x acts) s (lockCountTick (boundary (phaseNote (markDone s) (tickOffset s x)) acts)))
    ∧ (∀ (s : State) (x : Int) (acts : List PlanAct), tickWindow s (tickOffset s x) = true → od s OD.TICK_STATE = 1 → od s OD.TICK_SOURCE = 2 →
      entryDue (internalFirst s (tickOffset s x)) = false ∨ entryUndef (internalFirst s (tickOffset s x)) = 0 →
      completes (.tick x acts) s (boundary (internalFirst s (tickOffset s x)) acts))
    ∧ (∀ (s : State) (x : Int) (acts : List PlanAct), tickWindow s (tickOffset s x) = true → 2 ≤ od s OD.TICK_STATE →
      entryDue (tickCentre (markDone s) (tickOffset s x)) = false ∨ entryUndef (tickCentre (markDone s) (tickOffset s x)) = 0 →
      completes (.tick x acts) s (boundary (tickCentre (markDone s) (tickOffset s x)) acts))
    ∧ (∀ (s : State) (x : Int) (acts : List PlanAct), tickWindow s (tickOffset s x) = true → 2 ≤ od s OD.TICK_STATE →
      entryDue (tickCentre (markDone s) (tickOffset s x)) = true → entryUndef (tickCentre (markDone s) (tickOffset s x)) ≠ 0 →
      exec (.tick x acts) s = .fault (.undefinedCase (entryUndef (tickCentre (markDone s) (tickOffset s x)))))
    ∧ (∀ (s : State) (x : Int) (acts : List PlanAct), tickWindow s (tickOffset s x) = false → od s OD.TICK_STATE = 1 →
      completes (.tickOutOfWindow x acts) s (boundary (let t := phaseNote (markDone s) (tickOffset s x)
        { t with frm := { t.frm with lockCount := 1, adopted := false } }) acts))
    ∧ (∀ (s : State) (x : Int) (acts : List PlanAct), tickWindow s (tickOffset s x) = false → 2 ≤ od s OD.TICK_STATE → s.frm.slipCount = 0 →
      ∃ t, completes (.tickOutOfWindow x acts) s t ∧ t.frm.slipCount = 1 ∧ t.frm.slipPhase = tickOffset s x
        ∧ od t OD.TICK_SLIPS = (od s OD.TICK_SLIPS + 1) % 2 ^ 32 ∧ frameNo t = frameNo s
        ∧ { t with od := s.od, frm := s.frm } = s)
    ∧ (∀ (s : State) (x : Int) (acts : List PlanAct), tickWindow s (tickOffset s x) = false → 2 ≤ od s OD.TICK_STATE →
      s.frm.slipCount = 2 → (tickOffset s x - s.frm.slipPhase).natAbs ≤ od s OD.TICK_CAPTURE_CLK →
      (let t := tickCentre (slipNote (markDone s) (tickOffset s x) 3) (tickOffset s x)
       entryDue t = false ∨ entryUndef t = 0 → completes (.tickOutOfWindow x acts) s (boundary t acts)))
    ∧ (∀ (s : State) (acts : List PlanAct), od s OD.TICK_SOURCE ≠ 2 → 2 ≤ od s OD.TICK_STATE ∨ (od s OD.TICK_STATE = 0 ∧ inRun s = true) →
      completes (.holdoverTick acts) s (boundary (holdoverNote s) acts))
    ∧ (∀ s : State, 2 ≤ od s OD.TICK_STATE → od (holdoverNote s) OD.TICK_STATE = 3 ∧ (holdoverNote s).frm.missed = s.frm.missed + 1
      ∧ od (holdoverNote s) OD.HOLDOVER_FRAMES = (od s OD.HOLDOVER_FRAMES + 1) % 2 ^ 32 ∧ { holdoverNote s with od := s.od, frm := s.frm } = s)
    ∧ (∀ (s : State) (acts : List PlanAct), entryDue s = true → entryUndef s = 0 →
      completes (.runEntry acts) s (boundary s acts))
    ∧ (∀ (s : State) (acts : List PlanAct), entryDue s = true → entryUndef s ≠ 0 →
      exec (.runEntry acts) s = .fault (.undefinedCase (entryUndef s)))
    ∧ (∀ (s : State) (acts : List PlanAct), entryDue s = true → boundary s acts = runEntry s acts)
    ∧ (∀ s : State, s.frm.numberNext = false →
      frameNo (numberStep s) = (frameNo s + 1) % 2 ^ 32 ∧ (numberStep s).frm.tickClk = s.clk ∧ { numberStep s with od := s.od, frm := s.frm } = s)
    ∧ (∀ s : State, s.frm.numberNext = true → frameNo (numberStep s) = od s OD.FRAME_START)

/-- The merged order is the current table's steps in ascending START_CLK, and in slot order where clocks are equal (the cyclic section
has the first slots). The step that issues next is the first of that order for which all of R32 holds; none is named only where none may
issue. (R32, R35, R36, 02_frames.md.) -/
def Obligations.IssueTakesTheFirstReadyStep : Prop :=
  ∀ s : State,
    List.Perm (mergedSteps s) s.frm.curSteps
    ∧ ((∀ p ∈ s.frm.curSteps, p.1 < 8192) →
        (mergedSteps s).Pairwise (fun p q => getF p.2 StepRec.START_CLK < getF q.2 StepRec.START_CLK
          ∨ (getF p.2 StepRec.START_CLK = getF q.2 StepRec.START_CLK ∧ p.1 ≤ q.1)))
    ∧ ∀ p, nextIssue s = some p ↔ ∃ before after, mergedSteps s = before ++ p :: after ∧ issueReady s before p
        ∧ ∀ b q r, before = b ++ q :: r → ¬ issueReady s b q

/-- In RUN, outside the drain and below the four issues of this clk, the step that issues next is in flight on its unit from now, its
slot reads issued, and every other unit's step and every other slot is as it was; nothing but the sequencer changes. A SEQ step of
another opcode than BARRIER and POST ends at once. A step naming a core, stack region or link fenced, or a core under test, at its
table's seal is the undefined case U02. Otherwise nothing happens. (R31, R32, R36, R39, 02_frames.md.) -/
def Obligations.StepIssueIssues : Prop :=
  (∀ (s : State) (slot st : Nat), framesRun s = true → s.frm.draining = false → (s.frm.issueClk = s.clk → s.frm.issueCount < 4) →
      nextIssue s = some (slot, st) → namesFenced s st = false →
      getF st StepRec.UNIT_CLASS ≠ 12 ∨ getF st StepRec.OPCODE = 1 ∨ getF st StepRec.OPCODE = 2 →
      ∃ t, completes .stepIssue s t
        ∧ flightOn t (stepUnit st) = some ⟨st, slot, frameNo s, s.clk, false⟩
        ∧ (∀ u, u ≠ stepUnit st → flightOn t u = flightOn s u)
        ∧ kget t.frm.slotState slot 0 = 1 ∧ (∀ k, k ≠ slot → kget t.frm.slotState k 0 = kget s.frm.slotState k 0)
        ∧ t.frm.issueClk = s.clk ∧ t.frm.issueCount = (if s.frm.issueClk = s.clk then s.frm.issueCount + 1 else 1)
        ∧ { t with frm := s.frm } = s)
    ∧ (∀ (s : State) (slot st : Nat), framesRun s = true → s.frm.draining = false → (s.frm.issueClk = s.clk → s.frm.issueCount < 4) →
      nextIssue s = some (slot, st) → namesFenced s st = false →
      getF st StepRec.UNIT_CLASS = 12 → getF st StepRec.OPCODE ≠ 1 → getF st StepRec.OPCODE ≠ 2 →
      completes .stepIssue s (seqBadOp (issueStep s slot st)))
    ∧ (∀ (s : State) (slot st : Nat), framesRun s = true → s.frm.draining = false → (s.frm.issueClk = s.clk → s.frm.issueCount < 4) →
      nextIssue s = some (slot, st) → namesFenced s st = true →
      exec .stepIssue s = .fault (.undefinedCase 2))
    ∧ (∀ s : State, framesRun s = false ∨ s.frm.draining = true ∨ (s.frm.issueClk = s.clk ∧ 4 ≤ s.frm.issueCount) ∨ nextIssue s = none →
      completes .stepIssue s s)

/-- When a step in flight completes its unit runs no step and every other unit's is as it was. Its event is posted at 8 clk from now
unless the step is carried, posts none, or ended with a fault, and an event already posted keeps its clk; a step of this frame reads
complete. The rows of a step that ends with FAULT are noted, and those of no other. Memory is as it was, but for the row image of 192
bytes that a row being handed over keeps in its pass area (R190), which shows the energy added to the row. Cores and every other part
outside the sequencer, the ledger and the dictionary is as it was. (R33, R38, R39, R147, R190, 02_frames.md.) -/
def Obligations.FinishedStepFreesItsUnit : Prop :=
  ∀ (s : State) (u : Nat) (f : Flight) (how : StepEnd), flightOn s u = some f →
    let t := finishStep s u how
    flightOn t u = none ∧ (∀ v, v ≠ u → flightOn t v = flightOn s v)
    ∧ (f.carried = false → kget t.frm.slotState f.slot 0 = 2)
    ∧ (f.carried = true → t.frm.slotState = s.frm.slotState)
    ∧ (∀ e, kfind t.frm.events e =
        if how ≠ .fault ∧ getF f.step StepRec.POST_EN = 1 ∧ f.carried = false ∧ e = getF f.step StepRec.DONE_EVENT ∧ kfind s.frm.events e = none
        then some (s.clk + 8) else kfind s.frm.events e)
    ∧ t.rows.faulted = (if how = .fault then s.rows.faulted ++ stepRows s f.step else s.rows.faulted)
    ∧ { t.rows with faulted := s.rows.faulted } = s.rows
    ∧ (∀ a, (∀ p ∈ s.rows.clasp, a < p.2.area ∨ p.2.area + 192 ≤ a) → memByte t a = memByte s a)
    ∧ ((∀ p ∈ s.rows.clasp, crF s p.1 ClaspRec.ROW ≠ getF f.step StepRec.ROW ∨ crF s p.1 ClaspRec.SIDE ≠ 0) → t.mem = s.mem ∧ t.mc = s.mc)
    ∧ { t with frm := s.frm, en := s.en, od := s.od, rows := s.rows, mem := s.mem, mc := s.mc } = s

/-- At the seal clock TABLE_SEAL builds and seals the next table, whose header then reads SEALED and the next frame; where the planner
does not seal it the steps it has placed stand in it unsealed. DRAIN_END ends the drain once no carried step is in flight. DRAIN_WATCHDOG
ends a carried step DRAIN_LIMIT_CLK after the tick. SEQ_POST completes a POST step. OVERLAY_APPLY_COMPLETE puts the overlay in force once
T_apply has passed and answers the writes held. SWITCH_LIMIT raises SWITCH_STUCK (cause 6) once a switch has taken too long. (R30, R34,
R39, R46, R382, R427, 02_frames.md.) -/
def Obligations.SealAndDrain : Prop :=
  (∀ (s : State) (hdr : Nat) (planned : List Nat) (acts : List PlanAct), sealDue s = true → getF hdr TableHdr.SEALED ≠ 0 →
      completes (.tableSeal hdr planned acts) s (sealTable (buildPlan s acts (od (future s) OD.FRAME_PERIOD_CLK)) hdr planned
        (od (future s) OD.CYCLIC_COUNT) (od (future s) OD.FRAME_PERIOD_CLK)))
    ∧ (∀ (s : State) (hdr : Nat) (planned : List Nat) (acts : List PlanAct), sealDue s = true → getF hdr TableHdr.SEALED = 0 →
      completes (.tableSeal hdr planned acts) s (tableLeft s hdr planned (od (future s) OD.CYCLIC_COUNT)))
    ∧ (∀ (s : State) (hdr : Nat) (planned : List Nat) (cyc period : Nat),
      getF (sealTable s hdr planned cyc period).frm.nextHdr TableHdr.SEALED = 1
      ∧ getF (sealTable s hdr planned cyc period).frm.nextHdr TableHdr.FRAME = (frameNo s + 1) % 2 ^ 32
      ∧ (sealTable s hdr planned cyc period).dct.rwf = []
      ∧ (sealTable s hdr planned cyc period).dct.rwfSealed = s.dct.rwfSealed ++ s.dct.rwf
      ∧ (sealTable s hdr planned cyc period).frm.fencedNext = fencedNames s)
    ∧ (∀ s : State, s.frm.draining = true → (∀ p ∈ s.frm.flights, p.2.carried = false) →
      completes .drainEnd s (drainDone s (lastFrame s)))
    ∧ (∀ (s : State) (u : Nat) (f : Flight), flightOn s u = some f → s.frm.draining = true → f.carried = true →
      od s OD.DRAIN_LIMIT_CLK ≤ frameClk s → completes (.drainWatchdog u) s (watchdogUnit (faultStep s u f) u))
    ∧ (∀ (s : State) (f : Flight), seqFlight s 2 = some f → completes .seqPost s (finishStep s (unitKey 12 0) .done))
    ∧ (∀ s : State, applyDone s = true → overlayUndef (overlayRecords s s.dct.switchSlot) s = 0 →
      (releaseHeld s.dct.held (applyEffect s)).2 = 0 →
      completes .overlayApplyComplete s (releaseHeld s.dct.held (applyEffect s)).1)
    ∧ (∀ s : State, (applyEffect s).frm.applying = false ∧ od (applyEffect s) OD.SWITCH_STATE = 0 ∧ (applyEffect s).dct.held = [])
    ∧ (∀ s : State, od s OD.SWITCH_STATE = 1 ∨ od s OD.SWITCH_STATE = 2 → s.dct.switchStuck = false →
      od s OD.SWITCH_LIMIT_FRAMES < frameDiff s.dct.switchFrom (frameNo s) →
      ∃ t, completes .switchLimit s t ∧ t.dct.switchStuck = true ∧ bitOf (od t OD.ALERT_CAUSES) 6 = true
        ∧ { t with od := s.od, dct := s.dct, out := s.out, host := s.host } = s)

/-- A BARRIER in flight whose arrivals are not sent notes the own slot's arrival, sends one to every other slot of the group and waits.
The arrival of a member for this frame is noted with its clk, the first from it standing; the barrier ends when the last comes; one for a
frame not begun is kept. After 1,024 barriers the health window closes and its counts are 0. (R27, R43, R432, 02_frames.md,
21_faults.md.) -/
def Obligations.BarriersCountArrivals : Prop :=
  (∀ (s : State) (f : Flight), seqFlight s 1 = some f → s.frm.barrierSent = false → od s OD.TICK_STATE ≠ 0 →
      completes .barrier s
        (let t := noteArrival (((slotsOf (od s OD.BARRIER_GROUP)).filter (· != ownSlot s)).foldl
            (fun t k => sendMgmtSlot t 3 k (frameNo t) (leBytes 8 (frameClk t))) s) (ownSlot s)
         barrierTry { t with frm := { t.frm with barrierSent := true } }))
    ∧ (∀ (s : State) (slot frame : Nat), frame = frameNo s → kfind s.frm.arrivals slot = none →
      bitOf (od s OD.BARRIER_GROUP) slot = true → s.frm.barrierSent = false →
      completes (.barrierArrive slot frame) s
        { s with frm := { s.frm with arrivals := kput s.frm.arrivals slot s.clk, barrierLast := slot } })
    ∧ (∀ (s : State) (slot frame : Nat), frame = frameNo s → barrierMissing s = [slot] → slot < 32 → s.frm.barrierSent = true →
      (seqFlight s 1).isSome = true →
      completes (.barrierArrive slot frame) s
        (barrierEnd { s with frm := { s.frm with arrivals := kput s.frm.arrivals slot s.clk, barrierLast := slot } } false))
    ∧ (∀ (s : State) (slot frame : Nat), frameLater frame (frameNo s) = true →
      completes (.barrierArrive slot frame) s
        { s with frm := { s.frm with earlyArrivals := kput s.frm.earlyArrivals (slot + 32 * frame) s.clk } })
    ∧ (∀ s : State, 1024 ≤ s.ft.winBarriers →
      ∃ t, completes .healthWindowClose s t ∧ t.ft.winBarriers = 0 ∧ t.ft.winTimeouts = 0 ∧ t.ft.winMissing = []
        ∧ t.ft.window = s.ft.window + 1 ∧ (∀ k, k < 32 → odGet t OD.LAST_ARRIVAL k = 0)
        ∧ od t OD.PEER_SUSPECT = suspectSlots s ∧ { t with od := s.od, rings := s.rings, ft := s.ft } = s)

/-- A VC0_REQUEST step in flight, its descriptor and records read, asks each device they name for slots, notes each as asked for and
completes with OK; a VC0_GRANT step answers the requests its records name, each for at most what was asked and what is free, and
completes with OK; either ends with MEM_ERROR at a descriptor or record it cannot read, having sent nothing. A request received for this
frame or the next is kept as asked, one for a later frame is not; a grant received for one asked becomes a slot count of this device's
own, never above what was asked; at the grant deadline every request without an answer counts as answered with none, and those not
answered here lapse. (R41, R42, R243, R254, R475, 02_frames.md, 11_olaskad_links.md.) -/
def Obligations.Vc0SlotsAreAskedAndGranted : Prop :=
  (∀ (s t : State) (port : Nat) (f : Flight) (l : List Nat), passFlight s port 0x0F01 = some f → vc0Records s f = (t, some l) →
      completes (.vc0Request port) s (passEnd (vc0Ask t l) port 0 .done))
    ∧ (∀ (s t : State) (port : Nat) (f : Flight), passFlight s port 0x0F01 = some f → vc0Records s f = (t, none) →
      completes (.vc0Request port) s (passEnd t port 5 .unread))
    ∧ (∀ (s : State) (l : List Nat), (vc0Ask s l).net.wanted
        = s.net.wanted ++ l.map (fun w => (⟨getF w (fld 31 26), getF w (fld 63 32), getF w (fld 25 13), 16 * getF w (fld 12 0), 0, false⟩ : Vc0Rec)))
    ∧ (∀ (s t : State) (port : Nat) (f : Flight) (l : List Nat), passFlight s port 0x0F02 = some f → vc0Records s f = (t, some l) →
      completes (.vc0Grant port) s (passEnd (vc0Answer t l) port 0 .done))
    ∧ (∀ (s t : State) (port : Nat) (f : Flight), passFlight s port 0x0F02 = some f → vc0Records s f = (t, none) →
      completes (.vc0Grant port) s (passEnd t port 5 .unread))
    ∧ (∀ (s : State) (frame link peer slots : Nat), (vc0Give s frame link peer slots).2 ≤ slots
      ∧ (vc0Give s frame link peer slots).2 ≤ vc0Pool s ∧ (vc0Give s frame link peer slots).2 % 16 = 0)
    ∧ (∀ (s : State) (dev frame : Nat) (recs : List Nat), frameLater frame (frameNo s + 1) = true →
      completes (.vc0RequestReceive dev frame recs) s s)
    ∧ (∀ (s : State) (dev frame : Nat) (recs : List Nat), frameLater frame (frameNo s + 1) = false →
      completes (.vc0RequestReceive dev frame recs) s
        (let asks := recs.map (fun w => (⟨getF w (fld 31 26), getF w (fld 63 32), dev, 16 * getF w (fld 12 0), 0, false⟩ : Vc0Rec))
         { s with net := { s.net with asked := s.net.asked ++ asks } }))
    ∧ (∀ (s : State) (dev frame w l : Nat) (r : Vc0Rec), frameLater frame (frameNo s + 1) = false →
      localLink s dev (getF w (fld 31 26)) = some l →
      s.net.wanted.find? (fun r => r.link == l && r.peer == dev && r.frame == getF w (fld 63 32) && !r.answered) = some r →
      completes (.vc0GrantReceive dev frame [w]) s { s with net := { s.net with
        wanted := s.net.wanted.map (fun x => if x = r then { r with answered := true } else x),
        mine := s.net.mine ++ [⟨l, r.frame, dev, min r.slots (16 * getF w (fld 12 0)), 0, true⟩] } })
    ∧ (∀ s : State, getF s.frm.curHdr TableHdr.PERIOD_CLK * od s OD.VC0_GRANT_PM ≤ 1000 * frameClk s →
      ∃ t, completes .vc0GrantDeadline s t ∧ (∀ r ∈ t.net.wanted, r.answered = true) ∧ (∀ r ∈ t.net.asked, r.answered = true)
        ∧ { t with net := s.net } = s)

/-- RUN and CTX carry out the step in flight on a core by the descriptor it names (a RUN step of a core in service with opcode 1, a CTX
step with opcode 2); a fenced core's step ends with FAULT, an unknown opcode with BAD_OP, an unreadable descriptor with MEM_ERROR. An
asynchronous access of which every piece has answered is put in window memory and leaves the list. A RUN step whose program stands in the
core's instruction buffer and passes the checks starts it at its first op; a CTX step whose sizes are allowed saves, restores and
completes. A program that has ended with nothing outstanding completes its step: the core is as reset but for its instruction buffer, and
memory as it was but for the row images in pass areas (R190). A core that fails a check in service is fenced and its rows join the
containment set. (R45, R73, R75, R76, R82, R83, R84, R95, R426, 04_step_programs.md, 21_faults.md.) -/
def Obligations.CoreStepsBeginAndEnd : Prop :=
  (∀ (s : State) (c : Nat) (f : Flight), flightOn s (coreUnit c) = some f → getF f.step StepRec.OPCODE = 1 →
      (coreOf s c).running = false → odGet s OD.CORE_MAP c ≠ 3 →
      (readRec s (stepReader f) (getF f.step StepRec.DESC_ADDR) 192).2.2.1 = 0 →
      completes (.run c) s (runLoad (readRec s (stepReader f) (getF f.step StepRec.DESC_ADDR) 192).1 c f
        (readRec s (stepReader f) (getF f.step StepRec.DESC_ADDR) 192).2.1))
    ∧ (∀ (s : State) (c : Nat) (f : Flight) (desc : Nat) (p : Prog), inProgRegion s (getF desc RunDesc.PROG_ADDR) = true →
      (coreOf s c).buffer.find? (fun q => q.addr == getF desc RunDesc.PROG_ADDR && q.tag == getF desc RunDesc.PROG_TAG) = some p →
      progBad p.words = none → role s = 5 ∨ progRnd p.words = none →
      ∃ t, runLoad s c f desc = t ∧ (coreOf t c).running = true ∧ (coreOf t c).pc = 0 ∧ (coreOf t c).words = p.words ∧ (coreOf t c).cached = true
        ∧ (coreOf t c).buffer = bufferPut (coreOf s c).buffer p ∧ (∀ d, d ≠ c → coreOf t d = coreOf s d)
        ∧ od t OD.PROG_CACHE_HITS = (od s OD.PROG_CACHE_HITS + 1) % 2 ^ 64 ∧ { t with cores := s.cores, od := s.od } = s)
    ∧ (∀ (s : State) (c : Nat) (f : Flight), flightOn s (coreUnit c) = some f → getF f.step StepRec.OPCODE = 1 →
      (coreOf s c).running = false → odGet s OD.CORE_MAP c ≠ 3 →
      (readRec s (stepReader f) (getF f.step StepRec.DESC_ADDR) 192).2.2.1 ≠ 0 →
      completes (.run c) s (coreRefuse (readRec s (stepReader f) (getF f.step StepRec.DESC_ADDR) 192).1 c f 5 0xFFFF
        (some (readRec s (stepReader f) (getF f.step StepRec.DESC_ADDR) 192).2.2.2) false))
    ∧ (∀ (s : State) (c : Nat) (f : Flight), flightOn s (coreUnit c) = some f → getF f.step StepRec.OPCODE ≠ 1 →
      getF f.step StepRec.OPCODE ≠ 2 → (coreOf s c).running = false → odGet s OD.CORE_MAP c ≠ 3 →
      completes (.run c) s (coreRefuse s c f 4 0xFFFF none false))
    ∧ (∀ (s : State) (c : Nat) (f : Flight), flightOn s (coreUnit c) = some f → getF f.step StepRec.OPCODE = 2 →
      odGet s OD.CORE_MAP c ≠ 3 → (readRec s (stepReader f) (getF f.step StepRec.DESC_ADDR) 64).2.2.1 = 0 →
      completes (.ctx c) s (ctxRun (readRec s (stepReader f) (getF f.step StepRec.DESC_ADDR) 64).1 c f
        (readRec s (stepReader f) (getF f.step StepRec.DESC_ADDR) 64).2.1))
    ∧ (∀ (s : State) (c : Nat) (f : Flight), flightOn s (coreUnit c) = some f → getF f.step StepRec.OPCODE = 2 →
      odGet s OD.CORE_MAP c = 3 →
      completes (.ctx c) s (coreEnd s c f { coreOf s c with status := 6, opIndex := 0xFFFF } .fault))
    ∧ (∀ (s : State) (c k : Nat) (a : AsyncOp), (coreOf s c).asyncs[k]? = some a →
      (takeParts s a.parts).2.all AsyncPart.done = true →
      completes (.asyncOpComplete c k) s
        (setCore (if a.store then (takeParts s a.parts).1 else partsFill (takeParts s a.parts).1 c a.win (takeParts s a.parts).2) c
          (noteFail { coreOf s c with asyncs := (coreOf s c).asyncs.eraseIdx k } (partsFail (takeParts s a.parts).2))))
    ∧ (∀ (s : State) (c : Nat) (f : Flight), flightOn s (coreUnit c) = some f → (coreOf s c).running = true →
      (coreOf s c).ended = true → (coreOf s c).asyncs = [] →
      ∃ t, completes (.coreStepComplete c) s t ∧ flightOn t (coreUnit c) = none
        ∧ coreOf t c = { CoreSt.reset with buffer := (coreOf s c).buffer }
        ∧ (∀ d, d ≠ c → coreOf t d = coreOf s d) ∧ t.acc = s.acc
        ∧ (∀ a, (∀ p ∈ s.rows.clasp, a < p.2.area ∨ p.2.area + 192 ≤ a) → memByte t a = memByte s a)
        ∧ kget t.rings OD.CORE_COMPLETION_RING 0 = kget s.rings OD.CORE_COMPLETION_RING 0 + 1)
    ∧ (∀ (s : State) (c block : Nat), c < 200 → coreMap s c ≠ 3 → coreMap s c ≠ 2 →
      completes (.coreCheckFail c block) s
        (let s1 := { s with ft := { s.ft with winChecks := s.ft.winChecks + 1 } }
         (coreRows s1 c).foldl joinContained (coreFence (coreFault s1 c) c 2)))

/-- Where a core's program is at the op: NOP only goes on; SETAD sets AD[SEL] to X:Y; ADDAD adds X:Y modulo 2^32; ADDP adds X:Y
sign-extended, modulo 2^64; MOVPA copies the low 32 bits of P[X mod 16]; LOOP enters its body of Y words with X (or the low 16 bits of
P[SEL]) repetitions, or passes it where that or Y is 0; END ends the program once nothing is outstanding, and waits before that. Nothing
but that core changes. (R80, R81, R83, 04_step_programs.md.) -/
def Obligations.CoreControlOps : Prop :=
  (∀ (s : State) (c : Nat) (f : Flight) (w : Nat), opAt s c 0x00 = some (f, w) →
      completes (.nop c) s (setCore s c (stepPast (coreOf s c) (coreOf s c).pc)))
    ∧ (∀ (s : State) (c : Nat) (f : Flight) (w : Nat), opAt s c 0x01 = some (f, w) → (coreOf s c).asyncs = [] →
      completes (.endOp c) s
        (setCore s c { coreOf s c with ended := true, opIndex := 0xFFFF, executed := (coreOf s c).executed + 1 }))
    ∧ (∀ (s : State) (c : Nat) (f : Flight) (w : Nat), opAt s c 0x01 = some (f, w) → (coreOf s c).asyncs ≠ [] → completes (.endOp c) s s)
    ∧ (∀ (s : State) (c : Nat) (f : Flight) (w n : Nat), opAt s c 0x02 = some (f, w) →
      n = (if getF w OpWord.FLAG = 1 then paramOf (coreOf s c) w 0 % 65536 else getF w OpWord.X) → n ≠ 0 → getF w OpWord.Y ≠ 0 →
      completes (.loop c) s (setCore s c { coreOf s c with
        pc := (coreOf s c).pc + 1, executed := (coreOf s c).executed + 1, waitFrom := none,
        loops := ⟨(coreOf s c).pc + 1, (coreOf s c).pc + getF w OpWord.Y, n - 1⟩ :: (coreOf s c).loops }))
    ∧ (∀ (s : State) (c : Nat) (f : Flight) (w n : Nat), opAt s c 0x02 = some (f, w) →
      n = (if getF w OpWord.FLAG = 1 then paramOf (coreOf s c) w 0 % 65536 else getF w OpWord.X) → n = 0 ∨ getF w OpWord.Y = 0 →
      completes (.loop c) s (setCore s c (stepPast (coreOf s c) ((coreOf s c).pc + getF w OpWord.Y))))
    ∧ (∀ (s : State) (c : Nat) (f : Flight) (w : Nat), opAt s c 0x03 = some (f, w) →
      completes (.setad c) s (setCore s c (stepPast { coreOf s c with
        ad := lset (coreOf s c).ad (getF w OpWord.SEL) (getF w OpWord.X * 65536 + getF w OpWord.Y) } (coreOf s c).pc)))
    ∧ (∀ (s : State) (c : Nat) (f : Flight) (w : Nat), opAt s c 0x04 = some (f, w) →
      completes (.addad c) s (setCore s c (stepPast { coreOf s c with
        ad := lset (coreOf s c).ad (getF w OpWord.SEL)
          (((coreOf s c).ad.getD (getF w OpWord.SEL) 0 + (getF w OpWord.X * 65536 + getF w OpWord.Y)) % 2 ^ 32) } (coreOf s c).pc)))
    ∧ (∀ (s : State) (c : Nat) (f : Flight) (w : Nat), opAt s c 0x05 = some (f, w) →
      ∃ v : Nat, completes (.addp c) s (setCore s c (stepPast { coreOf s c with
          pr := lset (coreOf s c).pr (getF w OpWord.SEL) v } (coreOf s c).pc))
        ∧ (v : Int) = ((coreOf s c).pr.getD (getF w OpWord.SEL) 0 + sext 32 (getF w OpWord.X * 65536 + getF w OpWord.Y)) % 2 ^ 64)
    ∧ (∀ (s : State) (c : Nat) (f : Flight) (w : Nat), opAt s c 0x06 = some (f, w) →
      completes (.movpa c) s (setCore s c (stepPast { coreOf s c with
        ad := lset (coreOf s c).ad (getF w OpWord.SEL) ((coreOf s c).pr.getD (getF w OpWord.X % 16) 0 % 2 ^ 32) } (coreOf s c).pc)))

/-- Outside a loop's last op the next op is the next word; at the last op of the innermost loop the program goes back to its first op
while repetitions are left, each taking one away, and leaves the loop after the last. (R80, 04_step_programs.md.) -/
def Obligations.LoopsRepeatTheirBody : Prop :=
  (∀ a, nextPc [] a = (a + 1, []))
    ∧ (∀ (l : LoopSt) (t : List LoopSt) (a : Nat), l.last ≠ a → nextPc (l :: t) a = (a + 1, l :: t))
    ∧ (∀ (l : LoopSt) (t : List LoopSt), 0 < l.left → nextPc (l :: t) l.last = (l.first, { l with left := l.left - 1 } :: t))
    ∧ (∀ (l : LoopSt) (t : List LoopSt), l.left = 0 → nextPc (l :: t) l.last = nextPc t l.last)

/-- EVT_POST, once every earlier op has finished, posts event X mod 4,096 and goes on, and waits before that; in a carried step it posts
nothing. EVT_WAIT, and EVT_WAIT_EXPIRE for a wait that has begun, go on when the event has been set in this frame by the limit, 64 Y clk
after the wait began, and the step is not carried; they go on with WAIT_EXPIRED when the limit has come and the event had not been set by
then; otherwise the op waits, from the first time it was tried (that at one and the same clk the event counts is the model's choice, log
68). The end of a frame clears every event flag. FENCE goes on once nothing is outstanding. (R86.) -/
def Obligations.CoreEventOps : Prop :=
  (∀ (s : State) (c : Nat) (f : Flight) (w : Nat), opAt s c 0x08 = some (f, w) → (coreOf s c).asyncs = [] → f.carried = false →
      completes (.evtPost c) s (setCore (postEvent s (getF w OpWord.X % 4096)) c (stepPast (coreOf s c) (coreOf s c).pc)))
    ∧ (∀ (s : State) (c : Nat) (f : Flight) (w : Nat), opAt s c 0x08 = some (f, w) → (coreOf s c).asyncs = [] → f.carried = true →
      completes (.evtPost c) s (setCore s c (stepPast (coreOf s c) (coreOf s c).pc)))
    ∧ (∀ (s : State) (c : Nat) (f : Flight) (w e : Nat), opAt s c 0x09 = some (f, w) → f.carried = false →
      kfind s.frm.events (getF w OpWord.X % 4096) = some e → e ≤ s.clk → e ≤ (coreOf s c).waitFrom.getD s.clk + 64 * getF w OpWord.Y →
      completes (.evtWait c) s (setCore s c (stepPast (coreOf s c) (coreOf s c).pc))
      ∧ ((coreOf s c).waitFrom ≠ none → completes (.evtWaitExpire c) s (setCore s c (stepPast (coreOf s c) (coreOf s c).pc))))
    ∧ (∀ (s : State) (c : Nat) (f : Flight) (w : Nat), opAt s c 0x09 = some (f, w) →
      s.clk < (coreOf s c).waitFrom.getD s.clk + 64 * getF w OpWord.Y →
      (∀ e, kfind s.frm.events (getF w OpWord.X % 4096) = some e → f.carried = true ∨ s.clk < e) →
      completes (.evtWait c) s (setCore s c { coreOf s c with waitFrom := some ((coreOf s c).waitFrom.getD s.clk) })
      ∧ completes (.evtWaitExpire c) s s)
    ∧ (∀ (s : State) (c : Nat) (f : Flight) (w : Nat), opAt s c 0x09 = some (f, w) →
      (coreOf s c).waitFrom.getD s.clk + 64 * getF w OpWord.Y ≤ s.clk →
      (∀ e, kfind s.frm.events (getF w OpWord.X % 4096) = some e →
        f.carried = true ∨ s.clk < e ∨ (coreOf s c).waitFrom.getD s.clk + 64 * getF w OpWord.Y < e) →
      completes (.evtWait c) s (setCore s c (stepPast { coreOf s c with waitExpired := true } (coreOf s c).pc))
      ∧ ((coreOf s c).waitFrom ≠ none →
        completes (.evtWaitExpire c) s (setCore s c (stepPast { coreOf s c with waitExpired := true } (coreOf s c).pc))))
    ∧ (∀ (s : State) (c : Nat) (f : Flight) (w : Nat), opAt s c 0x08 = some (f, w) → (coreOf s c).asyncs ≠ [] → completes (.evtPost c) s s)
    ∧ (∀ s : State, (frameEnd s).frm.events = [])
    ∧ (∀ (s : State) (c : Nat) (f : Flight) (w : Nat), opAt s c 0x0A = some (f, w) → (coreOf s c).asyncs = [] →
      completes (.fenceOp c) s (setCore s c (stepPast (coreOf s c) (coreOf s c).pc)))

/-- WLOAD, WSTORE and GATHER with room among the 64 outstanding accesses start theirs and go on; with none they wait. WCOPY copies 64 X
bytes as they stood, TRANSP writes the transpose, GATHERW the rows its indices name (zeros for 0xFFFFFFFF), SCATTER stores or gate-adds
rows at theirs, slot by slot, skipping padding; CREDUCE starts the reads of its Y mod 256 partials, takes the answers, and once all are
in stores their sums along the tree. A length or count of 0 ends the step with BAD_OP at that op. (R81, R83, R84, R92,
04_step_programs.md.) -/
def Obligations.CoreMovesAndLoads : Prop :=
  (∀ (s : State) (c : Nat) (f : Flight) (w : Nat), opAt s c 0x10 = some (f, w) → getF w OpWord.X ≠ 0 → (coreOf s c).asyncs.length < 64 →
      completes (.wload c) s
        (let r := startParts s c f false (memAddr (paramOf (coreOf s c) w 0)) (64 * getF w OpWord.X) 0 []
         asyncStart r.1 c (postIncr (coreOf s c) w (64 * getF w OpWord.X)) false (winByte (coreOf s c) (getF w OpWord.OPD)) r.2))
    ∧ (∀ (s : State) (c : Nat) (f : Flight) (w : Nat), opAt s c 0x11 = some (f, w) → getF w OpWord.X ≠ 0 → (coreOf s c).asyncs.length < 64 →
      completes (.wstore c) s
        (let r := startParts s c f true (memAddr (paramOf (coreOf s c) w 0)) (64 * getF w OpWord.X) 0
           (opBytes s c (opndOf (coreOf s c) false (getF w OpWord.OPA)) 0 (64 * getF w OpWord.X))
         asyncStart r.1 c (postIncr (coreOf s c) w (64 * getF w OpWord.X)) true (winByte (coreOf s c) (getF w OpWord.OPA)) r.2))
    ∧ (∀ (s : State) (c : Nat) (f : Flight) (w : Nat), opAt s c 0x10 = some (f, w) → getF w OpWord.X ≠ 0 → 64 ≤ (coreOf s c).asyncs.length →
      completes (.wload c) s s)
    ∧ (∀ (s : State) (c : Nat) (f : Flight) (w : Nat), opAt s c 0x12 = some (f, w) → getF w OpWord.X ≠ 0 →
      completes (.wcopy c) s (opDone (opWrite s c (opndOf (coreOf s c) false (getF w OpWord.OPD)) 0
        (opBytes s c (opndOf (coreOf s c) false (getF w OpWord.OPA)) 0 (64 * getF w OpWord.X))) c (coreOf s c)))
    ∧ (∀ (s : State) (c : Nat) (f : Flight) (w : Nat), opAt s c 0x13 = some (f, w) → getF w OpWord.X ≠ 0 → getF w OpWord.Y ≠ 0 →
      completes (.transp c) s
        (let x := getF w OpWord.X
         let y := getF w OpWord.Y
         let fm := getF w OpWord.FA
         let rows := (List.range y).map (fun j => ((List.range x).map (fun i =>
           elemCode s c (opndOf (coreOf s c) false (getF w OpWord.OPA)) fm y i j * 2 ^ (fmtBits fm * i))).sum)
         opDone (rows.zipIdx.foldl (fun t r => opSetBits t c (opndOf (coreOf s c) false (getF w OpWord.OPD))
           (128 * rowUnits fm x * r.2) (fmtBits fm * x) r.1) s) c (coreOf s c)))
    ∧ (∀ (s : State) (c : Nat) (f : Flight) (w : Nat), opAt s c 0x51 = some (f, w) → getF w OpWord.A_ACC = 0 → getF w OpWord.B_ACC = 0 →
      getF w OpWord.X ≠ 0 → getF w OpWord.Y ≠ 0 → (coreOf s c).asyncs.length < 64 →
      completes (.gather c) s
        (let n := 16 * getF w OpWord.Y
         let r := (List.range (getF w OpWord.X)).foldl (fun (acc : State × List AsyncPart) i =>
           let k := idxAt s c (opndOf (coreOf s c) false (getF w OpWord.OPB)) i
           if k = 0xFFFFFFFF then (acc.1, acc.2 ++ [⟨0, 0, n, n * i, true, 0, []⟩])
           else
             let p := startParts acc.1 c f false (memAddr (paramOf (coreOf s c) w 0 + k * paramOf (coreOf s c) w 1)) n (n * i) []
             (p.1, acc.2 ++ p.2)) (s, [])
         asyncStart r.1 c (coreOf s c) false (winByte (coreOf s c) (getF w OpWord.OPD)) r.2))
    ∧ (∀ (s : State) (c : Nat) (f : Flight) (w : Nat), opAt s c 0x52 = some (f, w) → getF w OpWord.A_ACC = 0 → getF w OpWord.B_ACC = 0 →
      getF w OpWord.X ≠ 0 → getF w OpWord.Y ≠ 0 →
      completes (.gatherw c) s
        (let y := getF w OpWord.Y
         let rows := (List.range (getF w OpWord.X)).map (fun i =>
           let k := idxAt s c (opndOf (coreOf s c) false (getF w OpWord.OPB)) i
           if k = 0xFFFFFFFF then List.replicate (16 * y) 0
           else opBytes s c (opShift (opndOf (coreOf s c) false (getF w OpWord.OPA)) (k * y)) 0 (16 * y))
         opDone (storeUnits s c (opndOf (coreOf s c) (getF w OpWord.D_ACC == 1) (getF w OpWord.OPD)) rows) c (coreOf s c)))
    ∧ (∀ (s : State) (c : Nat) (f : Flight) (w : Nat), opAt s c 0x53 = some (f, w) → getF w OpWord.X ≠ 0 → getF w OpWord.Y ≠ 0 →
      completes (.scatter c) s
        (let x := getF w OpWord.X
         let y := getF w OpWord.Y
         let b := opndOf (coreOf s c) (getF w OpWord.B_ACC == 1) (getF w OpWord.OPB)
         let a := opndOf (coreOf s c) (getF w OpWord.A_ACC == 1) (getF w OpWord.OPA)
         let d := opndOf (coreOf s c) (getF w OpWord.D_ACC == 1) (getF w OpWord.OPD)
         let r := (List.range x).foldl (fun (acc : State × SFlags) i =>
           if idxAt s c b i = 0xFFFFFFFF then acc
           else if getF w OpWord.FLAG = 1 then
             let row := scatterRow acc.1 c a (opShift d (idxAt s c b i * y)) (leNat (opBytes s c b (4 * x + 4 * i) 4)) y i
             (opWrite acc.1 c (opShift d (idxAt s c b i * y)) 0 (row.flatMap (leBytes 4)), SFlags.or acc.2 (flagsOf (row.map f32flags)))
           else (opWrite acc.1 c (opShift d (idxAt s c b i * y)) 0 (opBytes acc.1 c a (16 * y * i) (16 * y)), acc.2)) (s, SFlags.none)
         opDone r.1 c (orFlags (coreOf s c) r.2)))
    ∧ (∀ (s : State) (c : Nat) (f : Flight) (w : Nat) (a : AsyncOp), opAt s c 0x71 = some (f, w) → getF w OpWord.X ≠ 0 →
      2 ≤ getF w OpWord.Y % 256 → getF w OpWord.Y % 256 ≤ 192 → (coreOf s c).reduce = some a →
      completes (.creduce c) s (reduceTry (takeParts s a.parts).1 c (coreOf s c) w (takeParts s a.parts).2))
    ∧ (∀ (s : State) (c : Nat) (f : Flight) (w : Nat), opAt s c 0x71 = some (f, w) → getF w OpWord.X ≠ 0 →
      2 ≤ getF w OpWord.Y % 256 → getF w OpWord.Y % 256 ≤ 192 → (coreOf s c).reduce = none →
      completes (.creduce c) s
        (let len := 64 * getF w OpWord.X
         let st := (List.range (getF w OpWord.Y % 256)).foldl (fun (acc : State × List AsyncPart) p =>
           let q := startParts acc.1 c f false (memAddr (paramOf (coreOf s c) w 0 + p * len)) len (p * len) []
           (q.1, acc.2 ++ q.2)) (s, [])
         let r := takeParts st.1 st.2
         reduceTry r.1 c (coreOf s c) w r.2))
    ∧ (∀ (s : State) (c : Nat) (cs : CoreSt) (w : Nat) (parts : List AsyncPart), parts.all AsyncPart.done = true →
      ∃ t : State, reduceTry s c cs w parts = opDone t c (noteFail (orFlags { cs with reduce := none } (flagsOf
          ((reduceWords (64 * getF w OpWord.X / 4) (getF w OpWord.Y % 256) (partialBytes (64 * getF w OpWord.X) parts)).map f32flags)))
          (partsFail parts))
        ∧ t = opWrite s c (opndOf cs (getF w OpWord.D_ACC == 1) (getF w OpWord.OPD)) 0
          ((reduceWords (64 * getF w OpWord.X / 4) (getF w OpWord.Y % 256) (partialBytes (64 * getF w OpWord.X) parts)).flatMap (leBytes 4)))
    ∧ (∀ (s : State) (c op : Nat) (f : Flight) (w : Nat) (i : Instr),
      (op, i) ∈ [(0x10, Instr.wload c), (0x11, .wstore c), (0x12, .wcopy c), (0x13, .transp c), (0x51, .gather c), (0x52, .gatherw c),
        (0x53, .scatter c), (0x71, .creduce c)] →
      opAt s c op = some (f, w) → getF w OpWord.X = 0 → completes i s (opStop s c (coreOf s c) 4))

/-- With formats the op table allows and a shape X by Y that is not empty, each vector op stores, at its destination and in its format,
the element the op's formula gives from operands A, B and the destination as they stood: sum, difference, product, fused product,
maximum, minimum, A c + d, A c - B[i] (minus infinity where CAUSAL and beyond the diagonal), A B[i], or the special function SEL of A; a
reduction stores one result for each row. The op is counted and the next one reached. (R63, R64, R65, R66, R79, R81, 03_arithmetic.md,
04_step_programs.md.) -/
def Obligations.VectorOpsComputeEveryElement : Prop :=
  ∀ (s : State) (c : Nat) (f : Flight) (w : Nat),
    let cs := coreOf s c
    let x := getF w OpWord.X
    let y := getF w OpWord.Y
    let p := paramOf cs w 0
    let q := paramOf cs w 1
    let A := vecA s c cs w y
    let B := vecB s c cs w y
    let grid := fun (e : Nat → Nat → Nat) => (List.range x).map (fun i => (List.range y).map (fun j => e i j))
    x ≠ 0 → y ≠ 0 →
    (vecFmtOk w true = true →
      (opAt s c 0x30 = some (f, w) → completes (.vadd c) s (vecStore s c cs w (grid (fun i j => f32add (A i j) (B i j)))))
      ∧ (opAt s c 0x31 = some (f, w) → completes (.vsub c) s (vecStore s c cs w (grid (fun i j => f32sub (A i j) (B i j)))))
      ∧ (opAt s c 0x32 = some (f, w) → completes (.vmul c) s (vecStore s c cs w (grid (fun i j => f32mul (A i j) (B i j)))))
      ∧ (opAt s c 0x33 = some (f, w) →
          completes (.vfma c) s (vecStore s c cs w (grid (fun i j => f32fma (A i j) (B i j) (vecD s c cs w y i j)))))
      ∧ (opAt s c 0x34 = some (f, w) → completes (.vmax c) s (vecStore s c cs w (grid (fun i j => f32max (A i j) (B i j)))))
      ∧ (opAt s c 0x35 = some (f, w) → completes (.vmin c) s (vecStore s c cs w (grid (fun i j => f32min (A i j) (B i j)))))
      ∧ (opAt s c 0x37 = some (f, w) → completes (.vrowsub c) s (vecStore s c cs w (grid (fun i j =>
          if getF w OpWord.FLAG = 1 ∧ q / 2 ^ 32 % 2 ^ 32 + i < q % 2 ^ 32 + j then 0xFF800000
          else f32fma (A i j) (p % 2 ^ 32) (f32neg (vecB s c cs w x 0 i))))))
      ∧ (opAt s c 0x38 = some (f, w) →
          completes (.vrowmul c) s (vecStore s c cs w (grid (fun i j => f32mul (A i j) (vecB s c cs w x 0 i))))))
    ∧ (vecFmtOk w false = true →
      (opAt s c 0x36 = some (f, w) →
          completes (.vaff c) s (vecStore s c cs w (grid (fun i j => f32fma (A i j) (p % 2 ^ 32) (p / 2 ^ 32 % 2 ^ 32)))))
      ∧ (opAt s c 0x48 = some (f, w) → completes (.sfn c) s (vecStore s c cs w (grid (fun i j => sfn (getF w OpWord.SEL) (A i j)))))
      ∧ (opAt s c 0x40 = some (f, w) → completes (.rsum c) s (vecStore s c cs w [(grid A).map treeSum]))
      ∧ (opAt s c 0x41 = some (f, w) → completes (.rmax c) s (vecStore s c cs w [(grid A).map (fun l => treeFold f32max l.length l)]))
      ∧ (opAt s c 0x42 = some (f, w) → completes (.rmin c) s (vecStore s c cs w [(grid A).map (fun l => treeFold f32min l.length l)]))
      ∧ (opAt s c 0x43 = some (f, w) → completes (.rssq c) s (vecStore s c cs w [(grid A).map sumSquares])))

/-- With a pair of formats R58 allows, K a multiple of 32 from 32 to 16,384, aligned window operands and M, N of at most 128, MMA (MMAT
with B transposed) puts into word 4 OPD + 128 i + j of the core's accumulator the element mmaElem computes chunk by chunk from the word's
value, or from 0 with FLAG; every other accumulator word of every core is as it was, memory and the other cores too, and the op is
counted. (R57, R58, R59, R60, R61, R81, 03_arithmetic.md, 04_step_programs.md.) -/
def Obligations.MatrixOpsWriteTheirElements : Prop :=
  ∀ (s : State) (c : Nat) (f : Flight) (w : Nat) (tr : Bool),
    let cs := coreOf s c
    let fa := getF w OpWord.FA
    let fb := getF w OpWord.FB
    let k := getF w OpWord.X
    let n := getF w OpWord.Y / 256 + 1
    let m := getF w OpWord.Y % 256 + 1
    let oa := opndOf cs false (getF w OpWord.OPA)
    let ob := opndOf cs false (getF w OpWord.OPB)
    let a : MmaOpnd := ⟨oa, fa, m, k, true⟩
    let b : MmaOpnd := if tr then ⟨ob, fb, n, k, true⟩ else ⟨ob, fb, k, n, false⟩
    let word := fun (i j : Nat) => c * 65536 + ((opndOf cs true (getF w OpWord.OPD)).unit * 4 + 128 * i + j) % 65536
    opAt s c (if tr then 0x21 else 0x20) = some (f, w) → pairOk fa fb = true → k % 32 = 0 → 32 ≤ k → k ≤ 16384 →
    getF w OpWord.A_ACC = 0 → getF w OpWord.B_ACC = 0 → oa.unit % 4 = 0 → ob.unit % 4 = 0 → m ≤ 128 → n ≤ 128 →
    ∃ t, completes (if tr then .mmat c else .mmaOp c) s t
      ∧ (∀ i j, i < m → j < n → kget t.acc (word i j) 0 =
          (mmaElem s c a b tr k (chunkLen fa fb) (if getF w OpWord.FLAG = 1 then 0 else kget s.acc (word i j) 0) i j).1)
      ∧ (∀ x, (∀ i j, i < m → j < n → x ≠ word i j) → kget t.acc x 0 = kget s.acc x 0)
      ∧ (coreOf t c).executed = cs.executed + 1 ∧ (∀ d, d ≠ c → coreOf t d = coreOf s d)
      ∧ { t with acc := s.acc, cores := s.cores } = s

/-- IDXBUILD with legal counts stores one record of C slots for each expert and then the counts, and adds what it dropped to DROPPED.
TOPK stores for each row its k largest elements, each an element of the row, and their indices. QUANT converts FP32 elements to the
destination's format, DEQUANT any format to FP32. Each counts as one op. (R51, R66, R81, R88, R89, R90, 04_step_programs.md.) -/
def Obligations.RoutingAndConversionOps : Prop :=
  (∀ (s : State) (c : Nat) (f : Flight) (w : Nat),
      let cs := coreOf s c
      let t := getF w OpWord.X
      let k := getF w OpWord.Y % 16
      let e := paramOf cs w 0 % 65536
      let cap := paramOf cs w 0 / 65536 % 65536
      let r := idxFill e cap (idxAssignments s c (opndOf cs false (getF w OpWord.OPA)) (opndOf cs false (getF w OpWord.OPB)) t k)
      let bs := (List.range e).flatMap (fun x => idxRecord cap (kget r.1 x []))
        ++ (List.range e).flatMap (fun x => leBytes 4 (kget r.1 x []).length)
      opAt s c 0x50 = some (f, w) → getF w OpWord.A_ACC = 0 → getF w OpWord.B_ACC = 0 → t ≠ 0 → 1 ≤ k → k ≤ 8 → 1 ≤ e → e ≤ 256 →
      cap % 2 = 0 → 2 ≤ cap → cap ≤ 65534 →
      completes (.idxbuild c) s (opDone (opWrite s c (opndOf cs (getF w OpWord.D_ACC == 1) (getF w OpWord.OPD)) 0 bs) c
        { cs with dropped := cs.dropped + r.2 }))
    ∧ (∀ (s : State) (c : Nat) (f : Flight) (w : Nat),
      let cs := coreOf s c
      let k := paramOf cs w 0 % 2048
      let y := getF w OpWord.Y
      let x := getF w OpWord.X
      let d := getF w OpWord.D_ACC == 1
      let fd := if d then 0 else getF w OpWord.FD
      let bits := fmtBits fd * k + 32 * k
      opAt s c 0x58 = some (f, w) → getF w OpWord.A_ACC ≠ 0 ∨ getF w OpWord.FA ≤ 1 → fd ≤ 2 → x ≠ 0 → y ≠ 0 → 1 ≤ k → k ≤ 1024 → k ≤ y →
      completes (.topk c) s
        (let r := (List.range x).foldl (fun (acc : State × SFlags) i =>
           let row := topRow k ((List.range y).map (fun j => vecA s c cs w y i j))
           let codes := row.zipIdx.map (fun p => encodeFmt fd (rndOf cs w (i * k + p.2)) (getF w OpWord.SAT == 1) p.1.1)
           let v := (codes.zipIdx.map (fun p => p.1.1 % 2 ^ fmtBits fd * 2 ^ (fmtBits fd * p.2))).sum
             + (row.zipIdx.map (fun p => p.1.2 * 2 ^ (fmtBits fd * k + 32 * p.2))).sum
           (opSetBits acc.1 c (opndOf cs d (getF w OpWord.OPD)) (128 * cdiv bits 128 * i) bits v,
             SFlags.or acc.2 (flagsOf (codes.map (convFlags fd))))) (s, SFlags.none)
         opDone r.1 c (orFlags cs r.2)))
    ∧ (∀ (k : Nat) (row : List Nat), k ≤ row.length → (topRow k row).length = k ∧ ∀ p ∈ topRow k row, row[p.2]? = some p.1)
    ∧ (∀ (s : State) (c : Nat) (f : Flight) (w0 : Nat),
      let cs := coreOf s c
      let w := setF w0 OpWord.FA 0
      let x := getF w OpWord.X
      let y := getF w OpWord.Y
      let d := getF w OpWord.D_ACC == 1
      let fd := accFmt d (getF w OpWord.FD)
      let o := opndOf cs d (getF w OpWord.OPD)
      opAt s c 0x60 = some (f, w0) → d = true ∨ (fd ≠ 0 ∧ fd ≤ 13) → fd ≠ 13 ∨ x % 16 = 0 → x ≠ 0 → y ≠ 0 →
      completes (.quant c) s
        (let r := if isMx fd then quantMx s c cs w o fd x y
          else if fd = 13 then quantBead s c cs w o x y
          else storeRows s c cs w o fd ((List.range x).map (fun i => (List.range y).map (fun j => vecA s c cs w y i j)))
         opDone r.1 c (orFlags cs r.2)))
    ∧ (∀ (s : State) (c : Nat) (f : Flight) (w0 : Nat),
      let cs := coreOf s c
      let w := setF w0 OpWord.FD 0
      let x := getF w OpWord.X
      let y := getF w OpWord.Y
      opAt s c 0x61 = some (f, w0) → getF w OpWord.A_ACC = 1 ∨ (getF w OpWord.FA ≠ 0 ∧ getF w OpWord.FA ≤ 13) → x ≠ 0 → y ≠ 0 →
      completes (.dequant c) s (vecStore s c cs w
        ((List.range x).map (fun i => (List.range y).map (fun j => dequantElem s c cs w x y i j)))))

/-- A format that the op table or R58 does not allow ends the step with BAD_FORMAT at the op, and a zero shape, a K that is no multiple
of 32 from 32 to 16,384, an operand in the accumulator where none may be, or a k, E or C of IDXBUILD or a k of TOPK outside its range
ends it with BAD_OP: OP_INDEX is the op's index, and nothing but that core changes. (R58, R81, R82, 04_step_programs.md.) -/
def Obligations.BadOpsEndTheStep : Prop :=
  ∀ (s : State) (c : Nat) (f : Flight) (w : Nat),
    let cs := coreOf s c
    let bad := fun (i : Instr) (st : Nat) => completes i s (setCore s c { cs with ended := true, status := st, opIndex := cs.pc })
    (∀ op i, (op, i) ∈ [(0x30, Instr.vadd c), (0x31, .vsub c), (0x32, .vmul c), (0x33, .vfma c), (0x34, .vmax c), (0x35, .vmin c),
        (0x37, .vrowsub c), (0x38, .vrowmul c)] → opAt s c op = some (f, w) → vecFmtOk w true = false → bad i 1)
    ∧ (∀ op i, (op, i) ∈ [(0x36, Instr.vaff c), (0x40, .rsum c), (0x41, .rmax c), (0x42, .rmin c), (0x43, .rssq c), (0x48, .sfn c)] →
        opAt s c op = some (f, w) → vecFmtOk w false = false → bad i 1)
    ∧ (∀ op i, (op, i) ∈ [(0x30, Instr.vadd c), (0x31, .vsub c), (0x32, .vmul c), (0x33, .vfma c), (0x34, .vmax c), (0x35, .vmin c),
        (0x36, .vaff c), (0x37, .vrowsub c), (0x38, .vrowmul c), (0x40, .rsum c), (0x41, .rmax c), (0x42, .rmin c), (0x43, .rssq c),
        (0x48, .sfn c)] → opAt s c op = some (f, w) → vecFmtOk w true = true → getF w OpWord.X = 0 ∨ getF w OpWord.Y = 0 → bad i 4)
    ∧ (∀ op i, (op, i) ∈ [(0x20, Instr.mmaOp c), (0x21, .mmat c)] → opAt s c op = some (f, w) →
        pairOk (getF w OpWord.FA) (getF w OpWord.FB) = false → bad i 1)
    ∧ (∀ op i, (op, i) ∈ [(0x20, Instr.mmaOp c), (0x21, .mmat c)] → opAt s c op = some (f, w) →
        pairOk (getF w OpWord.FA) (getF w OpWord.FB) = true →
        getF w OpWord.X % 32 ≠ 0 ∨ getF w OpWord.X < 32 ∨ 16384 < getF w OpWord.X ∨ getF w OpWord.A_ACC = 1 ∨ getF w OpWord.B_ACC = 1
          ∨ (opndOf cs false (getF w OpWord.OPA)).unit % 4 ≠ 0 ∨ (opndOf cs false (getF w OpWord.OPB)).unit % 4 ≠ 0
          ∨ 128 < getF w OpWord.Y % 256 + 1 ∨ 128 < getF w OpWord.Y / 256 + 1 → bad i 4)
    ∧ (∀ op i, (op, i) ∈ [(0x50, Instr.idxbuild c), (0x51, .gather c), (0x52, .gatherw c)] → opAt s c op = some (f, w) →
        getF w OpWord.A_ACC = 1 ∨ getF w OpWord.B_ACC = 1 ∨ getF w OpWord.X = 0 → bad i 4)
    ∧ (opAt s c 0x50 = some (f, w) → getF w OpWord.Y % 16 = 0 ∨ 8 < getF w OpWord.Y % 16 ∨ paramOf cs w 0 % 65536 = 0
        ∨ 256 < paramOf cs w 0 % 65536 ∨ paramOf cs w 0 / 65536 % 65536 % 2 = 1 ∨ paramOf cs w 0 / 65536 % 65536 < 2
        ∨ 65534 < paramOf cs w 0 / 65536 % 65536 → bad (.idxbuild c) 4)
    ∧ (opAt s c 0x58 = some (f, w) → (getF w OpWord.A_ACC = 0 ∧ 1 < getF w OpWord.FA) ∨ (getF w OpWord.D_ACC ≠ 1 ∧ 2 < getF w OpWord.FD) →
        bad (.topk c) 1)
    ∧ (opAt s c 0x58 = some (f, w) → getF w OpWord.A_ACC ≠ 0 ∨ getF w OpWord.FA ≤ 1 → getF w OpWord.D_ACC = 1 ∨ getF w OpWord.FD ≤ 2 →
        getF w OpWord.X = 0 ∨ getF w OpWord.Y = 0 ∨ paramOf cs w 0 % 2048 = 0 ∨ 1024 < paramOf cs w 0 % 2048
          ∨ getF w OpWord.Y < paramOf cs w 0 % 2048 → bad (.topk c) 4)

/-- For every op of a core that reaches no memory side (control, events but EVT_POST, copies, matrix, vector, reduction, special
function, routing and conversion ops), in every state, the next state differs only in that core's registers, the 2 MiB of its window
memory and the 65,536 words of its accumulator, and for QUANT in the counts KV_CLIPPED and KV_NONFINITE; the memory keeps its canonical
form. (R70, R71, R72, R80, R205, 04_step_programs.md, 10_memory.md.) -/
def Obligations.CoreOpsStayOnTheirCore : Prop :=
  ∀ (i : Instr) (c : Nat) (s t : State), localOp i = some c → exec i s = .next t →
    { t with cores := s.cores, mem := s.mem, acc := s.acc, od := s.od } = s
    ∧ (i ≠ .quant c → t.od = s.od)
    ∧ (∀ e k, e ≠ OD.KV_CLIPPED → e ≠ OD.KV_NONFINITE → k < 2 ^ 24 → odGet t e k = odGet s e k)
    ∧ (∀ d, d ≠ c → coreOf t d = coreOf s d)
    ∧ (∀ a, a < windowBase c ∨ windowBase c + 2 ^ 21 ≤ a → memByte t a = memByte s a)
    ∧ (∀ x, x / 65536 ≠ c → kget t.acc x 0 = kget s.acc x 0)
    ∧ (s.memOk → t.memOk)

/-- Every FP32 NaN is written as 7FC00000h in FP32, 7FC0h in BF16, 7E00h in FP16 and 7Fh in both FP8 formats, under either rounding;
every code of a format with its exponent all ones and a fraction that is not 0 (FP8 E4M3: the magnitude 7Fh) is read as NaN, whatever its
payload. (R49.) -/
def Obligations.CanonicalNans : Prop :=
  toF32 .nan = 0x7FC00000
    ∧ (∀ rnd sat w, ofF32 w = .nan → (encodeFmt 0 rnd sat w).1 = 0x7FC00000 ∧ (encodeFmt 1 rnd sat w).1 = 0x7FC0 ∧ (encodeFmt 2 rnd sat w).1 = 0x7E00
        ∧ (encodeFmt 3 rnd sat w).1 = 0x7F ∧ (encodeFmt 4 rnd sat w).1 = 0x7F)
    ∧ (∀ sg m, sg < 2 → m < 2 ^ 23 → m ≠ 0 → ofF32 (sg * 2 ^ 31 + 0xFF * 2 ^ 23 + m) = .nan)
    ∧ (∀ sg m, sg < 2 → m < 2 ^ 7 → m ≠ 0 → decodeFmt 1 (sg * 2 ^ 15 + 0xFF * 2 ^ 7 + m) = .nan)
    ∧ (∀ sg m, sg < 2 → m < 2 ^ 10 → m ≠ 0 → decodeFmt 2 (sg * 2 ^ 15 + 0x1F * 2 ^ 10 + m) = .nan)
    ∧ (∀ sg, sg < 2 → decodeFmt 3 (sg * 2 ^ 7 + 0x7F) = .nan)
    ∧ (∀ sg m, sg < 2 → m < 2 ^ 2 → m ≠ 0 → decodeFmt 4 (sg * 2 ^ 7 + 0x1F * 2 ^ 2 + m) = .nan)

/-- A job in flight on an engine that is not fenced, in regions of which none has been fenced since it issued, runs where its descriptor
can be read, passes its checks and its role opens it: ATTEND as attendRun does, APPEND as appendRun does, COPY as copyRun does; GFCOMB
writes, line by line, the combinations of its inputs over GF(2^8), until a line cannot be read or written. The engine then runs no step.
A bead that is not HELD or SHARD makes the job the undefined case U03. In a role that closes the job, on a descriptor that cannot be read
or that fails a check, it ends having touched nothing (ROLE_CLOSED, MEM_ERROR, BAD_DESC), with another opcode BAD_OP, and on a fenced
engine or region with FAULT. (R16, R99, R101, R104, R115, R130, R428, 05_setting_engines.md.) -/
def Obligations.SettingJobsRunAndFree : Prop :=
  (∀ (s : State) (k : Nat) (f : Flight), flightOn s (engineUnit k) = some f → odGet s OD.ENGINE_MAP k ≠ 3 → jobFenced s k f = false →
      let d := readRec s (stepReader f) (getF f.step StepRec.DESC_ADDR) 128
      getF f.step StepRec.OPCODE = 1 → d.2.2.1 = 0 →
      (if getF d.2.1 AttendDesc.PROB_EN = 1 then role s = 5 else role s = 2 ∨ role s = 4) → attendBad s d.2.1 = false →
      ((attendRun d.1 k f d.2.1).2 = false → completes (.attend k) s (attendRun d.1 k f d.2.1).1)
      ∧ ((attendRun d.1 k f d.2.1).2 = true → exec (.attend k) s = .fault (.undefinedCase 3)))
    ∧ (∀ (s : State) (k : Nat) (f : Flight), flightOn s (engineUnit k) = some f → odGet s OD.ENGINE_MAP k ≠ 3 → jobFenced s k f = false →
      getF f.step StepRec.OPCODE = 2 → role s ≠ 0 → role s ≠ 3 →
      ((appendRun s k f).2 = false → completes (.append k) s (appendRun s k f).1)
      ∧ ((appendRun s k f).2 = true → exec (.append k) s = .fault (.undefinedCase 3)))
    ∧ (∀ (s : State) (k : Nat) (f : Flight), flightOn s (engineUnit k) = some f → odGet s OD.ENGINE_MAP k ≠ 3 → jobFenced s k f = false →
      let d := readRec s (stepReader f) (getF f.step StepRec.DESC_ADDR) 64
      getF f.step StepRec.OPCODE = 3 → role s ≠ 0 → d.2.2.1 = 0 → copyBad s k d.2.1 = false →
      ((copyRun d.1 k f d.2.1).2 = false → completes (.copy k) s (copyRun d.1 k f d.2.1).1)
      ∧ ((copyRun d.1 k f d.2.1).2 = true → exec (.copy k) s = .fault (.undefinedCase 3)))
    ∧ (∀ (s : State) (k : Nat) (f : Flight), flightOn s (engineUnit k) = some f → odGet s OD.ENGINE_MAP k ≠ 3 → jobFenced s k f = false →
      let rd := stepReader f
      let dr := readRec s rd (getF f.step StepRec.DESC_ADDR) 64
      let d := dr.2.1
      let len := getF d GfDesc.LENGTH
      let ir := sramRead dr.1 rd k (getF d GfDesc.IN_ADDR) (8 * getF d GfDesc.N_IN)
      let ins := (List.range (getF d GfDesc.N_IN)).map (fun i => leNat ((ir.2.1.drop (8 * i)).take 8))
      let outs := if getF d GfDesc.N_OUT = 2 then [getF d GfDesc.OUT0_ADDR, getF d GfDesc.OUT1_ADDR] else [getF d GfDesc.OUT0_ADDR]
      let inAddr := ins.map (fun w => getF w GfIn.ADDR)
      getF f.step StepRec.OPCODE = 4 → role s = 3 → dr.2.2.1 = 0 → 1 ≤ getF d GfDesc.N_IN → getF d GfDesc.N_IN ≤ 16 →
      1 ≤ getF d GfDesc.N_OUT → getF d GfDesc.N_OUT ≤ 2 → len ≠ 0 → ir.2.2 = true → (∀ a ∈ inAddr ++ outs, a + 64 * len ≤ 2 ^ 37) →
      completes (.gfcomb k) s
        (let r := (List.range len).foldl (fun (acc : SetRun × Bool) n =>
           if !acc.2 then acc
           else
             let a := gfRead acc.1 rd k n inAddr
             let b := if getF d GfDesc.ACC = 1 then gfRead a.1 rd k n outs else (a.1, outs.map (fun _ => []), true)
             if !(a.2.2 && b.2.2) then (b.1, false)
             else outs.zipIdx.foldl (fun (x : SetRun × Bool) o =>
               let coef := ins.map (fun w => if o.2 = 0 then getF w GfIn.C0 else getF w GfIn.C1)
               if x.2 then setWrite x.1 rd k (o.1 + 64 * n) (gfLine coef a.2.1 (b.2.1.getD o.2 [])) else x) (b.1, true))
                 (SetRun.start ir.1, true)
         setEnd r.1 k f (if r.2 then 0 else 5) [] .done))
    ∧ (∀ (r : SetRun) (k status : Nat) (f : Flight) (skipped : List Nat) (how : StepEnd),
      flightOn (setEnd r k f status skipped how) (engineUnit k) = none)
    ∧ (∀ (s : State) (k op : Nat) (f : Flight) (i : Instr), (op, i) ∈ [(1, Instr.attend k), (2, .append k), (3, .copy k), (4, .gfcomb k)] →
      flightOn s (engineUnit k) = some f → getF f.step StepRec.OPCODE = op → odGet s OD.ENGINE_MAP k = 3 ∨ jobFenced s k f = true →
      completes i s (setEnd (SetRun.start s) k f 6 [] .fault))
    ∧ (∀ (s : State) (k op : Nat) (f : Flight) (i : Instr), (op, i) ∈ [(2, Instr.append k), (3, .copy k), (4, .gfcomb k)] →
      flightOn s (engineUnit k) = some f → getF f.step StepRec.OPCODE = op → odGet s OD.ENGINE_MAP k ≠ 3 → jobFenced s k f = false → role s = 0 →
      completes i s (setRefuse s k f 2))
    ∧ (∀ (s : State) (k : Nat) (f : Flight), flightOn s (engineUnit k) = some f → odGet s OD.ENGINE_MAP k ≠ 3 → jobFenced s k f = false →
      getF f.step StepRec.OPCODE = 0 ∨ 4 < getF f.step StepRec.OPCODE → completes (.attend k) s (setRefuse s k f 4))

/-- ALLOC with n beads READY of a class and stack answers OK with the first n of the list, which lose their place on it; with fewer it
answers NO_BEAD and takes none. REF of a HELD bead under its generation adds a reference (REF_LIMIT at 65,535, STALE otherwise); UNREF of
a bead with one reference drops its registration and makes it PENDING with none, freed in this frame, at the end of the frame's list; of
a HELD bead with more it takes one away; SHARD makes a HELD bead with one reference a SHARD. A unit of clearing zeroes the head of the
queue where no setting job runs on the stack; after its last unit the bead joins the READY list. (R124, R125, R127, R128,
06_beads_and_strands.md.) -/
def Obligations.BeadCommands : Prop :=
  (∀ (s : State) (cls stack n o0 row ten : Nat), n ≤ 4096 → (kget s.pool.ready (listKey cls stack) []).length < n →
      ∃ t, completes (.alloc cls stack n o0 row ten) s t ∧ t.pool.answer = 1 ∧ t.pool.answerBeads = [] ∧ { t with pool := s.pool } = s
        ∧ t.pool.ready = s.pool.ready)
    ∧ (∀ (s : State) (cls stack n o0 row ten : Nat), n ≤ 4096 → n ≤ (kget s.pool.ready (listKey cls stack) []).length →
      ∃ t, completes (.alloc cls stack n o0 row ten) s t ∧ t.pool.answer = 0
        ∧ t.pool.answerBeads = ((kget s.pool.ready (listKey cls stack) []).take n).map (beadIdx stack)
        ∧ t = poolAnswer (((kget s.pool.ready (listKey cls stack) []).take n).zipIdx.foldl
            (fun u p => allocOne u cls stack p.1 (o0 + 8 * p.2) row ten)
            { s with pool := { s.pool with ready := kput s.pool.ready (listKey cls stack) ((kget s.pool.ready (listKey cls stack) []).drop n) } }) 0
            (((kget s.pool.ready (listKey cls stack) []).take n).map (beadIdx stack))
        ∧ (s.mc.lineErr = [] → { t with pool := s.pool, mem := s.mem, od := s.od, mc := s.mc } = s) ∧ (s.memOk → t.memOk))
    ∧ (∀ (s : State) (b gen : Nat), descF s b BeadDesc.STATE = 1 → descF s b BeadDesc.GEN = gen → descF s b BeadDesc.REFS < 65535 →
      completes (.ref b gen) s (poolAnswer (descSet (refSumAdd s (descF s b BeadDesc.CLASS) (beadStack b) 1) b
        [(BeadDesc.REFS, descF s b BeadDesc.REFS + 1)]) 0 []))
    ∧ (∀ (s : State) (b gen : Nat), descF s b BeadDesc.STATE = 1 → descF s b BeadDesc.GEN = gen → descF s b BeadDesc.REFS = 65535 →
      completes (.ref b gen) s (poolAnswer (descTouch s b) 3 []))
    ∧ (∀ (s : State) (b gen : Nat), descF s b BeadDesc.STATE ≠ 1 ∨ descF s b BeadDesc.GEN ≠ gen → completes (.ref b gen) s (poolStale (descTouch s b)))
    ∧ (∀ (s : State) (b : Nat), descF s b BeadDesc.STATE = 1 ∨ descF s b BeadDesc.STATE = 4 → descF s b BeadDesc.REFS = 1 →
      let u := heldNote (prefixDrop s b) b false
      let v := match (u.pool.pend.filter (fun p => p.1 = frameNo u)).getLast? with
        | some p => descSet u p.2 [(BeadDesc.NEXT, b)]
        | none => u
      let w := descSet v b [(BeadDesc.REFS, 0), (BeadDesc.FRAME_FREED, frameNo v), (BeadDesc.STATE, 2), (BeadDesc.NEXT, b)]
      let x := refSumSub (countMove w (descF s b BeadDesc.CLASS) (beadStack b) (descF s b BeadDesc.STATE) 2) (descF s b BeadDesc.CLASS) (beadStack b) 1
      completes (.unref b) s (poolAnswer { x with pool := { x.pool with pend := x.pool.pend ++ [(frameNo x, b)] } } 0 []))
    ∧ (∀ (s : State) (b : Nat), descF s b BeadDesc.STATE = 1 → 1 < descF s b BeadDesc.REFS →
      completes (.unref b) s (poolAnswer (descSet (refSumSub s (descF s b BeadDesc.CLASS) (beadStack b) 1) b
        [(BeadDesc.REFS, descF s b BeadDesc.REFS - 1)]) 0 []))
    ∧ (∀ (s : State) (b : Nat), descF s b BeadDesc.STATE = 1 → descF s b BeadDesc.REFS = 1 →
      completes (.shard b) s (poolAnswer (descSet (countMove s (descF s b BeadDesc.CLASS) (beadStack b) 1 4) b [(BeadDesc.STATE, 4)]) 0 []))
    ∧ (∀ (s : State) (cls stack slot : Nat) (rest : List Nat), flightOn s (unitKey 2 stack) = none →
      kget s.pool.clearing (listKey cls stack) [] = slot :: rest →
      classBeadBytes s cls ≤ kget s.pool.clearPos (beadIdx stack slot) 0 + 204800 →
      completes (.beadClearUnit cls stack) s
        (let b := beadIdx stack slot
         let pos := kget s.pool.clearPos b 0
         let z := zeroLines s (beadAddr s cls b + pos) (classBeadBytes s cls - pos)
         let y := { z with pool := { z.pool with clearing := kput z.pool.clearing (listKey cls stack) rest, clearPos := kdel z.pool.clearPos b } }
         readyAppend (descSet (countMove y cls stack 3 0) b [(BeadDesc.STATE, 0)]) cls stack slot))
    ∧ (∀ (s : State) (cls stack slot : Nat) (rest : List Nat), flightOn s (unitKey 2 stack) = none →
      kget s.pool.clearing (listKey cls stack) [] = slot :: rest →
      kget s.pool.clearPos (beadIdx stack slot) 0 + 204800 < classBeadBytes s cls →
      completes (.beadClearUnit cls stack) s
        (let b := beadIdx stack slot
         let pos := kget s.pool.clearPos b 0
         let z := zeroLines s (beadAddr s cls b + pos) 204800
         { z with pool := { z.pool with clearPos := kput z.pool.clearPos b (pos + 204800) } }))

/-- AUDIT of a valid class on a stack starts a walk and shows it running. When a walk ends its result is shown and answered (OK, or
MISMATCH where the counts or a descriptor disagree), and it leaves the list; one that law L3 asked for and found wrong marks that law's
result. (R143, R412, 06_beads_and_strands.md.) -/
def Obligations.BeadAudits : Prop :=
  (∀ (s : State) (cls stack : Nat), cls ≤ 7 → stack ≤ 7 → classF s cls BeadClass.VALID = 1 →
      ∃ t, completes (.audit cls stack) s t ∧ od t OD.AUDIT_RESULT = 2 ^ 62 ∧ t.pool.walks = s.pool.walks ++ [⟨cls, stack, false⟩]
        ∧ { t with od := s.od, pool := s.pool } = s)
    ∧ (∀ (s : State) (cls stack : Nat) (w : AuditWalk), s.pool.walks.find? (fun w => w.cls == cls && w.stack == stack) = some w →
      ∃ t, completes (.auditWalkDone cls stack) s t ∧ od t OD.AUDIT_RESULT = auditResult (auditWalk s cls stack)
        ∧ t.pool.answer = (if (auditWalk s cls stack).1 = true ∧ (auditWalk s cls stack).2 = none then 0 else 4)
        ∧ (∀ x ∈ t.pool.walks, ¬(x.cls = cls ∧ x.stack = stack))
        ∧ { t with od := s.od, pool := s.pool, aud := s.aud } = s)

/-- In RUN a record for an admission queue pair whose function is closed, or in a role without admission, is answered ROLE_CLOSED; one
that fails the screen is answered with its reason; one already known as a duplicate; the others pass through the checks, and one whose
wicket and budget admit it takes the free row. CANCEL and CLOSE flag the row of the request; CONTINUE to an unknown request is answered
so; one that a HELD or PARKED row can take, and its budget covers, is accepted. A row past its deadline with no output counts a miss
once; one idle for PARK_IDLE_FRAMES is offered for a park; a PARKED one at its hold limit completes as HOLD_EXPIRED; one that is DONE or
FAILED with no step in flight settles and closes. (R18, R24, R25, R147, R149, R152, R154, R160, 07_scoreboard.md.) -/
def Obligations.RowsAdmitAndEnd : Prop :=
  (∀ (s : State) (q : Nat) (msg : List Byte) (place : List Nat), inRun s = true → qpF s q QpCtx.FUNCTION ≤ 1 →
      fnOpen s 0 = false ∨ qpF s q QpCtx.FUNCTION = 1 →
      completes (.admissionRecord q msg place) s (waitDrop (answerAdm (admCount s 6) (admRec msg) 4 0 0 0 0 none) q false msg))
    ∧ (∀ (s : State) (q : Nat) (msg : List Byte) (place : List Nat), inRun s = true → qpF s q QpCtx.FUNCTION = 0 → fnOpen s 0 = true →
      admTakes s = true → admTurn s q msg = true → admScreen s msg ≠ 0 →
      completes (.admissionRecord q msg place) s
        (waitDrop (answerAdm (admCount s 5) (admRec msg) 3 (admScreen s msg) 0 0 0 none) q false msg))
    ∧ (∀ (s : State) (q : Nat) (msg : List Byte) (place : List Nat), inRun s = true → qpF s q QpCtx.FUNCTION = 0 → fnOpen s 0 = true →
      admTakes s = true → admTurn s q msg = true → admScreen s msg = 0 → (search s 1 (dedupeKey (getF (admRec msg) AdmRec.REQUEST_ID) 0)).2 = none →
      completes (.admissionRecord q msg place) s
        (admChecks (search s 1 (dedupeKey (getF (admRec msg) AdmRec.REQUEST_ID) 0)).1 q msg place))
    ∧ (∀ (s : State) (q r : Nat) (msg : List Byte) (place : List Nat), getF (admRec msg) AdmRec.FORK ≠ 1 → (wicketAdmits s msg).2 = true →
      let t := (wicketAdmits s msg).1
      (prefillUnits t (getF (admRec msg) AdmRec.MODEL_SLOT) (getF (admRec msg) AdmRec.PROMPT_LEN) : Int) ≤ balance t (getF (admRec msg) AdmRec.TENANT) →
      freeRow t = some r → admChecks s q msg place = admPrompt t q msg r)
    ∧ (∀ (s : State) (q rid : Nat), inRun s = true →
      completes (.cancel q rid) s (ctlFlag s q rid 5) ∧ completes (.close q rid) s (ctlFlag s q rid 4))
    ∧ (∀ (s : State) (q rid : Nat) (toks : List Nat), inRun s = true → (requestRow s rid).2 = none →
      completes (.continue q rid toks) s (waitDrop (ctlNoRow s q rid) q true (contMsg rid toks)))
    ∧ (∀ (s : State) (q rid r : Nat) (toks : List Nat) (t : State), inRun s = true → (requestRow s rid).2 = some r → toks ≠ [] →
      let x := holdWithdraw (requestRow s rid).1 r
      let units := prefillUnits x (rowGet x r Row.MODEL_SLOT) toks.length
      (∀ k ∈ toks, k < recF x OD.MODEL_SLOTS (rowGet x r Row.MODEL_SLOT) ModelSlot.VOCAB) → toks.length ≤ od x OD.CONTINUE_MAX →
      rowGet x r Row.COMMITTED_LEN + 1 + toks.length ≤ 2 ^ 24 → (rowState x r = 4 ∧ (fnPlans x 2 = true ∨ fnPlans x 3 = true)) ∨ rowState x r = 6 →
      hasDue x r = false → rowGet x r Row.PROMPT_LEN ≤ rowGet x r Row.COMMITTED_LEN → role x ≠ 1 → reserve x r units = some t →
      completes (.continue q rid toks) s (waitDrop (contAccept t r units toks) q true (contMsg rid toks)))
    ∧ (∀ (s : State) (r : Nat), framesRun s = true → 1 ≤ rowState s r → rowState s r < 8 → rowState s r ≠ 3 → rowFlag s r 7 = true →
      frameLater (frameNo s) (rowGet s r Row.DEADLINE_FRAME) = true →
      getF (selRec s r) SelRec.OUTPUT_COUNT = 0 → s.rows.missed.contains r = false →
      tenF s (rowGet s r Row.TENANT) Tenant.DEADLINE_HARD = 0 →
      completes (.deadlineMiss r) s (odInc { s with rows := { s.rows with missed := s.rows.missed ++ [r] } } OD.DEADLINE_MISSES))
    ∧ (∀ (s : State) (r area : Nat), framesRun s = true → rowState s r = 4 → role s = 2 ∨ role s = 4 →
      od s OD.PARK_IDLE_FRAMES ≤ rowIdle s r → hasDue s r = false → rowGet s r Row.PROMPT_LEN ≤ rowGet s r Row.COMMITTED_LEN →
      completes (.parkIdle r area) s (offerRow s r 1 area))
    ∧ (∀ (s : State) (r : Nat), framesRun s = true → rowState s r = 6 → tenF s (rowGet s r Row.TENANT) Tenant.HOLD_LIMIT ≤ rowIdle s r →
      hasDue s r = false → rowGet s r Row.PROMPT_LEN ≤ rowGet s r Row.COMMITTED_LEN →
      completes (.holdLimit r) s (rowDue s r 8 3))
    ∧ (∀ (s : State) (r : Nat), 8 ≤ rowState s r → rowInFlight s r = false →
      completes (.rowCompletion r) s
        (let t := if s.rows.settled.contains r then s else rowSettle s r
         if rowReplies t r then t else rowClose t r))

/-- A SELECT step in flight in a role that opens selection, with a descriptor that can be read and passes its checks and an entry table
that can be read, works through its entries in order and completes with OK, or PARTIAL where an entry was skipped; the lane then runs no
step. With another opcode it ends with BAD_OP, in a role that closes it with ROLE_CLOSED, touching nothing. (R16, R165, R168, R176, R181,
R475, 08_token_selection.md.) -/
def Obligations.SelectCommitsTokens : Prop :=
  (∀ (s : State) (lane : Nat) (f : Flight), flightOn s (tsuUnit lane) = some f →
      let d := readRec s (stepReader f) (getF f.step StepRec.DESC_ADDR) 64
      let n := getF d.2.1 SelDesc.ENTRIES
      let a := getF d.2.1 SelDesc.ENTRY_ADDR
      let x := readMem d.1 true (stepReader f) a (32 * n)
      let r := selEntries x.1 f (getF d.2.1 SelDesc.LOGIT_FMT == 1) a ((List.range n).map (fun i => leNat ((x.2.1.drop (32 * i)).take 32)))
      getF f.step StepRec.OPCODE = 1 → roleOpens (role s) 4 = true → d.2.2.1 = 0 → n ≠ 0 → a % 64 = 0 → x.2.2.1 = 0 →
      completes (.select lane) s (tsuEnd r lane f (if r.skipped = [] then 0 else 8) .done)
      ∧ flightOn (tsuEnd r lane f (if r.skipped = [] then 0 else 8) .done) (tsuUnit lane) = none)
    ∧ (∀ (s : State) (lane : Nat) (f : Flight), flightOn s (tsuUnit lane) = some f → getF f.step StepRec.OPCODE ≠ 1 →
      completes (.select lane) s (tsuEnd ⟨s, [], 0, none⟩ lane f 4 .untouched))
    ∧ (∀ (s : State) (lane : Nat) (f : Flight), flightOn s (tsuUnit lane) = some f → getF f.step StepRec.OPCODE = 1 →
      roleOpens (role s) 4 = false → completes (.select lane) s (tsuEnd ⟨s, [], 0, none⟩ lane f 2 .untouched))

/-- Where the clasp unit runs, a message enters the inbox and then: an OFFER that meets no record is refused with the first failing
test's reason, or accepted as offerAccept does where its places are free; one that meets a PULLING record of its epoch sends the same
ACCEPT again, one that meets any other record is not answered; an ACCEPT of an OFFERED record makes it ACCEPTED; a REFUSE of one counts,
and like an ABANDONED frees the record and leaves keys and row to the planner's next build; where either an ACCEPT or a REFUSE meets
another state it only enters the inbox; a TAKE of the next epoch of a source record releases the row to its sender; a RELEASED of a
COMMITTED record frees the record and sets its FLAGS in the row; a QUERY from a source of an uncommitted record abandons it, of a
COMMITTED one sends TAKE again, and without a record or row answers ABANDONED with reason 0x24; a QUERY from a destination is handled as
a TAKE is, but where no row and no departure record is left it is answered RELEASED with reason 0x24. A TAKE, RELEASED, ACCEPT, REFUSE or
ABANDONED that matches no record and no departure record only counts STALE_MESSAGES; a TAKE or QUERY that meets a departure record is
answered with RELEASED again. Where the unit does not run a message only leaves its buffers. (R186, R191, R192, R196, R197, R198, R199,
R200, 09_clasp_and_pass.md.) -/
def Obligations.ClaspMessages : Prop :=
  (∀ (s : State) (m : Msg) (place : List Nat) (land : Nat) (pull : Nat × Nat), claspRuns s = false →
      ∀ i ∈ [Instr.offer m place land pull, .accept m, .refuse m, .take m, .released m, .query m, .abandoned m],
        completes i s (takeRx s m))
    ∧ (∀ (s : State) (m : Msg) (place : List Nat) (land c : Nat) (pull : Nat × Nat), claspRuns s = true →
      recordOf (toInbox s m) 1 (getF m.hdr ClaspMsg.REQUEST_ID) (getF m.hdr ClaspMsg.FROM_DEVICE) = some c →
      (crF (toInbox s m) c ClaspRec.STATE = 3 → crF (toInbox s m) c ClaspRec.EPOCH = getF m.hdr ClaspMsg.EPOCH →
        completes (.offer m place land pull) s (acceptMsg (toInbox s m) c))
      ∧ (¬ (crF (toInbox s m) c ClaspRec.STATE = 3 ∧ crF (toInbox s m) c ClaspRec.EPOCH = getF m.hdr ClaspMsg.EPOCH) →
        completes (.offer m place land pull) s (toInbox s m)))
    ∧ (∀ (s : State) (m : Msg) (place : List Nat) (land : Nat) (pull : Nat × Nat), claspRuns s = true →
      recordOf (toInbox s m) 1 (getF m.hdr ClaspMsg.REQUEST_ID) (getF m.hdr ClaspMsg.FROM_DEVICE) = none →
      let x := toInbox s m
      let t := offerTests x m.hdr (leNat (m.data.take 128)) (leNat ((m.data.drop 128).take 64)) place
      (t.1 ≠ 0 → completes (.offer m place land pull) s (offerRefuse (claspCount x 1) m.hdr t.1))
      ∧ (t.1 = 0 → areaFree x land (192 + 16 * getF m.hdr ClaspMsg.BEAD_COUNT + 4 * getF m.hdr ClaspMsg.TOKENS) = true →
        placeOk x (2 ^ segLog2 (getF m.hdr ClaspMsg.BEAD_COUNT)) place = true →
        completes (.offer m place land pull) s (offerAccept (claspCount x 1) m.hdr (leNat (m.data.take 128))
          (leNat ((m.data.drop 128).take 64)) t.2.1 t.2.2.1 t.2.2.2 place land (pullFrames x (pullBytes x m.hdr t.2.1) pull.1 pull.2))))
    ∧ (∀ (s : State) (m : Msg) (c : Nat), claspRuns s = true →
      sourceRec (toInbox s m) m.hdr (getF m.hdr ClaspMsg.EPOCH) = some c → c < 2048 →
      (crF (toInbox s m) c ClaspRec.STATE = 1 →
        (∃ t, completes (.accept m) s t ∧ crF t c ClaspRec.STATE = 2
          ∧ crF t c ClaspRec.LIMIT_FRAME = (getF m.hdr ClaspMsg.FIRST_FRAME + 2 * getF m.hdr ClaspMsg.PULL_FRAMES + od s OD.CLASP_TAKE_SLACK) % 2 ^ 32
          ∧ claspAux t c = { claspAux s c with firstFrame := getF m.hdr ClaspMsg.FIRST_FRAME, pullFrames := getF m.hdr ClaspMsg.PULL_FRAMES, peerRow := getF m.hdr ClaspMsg.FROM_ROW }
          ∧ odGet t OD.CLASP_COUNTS 3 = (odGet s OD.CLASP_COUNTS 3 + 1) % 2 ^ 64
          ∧ { t with od := s.od, rows := (toInbox s m).rows } = { toInbox s m with od := s.od })
        ∧ completes (.refuse m) s (let x := claspCount (toInbox s m) 5
            sourceEnd { x with rows := { x.rows with refusedBy := x.rows.refusedBy
              ++ [(getF m.hdr ClaspMsg.REQUEST_ID, getF m.hdr ClaspMsg.FROM_DEVICE, frameNo x)] } } c))
      ∧ (crF (toInbox s m) c ClaspRec.STATE ≠ 1 →
        completes (.accept m) s (toInbox s m) ∧ completes (.refuse m) s (toInbox s m)))
    ∧ (∀ (s : State) (m : Msg) (c : Nat), claspRuns s = true →
      sourceRec (toInbox s m) m.hdr (getF m.hdr ClaspMsg.EPOCH) = some c →
      completes (.abandoned m) s (sourceEnd (claspCount (toInbox s m) 9) c))
    ∧ (∀ (s : State) (c : Nat), let t := sourceEnd s c
      t.rows.returns = s.rows.returns ++ [(crF s c ClaspRec.ROW, crF s c ClaspRec.PRIOR_STATE, (claspAux s c).keys)]
      ∧ t.rows.clasp = kdel s.rows.clasp c ∧ t.mem = s.mem ∧ t.txq = s.txq ∧ t.net = s.net)
    ∧ (∀ (s : State) (m : Msg) (c : Nat), claspRuns s = true →
      sourceRec (toInbox s m) m.hdr ((getF m.hdr ClaspMsg.EPOCH + 2 ^ 32 - 1) % 2 ^ 32) = some c →
      let t := claspRelease (toInbox s m) (crF (toInbox s m) c ClaspRec.ROW) (some c) (getF m.hdr ClaspMsg.FROM_DEVICE) (getF m.hdr ClaspMsg.EPOCH) m.hdr
      completes (.take m) s t ∧ (getF m.hdr ClaspMsg.FROM_SIDE = 1 → completes (.query m) s t))
    ∧ (∀ (s : State) (m : Msg) (c : Nat), claspRuns s = true →
      destRec (toInbox s m) m.hdr ((getF m.hdr ClaspMsg.EPOCH + 2 ^ 32 - 1) % 2 ^ 32) = some c →
      let x := recordFree (toInbox s m) c
      let r := crF (toInbox s m) c ClaspRec.ROW
      (crF (toInbox s m) c ClaspRec.STATE ≠ 4 → completes (.released m) s (toInbox s m))
      ∧ (crF (toInbox s m) c ClaspRec.STATE = 4 → rowState x r = 0 → completes (.released m) s x)
      ∧ (crF (toInbox s m) c ClaspRec.STATE = 4 → rowState x r ≠ 0 →
        completes (.released m) s (ownerFlags (rowSet x r [(Row.FLAGS, rowGet x r Row.FLAGS ||| 4 * getF m.hdr ClaspMsg.FLAGS)]) r)))
    ∧ (∀ (s : State) (m : Msg) (c : Nat), claspRuns s = true → getF m.hdr ClaspMsg.FROM_SIDE = 0 →
      destRec (toInbox s m) m.hdr (getF m.hdr ClaspMsg.EPOCH) = some c →
      (crF (toInbox s m) c ClaspRec.STATE = 4 → completes (.query m) s (takeMsg (toInbox s m) c))
      ∧ (crF (toInbox s m) c ClaspRec.STATE ≠ 4 → ∃ t, completes (.query m) s t ∧ c ∈ t.rows.queryEnded
        ∧ { t with rows := (claspAbandon (toInbox s m) c 0x20).rows } = claspAbandon (toInbox s m) c 0x20))
    ∧ (∀ (s : State) (m : Msg), claspRuns s = true → getF m.hdr ClaspMsg.FROM_SIDE = 0 →
      destRec (toInbox s m) m.hdr (getF m.hdr ClaspMsg.EPOCH) = none →
      let x := requestRow (toInbox s m) (getF m.hdr ClaspMsg.REQUEST_ID)
      (x.2 = none → completes (.query m) s (claspSend x.1 (getF m.hdr ClaspMsg.FROM_DEVICE)
        (replyMsg x.1 m.hdr 7 0x24 (getF m.hdr ClaspMsg.EPOCH)) [])))
    ∧ (∀ (s : State) (m : Msg), claspRuns s = true →
      let d := departed (toInbox s m) (getF m.hdr ClaspMsg.REQUEST_ID)
      let u := if d.2 then d.1 else staleMessage d.1
      (sourceRec (toInbox s m) m.hdr (getF m.hdr ClaspMsg.EPOCH) = none →
        ∀ i ∈ [Instr.accept m, .refuse m, .abandoned m], completes i s u)
      ∧ (destRec (toInbox s m) m.hdr ((getF m.hdr ClaspMsg.EPOCH + 2 ^ 32 - 1) % 2 ^ 32) = none → completes (.released m) s u))
    ∧ (∀ (s : State) (m : Msg), claspRuns s = true →
      let x := requestRow (toInbox s m) (getF m.hdr ClaspMsg.REQUEST_ID)
      let d := departed x.1 (getF m.hdr ClaspMsg.REQUEST_ID)
      sourceRec (toInbox s m) m.hdr ((getF m.hdr ClaspMsg.EPOCH + 2 ^ 32 - 1) % 2 ^ 32) = none → x.2 = none →
      (d.2 = false → completes (.take m) s (staleMessage d.1)
        ∧ (getF m.hdr ClaspMsg.FROM_SIDE = 1 → (requestRow d.1 (getF m.hdr ClaspMsg.REQUEST_ID)).2 = none →
          completes (.query m) s (claspSend d.1 (getF m.hdr ClaspMsg.FROM_DEVICE) (replyMsg d.1 m.hdr 5 0x24 (getF m.hdr ClaspMsg.EPOCH)) [])))
      ∧ (d.2 = true → ∀ i ∈ Instr.take m :: (if getF m.hdr ClaspMsg.FROM_SIDE = 1 then [Instr.query m] else []),
        completes i s (claspSend d.1 (getF m.hdr ClaspMsg.FROM_DEVICE) (replyMsg d.1 m.hdr 5 0 (getF m.hdr ClaspMsg.EPOCH)) [])))

/-- In RUN: an OFFERED or COMMITTED record below its limit of sends, its last send long enough ago, sends its message again and counts
the send; at the limit, or ACCEPTED past its limit frame, it sends a QUERY, the first of a record counted. A record open too long counts
CLASP_STUCK once and is marked. A PULLING record that nothing has landed for is abandoned with reason 0x23. A COMMIT step commits its
entries in order and completes with OK where none was skipped, ENTRIES_SKIPPED where one was, MEM_ERROR where a read failed; a record
landed whole is then COMMITTED with its TAKE sent, and an entry that fails a check changes nothing. (R195, R197, 09_clasp_and_pass.md.) -/
def Obligations.ClaspTimersAndCommit : Prop :=
  (∀ (s : State) (c : Nat), c < 2048 → claspRuns s = true → crF s c ClaspRec.SENDS < od s OD.CLASP_RESEND_MAX →
      od s OD.CLASP_RESEND_FRAMES ≤ sinceSend s c →
      (crF s c ClaspRec.STATE = 1 → completes (.claspResend c) s (noteSend (offerMsg s c) c (crF s c ClaspRec.SENDS + 1)))
      ∧ (crF s c ClaspRec.STATE = 4 → completes (.claspResend c) s (noteSend (takeMsg s c) c (crF s c ClaspRec.SENDS + 1))))
    ∧ (∀ (s : State) (c : Nat), c < 2048 → claspRuns s = true → queries s c = true → od s OD.CLASP_QUERY_FRAMES ≤ sinceSend s c →
      ∃ t, completes (.claspQueryTimer c) s t ∧ crF t c ClaspRec.LAST_SEND_FRAME = frameNo s % 2 ^ 32
        ∧ (∀ d, d ≠ c → crF t d = crF s d) ∧ (claspAux t c).queried = true
        ∧ odGet t OD.CLASP_COUNTS 10 = (if (claspAux s c).queried then odGet s OD.CLASP_COUNTS 10 else (odGet s OD.CLASP_COUNTS 10 + 1) % 2 ^ 64)
        ∧ t.txq = s.txq ++ [⟨1, 4, crF s c ClaspRec.PEER, recordMsg s c 6 0 (crF s c ClaspRec.EPOCH + crF s c ClaspRec.SIDE), 64, [], 0, 0⟩]
        ∧ { t with od := s.od, txq := s.txq, rows := s.rows } = s)
    ∧ (∀ (s : State) (c : Nat), c < 2048 → claspRuns s = true → crF s c ClaspRec.STATE ≠ 0 → (claspAux s c).stuck = false →
      od s OD.CLASP_STUCK_FRAMES < frameDiff (claspAux s c).opened (frameNo s) →
      ∃ t, completes (.claspStuck c) s t ∧ (claspAux t c) = { claspAux s c with stuck := true } ∧ t.mem = s.mem ∧ t.txq = s.txq)
    ∧ (∀ (s : State) (c : Nat), c < 2048 → claspRuns s = true → crF s c ClaspRec.STATE = 3 →
      od s OD.CLASP_NO_DATA_FRAMES ≤ frameDiff (claspAux s c).lastLand (frameNo s) →
      completes (.claspNoData c) s (claspAbandon s c 0x23))
    ∧ (∀ (s : State) (f : Flight), flightOn s claspUnit = some f →
      let d := readRec s (stepReader f) (getF f.step StepRec.DESC_ADDR) 64
      let r := commitRun d.1 f (getF d.2.1 CommitDesc.ENTRY_ADDR) (getF d.2.1 CommitDesc.ENTRIES) 0
      getF f.step StepRec.OPCODE = 1 → roleOpens (role s) 6 = true → d.2.2.1 = 0 → getF d.2.1 CommitDesc.ENTRIES ≠ 0 →
      getF d.2.1 CommitDesc.ENTRY_ADDR % 64 = 0 →
      completes .commit s (claspEnd r.1 f (if r.2.2.2 then 5 else if r.2.1 = [] then 0 else 8) r.2.1 r.2.2.1 .done))
    ∧ (∀ (s : State) (f : Flight), flightOn s claspUnit = some f →
      (getF f.step StepRec.OPCODE ≠ 1 → completes .commit s (claspEnd s f 4 [] 0 .untouched))
      ∧ (getF f.step StepRec.OPCODE = 1 → roleOpens (role s) 6 = false → completes .commit s (claspEnd s f 2 [] 0 .untouched)))
    ∧ (∀ (s : State) (c : Nat), crF s c ClaspRec.SIDE = 1 → crF s c ClaspRec.STATE = 3 →
      (crF s c ClaspRec.BYTES_LANDED = crF s c ClaspRec.BYTES_EXPECTED →
        (commitEntry s c).2 = 0 ∧ (commitEntry s c).1 = noteSend (takeMsg (crSet (claspCount (claspLess
          (commitRow s c (commitState s c) (crF s c ClaspRec.EPOCH + 1)) 14) 6) c [(ClaspRec.STATE, 4)]) c) c 1)
      ∧ (crF s c ClaspRec.BYTES_LANDED ≠ crF s c ClaspRec.BYTES_EXPECTED → commitEntry s c = (s, 2)))
    ∧ (∀ (s : State) (c : Nat), crF s c ClaspRec.STATE ≠ 0 → (crF s c ClaspRec.SIDE ≠ 1 ∨ crF s c ClaspRec.STATE ≠ 3) → commitEntry s c = (s, 1))
    ∧ (∀ (s : State) (c : Nat), crF s c ClaspRec.STATE = 0 → commitEntry s c = (s, if s.rows.queryEnded.contains c then 3 else 1))

/-- A SCRUB step whose descriptor can be read and names lines of the stack scrubs them and completes with OK; one that names none or goes
past the stack ends with BAD_DESC, one whose descriptor cannot be read with MEM_ERROR. A line with 1 to 4 symbols in error is written
back and reads clean, a clean one only counts, and no other line's errors change in either case. REMAP takes rows from the head of the
queue; a row for which a spare is free gets an entry of the remap table, one for which none is free counts REMAP_FULL and is skipped.
MIGRATE works its entries in order and ends with MEM_ERROR at a read error; an entry that passes its checks moves the granule's bytes and
sets the map. A step of an undefined opcode ends with BAD_OP, one with no entries with BAD_DESC. The stack's unit then runs no step. A
bank at the activation threshold counts from 0 again and RFM_ISSUED counts it. (R210, R211, R213, R221, R225, R475, 10_memory.md.) -/
def Obligations.MemorySteps : Prop :=
  (∀ (s : State) (k : Nat) (f : Flight), flightOn s (memUnit k) = some f → getF f.step StepRec.OPCODE = 1 →
      let d := readRec s (stepReader f) (getF f.step StepRec.DESC_ADDR) 64
      let n := getF d.2.1 MemDesc.SCRUB_LINES
      let l := getF d.2.1 MemDesc.SCRUB_START_LINE
      let auto := getF d.2.1 MemDesc.SCRUB_AUTO == 1
      (d.2.2.1 = 0 → n ≠ 0 → auto = true ∨ l + n ≤ 2 ^ 31 →
        completes (.scrub k) s (memEnd (scrubRun n (MemRun.start d.1) (stepReader f) k auto l) k f 0 .done))
      ∧ (d.2.2.1 = 0 → n = 0 ∨ (auto = false ∧ 2 ^ 31 < l + n) →
        completes (.scrub k) s (memEnd (MemRun.start d.1) k f 7 .untouched)))
    ∧ (∀ (r : MemRun) (rd : Reader) (k line : Nat),
      let n := stackOff k (64 * line) / 64
      let e := kget r.s.mc.lineErr n 0
      let t := scrubLine r rd k line
      (e = 0 → t = { r with s := activate r.s (stackOff k (64 * line)), done := r.done + 1 } ∧ t.s.mc.lineErr = r.s.mc.lineErr)
      ∧ (1 ≤ e → e ≤ 4 → t.corr = r.corr + 1 ∧ t.done = r.done + 1 ∧ t.unc = r.unc ∧ kget t.s.mc.lineErr n 0 = 0
        ∧ ∀ i, i ≠ n → kget t.s.mc.lineErr i 0 = kget r.s.mc.lineErr i 0)
      ∧ (4 < e → t.unc = r.unc + 1 ∧ t.corr = r.corr ∧ t.done = r.done + 1 ∧ t.fail = some (r.fail.getD (64 * line))))
    ∧ (∀ (s : State) (k : Nat) (f : Flight), flightOn s (memUnit k) = some f →
      let d := readRec s (stepReader f) (getF f.step StepRec.DESC_ADDR) 64
      let q := kget d.1.mc.remapQueue k []
      let n := getF d.2.1 MemDesc.REMAP_ROWS
      let a := getF d.2.1 MemDesc.MIGRATE_ENTRY_ADDR
      let m := (List.range (getF d.2.1 MemDesc.MIGRATE_ENTRIES)).foldl (migrateOne f k a) (MemRun.start d.1, false)
      (getF f.step StepRec.OPCODE = 2 → d.2.2.1 = 0 → n ≠ 0 →
        let r := (q.take n).foldl (remapOne k) (MemRun.start { d.1 with mc := { d.1.mc with remapQueue := kput d.1.mc.remapQueue k (q.drop n) } })
        completes (.remap k) s (memEnd r k f (if r.skipped = 0 then 0 else 8) .done))
      ∧ (getF f.step StepRec.OPCODE = 3 → d.2.2.1 = 0 → getF d.2.1 MemDesc.MIGRATE_ENTRIES ≠ 0 → a % 64 = 0 →
        completes (.migrate k) s (memEnd m.1 k f (if m.2 then 5 else if m.1.skipped = 0 then 0 else 8) .done))
      ∧ (getF f.step StepRec.OPCODE = 2 → d.2.2.1 = 0 → n = 0 →
        completes (.remap k) s (memEnd (MemRun.start d.1) k f 7 .untouched))
      ∧ (getF f.step StepRec.OPCODE = 3 → d.2.2.1 = 0 → getF d.2.1 MemDesc.MIGRATE_ENTRIES = 0 ∨ a % 64 ≠ 0 →
        completes (.migrate k) s (memEnd (MemRun.start d.1) k f 7 .untouched))
      ∧ (getF f.step StepRec.OPCODE = 0 ∨ 3 < getF f.step StepRec.OPCODE →
        completes (.scrub k) s (memEnd (MemRun.start s) k f 4 .untouched))
      ∧ (d.2.2.1 ≠ 0 → ∀ p ∈ [(1, Instr.scrub k), (2, .remap k), (3, .migrate k)], getF f.step StepRec.OPCODE = p.1 →
        completes p.2 s (memEnd ((MemRun.start d.1).readFailed d.2.2.1 d.2.2.2) k f 5 .unread)))
    ∧ (∀ (r : MemRun) (k : Nat) (f : Flight) (st : Nat) (how : StepEnd), flightOn (memEnd r k f st how) (memUnit k) = none)
    ∧ (∀ (s : State) (k row : Nat),
      let l := queuedLines k row
      let ents := remapEntries s k
      let old := ents.find? (fun p => getF p.2 RemapEnt.CHANNEL_PAIR == row / 2 ^ 23 && getF p.2 RemapEnt.BANK == row / 2 ^ 17 % 64
        && getF p.2 RemapEnt.ROW == row % 2 ^ 17)
      let e := fun spare => mkRec [(RemapEnt.VALID, 1), (RemapEnt.STACK, k), (RemapEnt.CHANNEL_PAIR, row / 2 ^ 23), (RemapEnt.BANK, row / 2 ^ 17 % 64),
        (RemapEnt.ROW, row % 2 ^ 17), (RemapEnt.SPARE, spare)]
      (freeSpare s k (row / 2 ^ 23) (row / 2 ^ 17 % 64) = none ∨ (old = none ∧ 65536 ≤ ents.length) →
        remapRow s k row = (regionCandidate (odAdd s OD.REMAP_COUNTS (3 * k + 2) 1) k (row % 2 ^ 17 / 1024) 5, false))
      ∧ (∀ x, freeSpare s k (row / 2 ^ 23) (row / 2 ^ 17 % 64) = some x → old = none → ents.length < 65536 →
        remapRow s k row = (odAdd (odPut (copyRow s l) OD.REMAP_TABLE (k * 65536 + ents.length) (e x)) OD.REMAP_COUNTS (3 * k) 1, true))
      ∧ (∀ x p, freeSpare s k (row / 2 ^ 23) (row / 2 ^ 17 % 64) = some x → old = some p →
        ∃ t, remapRow s k row = (t, true) ∧ spareKey k (row / 2 ^ 23) (row / 2 ^ 17 % 64) (getF p.2 RemapEnt.SPARE) ∈ t.mc.retired
          ∧ odGet t OD.REMAP_TABLE (k * 65536 + p.1) = e x))
    ∧ (∀ (s : State) (src dst : Nat), Memory.wf s.mem = true → s.mc.lineErr = [] →
      (∀ i < 65536, memByte (moveGranule s src dst) (dst + i) = memByte s (src + i))
      ∧ (∀ a, (a < dst ∨ dst + 65536 ≤ a) → memByte (moveGranule s src dst) a = memByte s a)
      ∧ (moveGranule s src dst).mc.lineErr = [])
    ∧ (∀ (s : State) (k e : Nat),
      let f := getF e MemDesc.E_FRAME
      let g := getF e MemDesc.E_GRANULE
      let x := migrateEntry s k e
      (od s OD.TIER_FRAMES ≤ f ∨ g / 2 ^ 21 ≠ k → x = (s, 1))
      ∧ (f < od s OD.TIER_FRAMES → g / 2 ^ 21 = k → granuleExcluded s g = true → x = (s, 2))
      ∧ (f < od s OD.TIER_FRAMES → g / 2 ^ 21 = k → granuleExcluded s g = false → getF e MemDesc.E_DIR = 0 →
        ((tierFrame s g).isSome = true → x = (s, 4))
        ∧ (tierFrame s g = none → odGet s OD.GRANULE_MAP f / 2 ^ 31 = 1 → x = (s, 3))
        ∧ (tierFrame s g = none → odGet s OD.GRANULE_MAP f / 2 ^ 31 ≠ 1 →
          x = (odInc (odPut (moveGranule s (g * 65536) (commonsBase + f * 65536)) OD.GRANULE_MAP f (2 ^ 31 + g)) OD.MIGRATIONS, 0)))
      ∧ (f < od s OD.TIER_FRAMES → g / 2 ^ 21 = k → granuleExcluded s g = false → getF e MemDesc.E_DIR ≠ 0 →
        (odGet s OD.GRANULE_MAP f ≠ 2 ^ 31 + g → x = (s, 5))
        ∧ (odGet s OD.GRANULE_MAP f = 2 ^ 31 + g →
          x = (odInc (odPut (moveGranule s (commonsBase + f * 65536) (g * 65536)) OD.GRANULE_MAP f 0) OD.MIGRATIONS, 0))))
    ∧ (∀ (s : State) (k bank : Nat), k < 8 → od s OD.ACT_THRESHOLD ≤ kget s.mc.acts (k * 512 + bank) 0 →
      ∃ t, completes (.refreshManagement k bank) s t ∧ kget t.mc.acts (k * 512 + bank) 0 = 0
        ∧ (∀ i, i ≠ k * 512 + bank → kget t.mc.acts i 0 = kget s.mc.acts i 0)
        ∧ odGet t OD.RFM_ISSUED k = (odGet s OD.RFM_ISSUED k + 1) % 2 ^ odWidth OD.RFM_ISSUED
        ∧ { t with mc := s.mc, od := s.od } = s ∧ { t.mc with acts := s.mc.acts } = s.mc)
    ∧ (∀ (s : State) (k bank : Nat), kget s.mc.acts (k * 512 + bank) 0 < od s OD.ACT_THRESHOLD → completes (.refreshManagement k bank) s s)

/-- In CONFIG or RUN, LINK_ENABLE_SET of a DISABLED link starts training now, the device's record sent (its output form is the model's,
log 42), of another link only sets the bit; LINK_ENABLE_CLEAR returns a link to DISABLED. A TRAINING link becomes ACTIVE where the peer
is the one expected and the delay is at most 250 ns, and reports its buffers; else it is MISWIRED, with TOO_LONG where only the delay is
at fault; 100 ms without training counts a failure and tries again, or fences the link at the last attempt. An ACTIVE link goes to
RECOVERY when FEC lock is lost, a peer's training record comes, or a group is unacknowledged for 2,500 clk; it is ACTIVE again within 20
us unless the window's recoveries reach the limit, which fences it, and else trains anew. FENCE_LINK fences a link in TRAINING, ACTIVE or
RECOVERY; a link in another state is left as it is. (R231, R232, R233, R238, R247, 11_olaskad_links.md.) -/
def Obligations.LinkStates : Prop :=
  (∀ (s : State) (l : Nat), l < 64 → inConfig s = true ∨ inRun s = true → linkState s l = 0 →
      ∃ t, completes (.linkEnableSet l) s t ∧ linkState t l = 1 ∧ bitOf (od t OD.LINK_ENABLE) l = true ∧ (lnk t l).since = s.clk
        ∧ (lnk t l).attempts = 0 ∧ t.out = s.out ++ [⟨17, l, trainingRecord (odSet s OD.LINK_ENABLE (setBit (od s OD.LINK_ENABLE) l true)) l⟩]
        ∧ { t with od := s.od, net := s.net, out := s.out } = s)
    ∧ (∀ (s : State) (l : Nat), l < 64 → inConfig s = true ∨ inRun s = true → linkState s l ≠ 0 →
      completes (.linkEnableSet l) s (odSet s OD.LINK_ENABLE (setBit (od s OD.LINK_ENABLE) l true)))
    ∧ (∀ (s : State) (l : Nat), inConfig s = false → inRun s = false → completes (.linkEnableSet l) s s)
    ∧ (∀ (s : State) (l : Nat), l < 64 →
      ∃ t, completes (.linkEnableClear l) s t ∧ linkState t l = 0
        ∧ lnk t l = { LinkSt.reset with occ := (lnk t l).occ, freed := (lnk t l).freed, staging := (lnk t l).staging } ∧ bitOf (od t OD.LINK_ENABLE) l = false)
    ∧ (∀ (s : State) (l part device slot link profile : Nat) (bufs occ freed : List Nat) (delay : Nat), l < 64 → linkState s l = 1 →
      (peerExpected s l part slot link profile = true → delay ≤ 2500 →
        ∃ t, completes (.linkTrained l part device slot link profile bufs occ freed delay) s t ∧ linkState t l = 2
          ∧ odGet t OD.LINK_DELAY l = delay ∧ lnk t l = setCredits (lnk s l) bufs occ freed
          ∧ odGet t OD.LINK_PEER l = mkRec [(fld 31 19, device), (fld 18 14, slot), (fld 13 8, link), (fld 7 0, part)]
          ∧ t.out = s.out ++ [⟨18, l, ((lnk s l).occ ++ (lnk s l).freed).flatMap (leBytes 2)⟩]
          ∧ { t with od := s.od, net := s.net, out := s.out } = s)
      ∧ (peerExpected s l part slot link profile = false ∨ 2500 < delay →
        ∃ t, completes (.linkTrained l part device slot link profile bufs occ freed delay) s t ∧ linkState t l = 4
          ∧ (peerExpected s l part slot link profile = true → (lnk t l).tooLong = true) ∧ { t with od := s.od, net := s.net } = s))
    ∧ (∀ (s : State) (l : Nat), l < 64 → linkState s l = 1 → (lnk s l).since + 100000 * usClk ≤ s.clk →
      ∃ t n, completes (.trainingTimeout l) s t ∧ n = (lnk s l).attempts + 1 ∧ odGet t OD.TRAIN_FAILS l = (odGet s OD.TRAIN_FAILS l + 1) % 2 ^ odWidth OD.TRAIN_FAILS
        ∧ (n < od s OD.TRAIN_ATTEMPTS → linkState t l = 1 ∧ (lnk t l).since = s.clk ∧ (lnk t l).attempts = n)
        ∧ (od s OD.TRAIN_ATTEMPTS ≤ n → linkState t l = 5))
    ∧ (∀ (s : State) (l : Nat), l < 64 → linkActive s l = true →
      ((∃ g ∈ (lnk s l).replay, g.first + 2500 ≤ s.clk) → completes (.groupAckTimeout l) s (linkExhaust s l))
      ∧ completes (.fecLockLost l) s (linkRecover s l) ∧ completes (.peerTrainingRecord l) s (linkRecover s l))
    ∧ (∀ (s : State) (l : Nat), linkState (linkRecover s l) l = 3 ∧ (lnk (linkRecover s l) l).since = s.clk
      ∧ (lnk (linkRecover s l) l).replay = [])
    ∧ (∀ (s : State) (l : Nat) (occ freed : List Nat) (delay : Nat), l < 64 → linkState s l = 3 → s.clk < (lnk s l).since + 20 * usClk →
      ∃ t, completes (.recoveryComplete l occ freed delay) s t ∧ odGet t OD.RECOVERIES l = (odGet s OD.RECOVERIES l + 1) % 2 ^ odWidth OD.RECOVERIES
        ∧ ((recentRecoveries s l).length < od s OD.RECOVERY_LIMIT → linkState t l = 2 ∧ (lnk t l).recoveries = recentRecoveries s l)
        ∧ (od s OD.RECOVERY_LIMIT ≤ (recentRecoveries s l).length → linkState t l = 5))
    ∧ (∀ (s : State) (l : Nat), l < 64 → linkState s l = 3 → (lnk s l).since + 20 * usClk ≤ s.clk →
      ∃ t, completes (.recoveryTimeout l) s t ∧ linkState t l = 1 ∧ (lnk t l).since = s.clk ∧ (lnk t l).attempts = 0
        ∧ (∃ bs, t.out = s.out ++ [⟨17, l, bs⟩]) ∧ { t with od := s.od, net := s.net, out := s.out } = s)
    ∧ (∀ (s : State) (v : Nat), 1 ≤ linkState s (v % 64) → linkState s (v % 64) ≤ 3 →
      ∃ t, completes (.fenceLink v) s t ∧ linkState t (v % 64) = 5 ∧ (lnk t (v % 64)).replay = [])
    ∧ (∀ (s : State) (v : Nat), linkState s (v % 64) = 0 ∨ 3 < linkState s (v % 64) → completes (.fenceLink v) s s)
    ∧ (∀ (s : State) (l : Nat), linkState s l = 0 ∨ 4 ≤ linkState s l →
      ∀ i ∈ [Instr.trainingTimeout l, .groupAckTimeout l, .fecLockLost l, .peerTrainingRecord l, .recoveryTimeout l], completes i s s)

/-- On an ACTIVE link FLIT_GROUP_SEND moves what waits to the links and sends the next group; where a packet waiting to be ordered has
QUANTUM 0 it is the undefined case U07. A link with nothing to send sends an idle group of 4,096 bytes. A group received with the
expected number and good CRCs is accepted and the expected number moves on by one modulo 1,024; one whose payload fails a CRC or that has
another number is rejected, counted, and NAK is sent from then on; of an idle one only the control flit is taken. A link that is not
ACTIVE sends and takes nothing. A chunk to be forwarded leaves on the first direct link where that has credits for it. (R229, R230, R237,
R241, R270, 11_olaskad_links.md.) -/
def Obligations.FlitGroups : Prop :=
  (∀ (s : State) (l : Nat), l < 64 → linkActive s l = true →
      ((∀ m ∈ s.txq, ordered m = true → qpF s m.stream QpCtx.QUANTUM ≠ 0) →
        completes (.flitGroupSend l) s (sendGroup (countHeld (scheduleTx s.txq.length s)) l))
      ∧ ((∃ m ∈ s.txq, ordered m = true ∧ qpF s m.stream QpCtx.QUANTUM = 0) → exec (.flitGroupSend l) s = .fault (.undefinedCase 7)))
    ∧ (∀ (s : State) (l : Nat), l < 64 → linkActive s l = true → s.txq = [] → (lnk s l).replayDue = [] → (lnk s l).replay.length < 64 →
      (∀ vc, kget (lnk s l).queue vc [] = []) →
      ∃ t bs, completes (.flitGroupSend l) s t ∧ t.out = s.out ++ [⟨16, l, bs⟩] ∧ bs.length = 4096 ∧ (lnk t l).txSeq = (lnk s l).txSeq
        ∧ { t with net := s.net, out := s.out } = s)
    ∧ (∀ (s : State) (l hdr : Nat) (descs : List Nat) (data : List (List Byte)) (c u : Nat), l < 64 → linkActive s l = true →
      let s1 := odAdd (odAdd s OD.FEC_CORRECTED l c) OD.FEC_UNCORRECTED l u
      let s2 := setLnk s1 l { lnk s1 l with fec := (lnk s1 l).fec + c }
      let s3 := takeControl s2 l hdr
      let good := (descs.zip data).all (fun p => flitCrc p.1 p.2 == getF p.1 PayDesc.FLIT_CRC)
      (ctrlCrcOk hdr descs = false → linkActive s2 l = true →
        completes (.flitGroupReceive l hdr descs data c u) s (setLnk (odAdd s2 OD.GROUPS_REJECTED l 1) l { lnk s2 l with nak := true }))
      ∧ (ctrlCrcOk hdr descs = true → linkActive s3 l = true → (∃ d ∈ descs, getF d PayDesc.PAYLOAD ≠ 0) →
        (good = true → descs.length = 15 → data.length = 15 → getF hdr CtlFlit.GSEQ = (lnk s3 l).rxSeq →
          completes (.flitGroupReceive l hdr descs data c u) s
            ((descs.zip data).foldl (fun t p => flitArrived t l (posFlit p.1 p.2))
              (setLnk s3 l { lnk s3 l with rxSeq := ((lnk s3 l).rxSeq + 1) % 1024, nak := false })))
        ∧ (good = false ∨ descs.length ≠ 15 ∨ data.length ≠ 15 ∨ getF hdr CtlFlit.GSEQ ≠ (lnk s3 l).rxSeq →
          completes (.flitGroupReceive l hdr descs data c u) s
            (setLnk (odAdd s3 OD.GROUPS_REJECTED l 1) l { lnk s3 l with nak := true })))
      ∧ (ctrlCrcOk hdr descs = true → (∀ d ∈ descs, getF d PayDesc.PAYLOAD = 0) ∨ linkActive s3 l = false →
        completes (.flitGroupReceive l hdr descs data c u) s s3))
    ∧ (∀ (s : State) (l hdr : Nat) (descs : List Nat) (data : List (List Byte)) (c u : Nat), linkActive s l = false →
      ∀ i ∈ [Instr.flitGroupSend l, .flitGroupReceive l hdr descs data c u], completes i s s)
    ∧ (∀ (s : State) (l : Nat), (lnk s l).hopping = [] → completes (.chunkForward l) s s)
    ∧ (∀ (s : State) (l o : Nat) (f : Flit) (fs : List Flit) (rest : List (List Flit)), (lnk s l).hopping = (f :: fs) :: rest →
      (directLinks s (getF f.desc PayDesc.DEST)).head? = some o → (f :: fs).length ≤ freeCredits s o 1 →
      ∃ t, completes (.chunkForward l) s t ∧ (o ≠ l → (lnk t l).hopping = rest)
        ∧ (o < 64 → l < 64 → odGet t OD.FORWARDED o = (odGet s OD.FORWARDED o + 1) % 2 ^ odWidth OD.FORWARDED)
        ∧ ∃ out, kget (lnk t o).queue 1 [] = kget (lnk s o).queue 1 [] ++ out ∧ out.length = fs.length + 1 ∧ ∀ x ∈ out, getF x.desc PayDesc.HOP = 0)

/-- POST places each of its records' work requests in order, up to a record whose read fails, and completes; with WAIT_DONE it stays
while one of them is not complete. A descriptor that cannot be read ends it with MEM_ERROR (5), an undefined opcode with BAD_OP (4). On a
queue pair that is READY or DRAINING the next entry of its send queue starts where its operation is the command's and nothing before it
holds it up, or ends LOCAL_ERROR (12) where it cannot be read; on any other nothing starts. A DRAINING queue pair with everything done
becomes CLOSED. An ACK, new to it, moves the acknowledged number on; a queue pair that takes no packets answers it NAK QP_ERROR. The ACK
timer sends the ACK, a packet whose delay has passed is sent again, and a queue pair whose TIMEOUT has passed sends what is
unacknowledged again, or at its last retry ends its oldest work request with RETRY_LIMIT (10) and enters ERROR. (R250, R251, R253, R254,
R258, R260, R264, R265, 12_queue_pairs.md.) -/
def Obligations.QueuePairRequests : Prop :=
  (∀ (s : State) (port : Nat) (f : Flight), flightOn s (unitKey 5 port) = some f →
      let u := unitKey 5 port
      let d := readRec s (stepReader f) (getF f.step StepRec.DESC_ADDR) 64
      let r := (List.range (getF d.2.1 PassDesc.ENTRIES)).foldl (postOne f u (getF d.2.1 PassDesc.ENTRY_ADDR)) (d.1, false)
      let waits := getF d.2.1 PassDesc.WAIT_DONE = 1 ∧ unitWork r.1 u = true
      (getF f.step StepRec.OPCODE = 1 → unitWork s u = false → d.2.2.1 = 0 →
        (¬ waits → completes (.post port) s (claspPulls { passEnd r.1 port (if r.2 then 5 else 0) .done with pending := s.pending }))
        ∧ (waits → completes (.post port) s (claspPulls { r.1 with pending := s.pending })))
      ∧ (getF f.step StepRec.OPCODE = 1 → unitWork s u = false → d.2.2.1 ≠ 0 →
        completes (.post port) s (claspPulls { passEnd d.1 port 5 .unread with pending := s.pending }))
      ∧ (getF f.step StepRec.OPCODE = 1 → unitWork s u = true → completes (.post port) s (claspPulls s))
      ∧ (getF f.step StepRec.OPCODE ≠ 1 → getF f.step StepRec.OPCODE ≠ 0x0F01 → getF f.step StepRec.OPCODE ≠ 0x0F02 →
        completes (.post port) s (claspPulls { passEnd s port 4 .untouched with pending := s.pending })))
    ∧ (∀ (s : State) (port st : Nat) (how : StepEnd), let t := passEnd s port st how
      flightOn t (unitKey 5 port) = none ∧ kfind t.net.passEnds port = some st)
    ∧ (∀ (s : State) (u ten q sqe : Nat), pullOf s q sqe = none →
      (funcOpen s (qpF s q QpCtx.FUNCTION) = false → postEntry s u ten q sqe = refuseWqe s q sqe 14)
      ∧ (funcOpen s (qpF s q QpCtx.FUNCTION) = true →
        (qpState s q = 2 → postEntry s u ten q sqe = postWqe s q sqe ten none (.unit u))
        ∧ (qpState s q = 5 → postEntry s u ten q sqe = refuseWqe (qpCount s 7 1) q sqe 1)
        ∧ (qpState s q ≠ 2 → qpState s q ≠ 5 → postEntry s u ten q sqe = refuseWqe s q sqe 14)))
    ∧ (∀ (s : State) (q : Nat), (∀ p ∈ [(1, Instr.send q), (2, .write q), (4, .fetchAdd q), (5, .cmpSwap q)], completes p.2 s (startNext s q p.1))
      ∧ completes (.read q) s (claspPulls { startNext s q 3 with pending := s.pending }))
    ∧ (∀ (s : State) (q op n : Nat), qpState s q = 2 ∨ qpState s q = 3 → nextIdx s q = some n →
      let r := readRec s ownReader (sqAddr s q n) 64
      (r.2.2.1 = 0 → getF r.2.1 Sqe.OP = op → mayStart r.1 q r.2.1 = true → startNext s q op = startWqe r.1 q n r.2.1)
      ∧ (r.2.2.1 = 0 → getF r.2.1 Sqe.OP ≠ op ∨ mayStart r.1 q r.2.1 = false → startNext s q op = s)
      ∧ (∀ w, r.2.2.1 ≠ 0 → wqeAt (startWqe r.1 q n 0) q n = some w → startNext s q op = popWqes (endWqe (startWqe r.1 q n 0) q w 12) q))
    ∧ (∀ (s : State) (q op : Nat), (qpState s q ≠ 2 ∧ qpState s q ≠ 3) ∨ nextIdx s q = none → startNext s q op = s)
    ∧ (∀ (s : State) (q : Nat), qpState s q = 3 → (∀ w ∈ (qpSt s q).wqes, w.finished = true) →
      qpF s q QpCtx.ACK_PSN = qpF s q QpCtx.SEND_PSN → qpF s q QpCtx.SQ_CI = qpF s q QpCtx.SQ_PI →
      completes (.qpDrained q) s (qpSet s q [(QpCtx.STATE, 4)]))
    ∧ (∀ (s : State) (m : Msg), let x := takeRx s m
      let q := getF m.hdr Pkt.DEST_QP
      let c := psnAdd (getF m.hdr Pkt.PSN) 1
      let fresh := psnBefore (qpSt x q).acked c = true ∧ psnDiff (qpSt x q).acked c ≤ psnDiff (qpSt x q).acked (qpF x q QpCtx.SEND_PSN)
      (qpState x q ≠ 2 → qpState x q ≠ 3 → completes (.ack m) s (sendNak x q m (getF m.hdr Pkt.PSN) 0x21 0))
      ∧ (qpState x q = 2 ∨ qpState x q = 3 →
        (fresh → completes (.ack m) s (ackAdvance (setQpSt x q { qpSt x q with acked := c }) q))
        ∧ (¬ fresh → completes (.ack m) s (ackAdvance x q))))
    ∧ (∀ (s : State) (q c : Nat), (qpSt s q).ackDue = some c → c + usClk ≤ s.clk → qpState s q = 2 ∨ qpState s q = 3 →
      ∃ t, completes (.ackTimer q) s t ∧ (qpSt t q).ackDue = none ∧ (qpSt t q).ackSent = qpF s q QpCtx.RECV_PSN
        ∧ t.txq.length = s.txq.length + 1 ∧ { t with txq := s.txq, net := s.net } = s)
    ∧ (∀ (s : State) (q psn c : Nat) (p : SentPkt), (qpSt s q).sent.find? (fun p => p.psn == psn) = some p → p.due = some c →
      qpState s q = 2 ∨ qpState s q = 3 →
      (c ≤ s.clk → completes (.retryAfterResend q psn) s (resend s q p false))
      ∧ (s.clk < c → completes (.retryAfterResend q psn) s s))
    ∧ (∀ (s : State) (q c : Nat), (qpSt s q).timer = some c → c + usClk * qpF s q QpCtx.TIMEOUT ≤ s.clk →
      qpState s q = 2 ∨ qpState s q = 3 →
      let x := dropRevoked (qpCount s 2 1) q
      let y := (qpSt x q).sent.foldl (fun t p => resend t q p true) x
      (qpF x q QpCtx.ACK_PSN = qpF x q QpCtx.SEND_PSN → completes (.qpTimeout q) s (claspPulls { x with pending := s.pending }))
      ∧ (qpF x q QpCtx.ACK_PSN ≠ qpF x q QpCtx.SEND_PSN → (qpSt x q).retries + 1 < qpF x q QpCtx.RETRY_MAX →
        completes (.qpTimeout q) s (claspPulls { setQpSt y q { qpSt y q with retries := (qpSt x q).retries + 1, timer := some y.clk } with pending := s.pending }))
      ∧ (∀ w, qpF x q QpCtx.ACK_PSN ≠ qpF x q QpCtx.SEND_PSN → qpF x q QpCtx.RETRY_MAX ≤ (qpSt x q).retries + 1 →
        (qpSt x q).wqes.find? (fun w => !w.finished) = some w →
        completes (.qpTimeout q) s (claspPulls { qpError (endWqe x q w 10) q with pending := s.pending })))

/-- A request packet for a queue pair that takes no packets is answered NAK QP_ERROR (0x21); one ahead of the window is counted and
dropped; the duplicate of a held one is not answered; any other duplicate is counted, answered again and executed no second time, but
that a re-send of a number answered RETRY_AFTER is executed. A new SEND or WRITE whose block is malformed makes the queue pair ERROR, one
whose table is not held is dropped. A SEND is placed in its receive buffer, or answered RETRY_AFTER where none is posted; it waits where
an earlier message is not yet known (log 43). A WRITE whose key check fails is answered with the reason and counted, one whose pages are
resident is placed as runWrite does, one that meets a page not resident is a page fault. A new READ_REQ or atomic that passes runs and
ends its message. A response or NAK for a queue pair that takes no packets is answered NAK QP_ERROR too; a response without an
outstanding work request of its kind is discarded, an expected one that lands advances it. A NAK ends the work request it names with its
status, LENGTH_ERROR once all of it is acknowledged; RETRY_AFTER delays the packet, QP_ERROR and KEY_REVOKED act on the queue pair.
(R257, R258, R259, R262, R263, R266, R267, 12_queue_pairs.md.) -/
def Obligations.QueuePairPackets : Prop :=
  (∀ (s : State) (q : Nat) (m : Msg), let z := mapTouch s (qpAddr s q) 128
      let p := getF m.hdr Pkt.PSN
      let live := qpState z q = 2 ∨ qpState z q = 3
      (¬ live → requestGate s q m = (sendNak z q m p 0x21 0, 3))
      ∧ (live → classify z q p = 2 → requestGate s q m = (qpCount z 1 1, 3))
      ∧ (live → classify z q p = 1 → isHeld z q p = true → requestGate s q m = (z, 3))
      ∧ (live → classify z q p = 1 → isHeld z q p = false → owedResend z q m.hdr = false → requestGate s q m = (qpCount z 0 1, 1))
      ∧ (live → classify z q p = 1 → isHeld z q p = false → owedResend z q m.hdr = true → requestGate s q m = (keyTouch (unowe z q p) m, 0))
      ∧ (live → classify z q p = 0 → (qpSt z q).early = [] → requestGate s q m = (keyTouch z m, 0)))
    ∧ (∀ (s : State) (m : Msg), let x := takeRx s m
      let q := getF m.hdr Pkt.DEST_QP
      let g := requestGate x q m
      let fault := keyCheck g.1 q m 3 (touched m.hdr).1 (min 4032 (touched m.hdr).2) = 0 ∧ pageAbsent g.1 m = true
      (g.2 = 3 → (∀ i ∈ [Instr.sendPacket m, .writePacket m, .atomic m], completes i s g.1)
        ∧ completes (.readReq m) s (imageRead { g.1 with pending := s.pending } m))
      ∧ (g.2 = 1 → (∀ i ∈ [Instr.sendPacket m, .writePacket m], completes i s (dupAck g.1 q))
        ∧ (∀ v, (qpSt g.1 q).atomics.find? (fun y => y.1 == getF m.hdr Pkt.PSN) = some v → completes (.atomic m) s (atomicResp g.1 q m v.2))
        ∧ ((qpSt g.1 q).atomics.find? (fun y => y.1 == getF m.hdr Pkt.PSN) = none → completes (.atomic m) s (dupAck g.1 q))
        ∧ (¬ fault → completes (.readReq m) s (imageRead { runRead (coverage m.hdr) g.1 q m 0 with pending := s.pending } m)))
      ∧ (g.2 ≤ 1 → fault → completes (.readReq m) s (imageRead { pageFault g.1 q m m false with pending := s.pending } m))
      ∧ (g.2 = 0 → ¬ fault → completes (.readReq m) s (imageRead
        { earlySends (rxDone (runRead (coverage m.hdr) (markRecv g.1 q (getF m.hdr Pkt.PSN) (coverage m.hdr)) q m 0) q m) q with pending := s.pending } m)))
    ∧ (∀ (s y : State) (m : Msg) (d : RxData) (b : Bool), let x := takeRx s m
      let q := getF m.hdr Pkt.DEST_QP
      let p := getF m.hdr Pkt.PSN
      let g := requestGate x q m
      let c := countIn y q d.raw
      let k := keyCheck c q m 2 (touched m.hdr).1 d.raw
      g.2 = 0 →
      (pktData g.1 m = (y, none, false) → ∀ i ∈ [Instr.sendPacket m, .writePacket m], completes i s (qpError y q))
      ∧ (pktData g.1 m = (y, none, true) → ∀ i ∈ [Instr.sendPacket m, .writePacket m], completes i s y)
      ∧ (pktData g.1 m = (y, some d, b) → completes (.sendPacket m) s (earlySends (sendArrived y q m d) q)
        ∧ ((msgOf c q m.hdr).status ≠ 0 → completes (.writePacket m) s (earlySends (rxCount (markRecv c q p 1) q (msgOf c q m.hdr) d.raw 0) q))
        ∧ ((msgOf c q m.hdr).status = 0 →
          (k ≠ 0 → completes (.writePacket m) s (earlySends (rxCount (markRecv (keyFail c q m p k) q p 1) q (msgOf c q m.hdr) d.raw k) q))
          ∧ (k = 0 → pageAbsent c m = true → completes (.writePacket m) s (earlySends (pageFault c q m { m with data := d.bytes } d.short) q))
          ∧ (k = 0 → pageAbsent c m = false → completes (.writePacket m) s (earlySends (runWrite c q m d) q)))))
    ∧ (∀ (y : State) (q : Nat) (m : Msg) (d : RxData), let msn := getF m.hdr Pkt.MSN
      let p := getF m.hdr Pkt.PSN
      (psnBefore msn (qpF y q QpCtx.RECV_MSN) = true → sendArrived y q m d = markRecv y q p 1)
      ∧ (psnBefore msn (qpF y q QpCtx.RECV_MSN) = false → (qpSt y q).rx.find? (fun r => r.msn == msn) = none →
        (rxBuffer y q msn = none → sendArrived y q m d = sendNak y q m p 0x20 (od y OD.RECV_RETRY_US))
        ∧ (∀ idx, rxBuffer y q msn = some idx → rxKnown y q msn = false → sendArrived y q m d =
            setQpSt y q { qpSt y q with early := (qpSt y q).early ++ [({ m with data := d.bytes }, d.short)] })
        ∧ (∀ idx, rxBuffer y q msn = some idx → rxKnown y q msn = true → d.short = false →
          let nr := newSend y q m.hdr idx
          let w := placeData (rxSet (countIn nr.1 q d.raw) q nr.2) m false (nr.2.addr + getF m.hdr Pkt.OFFSET) d
          (nr.2.status = 0 → w.2 = 0 → sendArrived y q m d = rxCount (markRecv w.1 q p 1) q nr.2 d.raw 0)
          ∧ (nr.2.status = 0 → w.2 ≠ 0 → sendArrived y q m d = rxCount (markRecv (sendNak w.1 q m p w.2 0) q p 1) q nr.2 d.raw w.2))))
    ∧ (∀ (s : State) (m : Msg), let x := takeRx s m
      let q := getF m.hdr Pkt.DEST_QP
      let p := getF m.hdr Pkt.PSN
      let c := countIn (requestGate x q m).1 q 16
      let k := keyCheck c q m 1 (getF m.hdr Pkt.REMOTE_OFFSET) 8
      (requestGate x q m).2 = 0 →
      (k ≠ 0 → completes (.atomic m) s (earlySends (rxDone (keyFail (markRecv c q p 1) q m p k) q m) q))
      ∧ (k = 0 → pageAbsent c m = true → completes (.atomic m) s (earlySends (pageFault c q m m false) q))
      ∧ (k = 0 → pageAbsent c m = false → completes (.atomic m) s (earlySends (rxDone (runAtomic (markRecv c q p 1) q m) q m) q)))
    ∧ (∀ (s y z : State) (m : Msg) (w : Wqe) (d : RxData) (b : Bool), let x := takeRx s m
      let q := getF m.hdr Pkt.DEST_QP
      let p := getF m.hdr Pkt.PSN
      let live := qpState x q = 2 ∨ qpState x q = 3
      (live → respWqe x q p true = none → completes (.readResp m) s (claspPulls { x with pending := s.pending }))
      ∧ (¬ live → completes (.readResp m) s (claspPulls { sendNak x q m p 0x21 0 with pending := s.pending })
        ∧ completes (.atomicResp m) s (sendNak x q m p 0x21 0))
      ∧ (live → respWqe x q p false = none → completes (.atomicResp m) s x)
      ∧ (live → respWqe x q p true = some w → pktData x m = (y, none, false) → completes (.readResp m) s (claspPulls { qpError y q with pending := s.pending }))
      ∧ (live → respWqe x q p true = some w → pktData x m = (y, some d, b) → placeResp (countIn y q d.raw) w m (getF m.hdr Pkt.OFFSET) d = (z, 0) →
        completes (.readResp m) s (claspPulls { landed z q w p d.bytes.length (if d.short then 9 else 0) with pending := s.pending }))
      ∧ (live → respWqe x q p false = some w → placeResp (countIn x q 8) w m 0 ⟨m.data.take 8, 8, false⟩ = (z, 0) →
        completes (.atomicResp m) s (landed z q w p 8 0)))
    ∧ (∀ (s : State) (m : Msg), let x := takeRx s m
      let q := getF m.hdr Pkt.DEST_QP
      let p := getF m.hdr Pkt.PSN
      let st := getF m.hdr Pkt.STATUS
      let live := qpState x q = 2 ∨ qpState x q = 3
      let ends := fun t : State => completes (.nak m) s (claspPulls { t with pending := s.pending })
      (¬ live → ends (sendNak x q m p 0x21 0))
      ∧ (live → st = 0x20 → ends (retryAfter x q p (getF m.hdr Pkt.HINT)))
      ∧ (live → st = 0x21 → ends (remoteError x q p))
      ∧ (live → st = 13 → ends (keyRevoked x q))
      ∧ (live → st ≠ 0x20 → st ≠ 0x21 → st ≠ 13 →
        (wqeOf x q p = none → ends x)
        ∧ (∀ w, wqeOf x q p = some w → (w.finished = true → ends x)
          ∧ (w.finished = false → st = 9 → ends (wqeSet x q { w with status := 9 }))
          ∧ (w.finished = false → st ≠ 9 → ends (ackAdvance (endWqe x q w st) q)))))
    ∧ ∀ (op prior a b : Nat), (op = 0 → atomicNew op prior a b = (prior + a) % 2 ^ 64)
      ∧ (op ≠ 0 → prior = a → atomicNew op prior a b = b) ∧ (op ≠ 0 → prior ≠ a → atomicNew op prior a b = prior)

/-- A held packet whose pages have become resident is executed and leaves the fault buffer; one whose limit has passed leaves it and is
answered RETRY_AFTER with HINT 0, its numbers owed an execution. CQ_ENTRY writes the oldest completion waiting for its queue where the
queue has room; where every entry is unread it looks at what the reader has taken (a free value, log 43) and the completion waits where
that frees none. Every 64 clk in RUN each wicket gains a sixteenth of its CIR and PIR, up to its bursts. (R255, R263, R271,
12_queue_pairs.md.) -/
def Obligations.HeldPacketsCompletionsAndWickets : Prop :=
  (∀ (s : State) (q psn : Nat) (h : HeldPkt), s.net.faults.find? (fun h => h.qp == q && getF h.msg.hdr Pkt.PSN == psn) = some h →
      let s1 := { s with net := { s.net with faults := s.net.faults.erase h } }
      (pageAbsent s h.msg = false → completes (.pageResident q psn) s (runHeld s h))
      ∧ (pageAbsent s h.msg = true → completes (.pageResident q psn) s s)
      ∧ (h.clk + usClk * getF (mrOf s h.msg) Mr.STALL_LIMIT ≤ s.clk → completes (.stallLimit q psn) s (pageRetry s1 q h.msg 0))
      ∧ (s.clk < h.clk + usClk * getF (mrOf s h.msg) Mr.STALL_LIMIT → completes (.stallLimit q psn) s s))
    ∧ (∀ (s : State) (h : HeldPkt), let s1 := { s with net := { s.net with faults := s.net.faults.erase h } }
      let q := h.qp
      let op := getF h.msg.hdr Pkt.OPCODE
      (op = 2 → runHeld s h = earlySends (recvAdvance (runWrite s1 q h.msg ⟨h.msg.data, pktLen h.msg.hdr, h.short⟩) q) q)
      ∧ (op = 3 → runHeld s h = earlySends (recvAdvance (rxDone (runRead (coverage h.msg.hdr) s1 q h.msg 0) q h.msg) q) q)
      ∧ (op = 5 → runHeld s h = earlySends (recvAdvance (rxDone (runAtomic s1 q h.msg) q h.msg) q) q))
    ∧ (∀ (s : State) (cq : Nat), s.net.cqWait.find? (fun p => p.1 == cq) = none → completes (.cqEntry cq) s s)
    ∧ (∀ (s : State) (cq : Nat) (p : Nat × Nat), s.net.cqWait.find? (fun p => p.1 == cq) = some p →
      (cqFull s cq = false → completes (.cqEntry cq) s (cqWrite s cq p))
      ∧ (cqFull s cq = true → cqFull (cqTaken s cq) cq = true → completes (.cqEntry cq) s (cqTaken s cq))
      ∧ (cqFull s cq = true → cqFull (cqTaken s cq) cq = false → completes (.cqEntry cq) s (cqWrite (cqTaken s cq) cq p)))
    ∧ (∀ (s : State) (cq : Nat), let t := cqTaken s cq
      kget s.net.cqCi cq 0 ≤ kget t.net.cqCi cq 0 ∧ (kget s.net.cqCi cq 0 ≤ kget s.net.cqPi cq 0 → kget t.net.cqCi cq 0 ≤ kget t.net.cqPi cq 0)
      ∧ t.net.cqPi = s.net.cqPi ∧ t.mem = s.mem)
    ∧ (∀ s : State, inRun s = true → s.net.wicketClk + 64 ≤ s.clk →
      ∃ t, completes .wicketFill s t ∧ t.net.wicketClk = s.net.wicketClk + 64
        ∧ (∀ w, w < 4096 → let b := buckets s w
          let r := odGet s OD.WICKETS w
          buckets t w = (min (b.1 + getF r Wicket.CIR) (16 * getF r Wicket.CBS), min (b.2 + getF r Wicket.PIR) (16 * getF r Wicket.PBS)))
        ∧ { t with net := s.net, od := s.od } = s)
    ∧ (∀ s : State, inRun s = false ∨ s.clk < s.net.wicketClk + 64 → completes .wicketFill s s)

/-- A tray request whose response has no room stays in its buffer. One that has room and fails its checks is answered with their status
and touches nothing; one that passes is served: a READ answers the bytes, a WRITE stores them, an ATOMIC leaves its word and answers the
prior value. A response that matches no outstanding request of its kind, tag and generation is only counted as late; one that matches
ends its access and frees its tag. A request that waits TRAY_TIMEOUT_CLK ends with TIMEOUT and its tag's generation advances. A FETCH_ADD
leaves the sum modulo 2^64, a CMP_SWAP the new value where the prior one equals the first operand, a SWAP its operand. (R276, R277, R280,
R281, R283, R287, 13_tray_fabric.md.) -/
def Obligations.TrayMessages : Prop :=
  (∀ (s : State) (m : Msg), let x := takeRx s m
      let c := trayCheck x m.hdr 0
      let r := readMem c.1 true (trayReader m.hdr) (getF m.hdr TrayHdr.OFFSET) (getF m.hdr TrayHdr.LENGTH_M1 + 1)
      respRoom s (respBytes m) = true →
      (c.2.1 ≠ 0 → completes (.trayRead m) s (trayAnswer c.1 m c.2.1 0 []))
      ∧ (c.2.1 = 0 → r.2.2.1 = 0 → completes (.trayRead m) s (trayAnswer r.1 m 0 (getF c.2.2 ExportRec.CACHEABLE) r.2.1))
      ∧ (c.2.1 = 0 → r.2.2.1 ≠ 0 → completes (.trayRead m) s (trayAnswer r.1 m (wireStatus r.2.2.1) 0 [])))
    ∧ (∀ (s y : State) (m : Msg) (bs : List Byte), let x := takeRx s m
      let w := trayCheck x m.hdr 1
      let a := trayCheck x m.hdr 2
      respRoom s (respBytes m) = true →
      (trayData w.1 m (getF m.hdr TrayHdr.LENGTH_M1 + 1) = (y, some bs) →
        (w.2.1 ≠ 0 → completes (.trayWrite m) s (trayAnswer y m w.2.1 0 []))
        ∧ (w.2.1 = 0 → let r := agentWrite y true (trayReader m.hdr) (getF m.hdr TrayHdr.OFFSET) bs
          completes (.trayWrite m) s (trayAnswer r.1 m (wireStatus r.2.1) 0 [])))
      ∧ (trayData a.1 m 16 = (y, some bs) →
        (a.2.1 ≠ 0 → completes (.trayAtomic m) s (trayAnswer y m a.2.1 0 []))
        ∧ (a.2.1 = 0 →
          let r := localAtomic y (trayReader m.hdr) (getF m.hdr TrayHdr.OFFSET) (getF m.hdr TrayHdr.ATOMIC_OP) (leNat (bs.take 8)) (leNat (bs.drop 8))
          completes (.trayAtomic m) s (trayAnswer r.1 m (wireStatus r.2.2) 0 (if r.2.2 = 0 then leBytes 8 r.2.1 else []))))
      ∧ (trayData w.1 m (getF m.hdr TrayHdr.LENGTH_M1 + 1) = (y, none) → completes (.trayWrite m) s y)
      ∧ (trayData a.1 m 16 = (y, none) → completes (.trayAtomic m) s y))
    ∧ (∀ (s : State) (m : Msg), respRoom s (respBytes m) = false → ∀ i ∈ [Instr.trayRead m, .trayWrite m, .trayAtomic m], completes i s s)
    ∧ (∀ (s : State) (m : Msg) (k : Nat) (i : Instr), (k, i) ∈ [(0, Instr.trayReadResp m), (1, .trayWriteResp m), (2, .trayAtomicResp m)] →
      respAccess (takeRx s m) m k = none → completes i s (trayCount (takeRx s m) 3))
    ∧ (∀ (s y : State) (m : Msg) (a : Access) (bs : List Byte), let x := takeRx s m
      (respAccess x m 1 = some a → let r := respStatus x m
        completes (.trayWriteResp m) s (portsGo (freeTagOf (endAccess r.1 a.id r.2 []) (a.tag.getD 0))))
      ∧ (respAccess x m 0 = some a → trayData x m (if getF m.hdr TrayHdr.STATUS ≠ 0 then 0 else a.len) = (y, some bs) →
        let r := respStatus y m
        let t := if r.2 = 0 ∧ getF m.hdr TrayHdr.CACHEABLE = 1 then (if a.noFill then trcCount r.1 2 1 else trcFill r.1 a.addr bs) else r.1
        completes (.trayReadResp m) s (portsGo (freeTagOf (endAccess t a.id r.2 (if r.2 = 0 then bs else failBytes a)) (a.tag.getD 0))))
      ∧ (respAccess x m 2 = some a → trayData x m (if getF m.hdr TrayHdr.STATUS ≠ 0 then 0 else 8) = (y, some bs) →
        let r := respStatus y m
        completes (.trayAtomicResp m) s (portsGo (freeTagOf (endAccess r.1 a.id r.2 bs) (a.tag.getD 0)))))
    ∧ (∀ (s : State) (m : Msg), (getF m.hdr TrayHdr.STATUS = 0 → respStatus s m = (trayCount s 1, 0))
      ∧ (getF m.hdr TrayHdr.STATUS = 1 → respStatus s m = (trayCount (trayCount s 1) 4, 2))
      ∧ (getF m.hdr TrayHdr.STATUS = 3 → respStatus s m = (trayCount (trayCount s 1) 6, 1)))
    ∧ (∀ (s : State) (tag : Nat) (a : Access), (kfind s.fab.tags tag).bind (liveAccess s) = some a →
      (a.issued + od s OD.TRAY_TIMEOUT_CLK ≤ s.clk → ∃ u, completes (.trayTimeout tag) s (portsGo (freeTagOf (endAccess u a.id 4 (failBytes a)) tag))
        ∧ kget u.fab.tagGen tag 0 = (kget s.fab.tagGen tag 0 + 1) % 16 ∧ { u with fab := s.fab } = fabricFault (trayCount s 2) 4 a.addr)
      ∧ (s.clk < a.issued + od s OD.TRAY_TIMEOUT_CLK → completes (.trayTimeout tag) s s))
    ∧ (∀ (s : State) (id status : Nat) (bs : List Byte), kfind (endAccess s id status bs).fab.results id = some (status, bs)
      ∧ liveAccess (endAccess s id status bs) id = none)
    ∧ (∀ (s : State) (id : Nat) (a : Access), liveAccess s id = some a → a.aperture.isSome = true →
      (a.issued + od s OD.APERTURE_TIMEOUT_CLK ≤ s.clk →
        completes (.apertureTimeout id) s (endAccess (fabricFault (odAdd s OD.APERTURE_COUNTS 2 1) 4 a.addr) id 4 (failBytes a)))
      ∧ (s.clk < a.issued + od s OD.APERTURE_TIMEOUT_CLK → completes (.apertureTimeout id) s s))
    ∧ ∀ (op p a b : Nat), (op = 0 → atomicWord op p a b = (p + a) % 2 ^ 64) ∧ (op = 1 → p = a → atomicWord op p a b = b)
      ∧ (op = 1 → p ≠ a → atomicWord op p a b = p) ∧ (2 ≤ op → atomicWord op p a b = a)

/-- Each coherence message is handled as the message of its code, with what the device sends itself, and the FABRIC ports then go on. One
of another epoch changes nothing. A GET_S of a line held exclusive by another member forwards FWD_S to the owner and leaves the entry
BUSY; a forward to a line under its hold waits and is counted. An INV drops the line and is acknowledged at once. The domain goes down at
a timeout of a BUSY entry and at a DOMAIN_DOWN of this epoch from another member, and comes up once READY of this epoch has come from
every other member. (R290, R291, R292, R293, R297, R298, 13_tray_fabric.md.) -/
def Obligations.CoherenceMessages : Prop :=
  (∀ (s : State) (m : Msg) (code : Nat) (i : Instr), (code, i) ∈ [(1, Instr.getS m), (2, .getM m), (3, .putM m), (4, .putE m), (5, .fwdS m),
        (6, .fwdM m), (7, .inv m), (8, .recall m), (9, .dataOp m), (0xA, .dataE m), (0xB, .invAck m), (0xC, .copyBack m), (0xD, .putAck m)] →
      completes i s (portsGo (cohSettle (cohHandle (takeRx s m) { m with hdr := setF m.hdr CohMsg.MSG code }))))
    ∧ (∀ (s : State) (m : Msg), getF m.hdr CohMsg.EPOCH ≠ od s OD.COH_EPOCH → cohHandle s m = s)
    ∧ (∀ (s : State) (m : Msg) (e : DirEnt), od s OD.COH_STATE ≠ 1 → getF m.hdr CohMsg.EPOCH = od s OD.COH_EPOCH → getF m.hdr CohMsg.MSG = 1 →
      getF m.hdr CohMsg.HOME_SLOT = ownSlot s → kfind s.fab.dir (getF m.hdr CohMsg.LINE) = some e → e.state = 2 → e.owner ≠ ownSlot s →
      let t := cohHandle s m
      kfind t.fab.dir (getF m.hdr CohMsg.LINE) = some { e with state := 3, req := getF m.hdr CohMsg.FROM_SLOT, since := s.clk }
      ∧ ∃ x : Msg, t.txq = s.txq ++ [x] ∧ x.dest = slotDest s e.owner ∧ getF x.hdr CohMsg.MSG = 5
        ∧ getF x.hdr CohMsg.REQ_SLOT = getF m.hdr CohMsg.FROM_SLOT % 32)
    ∧ (∀ (s : State) (m : Msg) (l : CohLine), kfind s.fab.wb (msgLine m.hdr) = none → kfind s.fab.reqs (msgLine m.hdr) = none →
      cohLine s (msgLine m.hdr) = some l → l.state ≠ 1 → s.clk < l.hold →
      let t := cacheFwd s m
      kget t.fab.fwds (msgLine m.hdr) [] = kget s.fab.fwds (msgLine m.hdr) [] ++ [m] ∧ cohLine t (msgLine m.hdr) = some l ∧ t.txq = s.txq)
    ∧ (∀ (s : State) (m : Msg), (∀ l, cohLine s (msgLine m.hdr) = some l → l.state ≤ 1) → getF m.hdr CohMsg.REQ_SLOT ≠ ownSlot s →
      let t := cacheInv s m
      cohLine t (msgLine m.hdr) = none ∧ ∃ x : Msg, t.txq = s.txq ++ [x] ∧ x.dest = slotDest s (getF m.hdr CohMsg.REQ_SLOT)
        ∧ getF x.hdr CohMsg.MSG = 0xB)
    ∧ (∀ (s : State) (key : Nat), (∀ l, cohLine s key = some l → l.hold ≤ s.clk) → kfind s.fab.reqs key = none →
      completes (.cohHoldEnd key) s (portsGo (cohSettle (requeue { s with fab := { s.fab with fwds := kdel s.fab.fwds key } }
        (kget s.fab.fwds key [])))))
    ∧ (∀ (s : State) (line : Nat) (e : DirEnt), kfind s.fab.dir line = some e → 3 ≤ e.state → e.since + od s OD.COH_TIMEOUT_CLK ≤ s.clk →
      completes (.cohTimeout line) s (portsGo (cohDown s)))
    ∧ (∀ (s : State) (dev epoch : Nat), (epoch = od s OD.COH_EPOCH → dev ≠ ownDevice s → completes (.domainDown dev epoch) s (portsGo (cohDown s)))
      ∧ (epoch ≠ od s OD.COH_EPOCH ∨ dev = ownDevice s → completes (.domainDown dev epoch) s s))
    ∧ (∀ s : State, od s OD.COH_STATE ≠ 1 → let t := cohDown s
      od t OD.COH_STATE = 1 ∧ t.fab.coh = [] ∧ t.fab.dir = [] ∧ t.fab.wb = [] ∧ bitOf (od t OD.ALERT_CAUSES) 1 = true
      ∧ ∀ a ∈ t.fab.live, a.line = none)
    ∧ (∀ (s : State) (dev epoch : Nat), epoch < 65536 → dev < 8192 → ∃ t u, completes (.cohReady dev epoch) s t
      ∧ u.fab.ready = s.fab.ready.filter (fun x => x / 65536 != dev) ++ [dev * 65536 + epoch] ∧ { u with fab := s.fab } = s
      ∧ ((od s OD.COH_STATE = 2 ∧ ((slotsOf s.fab.members).filter (· != ownSlot s)).length
          ≤ (u.fab.ready.filter (fun x => x % 65536 = od s OD.COH_EPOCH)).length) → t = odSet u OD.COH_STATE 0)
      ∧ (¬ (od s OD.COH_STATE = 2 ∧ ((slotsOf s.fab.members).filter (· != ownSlot s)).length
          ≤ (u.fab.ready.filter (fun x => x % 65536 = od s OD.COH_EPOCH)).length) → t = u))

/-- A FABRIC step of an undefined opcode ends with BAD_OP; one whose descriptor can be read and passes its checks begins its atomics, and
goes on with them each time the command comes, or invalidates its ranges in order and completes, with MEM_ERROR where a record cannot be
read; one whose descriptor cannot be read or fails a check ends. An atomics step ends with PARTIAL where an entry ended with an error, as
soon as none is outstanding. After a range is invalidated no cached line meets it, every other line is as it was, and the lines dropped
are counted. (R285, R286, R287, R289, 13_tray_fabric.md.) -/
def Obligations.FabricSteps : Prop :=
  (∀ (s : State) (port : Nat) (f : Flight), flightOn s (unitKey 0xB port) = some f →
      (getF f.step StepRec.OPCODE ≠ 1 → getF f.step StepRec.OPCODE ≠ 2 → completes (.fabricAtomic port) s (fabricEnd s port f 4 [] 0 0 .untouched))
      ∧ (∀ t d, getF f.step StepRec.OPCODE = 1 → kfind s.fab.ports port = none → kfind s.fab.portDone port = none →
        fabricOpen s port f 1024 = (t, some d) →
        completes (.fabricAtomic port) s (portRun { t with fab := { t.fab with portDesc := kput t.fab.portDesc port d } } port f d))
      ∧ (∀ t, getF f.step StepRec.OPCODE = 1 → kfind s.fab.ports port = none → kfind s.fab.portDone port = none →
        fabricOpen s port f 1024 = (t, none) → completes (.fabricAtomic port) s t)
      ∧ (getF f.step StepRec.OPCODE = 1 → (kfind s.fab.ports port).isSome = true ∨ (kfind s.fab.portDone port).isSome = true →
        completes (.fabricAtomic port) s (portRun s port f (kget s.fab.portDesc port 0)))
      ∧ (∀ t d, getF f.step StepRec.OPCODE = 2 → fabricOpen s port f 64 = (t, some d) →
        let r := (List.range (getF d FabDesc.ENTRIES)).foldl (invalOne f (getF d FabDesc.ENTRY_ADDR)) (t, 0, none)
        completes (.inval port) s (fabricEnd r.1 port f (if r.2.2.isSome then 5 else 0) [] r.2.1 (r.2.2.getD 0) .done))
      ∧ (∀ t, getF f.step StepRec.OPCODE = 2 → fabricOpen s port f 64 = (t, none) → completes (.inval port) s t))
    ∧ (∀ (s : State) (port : Nat) (f : Flight) (most : Nat), let r := readRec s (stepReader f) (getF f.step StepRec.DESC_ADDR) 64
      (r.2.2.1 ≠ 0 → fabricOpen s port f most = (fabricEnd r.1 port f 5 [] 0 r.2.2.2 .unread, none))
      ∧ (r.2.2.1 = 0 → getF r.2.1 FabDesc.ENTRIES = 0 ∨ most < getF r.2.1 FabDesc.ENTRIES ∨ getF r.2.1 FabDesc.ENTRY_ADDR % 64 ≠ 0 →
        fabricOpen s port f most = (fabricEnd r.1 port f 7 [] 0 0 .untouched, none)))
    ∧ (∀ (s : State) (port d : Nat) (f : Flight), let t := portIssue (getF d FabDesc.ENTRIES + 1) (portCollect s port f d) port f d
      let done := sortBy (fun x y => decide (x.1 ≤ y.1)) (kget t.fab.portDone port [])
      (kget t.fab.ports port [] ≠ [] → portRun s port f d = t)
      ∧ (kget t.fab.ports port [] = [] → kfind t.fab.portErr port = none → (∀ p ∈ done, p.2 = 0) →
        portRun s port f d = fabricEnd t port f 0 [] 0 0 .done)
      ∧ (∀ a, kget t.fab.ports port [] = [] → kfind t.fab.portErr port = some a → (∀ p ∈ done, p.2 = 0) →
        portRun s port f d = fabricEnd t port f 5 [] 0 a .done))
    ∧ (∀ (s : State) (port st lines a : Nat) (f : Flight) (l : List Nat) (how : StepEnd), let t := fabricEnd s port f st l lines a how
      flightOn t (unitKey 0xB port) = none ∧ kfind t.fab.ports port = none ∧ kfind t.fab.portDone port = none)
    ∧ (∀ (s : State) (base size : Nat), let r := invalRange s base size
      (∀ e ∈ r.1.fab.trc, ∀ l ∈ e.2, meets (64 * l.1) 64 base size = false)
      ∧ (∀ set, (kget r.1.fab.trc set []) = (kget s.fab.trc set []).filter (fun l => !meets (64 * l.1) 64 base size))
      ∧ odGet r.1 OD.TRC_COUNTS 3 = (odGet s OD.TRC_COUNTS 3 + r.2) % 2 ^ odWidth OD.TRC_COUNTS
      ∧ { r.1 with fab := s.fab, od := s.od } = s)

/-- On a channel that is IDLE with its pause bit clear RUN reaches its chain's first descriptor; with the bit set it completes PAUSED,
and on a PAUSED or HALTED channel with that state's status, touching nothing. RESUME of such a channel, its bit clear, goes on from the
saved position; RESET discards the saved state. An undefined opcode ends with BAD_OP. A descriptor whose trigger is met starts, and a
COPY whose source and destination share a byte writes free bytes (U08, log 41). A trigger not met in time ends the step with
TRIGGER_EXPIRED. A descriptor that is done counts and the next is reached, or the step completes. A TIMEOUT below the retry limit is
issued again, another error, or a TIMEOUT at the limit, with nothing outstanding halts the channel. The pause bit is set and cleared by
CHANNEL_PAUSE; a pausing channel with nothing outstanding pauses. (R302, R304, R306, R307, R310, R311, R313, R314, 14_dma.md.) -/
def Obligations.DmaChannels : Prop :=
  (∀ (s : State) (ch : Nat) (f : Flight), flightOn s (dmaUnit ch) = some f →
      (getF f.step StepRec.OPCODE = 1 → dmaState s ch = 0 → dmaPaused s ch = false →
        let d0 := { DmaCh.reset with posted := (dmaOf s ch).posted, doneInFrame := (dmaOf s ch).doneInFrame }
        completes (.dmaRun ch) s (dmaReach (odPut s OD.CHANNEL_STATE ch 1) ch f { d0 with chain := getF f.step StepRec.DESC_ADDR } 0 true))
      ∧ (getF f.step StepRec.OPCODE = 1 → dmaState s ch = 0 → dmaPaused s ch = true →
        completes (.dmaRun ch) s (dmaAtOnce s ch f 0xA .untouched))
      ∧ (getF f.step StepRec.OPCODE = 1 → (dmaState s ch = 2 → completes (.dmaRun ch) s (dmaKeep s ch f 0xA))
        ∧ (dmaState s ch = 3 → completes (.dmaRun ch) s (dmaKeep s ch f 0xB)))
      ∧ (getF f.step StepRec.OPCODE = 2 → dmaState s ch = 2 ∨ dmaState s ch = 3 → dmaPaused s ch = false →
        let v := odGet s OD.CHANNEL_SAVED ch
        let d0 := { DmaCh.reset with started := (dmaOf s ch).met, posted := (dmaOf s ch).posted, doneInFrame := (dmaOf s ch).doneInFrame }
        let d := { d0 with chain := getF v DmaSaved.CHAIN_ADDR, row := getF v DmaSaved.ROW, byte := getF v DmaSaved.BYTE }
        completes (.dmaResume ch) s (dmaReach (odPut s OD.CHANNEL_STATE ch 1) ch f d (getF v DmaSaved.DESC_INDEX) true))
      ∧ (getF f.step StepRec.OPCODE = 2 → dmaState s ch = 2 ∨ dmaState s ch = 3 → dmaPaused s ch = true →
        completes (.dmaResume ch) s (dmaKeep s ch f 0xA))
      ∧ (getF f.step StepRec.OPCODE = 2 → dmaState s ch = 0 →
        (dmaPaused s ch = false → completes (.dmaResume ch) s (dmaAtOnce s ch f 0 .done))
        ∧ (dmaPaused s ch = true → completes (.dmaResume ch) s (dmaAtOnce s ch f 0xA .untouched)))
      ∧ (getF f.step StepRec.OPCODE = 3 → dmaState s ch = 0 → dmaPaused s ch = true → completes (.dmaReset ch) s (dmaKeep s ch f 0xA))
      ∧ (getF f.step StepRec.OPCODE = 3 → dmaState s ch ≠ 1 → dmaState s ch ≠ 0 ∨ dmaPaused s ch = false →
        completes (.dmaReset ch) s (dmaAtOnce s ch f 0 .done))
      ∧ (dmaState s ch ≠ 1 → (∀ op ∈ [1, 2, 3], getF f.step StepRec.OPCODE ≠ op) →
        completes (.dmaRun ch) s (dmaEnd s ch f (dmaOf s ch) 4 (dmaState s ch) (odGet s OD.CHANNEL_SAVED ch) .untouched)))
    ∧ (∀ (s : State) (ch : Nat) (f : Flight) (d : DmaCh) (st state saved : Nat) (how : StepEnd), ch < 512 → state < 4 →
      let t := dmaEnd s ch f d st state saved how
      dmaState t ch = state ∧ odGet t OD.CHANNEL_SAVED ch = saved % 2 ^ odWidth OD.CHANNEL_SAVED ∧ flightOn t (dmaUnit ch) = none
      ∧ dmaOf t ch = { DmaCh.reset with posted := d.posted, doneInFrame := d.doneInFrame, met := d.started })
    ∧ (∀ (s : State) (ch : Nat) (f : Flight) (d : DmaCh) (idx : Nat) (first : Bool), let r := readRec s (stepReader f) (d.chain + 64 * idx) 64
      (r.2.2.1 = 0 → dmaBad r.1 r.2.1 idx = false → dmaReach s ch f d idx first = setDma r.1 ch { d with idx := idx, desc := r.2.1, began := r.1.clk })
      ∧ (r.2.2.1 = 0 → dmaBad r.1 r.2.1 idx = true → dmaReach s ch f d idx first = dmaIdle r.1 ch f { d with idx := idx } 7 (if first then .untouched else .done)))
    ∧ (∀ (s : State) (ch n : Nat) (f : Flight), flightOn s (dmaUnit ch) = some f → dmaState s ch = 1 → (dmaOf s ch).started = false →
      (dmaOf s ch).fail = none → (dmaOf s ch).pausing = false → dmaTriggered s (dmaOf s ch).desc = true →
      let r := dmaPump n s ch f { dmaOf s ch with started := true }
      completes (.dmaTrigger ch n) s (setDma r.1 ch r.2))
    ∧ (∀ (s : State) (d : DmaCh) (bs : List Byte), (dmaOverlap d.desc = false → dmaBytes s d bs = (bs, s))
      ∧ (dmaBytes s d bs).1.length = bs.length)
    ∧ (∀ (s : State) (ch : Nat) (f : Flight), flightOn s (dmaUnit ch) = some f → dmaState s ch = 1 → (dmaOf s ch).started = false →
      dmaTriggered s (dmaOf s ch).desc = false → getF (dmaOf s ch).desc DmaDesc.TRIG_LIMIT ≠ 0 →
      (dmaOf s ch).began + 64 * getF (dmaOf s ch).desc DmaDesc.TRIG_LIMIT ≤ s.clk →
      completes (.triggerExpired ch) s (dmaIdle (dmaCount s 5 1) ch f (dmaOf s ch) 0xC .done))
    ∧ (∀ (s : State) (ch : Nat) (f : Flight), flightOn s (dmaUnit ch) = some f → dmaState s ch = 1 →
      let r := dmaPump (dmaFuel (dmaOf s ch).desc) s ch f (dmaOf s ch)
      let t := dmaTakeWrites r.1 r.2
      let p := dmaTakePosted t.1 ch t.2
      (dmaDone p.2 = true → p.2.pausing = false → completes (.dmaDescriptorComplete ch) s (dmaDescDone p.1 ch f p.2))
      ∧ (dmaDone p.2 = false → completes (.dmaDescriptorComplete ch) s (setDma p.1 ch p.2)))
    ∧ (∀ (s : State) (ch : Nat) (f : Flight) (x : DmaFail), flightOn s (dmaUnit ch) = some f → dmaState s ch = 1 →
      (dmaOf s ch).posted = [] → (dmaOf s ch).writes = [] → (dmaOf s ch).read = none → (dmaOf s ch).fail = some x →
      (x.status = 4 → (dmaOf s ch).halting = false → x.tries < odGet s OD.CHANNEL_CONFIG ch % 8 →
        ∃ u, completes (.dmaErrorResponse ch) s (dmaRetry u ch f (dmaOf s ch) x) ∧ { u with dma := s.dma } = s)
      ∧ (x.status ≠ 4 ∨ (dmaOf s ch).halting = true ∨ odGet s OD.CHANNEL_CONFIG ch % 8 ≤ x.tries → ∃ t, completes (.dmaErrorResponse ch) s t ∧ flightOn t (dmaUnit ch) = none
        ∧ (ch < 512 → dmaState t ch = 3)))
    ∧ (∀ (s : State) (ch : Nat), ch < 512 → ∃ t, completes (.channelPause ch false) s t ∧ dmaPaused t ch = false ∧ { t with od := s.od } = s)
    ∧ (∀ (s : State) (ch : Nat), ch < 512 → dmaState s ch ≠ 1 →
      ∃ t, completes (.channelPause ch true) s t ∧ dmaPaused t ch = true ∧ { t with od := s.od } = s)
    ∧ (∀ (s : State) (ch : Nat) (f : Flight), flightOn s (dmaUnit ch) = some f → dmaState s ch = 1 → (dmaOf s ch).pausing = true →
      (dmaOf s ch).started = false → (dmaOf s ch).fail = none → (dmaOf s ch).read = none → (dmaOf s ch).writes = [] →
      (dmaOf s ch).posted = [] → ∃ t, completes (.dmaPauseComplete ch) s t ∧ flightOn t (dmaUnit ch) = none
        ∧ (ch < 512 → dmaState t ch = 2))

/-- The first table of a built profile is formed and proposed once BUILD_BYTES bytes were counted; a later one after REBUILD_FRAMES where
it gains enough. The peer that acknowledged a generation is coded for with it, one that refused with fixed table 0. A DEF whose lengths
are all zero or over-subscribed, or that finds no free slot, is refused and counted; another is stored and acknowledged. A DROP frees its
slot and is acknowledged. An unanswered DEF or DROP is sent again once a frame, and the seventeenth DEF counts as refused. A store holds
at most two generations of one peer's profile, and a table installed is in it. (R319, R320, R321, R322, R323, 15_compression.md.) -/
def Obligations.CodecTables : Prop :=
  (∀ (s : State) (id : Nat), id < 16 → profileBuilt s id = true → kfind s.net.codec.lastBuild id = none →
      od s OD.BUILD_BYTES ≤ kget s.net.codec.counted id 0 →
      completes (.tableBuild id) s (proposeTable (withCodec s { s.net.codec with lastBuild := kput s.net.codec.lastBuild id (frameNo s) }) id
        (formTable (kget s.net.codec.recent id []))))
    ∧ (∀ (s : State) (id f : Nat), id < 16 → profileBuilt s id = true → kfind s.net.codec.lastBuild id = some f →
      od s OD.REBUILD_FRAMES ≤ frameDiff f (frameNo s) → s.net.codec.tables.filter (fun t => t.id == id) = [] →
      completes (.tableRebuild id) s (proposeTable (withCodec s { s.net.codec with lastBuild := kput s.net.codec.lastBuild id (frameNo s) }) id
        (formTable (kget s.net.codec.recent id []))))
    ∧ (∀ (s : State) (id f : Nat) (b : BuiltTable) (rest : List BuiltTable), id < 16 → profileBuilt s id = true → kfind s.net.codec.lastBuild id = some f →
      od s OD.REBUILD_FRAMES ≤ frameDiff f (frameNo s) → s.net.codec.tables.filter (fun t => t.id == id) = b :: rest →
      (∀ x ∈ b :: rest, x.state = 1) →
      let s1 := withCodec s { s.net.codec with lastBuild := kput s.net.codec.lastBuild id (frameNo s) }
      let recent := kget s.net.codec.recent id []
      let counts := (List.range 256).map (fun v => (recent.filter (fun x => x.toNat = v)).length)
      let gains := codedSize counts (formTable recent) * 1000 + codedSize counts b.lengths * od s OD.REBUILD_GAIN_PM ≤ codedSize counts b.lengths * 1000
      (gains → completes (.tableRebuild id) s (proposeTable s1 id (formTable recent)))
      ∧ (¬ gains → completes (.tableRebuild id) s s1))
    ∧ (∀ (s : State) (dev id gen : Nat), ownTable s id gen = none → completes (.tableAck dev id gen) s s ∧ completes (.tableRefused dev id gen) s s)
    ∧ (∀ (s : State) (dev id gen : Nat) (b : BuiltTable), ownTable s id gen = some b →
      (b.state ≠ 2 → ∃ t, completes (.tableAck dev id gen) s t ∧ kfind t.net.codec.peerAcked (dev * 16 + id) = some gen
        ∧ { t with net := { t.net with codec := s.net.codec } } = s ∧ ∀ x, ownTable t id gen = some x → x.state = 1 ∧ dev ∈ x.acked)
      ∧ (b.state = 2 → completes (.tableAck dev id gen) s s)
      ∧ completes (.tableRefused dev id gen) s (codecCount (tableRefused s dev id gen) 9)
      ∧ builtFor (tableRefused s dev id gen) id dev = none)
    ∧ (∀ (s : State) (dev id gen lengths : Nat), let lens := unpackLengths lengths
      ((lens.all (· == 0) || overSubscribed lens) = true → completes (.tableDef dev id gen lengths) s (codecCount (sendTable s 3 dev id gen 0) 8))
      ∧ ((lens.all (· == 0) || overSubscribed lens) = false →
        (storeTable s.net.codec.store ⟨dev, id, gen, lens⟩ = none →
          completes (.tableDef dev id gen lengths) s (codecCount (sendTable s 3 dev id gen 0) 8))
        ∧ ∀ st, storeTable s.net.codec.store ⟨dev, id, gen, lens⟩ = some st →
          completes (.tableDef dev id gen lengths) s (sendTable (withCodec s { s.net.codec with store := st }) 2 dev id gen 0)))
    ∧ (∀ (s : State) (dev id gen : Nat),
      completes (.tableDrop dev id gen) s (sendTable (withCodec s { s.net.codec with
        store := s.net.codec.store.filter (fun t => !(t.dev == dev && t.id == id && t.gen == gen)) }) 5 dev id gen 0)
      ∧ completes (.dropAck dev id gen) s (dropAcked s dev id gen)
      ∧ ∀ t ∈ (dropAcked s dev id gen).net.codec.tables, t.id = id → t.gen = gen → t.dropping = true → dev ∉ t.drops)
    ∧ (∀ (s : State) (dev id : Nat) (b : BuiltTable),
      s.net.codec.tables.find? (fun t => t.id == id && t.state != 2 && t.defs.any (fun p => p.1 == dev)) = some b → kfind b.lastSend dev ≠ some (frameNo s) →
      let n := ((b.defs.find? (fun p => p.1 == dev)).getD (dev, 0)).2
      (16 ≤ n → completes (.tableDefResend dev id) s (codecCount (tableRefused s dev id b.gen) 9))
      ∧ (n < 16 → ∃ u, completes (.tableDefResend dev id) s (sendTable u 1 dev id b.gen (packLengths b.lengths)) ∧ u.txq = s.txq ∧ u.od = s.od))
    ∧ (∀ (s : State) (id : Nat) (b : BuiltTable), s.net.codec.tables.find? (fun t => t.id == id && t.state == 2 && !t.dropping) = some b →
      (noNewPackets s b = true → b.refs = [] → ∃ t, completes (.tableRetire id) s t ∧ t.txq.length = s.txq.length + b.acked.length)
      ∧ (noNewPackets s b = false ∨ b.refs ≠ [] → completes (.tableRetire id) s s))
    ∧ (∀ (s : State) (dev id : Nat) (b : BuiltTable), s.net.codec.tables.find? (fun t => t.id == id && t.dropping && t.drops.contains dev) = some b →
      (kfind b.lastSend dev = some (frameNo s) → completes (.tableDropResend dev id) s s)
      ∧ (kfind b.lastSend dev ≠ some (frameNo s) → ∃ u, completes (.tableDropResend dev id) s (sendTable u 4 dev id b.gen 0) ∧ u.txq = s.txq ∧ u.od = s.od))
    ∧ (∀ (st st' : List StoredTable) (n : StoredTable), storeTable st n = some st' → n ∈ st' ∧
      ((st.filter (fun t => t.dev == n.dev && t.id == n.id)).length ≤ 2 → (st'.filter (fun t => t.dev == n.dev && t.id == n.id)).length ≤ 2)
      ∧ st'.filter (fun t => !(t.dev == n.dev && t.id == n.id)) = st.filter (fun t => !(t.dev == n.dev && t.id == n.id)))

/-- For every set of 256 code lengths of 1 to 15 bits that is not over-subscribed and every list of bytes: an ENTROPY block of it decodes
to the same bytes with no length error, and so does a SPLIT block of either element width. (R317, R325, 15_compression.md.) -/
def Obligations.CodedBlocksDecode : Prop :=
  ∀ (lens : List Nat) (raw : List Byte), lens.length = 256 → (∀ n ∈ lens, 0 < n ∧ n < 16) → overSubscribed lens = false →
    (∃ bits, entropyBits (canonCodes lens) raw = some bits
      ∧ blockDecode (canonCodes lens) 1 0 raw.length (packBits bits) = ⟨raw, false⟩)
    ∧ ∀ elem, ∃ bits, entropyBits (canonCodes lens) (highPlane (elemBytes elem) raw) = some bits
      ∧ blockDecode (canonCodes lens) 2 elem raw.length (packBits bits ++ lowPlane (elemBytes elem) raw) = ⟨raw, false⟩

/-- A step of an undefined opcode ends with BAD_OP; one that needs prefix lookup in a role that closes it with ROLE_CLOSED; one whose
descriptor cannot be read with the memory status; one whose descriptor fails its check with BAD_DESC. LOOKUP, INSERT, WRITE and REMOVE
run their records in order and write them back; PREFIX_WALK writes its hashes and the values of its hits; SCRUB compares its units and
advances the pointer modulo 2048. Whatever a step ends with, its bank is free. A record by key of another bank answers WRONG_BANK, an
index that names no valid entry BAD_ENTRY. A direct removal of an entry in use clears it, a direct rewrite replaces its value, and either
of an index that names no valid entry changes nothing. (R16, R333, R334, R336, R339, R342, R475, 16_locket.md.) -/
def Obligations.LocketSteps : Prop :=
  (∀ (s : State) (b op : Nat) (f : Flight) (i : Instr), (op, i) ∈ [(1, Instr.lookup b), (2, .insert b), (3, .locketWrite b), (4, .remove b)] →
      flightOn s (lkUnit b) = some f → getF f.step StepRec.OPCODE = op →
      let d := readRec s (stepReader f) (getF f.step StepRec.DESC_ADDR) 64
      let bad := bankKind d.1 b = 0 ∨ getF d.2.1 LkDesc.ENTRIES = 0 ∨ getF d.2.1 LkDesc.ENTRY_ADDR % 64 ≠ 0
      (op = 2 → bankKind s b = 2 → prefixOpen s = false → completes i s (lkRefuse s b f 2))
      ∧ (op ≠ 2 ∨ bankKind s b ≠ 2 ∨ prefixOpen s = true →
        (d.2.2.1 ≠ 0 → completes i s (lkRefuse d.1 b f 5))
        ∧ (d.2.2.1 = 0 → bad → completes i s (lkRefuse d.1 b f 7))
        ∧ (d.2.2.1 = 0 → ¬ bad →
          let r := recsRun (getF d.2.1 LkDesc.ENTRIES) (LkRun.start d.1) f op b (getF d.2.1 LkDesc.ENTRY_ADDR)
          completes i s (lkEnd r b f (lkStatus r) .done))))
    ∧ (∀ (s : State) (b : Nat) (f : Flight), flightOn s (lkUnit b) = some f → let op := getF f.step StepRec.OPCODE
      (op = 0 ∨ 6 < op → completes (.lookup b) s (lkRefuse s b f 4))
      ∧ (op = 5 → prefixOpen s = false → completes (.prefixWalk b) s (lkRefuse s b f 2))
      ∧ (∀ t d m, readRec s (stepReader f) (getF f.step StepRec.DESC_ADDR) 64 = (t, d, 0, m) →
        (op = 5 → prefixOpen s = true →
          let fits := bankKind t b ≠ 0 ∧ getF d WalkDesc.BLOCKS ≠ 0 ∧ getF d WalkDesc.TOKEN_ADDR % 4 = 0 ∧ getF d WalkDesc.OUT_ADDR % 64 = 0
            ∧ ∀ g, kindGroup t 2 = some g → g.1 ≤ b ∧ b < g.1 + g.2.1
          (fits → completes (.prefixWalk b) s (lkEnd (walkRun t f d) b f (lkStatus (walkRun t f d)) .done))
          ∧ (¬ fits → completes (.prefixWalk b) s (lkRefuse t b f 7)))
        ∧ (op = 6 →
          let n := getF d LkScrubDesc.UNITS
          let p := odGet t OD.SCRUB_POINTERS b
          let r := (List.range n).foldl (fun r i => scrubUnit r b (b * 2048 + (p + i) % 2048)) (LkRun.start t)
          (bankKind t b ≠ 0 → 0 < n → n ≤ 2048 →
            completes (.locketScrub b) s (lkEnd { r with s := odPut r.s OD.SCRUB_POINTERS b ((p + n) % 2048) } b f 0 .done))
          ∧ (bankKind t b = 0 ∨ n = 0 ∨ 2048 < n → completes (.locketScrub b) s (lkRefuse t b f 7))))
      ∧ (∀ t d st m, readRec s (stepReader f) (getF f.step StepRec.DESC_ADDR) 64 = (t, d, st, m) → st ≠ 0 →
        (op = 5 → prefixOpen s = true → completes (.prefixWalk b) s (lkRefuse t b f 5)) ∧ (op = 6 → completes (.locketScrub b) s (lkRefuse t b f 5))))
    ∧ (∀ (r : LkRun) (b : Nat) (f : Flight) (status : Nat) (how : StepEnd), flightOn (lkEnd r b f status how) (lkUnit b) = none)
    ∧ (∀ (s : State) (b r op : Nat), (op = 1 ∨ op = 2 ∨ getF r LkDesc.R_BY_INDEX ≠ 1) → keyBank s (bankKind s b) (recKey s b r) ≠ some b →
      (oneRec s op b r).est = 5 ∧ (oneRec s op b r).s = s)
    ∧ (∀ (s : State) (b r op : Nat), op = 3 ∨ op = 4 → getF r LkDesc.R_BY_INDEX = 1 → entryOf s b (getF r LkDesc.R_ENTRY) = false →
      (oneRec s op b r).est = 4 ∧ (oneRec s op b r).s = s)
    ∧ (∀ (s : State) (u v : Nat), u < 65536 → entryOf s (u / 2048) u = true → bankKind s (u / 2048) ≠ 0 →
      completes (.directCommand u none) s (entryRemove s u) ∧ completes (.directCommand u (some v)) s (entryRewrite s u v)
      ∧ getF (unitRec (entryRemove s u) u) LkUnit.VALID = 0
      ∧ lkValue (entryRewrite s u v) u = v % 2 ^ 128 ∧ getF (unitRec (entryRewrite s u v) u) LkUnit.VALID = 1)
    ∧ (∀ (s : State) (u : Nat) (v : Option Nat), entryOf s (u / 2048) u = false ∨ bankKind s (u / 2048) = 0 → completes (.directCommand u v) s s)

/-- An insert whose key matches an entry of the bank ends EXISTS and changes nothing but counts. With no match it takes the lowest free
position; with none free, the lowest expired entry of a DEDUPE bank; with neither it ends FULL, the bank unchanged. When an insert
answers OK, a search of the bank for the key finds the entry taken with the value inserted (for DEDUPE one not already expired), every
unit of another entry is as it was, and a second insert of the key, the next record, ends EXISTS: a request is admitted once a frame
(R149). (R335.) -/
def Obligations.LocketInsertIsFound : Prop :=
  (∀ (s : State) (b key val u : Nat), bankFind s b key = some u →
      ∃ t, lkInsertBank s b key val = (t, 2, u) ∧ { t with od := s.od } = s
        ∧ ∀ e i, e ≠ OD.LOCKET_COUNTS → i < 2 ^ 24 → odGet t e i = odGet s e i)
    ∧ (∀ (s : State) (b key val u : Nat), b < 32 → bankFind s b key = none → u ∈ bankEntries s b → getF (unitRec s u) LkUnit.VALID = 0 →
      (∀ v ∈ bankEntries s b, getF (unitRec s v) LkUnit.VALID = 0 → u ≤ v) → (lkInsertBank s b key val).2 = (0, u))
    ∧ (∀ (s : State) (b key val u : Nat), b < 32 → bankFind s b key = none → (∀ v ∈ bankEntries s b, getF (unitRec s v) LkUnit.VALID ≠ 0) →
      bankKind s b = 1 → u ∈ bankEntries s b → dedupeLive s (lkValue s u) = false →
      (∀ v ∈ bankEntries s b, dedupeLive s (lkValue s v) = false → u ≤ v) → (lkInsertBank s b key val).2 = (0, u))
    ∧ (∀ (s : State) (b key val : Nat), b < 32 → bankFind s b key = none → (∀ v ∈ bankEntries s b, getF (unitRec s v) LkUnit.VALID ≠ 0) →
      bankKind s b ≠ 1 ∨ (∀ v ∈ bankEntries s b, dedupeLive s (lkValue s v) = true) →
      ∃ t, lkInsertBank s b key val = (t, 3, 0) ∧ { t with od := s.od } = s
        ∧ ∀ e i, e ≠ OD.LOCKET_COUNTS → i < 2 ^ 24 → odGet t e i = odGet s e i)
    ∧ (∀ (s t : State) (b key val u : Nat), b < 32 → key < 2 ^ (64 * bankWidth s b) → val < 2 ^ 128 → bankKind s b ≠ 1 ∨ dedupeLive s val = true →
      lkInsertBank s b key val = (t, 0, u) →
      bankFind t b key = some u ∧ lkValue t u = val ∧ u / 2048 = b
      ∧ (∀ v, v < 65536 → v < u ∨ u + bankWidth s b ≤ v → unitRec t v = unitRec s v)
      ∧ ∀ val', (lkInsertBank t b key val').2 = (2, u))

/-- A dictionary command is a request of one operation, entry, offset and data. Where its reach takes it and the server answers it, the
command completes with the answer noted and given to the reach that asked: the mailbox reads DONE, the bus gives the message, the fabric
sends it and keeps it. The write of a command, a staged one with its last byte, does what commandWrite says of the entry; that of a
setting takes effect at once, or in RUN, for an RWF entry, is accepted for the boundary, the answer naming the frame; a read gives the
entry's bytes, INFO its description. One that a switch holds is not answered yet. A write of an undefined case stops at it. A request
whose answer is kept is answered with that and not executed; a closed fabric reach answers nothing. (R365, R371, R373, R374, R375, R384,
18_object_dictionary.md.) -/
def Obligations.DictionaryCommandsAnswer : Prop :=
  (∀ (s x : State) (r : Reach) (tag off e o row m : Nat) (data b : List Byte) (i : Instr),
      (e, o, b, i) ∈ [(OD.AUDIT_REQ, off, data, Instr.auditReq r tag off data), (OD.ROW_CONTROL, 0, leBytes 4 (2 ^ 30 + row % 2 ^ 15), .suspend r tag row),
        (OD.ROW_CONTROL, 0, leBytes 4 (2 * 2 ^ 30 + row % 2 ^ 15), .resume r tag row), (OD.MODEL_SLOTS, off, data, .modelSlots r tag off data),
        (OD.ADAPTER_LOAD, off, data, .adapterLoad r tag off data), (OD.ADAPTER_COMMIT, off, data, .adapterCommit r tag off data),
        (OD.GRAMMARS, off, data, .grammars r tag off data), (OD.PEER_LOST, off, data, .peerLost r tag off data),
        (OD.MAP_NEXT, off, data, .mapNext r tag off data), (OD.QP_CONTEXTS, off, data, .qpContexts r tag off data),
        (OD.MR_REGISTER, off, data, .mrRegister r tag off data), (OD.MR_DEREGISTER, off, data, .mrDeregister r tag off data),
        (OD.WICKETS, off, data, .wickets r tag off data), (OD.TRAY_SLOT_DEAD, off, data, .traySlotDead r tag off data),
        (OD.TRAY_MEMBERS, off, data, .trayMembers r tag off data), (OD.TRC_INVAL_ALL, off, data, .trcInvalAll r tag off data),
        (OD.COH_RESET, off, data, .cohReset r tag off data), (OD.ALLOWANCE_UJ, off, data, .allowanceUj r tag off data),
        (OD.PEAK_UJ, off, data, .peakUj r tag off data), (OD.POWER_STATE_REQ, 0, [1], .idleRequest r tag),
        (OD.POWER_STATE_REQ, 0, [2], .activeRequest r tag), (OD.POWER_STATE_REQ, 0, [3], .dormantRequest r tag),
        (OD.BASE_IMAGE, off, data, .baseImage r tag off data), (OD.CYCLIC_STEPS, off, data, .cyclicSteps r tag off data),
        (OD.PROG_IMAGE, off, data, .progImage r tag off data), (OD.OVERLAY_LOAD, off, data, .overlayLoad r tag off data),
        (OD.OVERLAY_ERASE, off, data, .overlayErase r tag off data), (OD.OVERLAY_REQUEST, off, data, .overlayRequest r tag off data),
        (OD.RUN_REQUEST, off, data, .runRequest r tag off data), (OD.ALERT_CLEAR, off, data, .alertClear r tag off data),
        (OD.BAR2_WINDOW, off, data, .bar2Window r tag off data), (OD.BOOT_COMMIT, off, data, .bootCommit r tag off data),
        (OD.SVN_COMMIT, off, data, .svnCommit r tag off data), (OD.DEBUG_UNLOCK, off, data, .debugUnlock r tag off data),
        (OD.KEY_INSTALL, off, data, .keyInstall r tag off data), (OD.KEY_REVOKE, off, data, .keyRevoke r tag off data),
        (OD.ATTEST_REQUEST, off, data, .attestRequest r tag off data), (OD.PARTITION_CREATE, off, data, .partitionCreate r tag off data),
        (OD.PARTITION_RELEASE, off, data, .partitionRelease r tag off data), (OD.AUDIT_REQUEST, off, data, .auditRequest r tag off data),
        (OD.FENCE_REGION, off, data, .fenceRegion r tag off data), (OD.DERATE, 0, [1], .derateEnter r tag), (OD.DERATE, 0, [0], .derateLeave r tag),
        (OD.FENCE_COMMAND, off, data, .fenceCommand r tag off data), (e, off, data, .dictWrite r tag e off data)] →
      b.length ≤ reachMost r → let h := writeHeader ⟨r, e, o, b, tag⟩
      let ends := fun (d : DictRes) => completes i s (answerReach (noteAnswer d.st d) r h d)
      submitted s r h b = some x →
      (∀ d, serve x r h b = some d → (d.undef = 0 → d.held = false → ends d) ∧ (d.undef = 0 → d.held = true → completes i s d.st)
        ∧ (d.undef ≠ 0 → exec i s = .fault (.undefinedCase d.undef))
        ∧ (d.held = false → d.undef = 0 → r = .mailbox m → (kget d.st.dct.mailboxes m ⟨0, 0, 0, []⟩).state = 1 →
          ∃ u, completes i s u ∧ (kget u.dct.mailboxes m ⟨0, 0, 0, []⟩).state = 2 ∧ (kget u.dct.mailboxes m ⟨0, 0, 0, []⟩).resp = respHeader h d))
      ∧ (e < 2 ^ 24 → o < 2 ^ 32 → served x r 2 e = some true → ∀ ro, odFind e = some ro → accessCheck x r ro = (0, 0) →
        (isStaged e = false → lenOk x ro o b.length = true → rangesOk ro o b = true →
          (ro.acc = 2 → ends (dWrote (commandWrite x e o b)))
          ∧ (isHeldWrite x ro = true → ro.acc ≠ 4 → x.dct.held.length < 256 → let y := overlayCount x 2
            completes i s { y with dct := { y.dct with held := y.dct.held ++ [⟨r, e, o, b, tag % 2 ^ 16⟩] } })
          ∧ (isHeldWrite x ro = false → ro.acc ≠ 2 → (isLayout e && inRun x) = false → ownCheck x ro o b = (0, 0) →
            writesU06 x ro o b = false → let y := if e = OD.ALLOWANCE_UJ then leaseRenew x else x
            (ro.acc = 1 ∨ inRun x = false ∨ (ro.acc = 4 ∧ od x OD.POWER_STATE = 2) → ends (dStatus (takeEffect y ro o b) 0))
            ∧ (ro.acc = 3 → inRun x = true → let z := { y with dct := { y.dct with rwf := y.dct.rwf ++ [⟨r, e, o, b, tag % 2 ^ 16⟩] } }
              ends ⟨z, 0, 0, effectFrame x, [], 0, false⟩)))
        ∧ (isStaged e = true → ro.acc = 2 → o = 0 → stagedLen e b = some b.length → let y := stagingSet x r e none
          (e = OD.BASE_IMAGE → (baseImage y b).undef = 0 → ends (baseImage y b))
          ∧ (e ≠ OD.BASE_IMAGE → ends (dWrote (commandWrite y e 0 b))))))
    ∧ (∀ (s x : State) (r : Reach) (tag e m req dev h : Nat) (data b : List Byte) (i : Instr),
      (r, h, b, i) ∈ [(.mailbox m, req, data, Instr.doorbell m req data), (.fabric dev, leNat (data.take 32), data.drop 32, .dictRequest dev data),
        (r, mkRec [(DictReq.OP, 3), (DictReq.INDEX, e / 256), (DictReq.SUBINDEX, e % 256), (DictReq.TAG, tag)], [], .dictInfo r tag e)] →
      let ends := fun (d : DictRes) => completes i s (answerReach (noteAnswer d.st d) r h d)
      let op := getF h DictReq.OP
      let n := getF h DictReq.INDEX * 256 + getF h DictReq.SUBINDEX
      getF h DictReq.LENGTH ≤ reachMost r → submitted s r h b = some x →
      (∀ d, serve x r h b = some d → (d.undef = 0 → d.held = false → ends d) ∧ (d.undef = 0 → d.held = true → completes i s d.st)
        ∧ (d.undef ≠ 0 → exec i s = .fault (.undefinedCase d.undef)))
      ∧ (served x r op n = some true → (odFind n = none → op = 1 ∨ op = 3 → ends (dStatus x 1))
        ∧ ∀ ro, odFind n = some ro → (op = 3 → ends ⟨x, 0, 0, 0, infoBytes x ro, 0, false⟩)
          ∧ (op = 1 → ro.acc ≠ 2 → lenOk x ro (getF h DictReq.OFFSET) (getF h DictReq.LENGTH) = true →
            ends (dWrote (readEntry x ro (getF h DictReq.OFFSET) (getF h DictReq.LENGTH))))))
    ∧ (∀ (s : State) (dev : Nat) (data : List Byte) (k : KeptResp), (served s (.fabric dev) 1 0x101001).isSome = true →
      s.dct.kept.find? (fun k => k.dev == dev && k.tag == getF (leNat (data.take 32)) DictReq.TAG) = some k →
      completes (.dictRequest dev data) s (sendMgmt s 10 dev (frameNo s) k.data))
    ∧ (∀ (s : State) (dev : Nat) (data : List Byte), served s (.fabric dev) 1 0x101001 = none → completes (.dictRequest dev data) s s)
    ∧ (∀ (s : State) (dev : Nat) (data : List Byte),
      completes (.dictResponse dev data) s { s with dct := { s.dct with answers := s.dct.answers ++ [(dev, data)] } })

/-- A write of an undocumented entry answers NO_ENTRY, of a read-only one or in a state that does not allow it ACCESS, by a reach without
the right RIGHTS, of a wrong length BAD_LENGTH, of a value out of its range BAD_VALUE, and changes nothing. A write that passes every
check takes effect: a command is carried out at once, a setting at once in CONFIG, an RWF setting accepted in RUN at the boundary, its
answer naming the frame. A write of ALLOWANCE_UJ renews the lease. During a switch a setting's write is held, 256 of them at most; an RWI
entry is written in CONFIG, or in IDLE where it is not of the layout. A staged value is carried out with its last byte. (R365, R366,
R368, R369, R370, R375, R384, R477, 18_object_dictionary.md.) -/
def Obligations.WritesTakeEffect : Prop :=
  (∀ (s : State) (r : Reach) (tag e off : Nat) (data : List Byte), e < 2 ^ 24 → off < 2 ^ 32 → data.length < 2 ^ 32 → served s r 2 e = some true →
      serve s r (writeHeader ⟨r, e, off, data, tag⟩) data = some (serveWrite s ⟨r, e, off, data, tag % 2 ^ 16⟩))
    ∧ (∀ (s : State) (w : DictWr), odFind w.entry = none → w.entry < 0xF00000 → (serveWrite s w).status = 1 ∧ (serveWrite s w).st = s)
    ∧ (∀ (s : State) (w : DictWr) (r : OdRow), odFind w.entry = some r →
      (r.acc = 0 → (serveWrite s w).status = 2 ∧ (serveWrite s w).st = s)
      ∧ (r.acc ≠ 0 → inConfig s = true ∨ inRun s = true → w.entry ≠ OD.BOOT_LOAD → w.entry ≠ OD.BOOT_COMMIT → hasRight s w.reach w.entry = false →
        (serveWrite s w).status = 6 ∧ (serveWrite s w).st = s)
      ∧ (accessCheck s w.reach r = (0, 0) →
        (isStaged w.entry = false → lenOk s r w.off w.data.length = false → (serveWrite s w).status = 3 ∧ (serveWrite s w).st = s)
        ∧ (isStaged w.entry = false → lenOk s r w.off w.data.length = true →
          (r.acc ≠ 4 → rangesOk r w.off w.data = false → (serveWrite s w).status = 4 ∧ (serveWrite s w).st = s)
          ∧ (r.acc = 2 → rangesOk r w.off w.data = true →
            serveWrite s w = dWrote (commandWrite s w.entry w.off w.data))
          ∧ (r.acc ≠ 0 → r.acc ≠ 2 → isHeldWrite s r = false → rangesOk r w.off w.data = true → (isLayout w.entry && inRun s) = false →
            ownCheck s r w.off w.data = (0, 0) → writesU06 s r w.off w.data = false → let y := if w.entry = OD.ALLOWANCE_UJ then leaseRenew s else s
            (r.acc = 1 ∨ inRun s = false ∨ (r.acc = 4 ∧ od s OD.POWER_STATE = 2) → serveWrite s w = dStatus (takeEffect y r w.off w.data) 0)
            ∧ (r.acc = 3 → inRun s = true → serveWrite s w = ⟨{ y with dct := { y.dct with rwf := y.dct.rwf ++ [w] } }, 0, 0, effectFrame s, [], 0, false⟩))
          ∧ (r.acc = 1 ∨ r.acc = 3 → isHeldWrite s r = true → rangesOk r w.off w.data = true →
            (s.dct.held.length < 256 → let y := overlayCount s 2
              serveWrite s w = ⟨{ y with dct := { y.dct with held := y.dct.held ++ [w] } }, 0, 0, 0, [], 0, true⟩)
            ∧ (256 ≤ s.dct.held.length → serveWrite s w = dStatus s 8))
          ∧ (r.acc = 4 → isHeldWrite s r = false → rangesOk r w.off w.data = true → isLayout w.entry = true → inRun s = true →
            od s OD.POWER_STATE = 2 → serveWrite s w = dRefuse s 9)
          ∧ (r.acc = 4 → inRun s = true → od s OD.POWER_STATE ≠ 2 → (serveWrite s w).undef = 9 ∧ (serveWrite s w).st = s))
        ∧ (isStaged w.entry = true → r.acc = 2 → w.off = 0 → stagedLen w.entry w.data = some w.data.length →
          let t := stagingSet s w.reach w.entry none
          (w.entry = OD.BASE_IMAGE → serveWrite s w = baseImage t w.data)
          ∧ (w.entry ≠ OD.BASE_IMAGE → serveWrite s w = dWrote (commandWrite t w.entry 0 w.data)))
        ∧ (isStaged w.entry = true → w.off = 0 → (∀ n, stagedLen w.entry w.data = some n → w.data.length < n) →
          (serveWrite s w).status = 0 ∧ stagingOf (serveWrite s w).st w.reach w.entry = some w.data)))

/-- ALERT_CLEAR clears exactly the causes written as 1. AUDIT_REQ starts a walk of a valid class and stack. ROW_CONTROL notes a SUSPEND
of a row that runs, and resumes a SUSPENDED one in the next build. ADAPTER_LOAD takes a record as LOADING, or is refused VERSIONS_FULL.
MR_REGISTER answers the key of the record it makes valid, MR_DEREGISTER ends one; both refuse an index outside the table, and a region a
partition closes is denied. TRAY_SLOT_DEAD and PEER_LOST declare a slot or device dead; a lost device's tables are gone. OVERLAY_LOAD
stores an image that passes its checks, OVERLAY_ERASE empties a slot that no switch uses. An accepted OVERLAY_REQUEST starts the switch;
a second is refused SWITCHING. RUN_REQUEST in CONFIG with a base and an overlay is taken for the next tick. TRC_INVAL_ALL drops every
cached line; COH_RESET begins the domain anew at the epoch written. As settings take effect, the pins of a grammar stay, CYCLIC_STEPS and
PROG_IMAGE are measured, PROG_IMAGE empties every instruction buffer, TRAY_MEMBERS revives the dead slots it names, and an adapter's
version committed is CURRENT. (R47, R143, R147, R163, R261, R282, R298, R379, R380, R382, R460, 18_object_dictionary.md.) -/
def Obligations.CommandEntries : Prop :=
  ∀ (s : State) (off : Nat) (data : List Byte), let v := leNat data
    (let w := commandWrite s OD.ALERT_CLEAR off data;
      w.status = 0 ∧ ∀ k, bitOf (od w.st OD.ALERT_CAUSES) k = (bitOf (od s OD.ALERT_CAUSES) k && !bitOf v k))
    ∧ (let w := commandWrite s OD.AUDIT_REQ off data;
      (auditOk s (v / 256 % 256) (v % 256) = true → w.status = 0 ∧ od w.st OD.AUDIT_RESULT = 2 ^ 62
        ∧ w.st.pool.walks = s.pool.walks ++ [⟨v / 256 % 256, v % 256, false⟩] ∧ w.st.mem = s.mem)
      ∧ (auditOk s (v / 256 % 256) (v % 256) = false → w.status = 4 ∧ w.st = s))
    ∧ (let w := commandWrite s OD.ROW_CONTROL off data; let row := v % 2 ^ 15; let st := rowState s row
      (v / 2 ^ 30 = 1 → w.status = 0 ∧ (st ∈ [1, 2, 4, 5, 6] → row ∈ w.st.rows.suspending ∧ { w.st with rows := s.rows } = s)
        ∧ (st = 3 → w.st = imageSync (rowFlagSet s row 2 true) row) ∧ (st = 0 ∨ 7 ≤ st → w.st = s))
      ∧ (v / 2 ^ 30 = 2 → w.status = 0 ∧ (st = 7 → hasDue s row = false → w.st = rowDue s row (rowGet s row Row.PRIOR_STATE) 0)
        ∧ (st ≠ 7 ∨ hasDue s row = true → w.st = s))
      ∧ (v / 2 ^ 30 = 0 ∨ v / 2 ^ 30 = 3 → w.status = 4 ∧ w.st = s))
    ∧ (let w := commandWrite s OD.ADAPTER_LOAD off data;
      (∀ t, adapterLoad s v = some t → w.status = 0 ∧ w.st = t
        ∧ ∃ i, i < 4096 ∧ recF s OD.ADAPTER_VERSIONS i AdVer.STATE = 0 ∧ recF t OD.ADAPTER_VERSIONS i AdVer.STATE = 1
          ∧ recF t OD.ADAPTER_VERSIONS i AdVer.SLOT = getF v (fld 63 54) ∧ recF t OD.ADAPTER_VERSIONS i AdVer.RANK = getF v (fld 35 27))
      ∧ (adapterLoad s v = none → w.status = 5 ∧ w.reason = 4 ∧ w.st = s)
      ∧ (4 ≤ (liveVersions s (getF v (fld 63 54))).length → adapterLoad s v = none))
    ∧ (let w := commandWrite s OD.MR_REGISTER off data; let i := leNat (data.take 4); let rec_ := leNat (data.drop 4)
      (od s OD.MR_TABLE_ENTRIES ≤ i → w.status = 4 ∧ w.st = s)
      ∧ (i < od s OD.MR_TABLE_ENTRIES → (mrBarred s rec_ = true → w.status = 7 ∧ w.st = odAdd s OD.PARTITION_DENIALS 1 1)
        ∧ (mrBarred s rec_ = false → w.status = 0 ∧ w.st = (mrRegister s i (setF rec_ (fld 76 0) 0)).1
          ∧ w.data = leBytes 4 (getF (mrGet s i) Mr.GEN * 2 ^ 24 + i))))
    ∧ (let w := commandWrite s OD.MR_DEREGISTER off data;
      (od s OD.MR_TABLE_ENTRIES ≤ v % 2 ^ 24 → w.status = 4 ∧ w.st = s)
      ∧ (v % 2 ^ 24 < od s OD.MR_TABLE_ENTRIES → w.status = 0 ∧ w.st = mrDeregister s (v % 2 ^ 24)))
    ∧ (let w := commandWrite s OD.TRAY_SLOT_DEAD off data; let k := v % 32
      w.status = 0 ∧ (slotDevice s k = none → w.st = slotDead s k)
      ∧ (∀ dev, slotDevice s k = some dev → w.st = codecPeerLost (shardPeerLost (noteExpelled (slotDead s k) dev) dev) dev))
    ∧ (commandWrite s OD.FENCE_LINK off data).status = 0 ∧ (commandWrite s OD.FENCE_LINK off data).st = fenceLinkWrite s (v % 64)
    ∧ (let w := commandWrite s OD.OVERLAY_LOAD off data; let h := leNat (data.take 64); let k := getF h ImgHdr.SLOT
      (imageCheck 2 0 512 data ≠ 0 → w.status = 5 ∧ (w.reason = 0xD ∨ w.reason = 0xE) ∧ w.st = s)
      ∧ (∀ l rest, imageCheck 2 0 512 data = 0 → data.length ≤ 65536 → imgRecords data = some (l, rest) → (∀ x ∈ l, x.data.length ≤ 512) →
        1 ≤ getF h ImgHdr.ROLE → getF h ImgHdr.ROLE ≤ 5 → (ovF s k OvSlot.STATE = 3 → w.status = 5 ∧ w.reason = 3 ∧ w.st = s)
        ∧ (ovF s k OvSlot.STATE ≠ 3 → (∀ x ∈ l, overlayRecOk s x = (0, 0)) → w.status = 0 ∧ ovF w.st k OvSlot.STATE = 1
          ∧ ovF w.st k OvSlot.ROLE = getF h ImgHdr.ROLE ∧ kfind w.st.dct.images k = some data)))
    ∧ (let w := commandWrite s OD.RUN_REQUEST off data; let k := v % 16;
      (inConfig s = false → w.status = 2 ∧ w.st = s)
      ∧ (inConfig s = true → (od s OD.BASE_STATE ≠ 1 → w.status = 5 ∧ w.reason = 0xF ∧ w.st = odSet s OD.RUN_STATUS 3)
        ∧ (od s OD.BASE_STATE = 1 → (ovF s k OvSlot.STATE = 0 → w.status = 5 ∧ w.reason = 3 ∧ w.st = odSet s OD.RUN_STATUS 3)
          ∧ (ovF s k OvSlot.STATE ≠ 0 → (overlayCheck s k).2.1 = 0 → w.status = 0 ∧ od w.st OD.RUN_STATUS = 1 ∧ w.st.dct.runSlot = k))))
    ∧ (let w := commandWrite s OD.OVERLAY_ERASE off data;
      (ovF s (v % 16) OvSlot.STATE = 3 → w.status = 5 ∧ w.reason = 3 ∧ w.st = s)
      ∧ (ovF s (v % 16) OvSlot.STATE ≠ 3 → w.status = 0 ∧ ovF w.st (v % 16) OvSlot.STATE = 0 ∧ kfind w.st.dct.images (v % 16) = none))
    ∧ (let w := commandWrite s OD.OVERLAY_REQUEST off data;
      (inRun s = true → od s OD.POWER_STATE = 0 → ovF s (v % 16) OvSlot.STATE ≠ 0 →
        (od s OD.SWITCH_STATE ≠ 0 → w.status = 5 ∧ w.reason = 0xB)
        ∧ (od s OD.SWITCH_STATE = 0 → (overlayCheck s (v % 16)).2.1 = 0 → w.status = 0 ∧ od w.st OD.SWITCH_STATE = 1
          ∧ ovF w.st (v % 16) OvSlot.STATE = 3 ∧ w.st.dct.switchSlot = v % 16)))
    ∧ (let w := commandWrite s OD.TRC_INVAL_ALL off data;
      w.status = 0 ∧ (∀ n, kget w.st.fab.trc n [] = []) ∧ w.st.fab.coh = s.fab.coh ∧ w.st.mem = s.mem)
    ∧ (let w := commandWrite s OD.COH_RESET off data;
      w.status = 0 ∧ od w.st OD.COH_EPOCH = v % 2 ^ 16 ∧ od w.st OD.COH_STATE ≠ 1 ∧ w.st.fab.coh = [] ∧ w.st.fab.dir = []
      ∧ w.st.fab.members = od s OD.COH_MEMBERS)
    ∧ (commandWrite s OD.PEER_LOST off data).status = 0 ∧ (∀ t ∈ (commandWrite s OD.PEER_LOST off data).st.net.codec.store, t.dev ≠ v % 2 ^ 13)
    ∧ (∀ ro, odFind OD.GRAMMARS = some ro → ∀ k, recF (takeEffect s ro off data) OD.GRAMMARS k Grammar.PINS = recF s OD.GRAMMARS k Grammar.PINS)
    ∧ (∀ ro e, e = OD.CYCLIC_STEPS ∨ e = OD.PROG_IMAGE → odFind e = some ro → ∃ x d, takeEffect s ro off data = codeExtend x d
      ∧ (e = OD.PROG_IMAGE → ∀ c, (coreOf x c).buffer = []) ∧ od x OD.MEASURE_EXTENDS = od s OD.MEASURE_EXTENDS)
    ∧ (∀ d, (∀ k, k < 256 → keyF s k KeySlot.STATE ≠ 1 ∨ keyF s k KeySlot.BIND ≠ 1) → let t := codeExtend s d
      odBytes t OD.CODE_MEASURE 48 = sha384 (odBytes s OD.CODE_MEASURE 48 ++ d)
      ∧ od t OD.MEASURE_EXTENDS = (od s OD.MEASURE_EXTENDS + 1) % 2 ^ odWidth OD.MEASURE_EXTENDS)
    ∧ (∀ ro, odFind OD.TRAY_MEMBERS = some ro → let t := takeEffect s ro off data
      od t OD.TRAY_MEMBERS = elemClean OD.TRAY_MEMBERS 0 v
      ∧ ∀ k, k < 32 → bitOf (od t OD.DEAD_SLOTS) k = (bitOf (od s OD.DEAD_SLOTS) k && !bitOf (od t OD.TRAY_MEMBERS) k))
    ∧ (∀ ro i, odFind OD.ADAPTER_COMMIT = some ro → v < 2 ^ 26 → let k := getF v (fld 25 16)
      (liveVersions s k).find? (fun j => recF s OD.ADAPTER_VERSIONS j AdVer.VERSION == v % 65536
        && recF s OD.ADAPTER_VERSIONS j AdVer.STATE == 1) = some i →
      recF (takeEffect s ro off data) OD.ADAPTER_VERSIONS i AdVer.STATE = 2)

/-- The lease expires after ALLOWANCE_LEASE_FRAMES without a write: the allowance in force falls to max(FLOOR, MIN) where that is less,
counted, with LEASE raised; a renewal restores it. POWER_STATE_REQ moves ACTIVE to ENTERING_IDLE, IDLE to EXITING_IDLE; DORMANT in IDLE
turns the regulators off, outside it is refused NOT_IDLE; the write of the entry does just that, and as IDLE ends its metered energy, a
free amount, is added. A drain that lasts IDLE_DRAIN_FRAMES returns to ACTIVE with DRAIN_TIMEOUT. WAKE_N is ignored in ACTIVE, wakes
IDLE, and cold-boots DORMANT. A sample is shown, the throttle factor falls at THROTTLE_C and stays from 1 to 8, and a reading above 105
°C is a breach of condition 2. (R345, R357, R359, R361, R362, R363, R410, R465, 17_energy_and_power.md.) -/
def Obligations.PowerStatesAndWake : Prop :=
  (∀ s : State, let n := od s OD.ALLOWANCE_LEASE_FRAMES
      (inRun s = true → s.en.lapsed = false → n ≠ 0 → n ≤ frameDiff s.en.leaseFrame (frameNo s) →
        let t := alert (odAdd { s with en := { s.en with lapsed := true } } OD.ENERGY_COUNTS 0 1) 2
        completes .leaseExpiry s t ∧ (∀ mn, allowance t mn = min (od s OD.ALLOWANCE_UJ) (max (od s OD.ALLOWANCE_FLOOR_UJ) mn)) ∧ bitOf (od t OD.ALERT_CAUSES) 2 = true
        ∧ odGet t OD.ENERGY_COUNTS 0 = (odGet s OD.ENERGY_COUNTS 0 + 1) % 2 ^ odWidth OD.ENERGY_COUNTS)
      ∧ (inRun s = false ∨ s.en.lapsed = true ∨ n = 0 ∨ frameDiff s.en.leaseFrame (frameNo s) < n → completes .leaseExpiry s s)
      ∧ ∀ mn, allowance (leaseRenew s) mn = od s OD.ALLOWANCE_UJ ∧ allowance s mn ≤ od s OD.ALLOWANCE_UJ)
    ∧ (∀ s : State, (od s OD.POWER_STATE = 0 → let t := powerRequest s 1
        od t OD.POWER_STATE = 1 ∧ t.en.idleSince = frameNo s ∧ t.mem = s.mem)
      ∧ (od s OD.POWER_STATE = 2 → od (powerRequest s 2) OD.POWER_STATE = 3 ∧ od (powerRequest s 2) OD.LINK_ENABLE = s.en.savedEnable)
      ∧ (od s OD.POWER_STATE ≠ 2 → powerRequest s 3 = odSet s OD.POWER_REQ_STATUS 2 ∧ powerRequest s 2 = s)
      ∧ (let w := fun v => commandWrite s OD.POWER_STATE_REQ 0 (leBytes 1 v)
        (w 1).status = 0 ∧ (w 1).st = powerRequest s 1 ∧ (w 2).status = 0
        ∧ (w 2).st = (if od s OD.POWER_STATE = 2 then idleMetered (powerRequest s 2) else s)
        ∧ (od s OD.POWER_STATE = 2 → (w 3).status = 0 ∧ (w 3).st = powerOff s 2 ∧ (powerOff s 2).host.power = 2 ∧ (powerOff s 2).mem = [])
        ∧ (od s OD.POWER_STATE ≠ 2 → (w 3).status = 5 ∧ (w 3).reason = 0 ∧ (w 3).st = odSet s OD.POWER_REQ_STATUS 2))
      ∧ (od s OD.POWER_STATE = 1 → od s OD.IDLE_DRAIN_FRAMES ≤ frameDiff s.en.idleSince (frameNo s) →
        completes .idleDrainTimeout s (odSet (odSet s OD.POWER_STATE 0) OD.POWER_REQ_STATUS 1))
      ∧ (frameDiff s.en.idleSince (frameNo s) < od s OD.IDLE_DRAIN_FRAMES ∨ od s OD.POWER_STATE ≠ 1 → completes .idleDrainTimeout s s))
    ∧ (∀ s : State, (s.host.power = 0 → od s OD.POWER_STATE ≠ 2 → completes .wakeN s s)
      ∧ (s.host.power = 0 → od s OD.POWER_STATE = 2 → let t := idleMetered (powerRequest s 2)
        completes .wakeN s t ∧ od t OD.POWER_STATE = 3)
      ∧ (s.host.power ≠ 0 → s.host.power ≠ 2 → completes .wakeN s s) ∧ (s.host.power = 2 → completes .wakeN s (coldBoot s)))
    ∧ (∀ (s : State) (k : Nat) (v : Int), (14 ≤ k ∨ s.host.power ≠ 0 → completes (.temperatureSample k v) s s) ∧ (k < 14 → s.host.power = 0 →
      let x := odPut s OD.TEMPERATURES k (ofInt 32 v)
      let y := { x with en := { x.en with tempMax := max s.en.tempMax v } }
      let t := if 10500 < v then odSet y OD.GUARANTEE_CONDITIONS (setBit (od y OD.GUARANTEE_CONDITIONS) 2 true) else y
      completes (.temperatureSample k v) s t ∧ odGet t OD.TEMPERATURES k = ofInt 32 v ∧ t.en.tempMax = max s.en.tempMax v
      ∧ (10500 < v → bitOf (od t OD.GUARANTEE_CONDITIONS) 2 = true) ∧ (v ≤ 10500 → { t with od := s.od, en := s.en } = s
        ∧ od t OD.GUARANTEE_CONDITIONS = od s OD.GUARANTEE_CONDITIONS)))
    ∧ (∀ (f limit : Nat) (t : Int), 1 ≤ f → f ≤ 8 → 1 ≤ throttleNext f limit t ∧ throttleNext f limit t ≤ 8
      ∧ (100 * (limit : Int) ≤ t → throttleNext f limit t = max 1 (f - 1))
      ∧ (100 * ((limit : Int) - 5) ≤ t → t < 100 * (limit : Int) → throttleNext f limit t = f))

/-- The powered part takes a dynamic address; once it has one it takes an endpoint ID that is neither 0 nor 255, says which it has, and
answers its version and message types. The version's bytes are free values; the layout of the answers is the model's choice from MCTP
(log 25). Without power or an address it answers nothing. (R374, 18_object_dictionary.md.) -/
def Obligations.ManagementBus : Prop :=
  (∀ (s : State) (a : Nat), busOn s = true → completes (.entdaa a) s { s with dct := { s.dct with dynAddr := some (a % 128) } })
    ∧ (∀ s : State, busOn s = true → s.dct.dynAddr.isSome = true →
      (∀ eid, 0 < eid → eid < 255 → completes (.setEndpointId eid) s
        { s with dct := { s.dct with eid := eid }, out := s.out ++ [⟨33, 1, [0, 0, BitVec.ofNat 8 eid, 0]⟩] })
      ∧ (∀ eid, eid = 0 ∨ 255 ≤ eid → completes (.setEndpointId eid) s { s with out := s.out ++ [⟨33, 1, [2]⟩] })
      ∧ completes .getEndpointId s { s with out := s.out ++ [⟨33, 2, [0, BitVec.ofNat 8 s.dct.eid, 0, 0]⟩] }
      ∧ (let v := takeBytes s 4
        completes .getMctpVersionSupport s { v.2 with out := s.out ++ [⟨33, 4, [0, 1] ++ v.1⟩] } ∧ v.1.length = 4 ∧ { v.2 with freeCtr := s.freeCtr } = s)
      ∧ completes .getMessageTypeSupport s { s with out := s.out ++ [⟨33, 5, [0, 1, 0x7E]⟩] })
    ∧ (∀ (s : State) (a : Nat), busOn s = false → completes (.entdaa a) s s)
    ∧ ∀ (s : State) (i : Instr) (eid : Nat), s.dct.dynAddr = none ∨ busOn s = false →
      i ∈ [Instr.setEndpointId eid, .getEndpointId, .getMctpVersionSupport, .getMessageTypeSupport] → completes i s s

/-- The ROM takes the first copy that passes its checks and runs it; with none it waits for one over PCIe where the strap allows it, else
the device stays in BOOT with BOOT_FAIL raised. The identity keys are derived beside it, but in RETURNED, and the seed is locked. The
first stage takes planner firmware and base-die firmware, and tests the cores: the 192 lowest that pass go in service, the others that
pass are spares, those that fail are fenced. An image without the magic number is none, one of another format or size is malformed.
BOOT_COMMIT, of the kind that is awaited, verifies what BOOT_LOAD has staged, empties the staging area, and goes on where the image is
accepted. SVN_COMMIT accepts a version between the fused one and the first stage's, to 63, and fuses it. CONFIG is entered once the
images run and the keys are derived, with the images of the flash loaded. (R385, R386, R387, R388, R389, R391, R420, R470, R471, R472,
19_security.md, 22_host_pins_startup.md.) -/
def Obligations.BootStages : Prop :=
  (∀ (s : State) (a b : List Byte), s.sec.boot ≠ 1 → completes (.bootRomStart a b) s s)
    ∧ (∀ (s : State) (a b : List Byte), s.sec.boot = 1 → let x := drawNonce (drawNonce (drawNonce (deriveKeys s) OD.DEBUG_NONCE) OD.KEY_NONCE) OD.FENCE_NONCE
      ∃ t, completes (.bootRomStart a b) s t ∧ t = (if bootCheck x a = 0 then firstStageRuns (bootStatus x 0 0 a) a 3
        else if bootCheck x b = 0 then firstStageRuns (bootStatus x 1 0 b) b 3
        else if bitOf (od s OD.STRAPS) 5 then { bootStatus x 2 1 [] with sec := { x.sec with boot := 2 } }
        else bootFails (bootStatus x 1 (bootCheck x b) b))
      ∧ t.sec.seedLocked = true ∧ (od s OD.LIFECYCLE = 2 → od t OD.ATTEST_STATE = 3 ∧ t.sec.derived = s.sec.derived)
      ∧ (od s OD.LIFECYCLE ≠ 2 → t.sec.derived = true ∧ odBytes t OD.ID_PUBLIC_SLH 48 = publicKey s 1 48)
      ∧ (bootCheck x a ≠ 0 → bootCheck x b ≠ 0 → bitOf (od s OD.STRAPS) 5 = true → t.sec.boot = 2 ∧ getF (od t OD.BOOT_STATUS) (fld 31 24) = 2)
      ∧ (bootCheck x a ≠ 0 → bootCheck x b ≠ 0 → bitOf (od s OD.STRAPS) 5 = false → t.sec.boot = 7 ∧ bitOf (od t OD.ALERT_CAUSES) 8 = true
        ∧ od t OD.DEVICE_STATE = od s OD.DEVICE_STATE))
    ∧ (∀ (s : State) (img : List Byte), let h := leNat (img.take 128)
      (img.length < 128 ∨ getF h BootHdr.MAGIC ≠ 0x444E4254 → bootCheck s img = 1)
      ∧ (128 ≤ img.length → getF h BootHdr.MAGIC = 0x444E4254 → getF h BootHdr.FORMAT ≠ 1 ∨ getF h BootHdr.BODY_BYTES = 0 → bootCheck s img = 2)
      ∧ (bootCheck s img = 0 → leNat (sha384 ((img.drop 128).take (getF h BootHdr.BODY_BYTES))) = getF h BootHdr.BODY_DIGEST
        ∧ bitOf (od s OD.ROOT_REVOKED) (getF h BootHdr.ROOT_INDEX) = false ∧ od s OD.FUSED_SVN ≤ getF h BootHdr.SVN))
    ∧ (∀ (s : State) (p q base : List Byte) (failed : List Nat),
      (s.sec.boot = 8 → let u := coreBist s failed
        completes (.firstStageLoad p q base failed) s { u with sec := { u.sec with boot := 6 } })
      ∧ (s.sec.boot ≠ 3 → s.sec.boot ≠ 8 → completes (.firstStageLoad p q base failed) s s)
      ∧ (s.sec.boot = 3 → let img := if bootCheck s p = 0 then p else q
        let src := if bootCheck s p = 0 then 0 else 1
        let x := plannerRuns (bootStatus s src 0 img) img
        (bootCheck s img ≠ 0 → completes (.firstStageLoad p q base failed) s (bootFails (bootStatus s src (bootCheck s img) img)))
        ∧ completes (.firstStageLoad p q base failed) s (if bootCheck s img ≠ 0 then bootFails (bootStatus s src (bootCheck s img) img)
          else if bootCheck x base ≠ 0 then bootFails (bootStatus x 0 (bootCheck x base) base)
          else let u := coreBist (digestPut x 3 (bootF base BootHdr.BODY_DIGEST)) failed
            { u with sec := { u.sec with boot := 6 } }))
      ∧ ∀ c, c < 200 → odGet (coreBist s failed) OD.CORE_MAP c = if failed.contains c then 3
        else if ((List.range c).filter (fun x => !failed.contains x)).length < 192 then 0 else 1)
    ∧ (∀ (s : State) (off kind : Nat) (data : List Byte), kind < 256 → let w := commandWrite s OD.BOOT_COMMIT off (leBytes 1 kind)
      let l := commandWrite s OD.BOOT_LOAD off data
      (bootAwaits s = none → w.status = 2 ∧ w.st = s ∧ l.status = 2 ∧ l.st = s)
      ∧ ∀ k, bootAwaits s = some k → (kind ≠ k → w.status = 4 ∧ w.st = s)
        ∧ (kind = k → w.status = 0 ∧ w.st.sec.bootLoad = [] ∧ getF (od w.st OD.BOOT_STATUS) (fld 23 16) = bootCheck s (stagedImage s)
          ∧ getF (od w.st OD.BOOT_STATUS) (fld 31 24) = 2 ∧ (bootCheck s (stagedImage s) ≠ 0 → w.st.sec.boot = s.sec.boot)
          ∧ (bootCheck s (stagedImage s) = 0 → w.st.sec.boot = [4, 5, 8].getD k 0))
        ∧ l.status = 0 ∧ { l.st with sec := { l.st.sec with bootLoad := s.sec.bootLoad } } = s
        ∧ ∀ i, i < data.length → kget l.st.sec.bootLoad (off + i) 0 = data.getD i 0)
    ∧ (∀ (s : State) (off : Nat) (data : List Byte), let v := leNat data; let w := commandWrite s OD.SVN_COMMIT off data;
      (od s OD.FUSED_SVN ≤ v → v ≤ s.sec.firstSvn → v ≤ 63 → w.status = 0 ∧ w.st = odSet s OD.FUSED_SVN v)
      ∧ (v < od s OD.FUSED_SVN ∨ s.sec.firstSvn < v ∨ 63 < v → w.status = 4 ∧ w.st = s))
    ∧ (∀ (s : State) (base : List Byte) (overlays : List (List Byte)),
      let ready := od s OD.DEVICE_STATE = 0 ∧ s.sec.boot = 6 ∧ (s.sec.derived = true ∨ od s OD.LIFECYCLE = 2)
      let x := odSet s OD.DEVICE_STATE 1
      let d := match regionImage 1 base with
        | some img => baseImage x img
        | none => dStatus x 0
      (¬ ready → completes (.configEntry base overlays) s s)
      ∧ (ready → (d.undef = 0 → completes (.configEntry base overlays) s ((overlays.take 16).foldl (fun t o => match regionImage 2 o with
          | some img => (overlayLoad t img).st
          | none => t) d.st))
        ∧ (d.undef ≠ 0 → exec (.configEntry base overlays) s = .fault (.undefinedCase d.undef))))

/-- In CONFIG and RUN each request made in its phase is answered: GET_VERSION starts the connection anew with version 1.3,
GET_CAPABILITIES and NEGOTIATE_ALGORITHMS advance it, the second only with RSAPSS-3072 and SHA-384 among what is offered; then digests,
certificates, challenges, measurements and chunks. A request before its phase is UnexpectedRequest, another request UnsupportedRequest.
In BOOT and FATAL nothing is answered. The response codes and the bytes of an answer are the model's choice from SPDM 1.3 (log 24).
(R392, R396, 19_security.md.) -/
def Obligations.SpdmResponder : Prop :=
  (∀ s : State, spdmServes s = true →
      completes .getVersion s { s with sec := { s.sec with spdm := 1, large := none }, out := s.out ++ [⟨8, 0x04, [0x13]⟩] }
      ∧ (1 ≤ s.sec.spdm → completes .getCapabilities s { s with sec := { s.sec with spdm := max s.sec.spdm 2 }, out := s.out ++ [⟨8, 0x61, leBytes 4 (2 + 4 + 16 + 2 ^ 17) ++ leBytes 4 4096⟩] })
      ∧ (2 ≤ s.sec.spdm → ∀ asym hash, (bitOf asym 4 = true → bitOf hash 1 = true →
          completes (.negotiateAlgorithms asym hash) s { s with sec := { s.sec with spdm := 3 }, out := s.out ++ [⟨8, 0x63, leBytes 4 16 ++ leBytes 4 2⟩] })
        ∧ (bitOf asym 4 = false ∨ bitOf hash 1 = false → completes (.negotiateAlgorithms asym hash) s (spdmError s 1)))
      ∧ (3 ≤ s.sec.spdm → (∀ c0 c1, let a := chainServed s 0 c0; let b := chainServed s 1 c1
          completes (.getDigests c0 c1) s { s with out := s.out ++ [⟨8, 0x01, leBytes 1 (b2n a + 2 * b2n b) ++ (if a then sha384 c0 else [])
            ++ (if b then sha384 c1 else [])⟩] })
        ∧ (∀ slot off len chain, let part := (chain.drop off).take len
          completes (.getCertificate slot off len chain) s (if chainServed s slot chain = true then
            spdmOut s 0x02 (leBytes 2 part.length ++ leBytes 2 (chain.length - off - part.length) ++ part) else spdmError s 1))
        ∧ (∀ slot nonce chain, let x := takeBytes s 32
          completes (.challenge slot nonce chain) s (if slot = 0 ∧ chainServed s 0 chain = true then
            { x.2 with out := s.out ++ [⟨8, 0x03, sha384 chain ++ x.1 ++ fitBytes rsaBytes (Config.signature 0 (sha384 chain ++ x.1 ++ nonce))⟩] }
            else spdmError s 1) ∧ x.1.length = 32 ∧ { x.2 with freeCtr := s.freeCtr } = s)
        ∧ (∀ nonce, completes (.getMeasurements 0 nonce) s { s with out := s.out ++ [⟨8, 0x60, [7]⟩] }
          ∧ (canSign s = true → (∀ i, 1 ≤ i → i ≤ 6 → completes (.getMeasurements i nonce) s { s with out := s.out ++ [⟨8, 0x60, measureBlock s i ++ fitBytes rsaBytes (Config.signature 0 (measureBlock s i ++ nonce))⟩] })
            ∧ completes (.getMeasurements 7 nonce) s (attestAsk s nonce true))
          ∧ (∀ i, i ≠ 0 → canSign s = false ∨ 7 < i → completes (.getMeasurements i nonce) s (spdmError s 1)))
        ∧ (∀ p bs, s.sec.large = some (p, bs) → completes .chunkGet s { s with out := s.out ++ [⟨8, 0x06, (bs.drop p).take 4096⟩], sec := { s.sec with large := if bs.length ≤ p + 4096 then none else some (p + 4096, bs) } })
        ∧ (s.sec.large = none → completes .chunkGet s (spdmError s 4)))
      ∧ completes .spdmUnsupportedRequest s (spdmError s 7))
    ∧ (∀ (s : State) (p : Nat) (i : Instr) (a b c : Nat) (x y : List Byte), (p, i) ∈ [(0, Instr.getVersion), (1, .getCapabilities), (2, .negotiateAlgorithms a b),
        (3, .getDigests x y), (3, .getCertificate a b c x), (3, .challenge a x y), (3, .getMeasurements a x), (3, .chunkGet), (0, .spdmUnsupportedRequest)] →
      (spdmServes s = true → s.sec.spdm < p → completes i s (spdmError s 4)) ∧ (spdmServes s = false → completes i s s))
    ∧ (∀ (s : State) (code : Nat) (bs : List Byte), (bs.length ≤ 4096 → spdmOut s code bs = { s with out := s.out ++ [⟨8, code, bs⟩] })
      ∧ (4096 < bs.length → spdmOut s code bs = { s with out := s.out ++ [⟨8, 0x7F, [0x0F]⟩], sec := { s.sec with large := some (0, bs) } }))

/-- PARTITION_CREATE takes the lowest free record for an aligned range that lies in one memory and meets no other. PARTITION_RELEASE
moves an ACTIVE record to ERASING, KEY_REVOKE a VALID slot to REVOKING with its key zeroised. KEY_INSTALL is refused with a stale nonce,
a slot in use or a key that does not unwrap, else makes the slot valid; each draws a new nonce. DEBUG_UNLOCK with a token that is
accepted loses every key and erases every partition, another answers BAD_VALUE. ATTEST_REQUEST starts a report or waits in the place of
any other, AUDIT_REQUEST notes its mask and frame; a frame that is not later is BAD_VALUE. When an ERASING record's bytes have been
zeroed the record is FREE, every byte of its range reads 0 and, with no commons frame in the tier, no other byte changed; the last one
opens the scope that waits. A signing that ends places the report with its two signatures and READY, unless the device may not sign any
more; the one that waits then starts. An audit that ends publishes each law's result, PASS or MISMATCH, raises AUDIT_MISMATCH for a
mismatch and is DONE, or WAITING where another request waits; with a walk of law L3 unfinished it is not over. (R389, R390, R395, R397,
R401, R403, R406, R411, R412, R413, 19_security.md, 20_guarantees.md.) -/
def Obligations.PartitionsReportsAndAudits : Prop :=
  (∀ (s : State) (off : Nat) (data : List Byte), let v := leNat data
      (let w := commandWrite s OD.PARTITION_CREATE off data; let p := leNat (data.take 32); let a := getF p Part.BASE; let n := getF p Part.SIZE
        (od s OD.DEBUG_STATE ≠ 0 ∨ s.sec.unlocking.isSome = true → w.status = 2 ∧ w.st = s)
        ∧ (od s OD.DEBUG_STATE = 0 → s.sec.unlocking = none → data.length = 32 → (a % 65536 ≠ 0 ∨ n % 65536 ≠ 0 ∨ partPlace s a n = false → w.status = 4 ∧ w.st = s)
          ∧ (a % 65536 = 0 → n % 65536 = 0 → partPlace s a n = true →
            ((∃ i, i < 64 ∧ partF s i Part.STATE ≠ 0 ∧ meets a n (partF s i Part.BASE) (partF s i Part.SIZE) = true) → w.status = 5 ∧ w.reason = 2 ∧ w.st = s)
            ∧ (∀ i, (∀ j, j < 64 → partF s j Part.STATE ≠ 0 → meets a n (partF s j Part.BASE) (partF s j Part.SIZE) = false) → i < 64 →
              partF s i Part.STATE = 0 → (∀ j, j < i → partF s j Part.STATE ≠ 0) → w.status = 0 ∧ partF w.st i Part.STATE = 1
                ∧ partF w.st i Part.BASE = a ∧ partF w.st i Part.SIZE = n ∧ partF w.st i Part.KIND = getF p Part.KIND
                ∧ partF w.st i Part.TENANT = getF p Part.TENANT ∧ { w.st with od := s.od } = s ∧ ∀ j, j < 64 → j ≠ i → odGet w.st OD.PARTITIONS j = odGet s OD.PARTITIONS j))))
      ∧ (let w := commandWrite s OD.PARTITION_RELEASE off data;
      (v < 64 → w.status = 0 ∧ (partF s v Part.STATE = 1 → partF w.st v Part.STATE = 2 ∧ partF w.st v Part.BASE = partF s v Part.BASE)
        ∧ (partF s v Part.STATE ≠ 1 → w.st = s))
      ∧ (64 ≤ v → w.status = 4 ∧ w.st = s))
    ∧ (let w := commandWrite s OD.KEY_REVOKE off data;
      (v = 0 → w.status = 4 ∧ w.st = s)
      ∧ (v ≠ 0 → w.status = 0 ∧ (keyF s v KeySlot.STATE ≠ 1 → w.st = s)
        ∧ (v < 256 → keyF s v KeySlot.STATE = 1 → claspRuns s = false → keyF w.st v KeySlot.STATE = 2 ∧ kfind w.st.net.keys v = none)))
    ∧ (let w := commandWrite s OD.KEY_INSTALL off data; let h := leNat (data.take 64); let k := getF h InstallRec.SLOT
      let no := drawNonce (keyCount s 1) OD.KEY_NONCE;
      (od s OD.DEBUG_STATE ≠ 0 ∨ s.sec.unlocking.isSome = true → w.status = 2 ∧ w.st = no)
      ∧ (od s OD.DEBUG_STATE = 0 → s.sec.unlocking = none → data.length = 1680 → (k = 0 → w.status = 4 ∧ w.st = no)
        ∧ (k ≠ 0 → (getF h InstallRec.NONCE ≠ nonceOf s OD.KEY_NONCE → w.status = 5 ∧ w.reason = 0x10 ∧ w.st = no)
          ∧ (getF h InstallRec.NONCE = nonceOf s OD.KEY_NONCE → (keyF s k KeySlot.STATE ≠ 0 → w.status = 5 ∧ w.reason = 0x12 ∧ w.st = no)
            ∧ (keyF s k KeySlot.STATE = 0 → let u := Config.kemUnwrap ((data.drop 64).take 1568) (data.drop 1632) (data.take 64)
              (s.sec.derived = false ∨ u = none → w.status = 5 ∧ w.reason = 0x11 ∧ w.st = no)
              ∧ (s.sec.derived = true → ∀ key, u = some key → w.status = 0 ∧ w.st = drawNonce (keyPlace s h (fitBytes 32 key)) OD.KEY_NONCE
                ∧ keyF w.st k KeySlot.STATE = 1 ∧ keyF w.st k KeySlot.TENANT = getF h InstallRec.TENANT
                ∧ kfind w.st.net.keys k = some (fitBytes 32 key) ∧ kget w.st.net.segCtr k 1 = 0))))))
    ∧ (let w := commandWrite s OD.DEBUG_UNLOCK off data;
      (tokenOk s data = false → w.status = 4 ∧ w.st = drawNonce s OD.DEBUG_NONCE)
      ∧ (tokenOk s data = true → w.status = 0 ∧ w.st.net.keys = [] ∧ w.st.sec.derived = false ∧ w.st.sec.seedLocked = true
        ∧ (∀ i, i < 64 → partF w.st i Part.STATE ≠ 1 ∧ (partF s i Part.STATE = 1 → partF w.st i Part.STATE = 2))
        ∧ ∀ k, 1 ≤ k → k < 256 → keyF w.st k KeySlot.STATE = 0))
    ∧ (let w := commandWrite s OD.ATTEST_REQUEST off data; let a : Attest := { nonce := data, spdm := false, msg := none }
      (data.length ≠ 32 → w.status = 3 ∧ w.st = s)
      ∧ (data.length = 32 → w.status = 0 ∧ (canSign s = false → w.st = odSet s OD.ATTEST_STATE 3)
        ∧ (canSign s = true → s.sec.signing.isSome = true → w.st = { s with sec := { s.sec with attWaiting := some a } })
        ∧ (canSign s = true → s.sec.signing = none → let t := odSet { s with sec := { s.sec with signing := some a } } OD.ATTEST_STATE 1
          w.st = (if framesRun s then t else { t with sec := { t.sec with signing := some { a with msg := some (reportMsg t data) } } }))))
    ∧ (let w := commandWrite s OD.AUDIT_REQUEST off data; let f := v / 2 ^ 32 % 2 ^ 32
      (f ≠ 0 → frameLater f (frameNo s) = false → w.status = 4 ∧ w.st = s)
      ∧ (f = 0 ∨ frameLater f (frameNo s) = true → w.status = 0
        ∧ (od s OD.POWER_STATE = 2 → s.aud.running = none → w.st = auditSnap s (v % 1024))
        ∧ (od s OD.POWER_STATE ≠ 2 → s.aud.running = none → w.st = odSet { s with aud := { s.aud with waiting := some (v % 1024, f) } } OD.AUDIT_STATE 1)
        ∧ (s.aud.running.isSome = true → w.st = { s with aud := { s.aud with waiting := some (v % 1024, f) } }))))
    ∧ (∀ (s : State) (i : Nat), i < 64 → partF s i Part.STATE = 2 → let z := odPut (partZero s (partF s i Part.BASE) (partF s i Part.SIZE)) OD.PARTITIONS i 0
      completes (.partitionErased i) s (scopeOpen z) ∧ partF (scopeOpen z) i Part.STATE = 0
      ∧ (∀ a, partF s i Part.BASE ≤ a → a < partF s i Part.BASE + partF s i Part.SIZE → memByte (scopeOpen z) a = 0)
      ∧ (od s OD.TIER_FRAMES = 0 → ∀ a, a < partF s i Part.BASE ∨ partF s i Part.BASE + partF s i Part.SIZE ≤ a →
        memByte (scopeOpen z) a = memByte s a)
      ∧ (s.sec.unlocking = none → scopeOpen z = z))
    ∧ (∀ (s : State) (scope : Nat), s.sec.unlocking = some scope → (∀ j, j < 64 → partF s j Part.STATE = 0) →
      let t := scopeOpen s
      od t OD.DEBUG_STATE = scope ∧ od t OD.ATTEST_STATE = 3 ∧ bitOf (od t OD.ALERT_CAUSES) 9 = true ∧ t.sec.unlocking = none
      ∧ (bitOf scope 0 = true ∨ bitOf scope 2 = true → bitOf (od t OD.GUARANTEE_CONDITIONS) 4 = true))
    ∧ (∀ (s : State) (a : Attest) (m : List Byte), s.sec.signing = some a → a.msg = some m →
      let x := { s with sec := { s.sec with signing := none, attWaiting := none } }
      let rep := m ++ fitBytes rsaBytes (Config.signature 0 m) ++ fitBytes slhBytes (Config.signature 1 m)
      let y := odSet (odSetBytes (odClear x OD.ATTEST_REPORT) OD.ATTEST_REPORT rep) OD.ATTEST_STATE 2
      (canSign s = false → completes .attestSigned s (odSet x OD.ATTEST_STATE 3))
      ∧ (canSign s = true → a.spdm = false → s.sec.attWaiting = none → completes .attestSigned s y)
      ∧ (canSign s = true → a.spdm = false → ∀ b, s.sec.attWaiting = some b → completes .attestSigned s (attestStart y b)))
    ∧ (∀ (s : State) (mask frame : Nat), s.aud.running = some (mask, frame) →
      (s.pool.walks.any (fun w => w.law) = true → completes .auditDone s s)
      ∧ (s.pool.walks.any (fun w => w.law) = false → s.aud.waiting = none → (∀ r ∈ s.aud.results, r.1 < 10) → (s.aud.results.map Prod.fst).Nodup →
        (∀ x ∈ s.aud.terms, x.1 < 10 ∧ x.2.length ≤ 4096) → ∃ t, completes .auditDone s t ∧ { t with od := s.od, aud := s.aud, out := s.out, host := s.host } = s ∧ t.aud.results = [] ∧ od t OD.AUDIT_STATE = 3 ∧ t.aud.running = none
          ∧ (∀ r ∈ s.aud.results, odGet t OD.AUDIT_RESULTS r.1 = lawResult (if r.2.1 then 2 else 3) frame r.2.2)
          ∧ ((∃ r ∈ s.aud.results, r.2.1 = false) → bitOf (od t OD.ALERT_CAUSES) 10 = true)
          ∧ t.mem = s.mem)
      ∧ (s.pool.walks.any (fun w => w.law) = false → (∀ r ∈ s.aud.results, r.1 < 10) → (∀ x ∈ s.aud.terms, x.1 < 10 ∧ x.2.length ≤ 4096) →
        ∀ w, s.aud.waiting = some w → od s OD.POWER_STATE ≠ 2 → ∃ t, completes .auditDone s t
        ∧ od t OD.AUDIT_STATE = 1 ∧ t.aud.running = none ∧ t.aud.waiting = some w ∧ t.mem = s.mem))
    ∧ (∀ s : State, (s.aud.running = none → completes .auditDone s s) ∧ (s.sec.signing = none → completes .attestSigned s s)
      ∧ ∀ i, 64 ≤ i ∨ partF s i Part.STATE ≠ 2 → completes (.partitionErased i) s s)

/-- A BIST step of an undefined opcode ends with BAD_OP, one whose descriptor cannot be read with the memory status, one whose SLICE_CLK
is no multiple of 2,000 from 2,000 to 100,000 with BAD_DESC. With no core under test or the test disabled it completes OK. A slice that
passes is counted once, not again where it is carried; a failing one fences the core. An engine that fails its check is fenced. A device
seen expelled is noted once in a window. DERATE enters suspect mode, with SUSPECT raised, or lets it end with the next build.
FENCE_REGION fences its region. FENCE_COMMAND, with its magic, target, nonce and a quorum of approvals, expels the device, or puts it in
suspect mode where the budget of the window is spent; each draws a new nonce. When an expulsion's drain ends nothing is in flight, every
link is disabled and the coherent domain is down. A fatal error puts the device in FATAL with its cause, stops every step, and raises
FATAL. (R421, R423, R425, R429, R430, R434, R436, R437, R438, R444, R445, 21_faults.md.) -/
def Obligations.SelfTestFaultsAndExpulsion : Prop :=
  (∀ (s : State) (block : Nat) (f : Flight), flightOn s bistUnit = some f →
      let d := readRec s (stepReader f) (getF f.step StepRec.DESC_ADDR) 64
      let n := getF d.2.1 BistDesc.SLICE_CLK
      let bad := n < 2000 ∨ 100000 < n ∨ n % 2000 ≠ 0
      (getF f.step StepRec.OPCODE ≠ 1 → completes (.slice block) s (bistEnd s f 4 (bistTarget s) 0 0 0 .untouched))
      ∧ (getF f.step StepRec.OPCODE = 1 → (d.2.2.1 ≠ 0 → completes (.slice block) s (bistEnd d.1 f 5 (bistTarget d.1) 0 0 0 .unread))
        ∧ (d.2.2.1 = 0 → bad → completes (.slice block) s (bistEnd d.1 f 7 (bistTarget d.1) 0 0 0 .untouched))
        ∧ (d.2.2.1 = 0 → ¬ bad → d.1.ft.bistCore = 200 ∨ od d.1 OD.BIST_ENABLE = 0 →
          completes (.slice block) s (bistEnd d.1 f 0 (bistTarget d.1) 0 0 0 .done))
        ∧ (d.2.2.1 = 0 → ¬ bad → d.1.ft.bistCore < 200 → od d.1 OD.BIST_ENABLE ≠ 0 → let c := d.1.ft.bistCore
          let total := if d.1.ft.bistTotal = 0 then cdiv 384000 n else d.1.ft.bistTotal
          let done := if f.carried then d.1.ft.bistSlices else d.1.ft.bistSlices + 1
          (block = 0 → let t := bistEnd d.1 f 0 c done total 0 .done
            completes (.slice block) s { t with ft := { t.ft with bistSlices := done, bistTotal := total } } ∧ flightOn t bistUnit = none)
          ∧ (block ≠ 0 → let t := bistFail (bistEnd d.1 f 0xD c done total block .done) c
            completes (.slice block) s t ∧ flightOn t bistUnit = none ∧ odGet t OD.CORE_MAP c = 3 ∧ t.ft.bistCore = 200
            ∧ bitOf (od t OD.ALERT_CAUSES) 11 = true))))
    ∧ (∀ (s : State) (block : Nat), flightOn s bistUnit = none → completes (.slice block) s s)
    ∧ (∀ (s : State) (k : Nat), 8 ≤ k → completes (.engineCheckFail k) s s) ∧ (∀ (s : State) (k : Nat), k < 8 → (odGet s OD.ENGINE_MAP k = 3 → completes (.engineCheckFail k) s s)
      ∧ (odGet s OD.ENGINE_MAP k ≠ 3 → let t := engineFence s k 4
        completes (.engineCheckFail k) s t ∧ odGet t OD.ENGINE_MAP k = 3 ∧ kfind t.ft.engineFault k = some (frameNo s) ∧ bitOf (od t OD.ALERT_CAUSES) 11 = true ∧ t.mem = s.mem))
    ∧ (∀ (s : State) (dev : Nat), ((expelledNow s).contains dev = true → completes (.expelled dev) s s)
      ∧ ((expelledNow s).contains dev = false → let t := noteExpelled s dev
        completes (.expelled dev) s t ∧ t.ft.expelled = s.ft.expelled ++ [(dev, frameNo s)]
        ∧ { t with od := s.od, ft := s.ft } = s ∧ dev ∈ expelledNow t))
    ∧ (∀ s : State, s.ft.expelFrame = none → completes .expelDrainEnd s s)
    ∧ (∀ (s : State) (c : Nat), s.ft.expelFrame = some c → (s.frm.flights = [] ∨ c + od s OD.DRAIN_LIMIT_CLK ≤ s.clk →
        let x := (List.range 64).foldl linkDisable s
        let t := cohDown { x with ft := { x.ft with expelFrame := none }, frm := { x.frm with flights := [] }, en := { x.en with savedEnable := 0 } }
        completes .expelDrainEnd s t ∧ t.frm.flights = [] ∧ t.ft.expelFrame = none ∧ od t OD.COH_STATE = 1
          ∧ ∀ l < 64, odGet t OD.LINK_STATE l = 0 ∧ bitOf (od t OD.LINK_ENABLE) l = false)
      ∧ (s.frm.flights ≠ [] → s.clk < c + od s OD.DRAIN_LIMIT_CLK → completes .expelDrainEnd s s))
    ∧ (∀ (s : State) (cause detail : Nat), 1 ≤ cause → cause ≤ 6 → (od s OD.DEVICE_STATE = 3 → completes (.fatalError cause detail) s s)
      ∧ (od s OD.DEVICE_STATE ≠ 3 → let t := fatal s cause detail
        completes (.fatalError cause detail) s t ∧ od t OD.DEVICE_STATE = 3
        ∧ od t OD.FATAL_CAUSE = cause * 2 ^ 24 + detail % 2 ^ 24 ∧ t.frm.flights = [] ∧ od t OD.LINK_ENABLE = 0
        ∧ bitOf (od t OD.ALERT_CAUSES) 14 = true ∧ bitOf (od t OD.GUARANTEE_CONDITIONS) 0 = true ∧ t.mem = s.mem
        ∧ (cause = 5 → odGet t OD.STACK_MAP (detail % 8) = 3)))
    ∧ (∀ (s : State) (cause detail : Nat), cause = 0 ∨ 6 < cause → completes (.fatalError cause detail) s s)
    ∧ (∀ (s : State) (off : Nat) (data : List Byte), let v := leNat data; let h := leNat (data.take 64)
      (let w := commandWrite s OD.DERATE off data;
        (v = 1 → w.status = 0 ∧ w.st = suspectEnter s ∧ w.st.ft.suspect = true
          ∧ (kindGroup s 2 = none → od w.st OD.HEALTH = 2 ∧ bitOf (od w.st OD.ALERT_CAUSES) 12 = true))
        ∧ (v = 0 → w.status = 0 ∧ w.st = { s with ft := { s.ft with suspectEnding := s.ft.suspect } })
        ∧ (1 < v → w.status = 4 ∧ w.st = s))
      ∧ (let w := commandWrite s OD.FENCE_REGION off data; let k := v / 128 % 8; let g := v % 128;
        w.status = 0 ∧ odGet w.st OD.REGION_MAP (k * 128 + g) = 3 ∧ (regionFenced s k g = true → w.st = s)
        ∧ (regionFenced s k g = false → w.st = fenceRegion s k g 7 ∧ bitOf (od w.st OD.ALERT_CAUSES) 11 = true))
      ∧ (let w := commandWrite s OD.FENCE_COMMAND off data; let n := getF h FenceCmd.APPROVALS; let t := drawNonce s OD.FENCE_NONCE;
        (getF h FenceCmd.MAGIC ≠ 0x444E4645 ∨ n = 0 ∨ 8 < n ∨ getF h FenceCmd.TARGET ≠ ownDevice s → w.status = 4 ∧ w.st = t)
        ∧ (getF h FenceCmd.MAGIC = 0x444E4645 → 1 ≤ n → n ≤ 8 → getF h FenceCmd.TARGET = ownDevice s → data.length = 64 + 392 * n →
          (getF h FenceCmd.NONCE ≠ nonceOf s OD.FENCE_NONCE → w.status = 5 ∧ w.reason = 0x10 ∧ w.st = t)
          ∧ (getF h FenceCmd.NONCE = nonceOf s OD.FENCE_NONCE →
            ((approvals s n data).length < od s OD.QUORUM → w.status = 5 ∧ w.reason = 0x13 ∧ w.st = t)
            ∧ (od s OD.QUORUM ≤ (approvals s n data).length → w.status = 0 ∧ (od s OD.EXPEL_STATE = 1 → w.st = t)
              ∧ (od s OD.EXPEL_STATE ≠ 1 → (od s OD.EXPEL_BUDGET ≤ (expelledNow s).length → w.st = odSet (suspectEnter t) OD.EXPEL_RESULT 2)
                ∧ ((expelledNow s).length < od s OD.EXPEL_BUDGET → w.st = expelHonour t ∧ w.st.frm.stopped = true
                  ∧ w.st.ft.expelFrame = some s.clk)))))))

/-- On a device whose clasp unit has stopped no message of the exchange has an effect. An offer is refused where the role takes no shard,
in suspect mode, with no bead class of its geometry, and with no bead ready; one that is granted takes a bead and puts the shard in the
directory, not sealed, under the owner. A grant makes the owner write and seal the shard; a refusal makes it offer the shard again, not
to that member. A seal makes it held. HELD places it under the member's key and offset. A shard freed leaves the directory and is
answered; FREED ends the wait. (R435, R440, R441, 21_faults.md.) -/
def Obligations.ShardExchange : Prop :=
  (∀ (s : State) (dev msg : Nat) (i : Instr), claspRuns s = false →
      i ∈ [Instr.shardOffer dev msg, .shardGrant dev msg, .shardSeal dev msg, .shardHeld dev msg, .shardFree dev msg, .shardFreed dev msg] → completes i s s)
    ∧ (∀ (s : State) (dev msg : Nat), claspRuns s = true → let refused := fun n => shardAnswer s dev msg 0x12 [(ShardMsg.STATUS, n)]
      let st := shardStack (getF msg ShardMsg.GROUP) (getF msg ShardMsg.SHARD)
      (roleOpens (role s) 8 = false → completes (.shardOffer dev msg) s (refused 4))
      ∧ (roleOpens (role s) 8 = true → s.ft.suspect = true → completes (.shardOffer dev msg) s (refused 3))
      ∧ (roleOpens (role s) 8 = true → s.ft.suspect = false →
        (shardClass s msg = none → completes (.shardOffer dev msg) s (refused 2))
        ∧ ∀ c, shardClass s msg = some c → (kget s.pool.ready (listKey c st) [] = [] → completes (.shardOffer dev msg) s (refused 1))
          ∧ (kget s.pool.ready (listKey c st) [] ≠ [] → (shardTake s dev msg c = none → completes (.shardOffer dev msg) s (refused 1)) ∧ ∀ t, shardTake s dev msg c = some t → completes (.shardOffer dev msg) s t
            ∧ ∃ h, t.sh.held = s.sh.held ++ [h] ∧ h.owner = dev ∧ h.rid = getF msg ShardMsg.REQUEST_ID ∧ h.isSealed = false
              ∧ h.group = getF msg ShardMsg.GROUP ∧ h.index = getF msg ShardMsg.SHARD)))
    ∧ (∀ (s : State) (dev msg : Nat), answered s dev msg 2 = none ∨ passQp s dev = none → completes (.shardGrant dev msg) s s)
    ∧ (∀ (s : State) (dev msg q : Nat) (x : Shard), claspRuns s = true → answered s dev msg 2 = some x → passQp s dev = some q →
      (getF msg ShardMsg.STATUS ≠ 0 → completes (.shardGrant dev msg) s (shardAgain s (shardKey x.row x.group x.index)))
      ∧ (getF msg ShardMsg.STATUS = 0 → 
        let sqe := mkRec [(Sqe.OP, 2), (Sqe.LENGTH, classBeadBytes s (strandClass s x.row)), (Sqe.LOCAL_ADDR, (beadPlace s x.bead).1),
          (Sqe.REMOTE_KEY, getF msg ShardMsg.KEY)]
        let a := postWqe s q sqe (rowGet s x.row Row.TENANT) none (.shard (shardKey x.row x.group x.index))
        let b := (shardSend a dev (shardHdr a x 0x13) true (.shard (shardKey x.row x.group x.index))).1
        let t := shardPut b { x with place := 4, offset := getF msg ShardMsg.OFFSET }
        completes (.shardGrant dev msg) s t ∧ shardOf t x.row x.group x.index = some { x with place := 4, offset := getF msg ShardMsg.OFFSET }))
    ∧ (∀ (s : State) (dev msg : Nat), answered s dev msg 4 = none → completes (.shardHeld dev msg) s s)
    ∧ (∀ (s : State) (dev msg : Nat) (x : Shard), claspRuns s = true → answered s dev msg 4 = some x →
      let y := { x with place := 5, key := getF msg ShardMsg.KEY, offset := getF msg ShardMsg.OFFSET }
      let u := shardPut (shardCount s 1 1) y
      completes (.shardHeld dev msg) s (shardTold u y) ∧ shardOf u x.row x.group x.index = some y)
    ∧ (∀ (s : State) (dev msg : Nat), heldOf s dev msg = none → completes (.shardSeal dev msg) s s)
    ∧ (∀ (s : State) (dev msg : Nat) (h : HeldShard), claspRuns s = true → heldOf s dev msg = some h → let a := beadPlace s h.bead
      let u := beadShard (mrDeregister s (h.key % 2 ^ 24)) h.bead
      (h.isSealed = true → completes (.shardSeal dev msg) s s)
      ∧ (h.isSealed = false → (anyReadKey u (getF msg ShardMsg.TENANT) a.1 (classBeadBytes u a.2) = none → completes (.shardSeal dev msg) s u)
        ∧ ∀ m, anyReadKey u (getF msg ShardMsg.TENANT) a.1 (classBeadBytes u a.2) = some m → let y := { h with key := m.2, isSealed := true }
          let held := m.1.sh.held.map (fun x => if x = h then y else x)
          let t := directoryShow (shardCount { m.1 with sh := { m.1.sh with held := held } } 2 1)
          completes (.shardSeal dev msg) s (shardAnswer t dev msg 0x14 [(ShardMsg.KEY, m.2), (ShardMsg.OFFSET, a.1)]) ∧ y ∈ t.sh.held)
      ∧ completes (.shardFree dev msg) s (shardAnswer (heldDrop s h) dev msg 0x16 []) ∧ h ∉ (heldDrop s h).sh.held)
    ∧ (∀ (s : State) (dev msg : Nat), claspRuns s = true → heldOf s dev msg = none → completes (.shardFree dev msg) s (shardAnswer s dev msg 0x16 []))
    ∧ (∀ (s : State) (dev msg : Nat), claspRuns s = true →
      let k := (getF msg ShardMsg.REQUEST_ID, dev, getF msg ShardMsg.GROUP, getF msg ShardMsg.SHARD)
      completes (.shardFreed dev msg) s { s with sh := { s.sh with freeing := s.sh.freeing.filter (· != k) } })

/-- A cold boot loses everything but the fuses; a DORMANT part and one that drives THERMTRIP_N do not take it. PWR_GOOD samples the
straps once and starts the ROM. Loss of P48V and a thermal trip turn the part off, the trip driving THERMTRIP_N until its release. A
reset of the host link resets the PCIe interface and nothing else. A configuration write sets its register; a vector's entry written is
the one held. A request outside the BARs is Unsupported Request, a BAR2 access in BOOT, in FATAL or to a barred place a Completer Abort,
a read of a closed partition zeros; another is begun. While the link is in reset no access has an effect. Each access refused by a
partition is counted. (R410, R447, R451, R453, R454, R459, R463, R467, R469, R470, 22_host_pins_startup.md.) -/
def Obligations.HostInterface : Prop :=
  (∀ s : State, (s.host.power = 2 ∨ s.host.thermtrip = true → completes .coldBoot s s)
      ∧ (s.host.power ≠ 2 → s.host.thermtrip = false → completes .coldBoot s (coldBoot s))
      ∧ (∀ e ∈ fuses, od (coldBoot s) e = od s e) ∧ (∀ e i, e ∉ fuses → i < 2 ^ 24 → odGet (coldBoot s) e i = odGet State.reset e i)
      ∧ { coldBoot s with od := [], freeCtr := 0, out := [], pending := [] } = { State.reset with od := [], freeCtr := 0 })
    ∧ (∀ (s : State) (straps : Nat), (s.host.power = 0 → s.host.pwrGood = false →
        let x := odSet (odSet (odSet s OD.STRAPS (straps % 64)) OD.TRAY_SLOT (straps % 32)) OD.BARRIER_GROUP (2 ^ (straps % 32))
        let t := { x with host := { x.host with pwrGood := true }, sec := { x.sec with boot := 1 } }
        completes (.pwrGoodRelease straps) s t ∧ od t OD.STRAPS = straps % 64 ∧ od t OD.TRAY_SLOT = straps % 32 ∧ t.host.pwrGood = true ∧ t.sec.boot = 1 ∧ t.mem = s.mem)
      ∧ (s.host.pwrGood = true ∨ s.host.power ≠ 0 → completes (.pwrGoodRelease straps) s s))
    ∧ (∀ s : State, (s.host.thermtrip = false → completes .p48vOutOfRange s (powerOff s 1)) ∧ (powerOff s 1).host.power = 1
      ∧ (s.host.thermtrip = true → completes .p48vOutOfRange s s)
      ∧ (s.host.power = 0 → completes .thermtrip s (powerOff s 3)) ∧ (s.host.power ≠ 0 → completes .thermtrip s s) ∧ (powerOff s 3).host.power = 3 ∧ (powerOff s 3).host.thermtrip = true
      ∧ (powerOff s 3).mem = [] ∧ (powerOff s 3).host.pwrGood = State.reset.host.pwrGood
      ∧ (s.host.thermtrip = true → completes .thermtripNRelease s { s with host := { s.host with power := 1, thermtrip := false } })
      ∧ (s.host.thermtrip = false → completes .thermtripNRelease s s)
      ∧ (s.host.power = 0 → completes .p48vOutsideOperatingRange s (odSet s OD.GUARANTEE_CONDITIONS (setBit (od s OD.GUARANTEE_CONDITIONS) 3 true)))
      ∧ (s.host.power ≠ 0 → completes .p48vOutsideOperatingRange s s))
    ∧ (∀ s : State, let r := linkReset s
      completes .perstN s (let t := odSet r OD.HOST_LINK 0; { t with host := { t.host with perst := true } })
      ∧ (s.host.pwrGood = false → completes .perstNRise s s) ∧ (s.host.pwrGood = true → completes .perstNRise s { s with host := { s.host with perst := false } })
      ∧ (linkOut s = true → completes .hotReset s r ∧ completes .functionLevelReset s r)
      ∧ (linkOut s = false → completes .hotReset s s ∧ completes .functionLevelReset s s ∧ ∀ rate width flit, completes (.hostLinkUp rate width flit) s s)
      ∧ { r with host := s.host, dct := s.dct, sec := s.sec, od := s.od } = s
        ∧ od r OD.HOST_LINK = setF (od s OD.HOST_LINK) (fld 14 13) 0 ∧ (∀ e i, e ≠ OD.HOST_LINK → i < 2 ^ 24 → odGet r e i = odGet s e i) ∧ r.host.bar0 = 0 ∧ r.host.bar2 = 0 ∧ r.host.command = 0 ∧ r.host.msixTable = []
      ∧ (∀ m, (kget r.dct.mailboxes m ⟨0, 0, 0, []⟩).state = 0) ∧ r.sec.spdm = 0
      ∧ (bitOf (od s OD.HOST_LINK) 0 = true → inConfig s = true ∨ inRun s = true → let t := alert (odInc (odSet r OD.HOST_LINK 0) OD.HOST_LINK_DOWNS) 15
        completes .hostLinkDown s t ∧ od t OD.HOST_LINK = 0
        ∧ odGet t OD.HOST_LINK_DOWNS 0 = (odGet s OD.HOST_LINK_DOWNS 0 + 1) % 2 ^ odWidth OD.HOST_LINK_DOWNS
        ∧ bitOf (od t OD.ALERT_CAUSES) 15 = true)
      ∧ (bitOf (od s OD.HOST_LINK) 0 = true → inConfig s = false → inRun s = false → completes .hostLinkDown s (odSet r OD.HOST_LINK 0))
      ∧ (bitOf (od s OD.HOST_LINK) 0 = false → completes .hostLinkDown s s)
      ∧ (linkOut s = true → ∀ rate width flit, let t := odSet s OD.HOST_LINK (mkRec [(fld 31 24, rate), (fld 23 16, width), (fld 15 15, b2n flit),
          (fld 14 13, s.host.pm), (fld 0 0, 1)])
        completes (.hostLinkUp rate width flit) s t ∧ bitOf (od t OD.HOST_LINK) 0 = true ∧ getF (od t OD.HOST_LINK) (fld 31 24) = rate % 256 ∧ getF (od t OD.HOST_LINK) (fld 23 16) = width % 256))
    ∧ (∀ (s : State) (v : Nat), linkOut s = true →
      completes (.configurationWrite 0 v) s { s with host := { s.host with bar0 := v % 2 ^ 64 / 2 ^ 26 * 2 ^ 26 } }
      ∧ completes (.configurationWrite 1 v) s { s with host := { s.host with bar2 := v % 2 ^ 64 / 2 ^ 32 * 2 ^ 32 } }
      ∧ (let t := msixFlush { s with host := { s.host with msixCtl := setFs 2047 [(fld 15 15, v / 2 ^ 15), (fld 14 14, v / 2 ^ 14)] } }
        completes (.configurationWrite 2 v) s t ∧ bitOf t.host.msixCtl 15 = bitOf v 15 ∧ bitOf t.host.msixCtl 14 = bitOf v 14
        ∧ getF t.host.msixCtl (fld 10 0) = 2047)
      ∧ (v % 4 = 0 ∨ v % 4 = 3 → let t := odSet s OD.HOST_LINK (setF (od s OD.HOST_LINK) (fld 14 13) v)
        completes (.configurationWrite 3 v) s { t with host := { t.host with pm := v % 4 } })
      ∧ (v % 4 = 1 ∨ v % 4 = 2 → completes (.configurationWrite 3 v) s s)
      ∧ (let t := msixFlush { s with host := { s.host with command := v % 8 / 2 * 2 } }
        completes (.configurationWrite 4 v) s t ∧ t.host.command = v % 8 / 2 * 2)
      ∧ (∀ reg, 4 < reg → completes (.configurationWrite reg v) s s)
      ∧ (∀ vector, vector < 2048 → barsOpen s = true →
        let t := msixFlush { s with host := { s.host with msixTable := kputD s.host.msixTable vector (v % 2 ^ 97) (2 ^ 96) } }
        completes (.msiXTableWrite vector v) s t ∧ kget t.host.msixTable vector (2 ^ 96) = v % 2 ^ 97 ∧ ∀ w, w ≠ vector → kget t.host.msixTable w (2 ^ 96) = kget s.host.msixTable w (2 ^ 96))
      ∧ completes (.unsupportedRequest v) s (hostError s 5 v 3))
    ∧ (∀ (s : State) (v k x n : Nat) (data : List Byte), (linkOut s = false → completes (.configurationWrite k v) s s ∧ completes (.unsupportedRequest v) s s
        ∧ completes (.bar2Read v x n) s s ∧ completes (.bar2Write x data) s s)
      ∧ (barsOpen s = false ∨ 2048 ≤ k → completes (.msiXTableWrite k v) s s))
    ∧ (∀ s : State, bitOf s.host.msixCtl 15 = false ∨ bitOf s.host.msixCtl 14 = true ∨ bitOf s.host.command 2 = false → msixFlush s = s)
    ∧ (∀ (s : State) (tag x n : Nat) (data : List Byte), let a := bar2Addr s x
      (linkOut s = true → (barsOpen s = false ∨ 2 ^ 32 < x + n → completes (.bar2Read tag x n) s (hostError s 5 tag 3))
        ∧ (barsOpen s = false ∨ 2 ^ 32 < x + data.length → completes (.bar2Write x data) s s))
      ∧ (barsOpen s = true → (inConfig s = false ∧ inRun s = false) ∨ 2 ^ 42 < a + n → x + n ≤ 2 ^ 32 → completes (.bar2Read tag x n) s (bar2Fail s tag true))
      ∧ (barsOpen s = true → (inConfig s = false ∧ inRun s = false) ∨ 2 ^ 42 < a + data.length → x + data.length ≤ 2 ^ 32 →
        completes (.bar2Write x data) s (bar2Fail s 0 false))
      ∧ (barsOpen s = true → inConfig s = true ∨ inRun s = true → (x + n ≤ 2 ^ 32 → a + n ≤ 2 ^ 42 →
          (bar2Barred a true = true → completes (.bar2Read tag x n) s (bar2Fail s tag true))
          ∧ (bar2Barred a true = false → bar2Closed s a n = true → let t := odAdd s OD.PARTITION_DENIALS 0 1
            completes (.bar2Read tag x n) s { t with out := t.out ++ [⟨2, tag, List.replicate n 0⟩] })
          ∧ (bar2Barred a true = false → bar2Closed s a n = false → completes (.bar2Read tag x n) s (bar2Start s tag a true n [])))
        ∧ (x + data.length ≤ 2 ^ 32 → a + data.length ≤ 2 ^ 42 →
          (bar2Barred a false = true → completes (.bar2Write x data) s (bar2Fail s 0 false))
          ∧ (bar2Barred a false = false → bar2Closed s a data.length = true →
            completes (.bar2Write x data) s (odAdd s OD.PARTITION_DENIALS 0 1))
          ∧ (bar2Barred a false = false → bar2Closed s a data.length = false → completes (.bar2Write x data) s (bar2Start s 0 a false data.length data)))))
end

