-- ==== Sys2Proof/Laws/State.lean ====
section
/-! SUPPORT. What each named update of the state leaves as it was, field by field, so that no proof unfolds a record update. -/

namespace Sys2Proof.Machine

/-! `odPut` changes od. -/
@[simp] theorem odPut_clk (s : State) (e i v : Nat) : (odPut s e i v).clk = s.clk := rfl
@[simp] theorem odPut_freeCtr (s : State) (e i v : Nat) : (odPut s e i v).freeCtr = s.freeCtr := rfl
@[simp] theorem odPut_rings (s : State) (e i v : Nat) : (odPut s e i v).rings = s.rings := rfl
@[simp] theorem odPut_mem (s : State) (e i v : Nat) : (odPut s e i v).mem = s.mem := rfl
@[simp] theorem odPut_acc (s : State) (e i v : Nat) : (odPut s e i v).acc = s.acc := rfl
@[simp] theorem odPut_txq (s : State) (e i v : Nat) : (odPut s e i v).txq = s.txq := rfl
@[simp] theorem odPut_out (s : State) (e i v : Nat) : (odPut s e i v).out = s.out := rfl
@[simp] theorem odPut_frm (s : State) (e i v : Nat) : (odPut s e i v).frm = s.frm := rfl
@[simp] theorem odPut_en (s : State) (e i v : Nat) : (odPut s e i v).en = s.en := rfl
@[simp] theorem odPut_cores (s : State) (e i v : Nat) : (odPut s e i v).cores = s.cores := rfl
@[simp] theorem odPut_mc (s : State) (e i v : Nat) : (odPut s e i v).mc = s.mc := rfl
@[simp] theorem odPut_pool (s : State) (e i v : Nat) : (odPut s e i v).pool = s.pool := rfl
@[simp] theorem odPut_lk (s : State) (e i v : Nat) : (odPut s e i v).lk = s.lk := rfl
@[simp] theorem odPut_ft (s : State) (e i v : Nat) : (odPut s e i v).ft = s.ft := rfl
@[simp] theorem odPut_net (s : State) (e i v : Nat) : (odPut s e i v).net = s.net := rfl
@[simp] theorem odPut_fab (s : State) (e i v : Nat) : (odPut s e i v).fab = s.fab := rfl
@[simp] theorem odPut_dma (s : State) (e i v : Nat) : (odPut s e i v).dma = s.dma := rfl
@[simp] theorem odPut_rows (s : State) (e i v : Nat) : (odPut s e i v).rows = s.rows := rfl
@[simp] theorem odPut_sh (s : State) (e i v : Nat) : (odPut s e i v).sh = s.sh := rfl
@[simp] theorem odPut_dct (s : State) (e i v : Nat) : (odPut s e i v).dct = s.dct := rfl
@[simp] theorem odPut_sec (s : State) (e i v : Nat) : (odPut s e i v).sec = s.sec := rfl
@[simp] theorem odPut_aud (s : State) (e i v : Nat) : (odPut s e i v).aud = s.aud := rfl
@[simp] theorem odPut_host (s : State) (e i v : Nat) : (odPut s e i v).host = s.host := rfl
@[simp] theorem odPut_pending (s : State) (e i v : Nat) : (odPut s e i v).pending = s.pending := rfl

/-! `odAdd` changes od. -/
@[simp] theorem odAdd_clk (s : State) (e i n : Nat) : (odAdd s e i n).clk = s.clk := rfl
@[simp] theorem odAdd_freeCtr (s : State) (e i n : Nat) : (odAdd s e i n).freeCtr = s.freeCtr := rfl
@[simp] theorem odAdd_rings (s : State) (e i n : Nat) : (odAdd s e i n).rings = s.rings := rfl
@[simp] theorem odAdd_mem (s : State) (e i n : Nat) : (odAdd s e i n).mem = s.mem := rfl
@[simp] theorem odAdd_acc (s : State) (e i n : Nat) : (odAdd s e i n).acc = s.acc := rfl
@[simp] theorem odAdd_txq (s : State) (e i n : Nat) : (odAdd s e i n).txq = s.txq := rfl
@[simp] theorem odAdd_out (s : State) (e i n : Nat) : (odAdd s e i n).out = s.out := rfl
@[simp] theorem odAdd_frm (s : State) (e i n : Nat) : (odAdd s e i n).frm = s.frm := rfl
@[simp] theorem odAdd_en (s : State) (e i n : Nat) : (odAdd s e i n).en = s.en := rfl
@[simp] theorem odAdd_cores (s : State) (e i n : Nat) : (odAdd s e i n).cores = s.cores := rfl
@[simp] theorem odAdd_mc (s : State) (e i n : Nat) : (odAdd s e i n).mc = s.mc := rfl
@[simp] theorem odAdd_pool (s : State) (e i n : Nat) : (odAdd s e i n).pool = s.pool := rfl
@[simp] theorem odAdd_lk (s : State) (e i n : Nat) : (odAdd s e i n).lk = s.lk := rfl
@[simp] theorem odAdd_ft (s : State) (e i n : Nat) : (odAdd s e i n).ft = s.ft := rfl
@[simp] theorem odAdd_net (s : State) (e i n : Nat) : (odAdd s e i n).net = s.net := rfl
@[simp] theorem odAdd_fab (s : State) (e i n : Nat) : (odAdd s e i n).fab = s.fab := rfl
@[simp] theorem odAdd_dma (s : State) (e i n : Nat) : (odAdd s e i n).dma = s.dma := rfl
@[simp] theorem odAdd_rows (s : State) (e i n : Nat) : (odAdd s e i n).rows = s.rows := rfl
@[simp] theorem odAdd_sh (s : State) (e i n : Nat) : (odAdd s e i n).sh = s.sh := rfl
@[simp] theorem odAdd_dct (s : State) (e i n : Nat) : (odAdd s e i n).dct = s.dct := rfl
@[simp] theorem odAdd_sec (s : State) (e i n : Nat) : (odAdd s e i n).sec = s.sec := rfl
@[simp] theorem odAdd_aud (s : State) (e i n : Nat) : (odAdd s e i n).aud = s.aud := rfl
@[simp] theorem odAdd_host (s : State) (e i n : Nat) : (odAdd s e i n).host = s.host := rfl
@[simp] theorem odAdd_pending (s : State) (e i n : Nat) : (odAdd s e i n).pending = s.pending := rfl

/-! `odBlock` changes od. -/
@[simp] theorem odBlock_clk (s : State) (e i : Nat) (vs : List Nat) : (odBlock s e i vs).clk = s.clk := rfl
@[simp] theorem odBlock_freeCtr (s : State) (e i : Nat) (vs : List Nat) : (odBlock s e i vs).freeCtr = s.freeCtr := rfl
@[simp] theorem odBlock_rings (s : State) (e i : Nat) (vs : List Nat) : (odBlock s e i vs).rings = s.rings := rfl
@[simp] theorem odBlock_mem (s : State) (e i : Nat) (vs : List Nat) : (odBlock s e i vs).mem = s.mem := rfl
@[simp] theorem odBlock_acc (s : State) (e i : Nat) (vs : List Nat) : (odBlock s e i vs).acc = s.acc := rfl
@[simp] theorem odBlock_txq (s : State) (e i : Nat) (vs : List Nat) : (odBlock s e i vs).txq = s.txq := rfl
@[simp] theorem odBlock_out (s : State) (e i : Nat) (vs : List Nat) : (odBlock s e i vs).out = s.out := rfl
@[simp] theorem odBlock_frm (s : State) (e i : Nat) (vs : List Nat) : (odBlock s e i vs).frm = s.frm := rfl
@[simp] theorem odBlock_en (s : State) (e i : Nat) (vs : List Nat) : (odBlock s e i vs).en = s.en := rfl
@[simp] theorem odBlock_cores (s : State) (e i : Nat) (vs : List Nat) : (odBlock s e i vs).cores = s.cores := rfl
@[simp] theorem odBlock_mc (s : State) (e i : Nat) (vs : List Nat) : (odBlock s e i vs).mc = s.mc := rfl
@[simp] theorem odBlock_pool (s : State) (e i : Nat) (vs : List Nat) : (odBlock s e i vs).pool = s.pool := rfl
@[simp] theorem odBlock_lk (s : State) (e i : Nat) (vs : List Nat) : (odBlock s e i vs).lk = s.lk := rfl
@[simp] theorem odBlock_ft (s : State) (e i : Nat) (vs : List Nat) : (odBlock s e i vs).ft = s.ft := rfl
@[simp] theorem odBlock_net (s : State) (e i : Nat) (vs : List Nat) : (odBlock s e i vs).net = s.net := rfl
@[simp] theorem odBlock_fab (s : State) (e i : Nat) (vs : List Nat) : (odBlock s e i vs).fab = s.fab := rfl
@[simp] theorem odBlock_dma (s : State) (e i : Nat) (vs : List Nat) : (odBlock s e i vs).dma = s.dma := rfl
@[simp] theorem odBlock_rows (s : State) (e i : Nat) (vs : List Nat) : (odBlock s e i vs).rows = s.rows := rfl
@[simp] theorem odBlock_sh (s : State) (e i : Nat) (vs : List Nat) : (odBlock s e i vs).sh = s.sh := rfl
@[simp] theorem odBlock_dct (s : State) (e i : Nat) (vs : List Nat) : (odBlock s e i vs).dct = s.dct := rfl
@[simp] theorem odBlock_sec (s : State) (e i : Nat) (vs : List Nat) : (odBlock s e i vs).sec = s.sec := rfl
@[simp] theorem odBlock_aud (s : State) (e i : Nat) (vs : List Nat) : (odBlock s e i vs).aud = s.aud := rfl
@[simp] theorem odBlock_host (s : State) (e i : Nat) (vs : List Nat) : (odBlock s e i vs).host = s.host := rfl
@[simp] theorem odBlock_pending (s : State) (e i : Nat) (vs : List Nat) : (odBlock s e i vs).pending = s.pending := rfl

/-! `odClear` changes od. -/
@[simp] theorem odClear_clk (s : State) (e : Nat) : (odClear s e).clk = s.clk := rfl
@[simp] theorem odClear_freeCtr (s : State) (e : Nat) : (odClear s e).freeCtr = s.freeCtr := rfl
@[simp] theorem odClear_rings (s : State) (e : Nat) : (odClear s e).rings = s.rings := rfl
@[simp] theorem odClear_mem (s : State) (e : Nat) : (odClear s e).mem = s.mem := rfl
@[simp] theorem odClear_acc (s : State) (e : Nat) : (odClear s e).acc = s.acc := rfl
@[simp] theorem odClear_txq (s : State) (e : Nat) : (odClear s e).txq = s.txq := rfl
@[simp] theorem odClear_out (s : State) (e : Nat) : (odClear s e).out = s.out := rfl
@[simp] theorem odClear_frm (s : State) (e : Nat) : (odClear s e).frm = s.frm := rfl
@[simp] theorem odClear_en (s : State) (e : Nat) : (odClear s e).en = s.en := rfl
@[simp] theorem odClear_cores (s : State) (e : Nat) : (odClear s e).cores = s.cores := rfl
@[simp] theorem odClear_mc (s : State) (e : Nat) : (odClear s e).mc = s.mc := rfl
@[simp] theorem odClear_pool (s : State) (e : Nat) : (odClear s e).pool = s.pool := rfl
@[simp] theorem odClear_lk (s : State) (e : Nat) : (odClear s e).lk = s.lk := rfl
@[simp] theorem odClear_ft (s : State) (e : Nat) : (odClear s e).ft = s.ft := rfl
@[simp] theorem odClear_net (s : State) (e : Nat) : (odClear s e).net = s.net := rfl
@[simp] theorem odClear_fab (s : State) (e : Nat) : (odClear s e).fab = s.fab := rfl
@[simp] theorem odClear_dma (s : State) (e : Nat) : (odClear s e).dma = s.dma := rfl
@[simp] theorem odClear_rows (s : State) (e : Nat) : (odClear s e).rows = s.rows := rfl
@[simp] theorem odClear_sh (s : State) (e : Nat) : (odClear s e).sh = s.sh := rfl
@[simp] theorem odClear_dct (s : State) (e : Nat) : (odClear s e).dct = s.dct := rfl
@[simp] theorem odClear_sec (s : State) (e : Nat) : (odClear s e).sec = s.sec := rfl
@[simp] theorem odClear_aud (s : State) (e : Nat) : (odClear s e).aud = s.aud := rfl
@[simp] theorem odClear_host (s : State) (e : Nat) : (odClear s e).host = s.host := rfl
@[simp] theorem odClear_pending (s : State) (e : Nat) : (odClear s e).pending = s.pending := rfl

/-! `recSet` changes od. -/
@[simp] theorem recSet_clk (s : State) (e i : Nat) (l : List (Fld × Nat)) : (recSet s e i l).clk = s.clk := rfl
@[simp] theorem recSet_freeCtr (s : State) (e i : Nat) (l : List (Fld × Nat)) : (recSet s e i l).freeCtr = s.freeCtr := rfl
@[simp] theorem recSet_rings (s : State) (e i : Nat) (l : List (Fld × Nat)) : (recSet s e i l).rings = s.rings := rfl
@[simp] theorem recSet_mem (s : State) (e i : Nat) (l : List (Fld × Nat)) : (recSet s e i l).mem = s.mem := rfl
@[simp] theorem recSet_acc (s : State) (e i : Nat) (l : List (Fld × Nat)) : (recSet s e i l).acc = s.acc := rfl
@[simp] theorem recSet_txq (s : State) (e i : Nat) (l : List (Fld × Nat)) : (recSet s e i l).txq = s.txq := rfl
@[simp] theorem recSet_out (s : State) (e i : Nat) (l : List (Fld × Nat)) : (recSet s e i l).out = s.out := rfl
@[simp] theorem recSet_frm (s : State) (e i : Nat) (l : List (Fld × Nat)) : (recSet s e i l).frm = s.frm := rfl
@[simp] theorem recSet_en (s : State) (e i : Nat) (l : List (Fld × Nat)) : (recSet s e i l).en = s.en := rfl
@[simp] theorem recSet_cores (s : State) (e i : Nat) (l : List (Fld × Nat)) : (recSet s e i l).cores = s.cores := rfl
@[simp] theorem recSet_mc (s : State) (e i : Nat) (l : List (Fld × Nat)) : (recSet s e i l).mc = s.mc := rfl
@[simp] theorem recSet_pool (s : State) (e i : Nat) (l : List (Fld × Nat)) : (recSet s e i l).pool = s.pool := rfl
@[simp] theorem recSet_lk (s : State) (e i : Nat) (l : List (Fld × Nat)) : (recSet s e i l).lk = s.lk := rfl
@[simp] theorem recSet_ft (s : State) (e i : Nat) (l : List (Fld × Nat)) : (recSet s e i l).ft = s.ft := rfl
@[simp] theorem recSet_net (s : State) (e i : Nat) (l : List (Fld × Nat)) : (recSet s e i l).net = s.net := rfl
@[simp] theorem recSet_fab (s : State) (e i : Nat) (l : List (Fld × Nat)) : (recSet s e i l).fab = s.fab := rfl
@[simp] theorem recSet_dma (s : State) (e i : Nat) (l : List (Fld × Nat)) : (recSet s e i l).dma = s.dma := rfl
@[simp] theorem recSet_rows (s : State) (e i : Nat) (l : List (Fld × Nat)) : (recSet s e i l).rows = s.rows := rfl
@[simp] theorem recSet_sh (s : State) (e i : Nat) (l : List (Fld × Nat)) : (recSet s e i l).sh = s.sh := rfl
@[simp] theorem recSet_dct (s : State) (e i : Nat) (l : List (Fld × Nat)) : (recSet s e i l).dct = s.dct := rfl
@[simp] theorem recSet_sec (s : State) (e i : Nat) (l : List (Fld × Nat)) : (recSet s e i l).sec = s.sec := rfl
@[simp] theorem recSet_aud (s : State) (e i : Nat) (l : List (Fld × Nat)) : (recSet s e i l).aud = s.aud := rfl
@[simp] theorem recSet_host (s : State) (e i : Nat) (l : List (Fld × Nat)) : (recSet s e i l).host = s.host := rfl
@[simp] theorem recSet_pending (s : State) (e i : Nat) (l : List (Fld × Nat)) : (recSet s e i l).pending = s.pending := rfl

/-! `ringPush` changes od, rings. -/
@[simp] theorem ringPush_clk (s : State) (e r : Nat) : (ringPush s e r).clk = s.clk := rfl
@[simp] theorem ringPush_freeCtr (s : State) (e r : Nat) : (ringPush s e r).freeCtr = s.freeCtr := rfl
@[simp] theorem ringPush_mem (s : State) (e r : Nat) : (ringPush s e r).mem = s.mem := rfl
@[simp] theorem ringPush_acc (s : State) (e r : Nat) : (ringPush s e r).acc = s.acc := rfl
@[simp] theorem ringPush_txq (s : State) (e r : Nat) : (ringPush s e r).txq = s.txq := rfl
@[simp] theorem ringPush_out (s : State) (e r : Nat) : (ringPush s e r).out = s.out := rfl
@[simp] theorem ringPush_frm (s : State) (e r : Nat) : (ringPush s e r).frm = s.frm := rfl
@[simp] theorem ringPush_en (s : State) (e r : Nat) : (ringPush s e r).en = s.en := rfl
@[simp] theorem ringPush_cores (s : State) (e r : Nat) : (ringPush s e r).cores = s.cores := rfl
@[simp] theorem ringPush_mc (s : State) (e r : Nat) : (ringPush s e r).mc = s.mc := rfl
@[simp] theorem ringPush_pool (s : State) (e r : Nat) : (ringPush s e r).pool = s.pool := rfl
@[simp] theorem ringPush_lk (s : State) (e r : Nat) : (ringPush s e r).lk = s.lk := rfl
@[simp] theorem ringPush_ft (s : State) (e r : Nat) : (ringPush s e r).ft = s.ft := rfl
@[simp] theorem ringPush_net (s : State) (e r : Nat) : (ringPush s e r).net = s.net := rfl
@[simp] theorem ringPush_fab (s : State) (e r : Nat) : (ringPush s e r).fab = s.fab := rfl
@[simp] theorem ringPush_dma (s : State) (e r : Nat) : (ringPush s e r).dma = s.dma := rfl
@[simp] theorem ringPush_rows (s : State) (e r : Nat) : (ringPush s e r).rows = s.rows := rfl
@[simp] theorem ringPush_sh (s : State) (e r : Nat) : (ringPush s e r).sh = s.sh := rfl
@[simp] theorem ringPush_dct (s : State) (e r : Nat) : (ringPush s e r).dct = s.dct := rfl
@[simp] theorem ringPush_sec (s : State) (e r : Nat) : (ringPush s e r).sec = s.sec := rfl
@[simp] theorem ringPush_aud (s : State) (e r : Nat) : (ringPush s e r).aud = s.aud := rfl
@[simp] theorem ringPush_host (s : State) (e r : Nat) : (ringPush s e r).host = s.host := rfl
@[simp] theorem ringPush_pending (s : State) (e r : Nat) : (ringPush s e r).pending = s.pending := rfl

/-! `memSet` changes mem. -/
@[simp] theorem memSet_clk (s : State) (a : Nat) (b : Byte) : (memSet s a b).clk = s.clk := rfl
@[simp] theorem memSet_freeCtr (s : State) (a : Nat) (b : Byte) : (memSet s a b).freeCtr = s.freeCtr := rfl
@[simp] theorem memSet_od (s : State) (a : Nat) (b : Byte) : (memSet s a b).od = s.od := rfl
@[simp] theorem memSet_rings (s : State) (a : Nat) (b : Byte) : (memSet s a b).rings = s.rings := rfl
@[simp] theorem memSet_acc (s : State) (a : Nat) (b : Byte) : (memSet s a b).acc = s.acc := rfl
@[simp] theorem memSet_txq (s : State) (a : Nat) (b : Byte) : (memSet s a b).txq = s.txq := rfl
@[simp] theorem memSet_out (s : State) (a : Nat) (b : Byte) : (memSet s a b).out = s.out := rfl
@[simp] theorem memSet_frm (s : State) (a : Nat) (b : Byte) : (memSet s a b).frm = s.frm := rfl
@[simp] theorem memSet_en (s : State) (a : Nat) (b : Byte) : (memSet s a b).en = s.en := rfl
@[simp] theorem memSet_cores (s : State) (a : Nat) (b : Byte) : (memSet s a b).cores = s.cores := rfl
@[simp] theorem memSet_mc (s : State) (a : Nat) (b : Byte) : (memSet s a b).mc = s.mc := rfl
@[simp] theorem memSet_pool (s : State) (a : Nat) (b : Byte) : (memSet s a b).pool = s.pool := rfl
@[simp] theorem memSet_lk (s : State) (a : Nat) (b : Byte) : (memSet s a b).lk = s.lk := rfl
@[simp] theorem memSet_ft (s : State) (a : Nat) (b : Byte) : (memSet s a b).ft = s.ft := rfl
@[simp] theorem memSet_net (s : State) (a : Nat) (b : Byte) : (memSet s a b).net = s.net := rfl
@[simp] theorem memSet_fab (s : State) (a : Nat) (b : Byte) : (memSet s a b).fab = s.fab := rfl
@[simp] theorem memSet_dma (s : State) (a : Nat) (b : Byte) : (memSet s a b).dma = s.dma := rfl
@[simp] theorem memSet_rows (s : State) (a : Nat) (b : Byte) : (memSet s a b).rows = s.rows := rfl
@[simp] theorem memSet_sh (s : State) (a : Nat) (b : Byte) : (memSet s a b).sh = s.sh := rfl
@[simp] theorem memSet_dct (s : State) (a : Nat) (b : Byte) : (memSet s a b).dct = s.dct := rfl
@[simp] theorem memSet_sec (s : State) (a : Nat) (b : Byte) : (memSet s a b).sec = s.sec := rfl
@[simp] theorem memSet_aud (s : State) (a : Nat) (b : Byte) : (memSet s a b).aud = s.aud := rfl
@[simp] theorem memSet_host (s : State) (a : Nat) (b : Byte) : (memSet s a b).host = s.host := rfl
@[simp] theorem memSet_pending (s : State) (a : Nat) (b : Byte) : (memSet s a b).pending = s.pending := rfl

/-! `memWrite` changes mem. -/
@[simp] theorem memWrite_clk (s : State) (a : Nat) (bs : List Byte) : (memWrite s a bs).clk = s.clk := rfl
@[simp] theorem memWrite_freeCtr (s : State) (a : Nat) (bs : List Byte) : (memWrite s a bs).freeCtr = s.freeCtr := rfl
@[simp] theorem memWrite_od (s : State) (a : Nat) (bs : List Byte) : (memWrite s a bs).od = s.od := rfl
@[simp] theorem memWrite_rings (s : State) (a : Nat) (bs : List Byte) : (memWrite s a bs).rings = s.rings := rfl
@[simp] theorem memWrite_acc (s : State) (a : Nat) (bs : List Byte) : (memWrite s a bs).acc = s.acc := rfl
@[simp] theorem memWrite_txq (s : State) (a : Nat) (bs : List Byte) : (memWrite s a bs).txq = s.txq := rfl
@[simp] theorem memWrite_out (s : State) (a : Nat) (bs : List Byte) : (memWrite s a bs).out = s.out := rfl
@[simp] theorem memWrite_frm (s : State) (a : Nat) (bs : List Byte) : (memWrite s a bs).frm = s.frm := rfl
@[simp] theorem memWrite_en (s : State) (a : Nat) (bs : List Byte) : (memWrite s a bs).en = s.en := rfl
@[simp] theorem memWrite_cores (s : State) (a : Nat) (bs : List Byte) : (memWrite s a bs).cores = s.cores := rfl
@[simp] theorem memWrite_mc (s : State) (a : Nat) (bs : List Byte) : (memWrite s a bs).mc = s.mc := rfl
@[simp] theorem memWrite_pool (s : State) (a : Nat) (bs : List Byte) : (memWrite s a bs).pool = s.pool := rfl
@[simp] theorem memWrite_lk (s : State) (a : Nat) (bs : List Byte) : (memWrite s a bs).lk = s.lk := rfl
@[simp] theorem memWrite_ft (s : State) (a : Nat) (bs : List Byte) : (memWrite s a bs).ft = s.ft := rfl
@[simp] theorem memWrite_net (s : State) (a : Nat) (bs : List Byte) : (memWrite s a bs).net = s.net := rfl
@[simp] theorem memWrite_fab (s : State) (a : Nat) (bs : List Byte) : (memWrite s a bs).fab = s.fab := rfl
@[simp] theorem memWrite_dma (s : State) (a : Nat) (bs : List Byte) : (memWrite s a bs).dma = s.dma := rfl
@[simp] theorem memWrite_rows (s : State) (a : Nat) (bs : List Byte) : (memWrite s a bs).rows = s.rows := rfl
@[simp] theorem memWrite_sh (s : State) (a : Nat) (bs : List Byte) : (memWrite s a bs).sh = s.sh := rfl
@[simp] theorem memWrite_dct (s : State) (a : Nat) (bs : List Byte) : (memWrite s a bs).dct = s.dct := rfl
@[simp] theorem memWrite_sec (s : State) (a : Nat) (bs : List Byte) : (memWrite s a bs).sec = s.sec := rfl
@[simp] theorem memWrite_aud (s : State) (a : Nat) (bs : List Byte) : (memWrite s a bs).aud = s.aud := rfl
@[simp] theorem memWrite_host (s : State) (a : Nat) (bs : List Byte) : (memWrite s a bs).host = s.host := rfl
@[simp] theorem memWrite_pending (s : State) (a : Nat) (bs : List Byte) : (memWrite s a bs).pending = s.pending := rfl

/-! `memPut` changes mem. -/
@[simp] theorem memPut_clk (s : State) (a n v : Nat) : (memPut s a n v).clk = s.clk := rfl
@[simp] theorem memPut_freeCtr (s : State) (a n v : Nat) : (memPut s a n v).freeCtr = s.freeCtr := rfl
@[simp] theorem memPut_od (s : State) (a n v : Nat) : (memPut s a n v).od = s.od := rfl
@[simp] theorem memPut_rings (s : State) (a n v : Nat) : (memPut s a n v).rings = s.rings := rfl
@[simp] theorem memPut_acc (s : State) (a n v : Nat) : (memPut s a n v).acc = s.acc := rfl
@[simp] theorem memPut_txq (s : State) (a n v : Nat) : (memPut s a n v).txq = s.txq := rfl
@[simp] theorem memPut_out (s : State) (a n v : Nat) : (memPut s a n v).out = s.out := rfl
@[simp] theorem memPut_frm (s : State) (a n v : Nat) : (memPut s a n v).frm = s.frm := rfl
@[simp] theorem memPut_en (s : State) (a n v : Nat) : (memPut s a n v).en = s.en := rfl
@[simp] theorem memPut_cores (s : State) (a n v : Nat) : (memPut s a n v).cores = s.cores := rfl
@[simp] theorem memPut_mc (s : State) (a n v : Nat) : (memPut s a n v).mc = s.mc := rfl
@[simp] theorem memPut_pool (s : State) (a n v : Nat) : (memPut s a n v).pool = s.pool := rfl
@[simp] theorem memPut_lk (s : State) (a n v : Nat) : (memPut s a n v).lk = s.lk := rfl
@[simp] theorem memPut_ft (s : State) (a n v : Nat) : (memPut s a n v).ft = s.ft := rfl
@[simp] theorem memPut_net (s : State) (a n v : Nat) : (memPut s a n v).net = s.net := rfl
@[simp] theorem memPut_fab (s : State) (a n v : Nat) : (memPut s a n v).fab = s.fab := rfl
@[simp] theorem memPut_dma (s : State) (a n v : Nat) : (memPut s a n v).dma = s.dma := rfl
@[simp] theorem memPut_rows (s : State) (a n v : Nat) : (memPut s a n v).rows = s.rows := rfl
@[simp] theorem memPut_sh (s : State) (a n v : Nat) : (memPut s a n v).sh = s.sh := rfl
@[simp] theorem memPut_dct (s : State) (a n v : Nat) : (memPut s a n v).dct = s.dct := rfl
@[simp] theorem memPut_sec (s : State) (a n v : Nat) : (memPut s a n v).sec = s.sec := rfl
@[simp] theorem memPut_aud (s : State) (a n v : Nat) : (memPut s a n v).aud = s.aud := rfl
@[simp] theorem memPut_host (s : State) (a n v : Nat) : (memPut s a n v).host = s.host := rfl
@[simp] theorem memPut_pending (s : State) (a n v : Nat) : (memPut s a n v).pending = s.pending := rfl

/-! `memZero` changes mem. -/
@[simp] theorem memZero_clk (s : State) (a n : Nat) : (memZero s a n).clk = s.clk := rfl
@[simp] theorem memZero_freeCtr (s : State) (a n : Nat) : (memZero s a n).freeCtr = s.freeCtr := rfl
@[simp] theorem memZero_od (s : State) (a n : Nat) : (memZero s a n).od = s.od := rfl
@[simp] theorem memZero_rings (s : State) (a n : Nat) : (memZero s a n).rings = s.rings := rfl
@[simp] theorem memZero_acc (s : State) (a n : Nat) : (memZero s a n).acc = s.acc := rfl
@[simp] theorem memZero_txq (s : State) (a n : Nat) : (memZero s a n).txq = s.txq := rfl
@[simp] theorem memZero_out (s : State) (a n : Nat) : (memZero s a n).out = s.out := rfl
@[simp] theorem memZero_frm (s : State) (a n : Nat) : (memZero s a n).frm = s.frm := rfl
@[simp] theorem memZero_en (s : State) (a n : Nat) : (memZero s a n).en = s.en := rfl
@[simp] theorem memZero_cores (s : State) (a n : Nat) : (memZero s a n).cores = s.cores := rfl
@[simp] theorem memZero_mc (s : State) (a n : Nat) : (memZero s a n).mc = s.mc := rfl
@[simp] theorem memZero_pool (s : State) (a n : Nat) : (memZero s a n).pool = s.pool := rfl
@[simp] theorem memZero_lk (s : State) (a n : Nat) : (memZero s a n).lk = s.lk := rfl
@[simp] theorem memZero_ft (s : State) (a n : Nat) : (memZero s a n).ft = s.ft := rfl
@[simp] theorem memZero_net (s : State) (a n : Nat) : (memZero s a n).net = s.net := rfl
@[simp] theorem memZero_fab (s : State) (a n : Nat) : (memZero s a n).fab = s.fab := rfl
@[simp] theorem memZero_dma (s : State) (a n : Nat) : (memZero s a n).dma = s.dma := rfl
@[simp] theorem memZero_rows (s : State) (a n : Nat) : (memZero s a n).rows = s.rows := rfl
@[simp] theorem memZero_sh (s : State) (a n : Nat) : (memZero s a n).sh = s.sh := rfl
@[simp] theorem memZero_dct (s : State) (a n : Nat) : (memZero s a n).dct = s.dct := rfl
@[simp] theorem memZero_sec (s : State) (a n : Nat) : (memZero s a n).sec = s.sec := rfl
@[simp] theorem memZero_aud (s : State) (a n : Nat) : (memZero s a n).aud = s.aud := rfl
@[simp] theorem memZero_host (s : State) (a n : Nat) : (memZero s a n).host = s.host := rfl
@[simp] theorem memZero_pending (s : State) (a n : Nat) : (memZero s a n).pending = s.pending := rfl

/-! `send` changes txq. -/
@[simp] theorem send_clk (s : State) (m : Msg) : (send s m).clk = s.clk := rfl
@[simp] theorem send_freeCtr (s : State) (m : Msg) : (send s m).freeCtr = s.freeCtr := rfl
@[simp] theorem send_od (s : State) (m : Msg) : (send s m).od = s.od := rfl
@[simp] theorem send_rings (s : State) (m : Msg) : (send s m).rings = s.rings := rfl
@[simp] theorem send_mem (s : State) (m : Msg) : (send s m).mem = s.mem := rfl
@[simp] theorem send_acc (s : State) (m : Msg) : (send s m).acc = s.acc := rfl
@[simp] theorem send_out (s : State) (m : Msg) : (send s m).out = s.out := rfl
@[simp] theorem send_frm (s : State) (m : Msg) : (send s m).frm = s.frm := rfl
@[simp] theorem send_en (s : State) (m : Msg) : (send s m).en = s.en := rfl
@[simp] theorem send_cores (s : State) (m : Msg) : (send s m).cores = s.cores := rfl
@[simp] theorem send_mc (s : State) (m : Msg) : (send s m).mc = s.mc := rfl
@[simp] theorem send_pool (s : State) (m : Msg) : (send s m).pool = s.pool := rfl
@[simp] theorem send_lk (s : State) (m : Msg) : (send s m).lk = s.lk := rfl
@[simp] theorem send_ft (s : State) (m : Msg) : (send s m).ft = s.ft := rfl
@[simp] theorem send_net (s : State) (m : Msg) : (send s m).net = s.net := rfl
@[simp] theorem send_fab (s : State) (m : Msg) : (send s m).fab = s.fab := rfl
@[simp] theorem send_dma (s : State) (m : Msg) : (send s m).dma = s.dma := rfl
@[simp] theorem send_rows (s : State) (m : Msg) : (send s m).rows = s.rows := rfl
@[simp] theorem send_sh (s : State) (m : Msg) : (send s m).sh = s.sh := rfl
@[simp] theorem send_dct (s : State) (m : Msg) : (send s m).dct = s.dct := rfl
@[simp] theorem send_sec (s : State) (m : Msg) : (send s m).sec = s.sec := rfl
@[simp] theorem send_aud (s : State) (m : Msg) : (send s m).aud = s.aud := rfl
@[simp] theorem send_host (s : State) (m : Msg) : (send s m).host = s.host := rfl
@[simp] theorem send_pending (s : State) (m : Msg) : (send s m).pending = s.pending := rfl

/-! `sendMgmt` changes txq. -/
@[simp] theorem sendMgmt_clk (s : State) (k d f : Nat) (p : List Byte) : (sendMgmt s k d f p).clk = s.clk := rfl
@[simp] theorem sendMgmt_freeCtr (s : State) (k d f : Nat) (p : List Byte) : (sendMgmt s k d f p).freeCtr = s.freeCtr := rfl
@[simp] theorem sendMgmt_od (s : State) (k d f : Nat) (p : List Byte) : (sendMgmt s k d f p).od = s.od := rfl
@[simp] theorem sendMgmt_rings (s : State) (k d f : Nat) (p : List Byte) : (sendMgmt s k d f p).rings = s.rings := rfl
@[simp] theorem sendMgmt_mem (s : State) (k d f : Nat) (p : List Byte) : (sendMgmt s k d f p).mem = s.mem := rfl
@[simp] theorem sendMgmt_acc (s : State) (k d f : Nat) (p : List Byte) : (sendMgmt s k d f p).acc = s.acc := rfl
@[simp] theorem sendMgmt_out (s : State) (k d f : Nat) (p : List Byte) : (sendMgmt s k d f p).out = s.out := rfl
@[simp] theorem sendMgmt_frm (s : State) (k d f : Nat) (p : List Byte) : (sendMgmt s k d f p).frm = s.frm := rfl
@[simp] theorem sendMgmt_en (s : State) (k d f : Nat) (p : List Byte) : (sendMgmt s k d f p).en = s.en := rfl
@[simp] theorem sendMgmt_cores (s : State) (k d f : Nat) (p : List Byte) : (sendMgmt s k d f p).cores = s.cores := rfl
@[simp] theorem sendMgmt_mc (s : State) (k d f : Nat) (p : List Byte) : (sendMgmt s k d f p).mc = s.mc := rfl
@[simp] theorem sendMgmt_pool (s : State) (k d f : Nat) (p : List Byte) : (sendMgmt s k d f p).pool = s.pool := rfl
@[simp] theorem sendMgmt_lk (s : State) (k d f : Nat) (p : List Byte) : (sendMgmt s k d f p).lk = s.lk := rfl
@[simp] theorem sendMgmt_ft (s : State) (k d f : Nat) (p : List Byte) : (sendMgmt s k d f p).ft = s.ft := rfl
@[simp] theorem sendMgmt_net (s : State) (k d f : Nat) (p : List Byte) : (sendMgmt s k d f p).net = s.net := rfl
@[simp] theorem sendMgmt_fab (s : State) (k d f : Nat) (p : List Byte) : (sendMgmt s k d f p).fab = s.fab := rfl
@[simp] theorem sendMgmt_dma (s : State) (k d f : Nat) (p : List Byte) : (sendMgmt s k d f p).dma = s.dma := rfl
@[simp] theorem sendMgmt_rows (s : State) (k d f : Nat) (p : List Byte) : (sendMgmt s k d f p).rows = s.rows := rfl
@[simp] theorem sendMgmt_sh (s : State) (k d f : Nat) (p : List Byte) : (sendMgmt s k d f p).sh = s.sh := rfl
@[simp] theorem sendMgmt_dct (s : State) (k d f : Nat) (p : List Byte) : (sendMgmt s k d f p).dct = s.dct := rfl
@[simp] theorem sendMgmt_sec (s : State) (k d f : Nat) (p : List Byte) : (sendMgmt s k d f p).sec = s.sec := rfl
@[simp] theorem sendMgmt_aud (s : State) (k d f : Nat) (p : List Byte) : (sendMgmt s k d f p).aud = s.aud := rfl
@[simp] theorem sendMgmt_host (s : State) (k d f : Nat) (p : List Byte) : (sendMgmt s k d f p).host = s.host := rfl
@[simp] theorem sendMgmt_pending (s : State) (k d f : Nat) (p : List Byte) : (sendMgmt s k d f p).pending = s.pending := rfl

/-! `msixSend` changes out. -/
@[simp] theorem msixSend_clk (s : State) (v : Nat) : (msixSend s v).clk = s.clk := rfl
@[simp] theorem msixSend_freeCtr (s : State) (v : Nat) : (msixSend s v).freeCtr = s.freeCtr := rfl
@[simp] theorem msixSend_od (s : State) (v : Nat) : (msixSend s v).od = s.od := rfl
@[simp] theorem msixSend_rings (s : State) (v : Nat) : (msixSend s v).rings = s.rings := rfl
@[simp] theorem msixSend_mem (s : State) (v : Nat) : (msixSend s v).mem = s.mem := rfl
@[simp] theorem msixSend_acc (s : State) (v : Nat) : (msixSend s v).acc = s.acc := rfl
@[simp] theorem msixSend_txq (s : State) (v : Nat) : (msixSend s v).txq = s.txq := rfl
@[simp] theorem msixSend_frm (s : State) (v : Nat) : (msixSend s v).frm = s.frm := rfl
@[simp] theorem msixSend_en (s : State) (v : Nat) : (msixSend s v).en = s.en := rfl
@[simp] theorem msixSend_cores (s : State) (v : Nat) : (msixSend s v).cores = s.cores := rfl
@[simp] theorem msixSend_mc (s : State) (v : Nat) : (msixSend s v).mc = s.mc := rfl
@[simp] theorem msixSend_pool (s : State) (v : Nat) : (msixSend s v).pool = s.pool := rfl
@[simp] theorem msixSend_lk (s : State) (v : Nat) : (msixSend s v).lk = s.lk := rfl
@[simp] theorem msixSend_ft (s : State) (v : Nat) : (msixSend s v).ft = s.ft := rfl
@[simp] theorem msixSend_net (s : State) (v : Nat) : (msixSend s v).net = s.net := rfl
@[simp] theorem msixSend_fab (s : State) (v : Nat) : (msixSend s v).fab = s.fab := rfl
@[simp] theorem msixSend_dma (s : State) (v : Nat) : (msixSend s v).dma = s.dma := rfl
@[simp] theorem msixSend_rows (s : State) (v : Nat) : (msixSend s v).rows = s.rows := rfl
@[simp] theorem msixSend_sh (s : State) (v : Nat) : (msixSend s v).sh = s.sh := rfl
@[simp] theorem msixSend_dct (s : State) (v : Nat) : (msixSend s v).dct = s.dct := rfl
@[simp] theorem msixSend_sec (s : State) (v : Nat) : (msixSend s v).sec = s.sec := rfl
@[simp] theorem msixSend_aud (s : State) (v : Nat) : (msixSend s v).aud = s.aud := rfl
@[simp] theorem msixSend_host (s : State) (v : Nat) : (msixSend s v).host = s.host := rfl
@[simp] theorem msixSend_pending (s : State) (v : Nat) : (msixSend s v).pending = s.pending := rfl

/-! `takeFree` changes freeCtr. -/
@[simp] theorem takeFree_clk (s : State) : ((takeFree s).2).clk = s.clk := rfl
@[simp] theorem takeFree_od (s : State) : ((takeFree s).2).od = s.od := rfl
@[simp] theorem takeFree_rings (s : State) : ((takeFree s).2).rings = s.rings := rfl
@[simp] theorem takeFree_mem (s : State) : ((takeFree s).2).mem = s.mem := rfl
@[simp] theorem takeFree_acc (s : State) : ((takeFree s).2).acc = s.acc := rfl
@[simp] theorem takeFree_txq (s : State) : ((takeFree s).2).txq = s.txq := rfl
@[simp] theorem takeFree_out (s : State) : ((takeFree s).2).out = s.out := rfl
@[simp] theorem takeFree_frm (s : State) : ((takeFree s).2).frm = s.frm := rfl
@[simp] theorem takeFree_en (s : State) : ((takeFree s).2).en = s.en := rfl
@[simp] theorem takeFree_cores (s : State) : ((takeFree s).2).cores = s.cores := rfl
@[simp] theorem takeFree_mc (s : State) : ((takeFree s).2).mc = s.mc := rfl
@[simp] theorem takeFree_pool (s : State) : ((takeFree s).2).pool = s.pool := rfl
@[simp] theorem takeFree_lk (s : State) : ((takeFree s).2).lk = s.lk := rfl
@[simp] theorem takeFree_ft (s : State) : ((takeFree s).2).ft = s.ft := rfl
@[simp] theorem takeFree_net (s : State) : ((takeFree s).2).net = s.net := rfl
@[simp] theorem takeFree_fab (s : State) : ((takeFree s).2).fab = s.fab := rfl
@[simp] theorem takeFree_dma (s : State) : ((takeFree s).2).dma = s.dma := rfl
@[simp] theorem takeFree_rows (s : State) : ((takeFree s).2).rows = s.rows := rfl
@[simp] theorem takeFree_sh (s : State) : ((takeFree s).2).sh = s.sh := rfl
@[simp] theorem takeFree_dct (s : State) : ((takeFree s).2).dct = s.dct := rfl
@[simp] theorem takeFree_sec (s : State) : ((takeFree s).2).sec = s.sec := rfl
@[simp] theorem takeFree_aud (s : State) : ((takeFree s).2).aud = s.aud := rfl
@[simp] theorem takeFree_host (s : State) : ((takeFree s).2).host = s.host := rfl
@[simp] theorem takeFree_pending (s : State) : ((takeFree s).2).pending = s.pending := rfl

/-! `takeBytes` changes freeCtr. -/
@[simp] theorem takeBytes_clk (s : State) (n : Nat) : ((takeBytes s n).2).clk = s.clk := rfl
@[simp] theorem takeBytes_od (s : State) (n : Nat) : ((takeBytes s n).2).od = s.od := rfl
@[simp] theorem takeBytes_rings (s : State) (n : Nat) : ((takeBytes s n).2).rings = s.rings := rfl
@[simp] theorem takeBytes_mem (s : State) (n : Nat) : ((takeBytes s n).2).mem = s.mem := rfl
@[simp] theorem takeBytes_acc (s : State) (n : Nat) : ((takeBytes s n).2).acc = s.acc := rfl
@[simp] theorem takeBytes_txq (s : State) (n : Nat) : ((takeBytes s n).2).txq = s.txq := rfl
@[simp] theorem takeBytes_out (s : State) (n : Nat) : ((takeBytes s n).2).out = s.out := rfl
@[simp] theorem takeBytes_frm (s : State) (n : Nat) : ((takeBytes s n).2).frm = s.frm := rfl
@[simp] theorem takeBytes_en (s : State) (n : Nat) : ((takeBytes s n).2).en = s.en := rfl
@[simp] theorem takeBytes_cores (s : State) (n : Nat) : ((takeBytes s n).2).cores = s.cores := rfl
@[simp] theorem takeBytes_mc (s : State) (n : Nat) : ((takeBytes s n).2).mc = s.mc := rfl
@[simp] theorem takeBytes_pool (s : State) (n : Nat) : ((takeBytes s n).2).pool = s.pool := rfl
@[simp] theorem takeBytes_lk (s : State) (n : Nat) : ((takeBytes s n).2).lk = s.lk := rfl
@[simp] theorem takeBytes_ft (s : State) (n : Nat) : ((takeBytes s n).2).ft = s.ft := rfl
@[simp] theorem takeBytes_net (s : State) (n : Nat) : ((takeBytes s n).2).net = s.net := rfl
@[simp] theorem takeBytes_fab (s : State) (n : Nat) : ((takeBytes s n).2).fab = s.fab := rfl
@[simp] theorem takeBytes_dma (s : State) (n : Nat) : ((takeBytes s n).2).dma = s.dma := rfl
@[simp] theorem takeBytes_rows (s : State) (n : Nat) : ((takeBytes s n).2).rows = s.rows := rfl
@[simp] theorem takeBytes_sh (s : State) (n : Nat) : ((takeBytes s n).2).sh = s.sh := rfl
@[simp] theorem takeBytes_dct (s : State) (n : Nat) : ((takeBytes s n).2).dct = s.dct := rfl
@[simp] theorem takeBytes_sec (s : State) (n : Nat) : ((takeBytes s n).2).sec = s.sec := rfl
@[simp] theorem takeBytes_aud (s : State) (n : Nat) : ((takeBytes s n).2).aud = s.aud := rfl
@[simp] theorem takeBytes_host (s : State) (n : Nat) : ((takeBytes s n).2).host = s.host := rfl
@[simp] theorem takeBytes_pending (s : State) (n : Nat) : ((takeBytes s n).2).pending = s.pending := rfl

/-! `setCore` changes cores. -/
@[simp] theorem setCore_clk (s : State) (c : Nat) (cs : CoreSt) : (setCore s c cs).clk = s.clk := rfl
@[simp] theorem setCore_freeCtr (s : State) (c : Nat) (cs : CoreSt) : (setCore s c cs).freeCtr = s.freeCtr := rfl
@[simp] theorem setCore_od (s : State) (c : Nat) (cs : CoreSt) : (setCore s c cs).od = s.od := rfl
@[simp] theorem setCore_rings (s : State) (c : Nat) (cs : CoreSt) : (setCore s c cs).rings = s.rings := rfl
@[simp] theorem setCore_mem (s : State) (c : Nat) (cs : CoreSt) : (setCore s c cs).mem = s.mem := rfl
@[simp] theorem setCore_acc (s : State) (c : Nat) (cs : CoreSt) : (setCore s c cs).acc = s.acc := rfl
@[simp] theorem setCore_txq (s : State) (c : Nat) (cs : CoreSt) : (setCore s c cs).txq = s.txq := rfl
@[simp] theorem setCore_out (s : State) (c : Nat) (cs : CoreSt) : (setCore s c cs).out = s.out := rfl
@[simp] theorem setCore_frm (s : State) (c : Nat) (cs : CoreSt) : (setCore s c cs).frm = s.frm := rfl
@[simp] theorem setCore_en (s : State) (c : Nat) (cs : CoreSt) : (setCore s c cs).en = s.en := rfl
@[simp] theorem setCore_mc (s : State) (c : Nat) (cs : CoreSt) : (setCore s c cs).mc = s.mc := rfl
@[simp] theorem setCore_pool (s : State) (c : Nat) (cs : CoreSt) : (setCore s c cs).pool = s.pool := rfl
@[simp] theorem setCore_lk (s : State) (c : Nat) (cs : CoreSt) : (setCore s c cs).lk = s.lk := rfl
@[simp] theorem setCore_ft (s : State) (c : Nat) (cs : CoreSt) : (setCore s c cs).ft = s.ft := rfl
@[simp] theorem setCore_net (s : State) (c : Nat) (cs : CoreSt) : (setCore s c cs).net = s.net := rfl
@[simp] theorem setCore_fab (s : State) (c : Nat) (cs : CoreSt) : (setCore s c cs).fab = s.fab := rfl
@[simp] theorem setCore_dma (s : State) (c : Nat) (cs : CoreSt) : (setCore s c cs).dma = s.dma := rfl
@[simp] theorem setCore_rows (s : State) (c : Nat) (cs : CoreSt) : (setCore s c cs).rows = s.rows := rfl
@[simp] theorem setCore_sh (s : State) (c : Nat) (cs : CoreSt) : (setCore s c cs).sh = s.sh := rfl
@[simp] theorem setCore_dct (s : State) (c : Nat) (cs : CoreSt) : (setCore s c cs).dct = s.dct := rfl
@[simp] theorem setCore_sec (s : State) (c : Nat) (cs : CoreSt) : (setCore s c cs).sec = s.sec := rfl
@[simp] theorem setCore_aud (s : State) (c : Nat) (cs : CoreSt) : (setCore s c cs).aud = s.aud := rfl
@[simp] theorem setCore_host (s : State) (c : Nat) (cs : CoreSt) : (setCore s c cs).host = s.host := rfl
@[simp] theorem setCore_pending (s : State) (c : Nat) (cs : CoreSt) : (setCore s c cs).pending = s.pending := rfl

/-! `issueStep` changes frm. -/
@[simp] theorem issueStep_clk (s : State) (slot st : Nat) : (issueStep s slot st).clk = s.clk := rfl
@[simp] theorem issueStep_freeCtr (s : State) (slot st : Nat) : (issueStep s slot st).freeCtr = s.freeCtr := rfl
@[simp] theorem issueStep_od (s : State) (slot st : Nat) : (issueStep s slot st).od = s.od := rfl
@[simp] theorem issueStep_rings (s : State) (slot st : Nat) : (issueStep s slot st).rings = s.rings := rfl
@[simp] theorem issueStep_mem (s : State) (slot st : Nat) : (issueStep s slot st).mem = s.mem := rfl
@[simp] theorem issueStep_acc (s : State) (slot st : Nat) : (issueStep s slot st).acc = s.acc := rfl
@[simp] theorem issueStep_txq (s : State) (slot st : Nat) : (issueStep s slot st).txq = s.txq := rfl
@[simp] theorem issueStep_out (s : State) (slot st : Nat) : (issueStep s slot st).out = s.out := rfl
@[simp] theorem issueStep_en (s : State) (slot st : Nat) : (issueStep s slot st).en = s.en := rfl
@[simp] theorem issueStep_cores (s : State) (slot st : Nat) : (issueStep s slot st).cores = s.cores := rfl
@[simp] theorem issueStep_mc (s : State) (slot st : Nat) : (issueStep s slot st).mc = s.mc := rfl
@[simp] theorem issueStep_pool (s : State) (slot st : Nat) : (issueStep s slot st).pool = s.pool := rfl
@[simp] theorem issueStep_lk (s : State) (slot st : Nat) : (issueStep s slot st).lk = s.lk := rfl
@[simp] theorem issueStep_ft (s : State) (slot st : Nat) : (issueStep s slot st).ft = s.ft := rfl
@[simp] theorem issueStep_net (s : State) (slot st : Nat) : (issueStep s slot st).net = s.net := rfl
@[simp] theorem issueStep_fab (s : State) (slot st : Nat) : (issueStep s slot st).fab = s.fab := rfl
@[simp] theorem issueStep_dma (s : State) (slot st : Nat) : (issueStep s slot st).dma = s.dma := rfl
@[simp] theorem issueStep_rows (s : State) (slot st : Nat) : (issueStep s slot st).rows = s.rows := rfl
@[simp] theorem issueStep_sh (s : State) (slot st : Nat) : (issueStep s slot st).sh = s.sh := rfl
@[simp] theorem issueStep_dct (s : State) (slot st : Nat) : (issueStep s slot st).dct = s.dct := rfl
@[simp] theorem issueStep_sec (s : State) (slot st : Nat) : (issueStep s slot st).sec = s.sec := rfl
@[simp] theorem issueStep_aud (s : State) (slot st : Nat) : (issueStep s slot st).aud = s.aud := rfl
@[simp] theorem issueStep_host (s : State) (slot st : Nat) : (issueStep s slot st).host = s.host := rfl
@[simp] theorem issueStep_pending (s : State) (slot st : Nat) : (issueStep s slot st).pending = s.pending := rfl

/-! `setLnk` changes net. -/
@[simp] theorem setLnk_clk (s : State) (l : Nat) (x : LinkSt) : (setLnk s l x).clk = s.clk := rfl
@[simp] theorem setLnk_freeCtr (s : State) (l : Nat) (x : LinkSt) : (setLnk s l x).freeCtr = s.freeCtr := rfl
@[simp] theorem setLnk_od (s : State) (l : Nat) (x : LinkSt) : (setLnk s l x).od = s.od := rfl
@[simp] theorem setLnk_rings (s : State) (l : Nat) (x : LinkSt) : (setLnk s l x).rings = s.rings := rfl
@[simp] theorem setLnk_mem (s : State) (l : Nat) (x : LinkSt) : (setLnk s l x).mem = s.mem := rfl
@[simp] theorem setLnk_acc (s : State) (l : Nat) (x : LinkSt) : (setLnk s l x).acc = s.acc := rfl
@[simp] theorem setLnk_txq (s : State) (l : Nat) (x : LinkSt) : (setLnk s l x).txq = s.txq := rfl
@[simp] theorem setLnk_out (s : State) (l : Nat) (x : LinkSt) : (setLnk s l x).out = s.out := rfl
@[simp] theorem setLnk_frm (s : State) (l : Nat) (x : LinkSt) : (setLnk s l x).frm = s.frm := rfl
@[simp] theorem setLnk_en (s : State) (l : Nat) (x : LinkSt) : (setLnk s l x).en = s.en := rfl
@[simp] theorem setLnk_cores (s : State) (l : Nat) (x : LinkSt) : (setLnk s l x).cores = s.cores := rfl
@[simp] theorem setLnk_mc (s : State) (l : Nat) (x : LinkSt) : (setLnk s l x).mc = s.mc := rfl
@[simp] theorem setLnk_pool (s : State) (l : Nat) (x : LinkSt) : (setLnk s l x).pool = s.pool := rfl
@[simp] theorem setLnk_lk (s : State) (l : Nat) (x : LinkSt) : (setLnk s l x).lk = s.lk := rfl
@[simp] theorem setLnk_ft (s : State) (l : Nat) (x : LinkSt) : (setLnk s l x).ft = s.ft := rfl
@[simp] theorem setLnk_fab (s : State) (l : Nat) (x : LinkSt) : (setLnk s l x).fab = s.fab := rfl
@[simp] theorem setLnk_dma (s : State) (l : Nat) (x : LinkSt) : (setLnk s l x).dma = s.dma := rfl
@[simp] theorem setLnk_rows (s : State) (l : Nat) (x : LinkSt) : (setLnk s l x).rows = s.rows := rfl
@[simp] theorem setLnk_sh (s : State) (l : Nat) (x : LinkSt) : (setLnk s l x).sh = s.sh := rfl
@[simp] theorem setLnk_dct (s : State) (l : Nat) (x : LinkSt) : (setLnk s l x).dct = s.dct := rfl
@[simp] theorem setLnk_sec (s : State) (l : Nat) (x : LinkSt) : (setLnk s l x).sec = s.sec := rfl
@[simp] theorem setLnk_aud (s : State) (l : Nat) (x : LinkSt) : (setLnk s l x).aud = s.aud := rfl
@[simp] theorem setLnk_host (s : State) (l : Nat) (x : LinkSt) : (setLnk s l x).host = s.host := rfl
@[simp] theorem setLnk_pending (s : State) (l : Nat) (x : LinkSt) : (setLnk s l x).pending = s.pending := rfl

/-! `setQpSt` changes net. -/
@[simp] theorem setQpSt_clk (s : State) (q : Nat) (x : QpSt) : (setQpSt s q x).clk = s.clk := rfl
@[simp] theorem setQpSt_freeCtr (s : State) (q : Nat) (x : QpSt) : (setQpSt s q x).freeCtr = s.freeCtr := rfl
@[simp] theorem setQpSt_od (s : State) (q : Nat) (x : QpSt) : (setQpSt s q x).od = s.od := rfl
@[simp] theorem setQpSt_rings (s : State) (q : Nat) (x : QpSt) : (setQpSt s q x).rings = s.rings := rfl
@[simp] theorem setQpSt_mem (s : State) (q : Nat) (x : QpSt) : (setQpSt s q x).mem = s.mem := rfl
@[simp] theorem setQpSt_acc (s : State) (q : Nat) (x : QpSt) : (setQpSt s q x).acc = s.acc := rfl
@[simp] theorem setQpSt_txq (s : State) (q : Nat) (x : QpSt) : (setQpSt s q x).txq = s.txq := rfl
@[simp] theorem setQpSt_out (s : State) (q : Nat) (x : QpSt) : (setQpSt s q x).out = s.out := rfl
@[simp] theorem setQpSt_frm (s : State) (q : Nat) (x : QpSt) : (setQpSt s q x).frm = s.frm := rfl
@[simp] theorem setQpSt_en (s : State) (q : Nat) (x : QpSt) : (setQpSt s q x).en = s.en := rfl
@[simp] theorem setQpSt_cores (s : State) (q : Nat) (x : QpSt) : (setQpSt s q x).cores = s.cores := rfl
@[simp] theorem setQpSt_mc (s : State) (q : Nat) (x : QpSt) : (setQpSt s q x).mc = s.mc := rfl
@[simp] theorem setQpSt_pool (s : State) (q : Nat) (x : QpSt) : (setQpSt s q x).pool = s.pool := rfl
@[simp] theorem setQpSt_lk (s : State) (q : Nat) (x : QpSt) : (setQpSt s q x).lk = s.lk := rfl
@[simp] theorem setQpSt_ft (s : State) (q : Nat) (x : QpSt) : (setQpSt s q x).ft = s.ft := rfl
@[simp] theorem setQpSt_fab (s : State) (q : Nat) (x : QpSt) : (setQpSt s q x).fab = s.fab := rfl
@[simp] theorem setQpSt_dma (s : State) (q : Nat) (x : QpSt) : (setQpSt s q x).dma = s.dma := rfl
@[simp] theorem setQpSt_rows (s : State) (q : Nat) (x : QpSt) : (setQpSt s q x).rows = s.rows := rfl
@[simp] theorem setQpSt_sh (s : State) (q : Nat) (x : QpSt) : (setQpSt s q x).sh = s.sh := rfl
@[simp] theorem setQpSt_dct (s : State) (q : Nat) (x : QpSt) : (setQpSt s q x).dct = s.dct := rfl
@[simp] theorem setQpSt_sec (s : State) (q : Nat) (x : QpSt) : (setQpSt s q x).sec = s.sec := rfl
@[simp] theorem setQpSt_aud (s : State) (q : Nat) (x : QpSt) : (setQpSt s q x).aud = s.aud := rfl
@[simp] theorem setQpSt_host (s : State) (q : Nat) (x : QpSt) : (setQpSt s q x).host = s.host := rfl
@[simp] theorem setQpSt_pending (s : State) (q : Nat) (x : QpSt) : (setQpSt s q x).pending = s.pending := rfl

end Sys2Proof.Machine
end

