-- ==== Sys2Proof/Laws/Store.lean ====
section
/-! SUPPORT. Laws of the keyed stores, of the dictionary store and of the bytes of memory: what is read back after a write, and that every
memory operation keeps the canonical form. -/

namespace Sys2Proof.Machine

theorem kfind_kput_same {α : Type} (m : KMap α) (k : Nat) (v : α) : kfind (kput m k v) k = some v := by
  have h : (m.filter (fun p => decide (p.1 < k))).find? (fun p => p.1 == k) = none := by
    simp only [List.find?_eq_none, List.mem_filter]; rintro ⟨a, b⟩ ⟨_, h⟩; simp at h ⊢; omega
  simp [kfind, kput, List.find?_append, h]

/-- A run of keys at equal distances holds at each of them its own value. -/
theorem kfind_run {α : Type} (k m n : Nat) (f : Nat → α) (hm : 0 < m) (j : Nat) (hj : j < n) :
    kfind ((List.range n).map (fun i => (k + m * i, f i))) (k + m * j) = some (f j) := by
  induction n with
  | zero => omega
  | succ n ih =>
    unfold kfind at ih ⊢
    rw [List.range_succ, List.map_append, List.find?_append]
    by_cases h : j < n
    · obtain ⟨p, hp, hv⟩ := Option.map_eq_some_iff.1 (ih h)
      rw [hp]; exact congrArg some hv
    · have e : j = n := by omega
      subst e
      have : List.find? (fun p => p.1 == k + m * j) ((List.range j).map (fun i => (k + m * i, f i))) = none := by
        rw [List.find?_eq_none]
        intro p hp
        obtain ⟨i, hi, rfl⟩ := List.mem_map.1 hp
        have : m * i ≠ m * j := fun h => Nat.ne_of_lt (List.mem_range.1 hi) (Nat.eq_of_mul_eq_mul_left hm h)
        simp only [beq_iff_eq]; omega
      rw [this]; simp

theorem kfind_filter {α : Type} (m : KMap α) (j : Nat) (p : Nat → Bool) (h : p j = true) :
    (m.filter (fun q => p q.1)).find? (fun q => q.1 == j) = m.find? (fun q => q.1 == j) := by
  rw [List.find?_filter]
  congr 1
  funext q
  by_cases hq : q.1 = j
  · simp [hq, h]
  · simp [hq]

theorem kfind_filter_none {α : Type} (m : KMap α) (j : Nat) (p : Nat → Bool) (h : p j = false) :
    (m.filter (fun q => p q.1)).find? (fun q => q.1 == j) = none := by
  simp only [List.find?_eq_none, List.mem_filter]
  rintro ⟨a, b⟩ ⟨_, h2⟩ h3
  have : a = j := by simpa using h3
  subst this; simp_all

theorem kfind_kput_ne {α : Type} (m : KMap α) (k j : Nat) (v : α) (h : j ≠ k) : kfind (kput m k v) j = kfind m j := by
  have e : (k == j) = false := by simp; omega
  unfold kfind kput
  rw [List.find?_append]
  rcases Nat.lt_or_gt_of_ne h with hl | hl
  · rw [kfind_filter m j (fun x => decide (x < k)) (by simpa using hl)]
    simp only [List.find?_cons, e]
    rw [kfind_filter_none m j (fun x => decide (k < x)) (by simp; omega)]
    simp
  · rw [kfind_filter_none m j (fun x => decide (x < k)) (by simp; omega)]
    simp only [List.find?_cons, e]
    rw [kfind_filter m j (fun x => decide (k < x)) (by simpa using hl)]
    simp

theorem kfind_kdel_same {α : Type} (m : KMap α) (k : Nat) : kfind (kdel m k) k = none := by
  unfold kfind kdel
  rw [kfind_filter_none m k (fun x => x != k) (by simp)]; rfl

theorem kfind_kdel_ne {α : Type} (m : KMap α) (k j : Nat) (h : j ≠ k) : kfind (kdel m k) j = kfind m j := by
  unfold kfind kdel
  rw [kfind_filter m j (fun x => x != k) (by simpa using h)]

theorem kget_kput_same {α : Type} (m : KMap α) (k : Nat) (v d : α) : kget (kput m k v) k d = v := by
  simp [kget, kfind_kput_same]

theorem kget_kput_ne {α : Type} (m : KMap α) (k j : Nat) (v d : α) (h : j ≠ k) : kget (kput m k v) j d = kget m j d := by
  simp [kget, kfind_kput_ne m k j v h]

theorem kget_kputD_same {α : Type} [DecidableEq α] (m : KMap α) (k : Nat) (v d : α) : kget (kputD m k v d) k d = v := by
  unfold kputD; split
  · next h => simp [kget, kfind_kdel_same, h]
  · exact kget_kput_same m k v d

theorem kget_kputD_ne {α : Type} [DecidableEq α] (m : KMap α) (k j : Nat) (v d e : α) (h : j ≠ k) :
    kget (kputD m k v d) j e = kget m j e := by
  unfold kputD; split
  · simp [kget, kfind_kdel_ne m k j h]
  · exact kget_kput_ne m k j v e h

/-- A value of the dictionary read back. -/
@[simp] theorem odGet_odPut_same (s : State) (e i v : Nat) : odGet (odPut s e i v) e i = v := by
  simp [odGet, odPut, kget_kputD_same]

/-- A value of the dictionary at another key is as it was. -/
theorem odGet_odPut_ne (s : State) (e i v e' i' : Nat) (h : odKey e' i' ≠ odKey e i) :
    odGet (odPut s e i v) e' i' = odGet s e' i' := by
  simp [odGet, odPut, kget_kputD_ne _ _ _ _ _ _ h]

/-- Elements of an entry have keys of their own. -/
theorem odKey_elem (e i j : Nat) (h : i ≠ j) : odKey e i ≠ odKey e j := by unfold odKey; omega

/-- So have entries, for elements below 2^24. -/
theorem odKey_entry (e e' i j : Nat) (h : e ≠ e') (hi : i < 2 ^ 24) (hj : j < 2 ^ 24) : odKey e i ≠ odKey e' j := by
  unfold odKey; omega

/-! Memory. -/

theorem memByte_memSet_same (s : State) (a : Nat) (b : Byte) : memByte (memSet s a b) a = b := by
  simp [memByte, memSet, cellsSet, kget_kputD_same]

theorem memByte_memSet_ne (s : State) (a c : Nat) (b : Byte) (h : c ≠ a) : memByte (memSet s a b) c = memByte s c := by
  simp [memByte, memSet, cellsSet, kget_kputD_ne _ _ _ _ _ _ h]

/-- Every key of a list is below `k`, or above. -/
theorem kwf_cons {α : Type} (p : Nat × α) (t : KMap α) : kwf (p :: t) = true ↔ (∀ q ∈ t, p.1 < q.1) ∧ kwf t = true := by
  induction t generalizing p with
  | nil => simp [kwf]
  | cons a u ih =>
    simp only [kwf, Bool.and_eq_true, decide_eq_true_eq, List.mem_cons, forall_eq_or_imp]
    constructor
    · rintro ⟨h1, h2⟩
      exact ⟨⟨h1, fun q hq => lt_trans h1 (((ih a).1 h2).1 q hq)⟩, h2⟩
    · rintro ⟨⟨h1, _⟩, h2⟩; exact ⟨h1, h2⟩

theorem kwf_iff {α : Type} (m : KMap α) : kwf m = true ↔ m.Pairwise (fun p q => p.1 < q.1) := by
  induction m with
  | nil => simp [kwf]
  | cons p t ih => rw [kwf_cons, List.pairwise_cons, ih]

theorem kwf_filter {α : Type} (m : KMap α) (f : Nat × α → Bool) (h : kwf m = true) : kwf (m.filter f) = true := by
  rw [kwf_iff] at h ⊢; exact h.filter f

theorem kwf_kput {α : Type} (m : KMap α) (k : Nat) (v : α) (h : kwf m = true) : kwf (kput m k v) = true := by
  rw [kwf_iff] at h ⊢
  unfold kput
  rw [List.pairwise_append]
  refine ⟨h.filter _, ?_, ?_⟩
  · rw [List.pairwise_cons]
    refine ⟨fun q hq => ?_, h.filter _⟩
    simpa using (List.mem_filter.1 hq).2
  · intro a ha b hb
    have h1 : a.1 < k := by simpa using (List.mem_filter.1 ha).2
    rcases List.mem_cons.1 hb with rfl | hb
    · exact h1
    · have h2 : k < b.1 := by simpa using (List.mem_filter.1 hb).2
      exact lt_trans h1 h2

theorem wf_cellsSet (m : List Host.Cell) (a : Nat) (b : Byte) (h : Memory.wf m = true) : Memory.wf (cellsSet m a b) = true := by
  simp only [Memory.wf, Bool.and_eq_true] at h ⊢
  unfold cellsSet kputD
  split
  · refine ⟨kwf_filter _ _ h.1, ?_⟩
    rw [List.all_eq_true] at *
    exact fun c hc => h.2 c (List.mem_of_mem_filter hc)
  · next hb =>
    refine ⟨kwf_kput _ _ _ h.1, ?_⟩
    have hall := List.all_eq_true.1 h.2
    rw [List.all_eq_true]
    intro c hc
    unfold kput at hc
    rcases List.mem_append.1 hc with hc | hc
    · exact hall c (List.mem_of_mem_filter hc)
    · rcases List.mem_cons.1 hc with rfl | hc
      · simpa using hb
      · exact hall c (List.mem_of_mem_filter hc)

theorem wf_cellsFold (l : List (Byte × Nat)) (m : List Host.Cell) (h : Memory.wf m = true) :
    Memory.wf (l.foldl (fun m p => cellsSet m p.2 p.1) m) = true := by
  induction l generalizing m with
  | nil => exact h
  | cons p t ih => exact ih _ (wf_cellsSet m p.2 p.1 h)

/-- A byte stored keeps the canonical form. -/
theorem wf_memSet (s : State) (a : Nat) (b : Byte) (h : Memory.wf s.mem = true) : Memory.wf (memSet s a b).mem = true :=
  wf_cellsSet _ _ _ h

/-- Bytes stored keep the canonical form. -/
theorem wf_memWrite (s : State) (a : Nat) (bs : List Byte) (h : Memory.wf s.mem = true) : Memory.wf (memWrite s a bs).mem = true :=
  wf_cellsFold _ _ h

/-- A number stored keeps the canonical form. -/
theorem wf_memPut (s : State) (a n v : Nat) (h : Memory.wf s.mem = true) : Memory.wf (memPut s a n v).mem = true :=
  wf_memWrite _ _ _ h

/-- A range zeroed keeps the canonical form. -/
theorem wf_memZero (s : State) (a n : Nat) (h : Memory.wf s.mem = true) : Memory.wf (memZero s a n).mem = true := by
  simp only [Memory.wf, Bool.and_eq_true] at h ⊢
  refine ⟨kwf_filter _ _ h.1, ?_⟩
  rw [List.all_eq_true] at *
  exact fun c hc => h.2 c (List.mem_of_mem_filter hc)

/-- Memory right after reset has the canonical form. -/
theorem wf_reset : Memory.wf State.reset.mem = true := by decide

/-- A byte outside the bytes stored is as it was. -/
theorem memByte_memWrite_out (s : State) (a : Nat) (bs : List Byte) (c : Nat) (h : c < a ∨ a + bs.length ≤ c) :
    memByte (memWrite s a bs) c = memByte s c := by
  have key : ∀ (bs : List Byte) (a : Nat) (m : List Host.Cell), (c < a ∨ a + bs.length ≤ c) →
      kget ((bs.zipIdx a).foldl (fun m p => cellsSet m p.2 p.1) m) c memDefault = kget m c memDefault := by
    intro bs
    induction bs with
    | nil => intros; rfl
    | cons b t ih =>
      intro a m h
      simp only [List.zipIdx_cons, List.foldl_cons]
      rw [ih (a + 1) _ (by simp at h; omega)]
      exact kget_kputD_ne _ _ _ _ _ _ (by simp at h; omega)
  exact key bs a s.mem h

end Sys2Proof.Machine
end

