-- ==== Sys2Proof/Laws/Ops.lean ====
section
/-! SUPPORT. What each shared operation does, said once: bit fields, bytes, alerts, rings, steps that complete, and how the wrappers that
command meanings are built from end. -/

namespace Sys2Proof.Machine

/-! Bit fields. -/

theorem bitOf_eq_testBit (w i : Nat) : bitOf w i = w.testBit i := by
  rw [Nat.testBit_eq_decide_div_mod_eq]; simp [bitOf, beq_eq_decide]

theorem testBit_getF (w : Nat) (f : Fld) (i : Nat) : (getF w f).testBit i = (decide (i < f.width) && w.testBit (f.lo + i)) := by
  simp [getF, Nat.testBit_mod_two_pow, Nat.testBit_div_two_pow, Nat.add_comm]

theorem testBit_setF (w : Nat) (f : Fld) (v i : Nat) :
    (setF w f v).testBit i = if f.lo ≤ i ∧ i < f.lo + f.width then v.testBit (i - f.lo) else w.testBit i := by
  have hc : w % 2 ^ f.lo < 2 ^ f.lo := Nat.mod_lt _ (Nat.two_pow_pos _)
  have hb : v % 2 ^ f.width < 2 ^ f.width := Nat.mod_lt _ (Nat.two_pow_pos _)
  have e : setF w f v = 2 ^ f.lo * (2 ^ f.width * (w / 2 ^ (f.lo + f.width)) + v % 2 ^ f.width) + w % 2 ^ f.lo := by
    unfold setF; rw [Nat.pow_add]; ring
  rw [e, Nat.testBit_two_pow_mul_add _ hc]
  by_cases h1 : i < f.lo
  · simp [h1, Nat.testBit_mod_two_pow, Nat.not_le.2 h1]
  · rw [if_neg h1, Nat.testBit_two_pow_mul_add _ hb]
    by_cases h2 : i - f.lo < f.width
    · rw [if_pos h2, if_pos ⟨by omega, by omega⟩]; simp [Nat.testBit_mod_two_pow, h2]
    · rw [if_neg h2, if_neg (by omega), Nat.testBit_div_two_pow]
      congr 1; omega

/-- A field is below 2 to its width. -/
theorem getF_lt (w : Nat) (f : Fld) : getF w f < 2 ^ f.width := Nat.mod_lt _ (Nat.two_pow_pos _)

@[simp] theorem getF_zero (f : Fld) : getF 0 f = 0 := by simp [getF]

/-- A field set reads back, cut to its width. -/
@[simp] theorem getF_setF_same (w : Nat) (f : Fld) (v : Nat) : getF (setF w f v) f = v % 2 ^ f.width := by
  apply Nat.eq_of_testBit_eq; intro i
  rw [testBit_getF, testBit_setF, Nat.testBit_mod_two_pow]
  by_cases h : i < f.width
  · simp [h]
  · simp [h]

/-- A field that shares no bit with the one set is as it was. -/
theorem getF_setF_ne (w : Nat) (f g : Fld) (v : Nat) (h : g.lo + g.width ≤ f.lo ∨ f.lo + f.width ≤ g.lo) :
    getF (setF w f v) g = getF w g := by
  apply Nat.eq_of_testBit_eq; intro i
  rw [testBit_getF, testBit_getF, testBit_setF]
  by_cases hi : i < g.width
  · rw [if_neg (by omega)]
  · simp [hi]

/-- A bit set reads back. -/
@[simp] theorem bitOf_setBit_same (w i : Nat) (b : Bool) : bitOf (setBit w i b) i = b := by
  rw [bitOf_eq_testBit, setBit, testBit_setF]
  cases b <;> simp [Fld.width]

/-- Another bit is as it was. -/
theorem bitOf_setBit_ne (w i j : Nat) (b : Bool) (h : j ≠ i) : bitOf (setBit w i b) j = bitOf w j := by
  rw [bitOf_eq_testBit, bitOf_eq_testBit, setBit, testBit_setF, if_neg (by simp [Fld.width]; omega)]

/-! Bytes. -/

@[simp] theorem leBytes_length (n v : Nat) : (leBytes n v).length = n := by
  induction n generalizing v with
  | zero => rfl
  | succ n ih => simp [leBytes, ih]

theorem leNat_leBytes (n v : Nat) : leNat (leBytes n v) = v % 256 ^ n := by
  induction n generalizing v with
  | zero => simp [leBytes, leNat, Nat.mod_one]
  | succ n ih =>
    have e : leNat (leBytes (n + 1) v) = v % 256 + 256 * leNat (leBytes n (v / 256)) := rfl
    rw [e, ih, Nat.pow_succ', Nat.mod_mul (a := 256) (b := 256 ^ n) (x := v)]

theorem leNat_lt (l : List Byte) : leNat l < 256 ^ l.length := by
  induction l with
  | nil => simp [leNat]
  | cons b t ih =>
    have : b.toNat < 256 := b.isLt
    simp only [leNat, List.length_cons, Nat.pow_succ]; omega

/-- A number evaluated first changes nothing. -/
@[simp] theorem forced_eq {α : Type} (n : Nat) (f : Nat → α) : forced n f = f n := by cases n <;> rfl

/-! Locket's keys. -/

/-- The first word of a key is its first unit's. -/
theorem entryKey_first (s : State) (u n : Nat) : entryKey s u (n + 1) % 2 ^ 64 = getF (unitRec s u) LkUnit.KEY_WORD := by
  unfold entryKey
  induction n with
  | zero =>
    have h := getF_lt (unitRec s u) LkUnit.KEY_WORD
    simp only [Nat.zero_add, List.range_one, List.foldl_cons, List.foldl_nil, Nat.mul_zero, Nat.pow_zero, Nat.mul_one, Nat.add_zero]
    exact Nat.mod_eq_of_lt h
  | succ n ih =>
    rw [List.range_succ, List.foldl_append, List.foldl_cons, List.foldl_nil]
    have e : 2 ^ (64 * (n + 1)) = 2 ^ 64 * 2 ^ (64 * n) := by rw [← Nat.pow_add]; congr 1; omega
    rw [e, ← Nat.mul_assoc, Nat.mul_comm _ (2 ^ 64), Nat.mul_assoc, Nat.add_mul_mod_self_left, ih]

/-- A bank none of whose entries begins with a key's first word has no match for it. -/
theorem bankFind_none (s : State) (b key : Nat) (h : ∀ v ∈ bankEntries s b, getF (unitRec s v) LkUnit.KEY_WORD ≠ key % 2 ^ 64) :
    bankFind s b key = none := by
  unfold bankFind
  rw [List.find?_eq_none]
  intro v hv hm
  simp only [entryMatches, Bool.and_eq_true, beq_iff_eq] at hm
  obtain ⟨n, hn⟩ := Nat.exists_eq_succ_of_ne_zero (show bankWidth s b ≠ 0 from Nat.pos_iff_ne_zero.1 (Nat.two_pow_pos _))
  apply h v hv
  rw [← hm.1.1.2, hn]
  exact (entryKey_first s v n).symm

/-! The dictionary. -/

/-- Another entry's elements are as they were. -/
theorem odGet_odPut_entry (s : State) (e i v e' i' : Nat) (h : e' ≠ e) (hi : i < 2 ^ 24) (hi' : i' < 2 ^ 24) :
    odGet (odPut s e i v) e' i' = odGet s e' i' := odGet_odPut_ne s e i v e' i' (odKey_entry e' e i' i h hi' hi)

/-- Another element of the entry is as it was. -/
theorem odGet_odPut_elem (s : State) (e i v i' : Nat) (h : i' ≠ i) : odGet (odPut s e i v) e i' = odGet s e i' :=
  odGet_odPut_ne s e i v e i' (odKey_elem e i' i h)

/-- A counter advanced reads its sum, cut to its entry's width. -/
@[simp] theorem odGet_odAdd_same (s : State) (e i n : Nat) : odGet (odAdd s e i n) e i = (odGet s e i + n) % 2 ^ odWidth e := by
  simp [odAdd]

theorem odGet_odAdd_entry (s : State) (e i n e' i' : Nat) (h : e' ≠ e) (hi : i < 2 ^ 24) (hi' : i' < 2 ^ 24) :
    odGet (odAdd s e i n) e' i' = odGet s e' i' := odGet_odPut_entry s e i _ e' i' h hi hi'

/-- Fields of an element set: the record read back. -/
@[simp] theorem odGet_recSet_same (s : State) (e i : Nat) (l : List (Fld × Nat)) : odGet (recSet s e i l) e i = setFs (odGet s e i) l := by
  simp [recSet]

theorem odGet_recSet_entry (s : State) (e i e' i' : Nat) (l : List (Fld × Nat)) (h : e' ≠ e) (hi : i < 2 ^ 24) (hi' : i' < 2 ^ 24) :
    odGet (recSet s e i l) e' i' = odGet s e' i' := odGet_odPut_entry s e i _ e' i' h hi hi'

/-! Alerts and interrupts. -/

/-- A vector signalled changes what has been sent and the pending bits, nothing else. -/
theorem msix_frame (s : State) (v : Nat) : { msix s v with out := s.out, host := s.host } = s := by
  unfold msix; split
  · rfl
  · split
    · split <;> rfl
    · rfl

@[simp] theorem msix_od (s : State) (v : Nat) : (msix s v).od = s.od := by
  unfold msix; split
  · rfl
  · split
    · split <;> rfl
    · rfl

/-- An alert changes the dictionary's causes, what has been sent and the pending bits, nothing else. -/
theorem alert_frame (s : State) (b : Nat) : { alert s b with od := s.od, out := s.out, host := s.host } = s := by
  unfold alert; simp only; split
  · rfl
  · unfold msix; split
    · rfl
    · split
      · split <;> rfl
      · rfl

/-- The cause an alert raises stands. -/
@[simp] theorem alert_bit (s : State) (b : Nat) : bitOf (od (alert s b) OD.ALERT_CAUSES) b = true := by
  unfold alert; simp only; split
  · assumption
  · simp [od, odGet, msix_od]
    have := odGet_odPut_same s OD.ALERT_CAUSES 0 (setBit (od s OD.ALERT_CAUSES) b true)
    simp only [odGet] at this
    rw [this]; exact bitOf_setBit_same _ _ _

/-- An alert changes no other entry. -/
theorem alert_od_ne (s : State) (b e i : Nat) (h : e ≠ OD.ALERT_CAUSES) (hi : i < 2 ^ 24) : odGet (alert s b) e i = odGet s e i := by
  unfold alert; simp only; split
  · rfl
  · simp only [odGet, msix_od]
    exact odGet_odPut_entry s OD.ALERT_CAUSES 0 _ e i h (by decide) hi

/-! Steps that complete. -/

@[simp] theorem flightOn_odPut (s : State) (e i v u : Nat) : flightOn (odPut s e i v) u = flightOn s u := rfl
@[simp] theorem flightOn_odAdd (s : State) (e i n u : Nat) : flightOn (odAdd s e i n) u = flightOn s u := rfl
@[simp] theorem flightOn_ringPush (s : State) (e r u : Nat) : flightOn (ringPush s e r) u = flightOn s u := rfl
@[simp] theorem flightOn_memPut (s : State) (a n v u : Nat) : flightOn (memPut s a n v) u = flightOn s u := rfl

@[simp] theorem postEvent_flights (s : State) (e : Nat) : (postEvent s e).frm.flights = s.frm.flights := by
  unfold postEvent; split <;> rfl

@[simp] theorem frameCredit_flights (s : State) (f : Flight) (a c : Nat) : (frameCredit s f a c).frm.flights = s.frm.flights := by
  unfold frameCredit; split <;> rfl

@[simp] theorem creditClocks_flights (s : State) (f : Flight) (n : Nat) : (creditClocks s f n).frm.flights = s.frm.flights := by
  unfold creditClocks; extract_lets c; split
  · rfl
  · split
    · rw [frameCredit_flights]; rfl
    · rw [frameCredit_flights]

@[simp] theorem odPuts_frm (s : State) (e i : Nat) (vs : List Nat) : (odPuts s e i vs).frm = s.frm := by
  unfold odPuts
  generalize vs.zipIdx i = l
  induction l generalizing s with
  | nil => rfl
  | cons p t ih => rw [List.foldl_cons, ih]; rfl

@[simp] theorem ledgerSums_frm (s : State) (g p r : Int) : (ledgerSums s g p r).frm = s.frm := by
  unfold ledgerSums; exact odPuts_frm _ _ _ _

theorem frm_oneOf (s t u : State) (c : Prop) [Decidable c] (h : t.frm = s.frm) (k : u.frm = s.frm) : (if c then t else u).frm = s.frm := by
  split
  · exact h
  · exact k

theorem frameSteps_frm (s : State) (o : Option LedgerFrame) (g : LedgerFrame → EnergySt) :
    (match o with | some l => { s with en := g l } | none => s : State).frm = s.frm := by
  cases o <;> rfl

@[simp] theorem linesWrite_frm (s : State) (a : Nat) (bs : List Byte) : (linesWrite s a bs).frm = s.frm := rfl

/-- A row's image brought up to date changes memory and its outer code, nothing else. -/
theorem imageSync_frame (s : State) (r : Nat) : { imageSync s r with mem := s.mem, mc := s.mc } = s := by
  unfold imageSync; split <;> rfl

@[simp] theorem imageSync_frm (s : State) (r : Nat) : (imageSync s r).frm = s.frm := by
  unfold imageSync; split <;> rfl

@[simp] theorem rowEnergy_frm (s : State) (r p : Nat) : (rowEnergy s r p).frm = s.frm := by
  unfold rowEnergy; split
  · rfl
  · exact (imageSync_frm ..).trans (recSet_frm ..)

@[simp] theorem chargePrice_frm (s : State) (f : Flight) : (chargePrice s f).frm = s.frm := by
  unfold chargePrice
  extract_lets p s1 e s2 s3
  have h1 : s1.frm = s.frm := ledgerSums_frm _ _ _ _
  have h2 : s2.frm = s1.frm := frameSteps_frm s1 _ _
  have h3 : s3.frm = s2.frm := frm_oneOf s2 _ _ _ (odAdd_frm ..) (odAdd_frm ..)
  clear_value s3
  exact frm_oneOf s _ _ _ ((rowEnergy_frm ..).trans (h3.trans (h2.trans h1))) (h3.trans (h2.trans h1))

/-- The steps in flight after one completes: all but it. -/
theorem finishStep_flights (s : State) (u : Nat) (how : StepEnd) (f : Flight) (h : flightOn s u = some f) :
    (finishStep s u how).frm.flights = kdel s.frm.flights u := by
  unfold finishStep
  split
  · next h' => rw [h] at h'; cases h'
  next g h' =>
  rw [h] at h'; cases h'
  extract_lets e s1 s2 s3 r s4
  have h2 : s2.frm.flights = s1.frm.flights := by
    show (ite _ _ _ : State).frm.flights = _; split
    · exact postEvent_flights ..
    · rfl
  have h3 : s3.frm.flights = s2.frm.flights := by
    show (ite _ _ _ : State).frm.flights = _; split
    · rfl
    · exact creditClocks_flights ..
  have h4 : s4.frm.flights = s3.frm.flights := by
    show (ite _ _ _ : State).frm.flights = _; split <;> rfl
  have h5 : s1.frm.flights = kdel s.frm.flights u := rfl
  split
  · rw [h4, h3, h2, h5]
  · rw [chargePrice_frm, h4, h3, h2, h5]

/-- The unit of a step that completes runs no step. -/
@[simp] theorem flightOn_finishStep_same (s : State) (u : Nat) (how : StepEnd) : flightOn (finishStep s u how) u = none := by
  cases h : flightOn s u with
  | none => simp only [finishStep, h]
  | some f => rw [flightOn, finishStep_flights s u how f h]; exact kfind_kdel_same ..

/-- Every other unit runs what it ran. -/
theorem flightOn_finishStep_ne (s : State) (u v : Nat) (how : StepEnd) (h : v ≠ u) : flightOn (finishStep s u how) v = flightOn s v := by
  cases e : flightOn s u with
  | none => simp only [finishStep, e]
  | some f => rw [flightOn, finishStep_flights s u how f e]; exact kfind_kdel_ne _ _ _ h

/-! How command meanings end. -/

/-- A meaning that answers ends in the next state it names, the queue as it was. -/
theorem endsWell_answer (s t : State) : endsWell s (answer s t) := .inl ⟨_, rfl, rfl⟩

theorem endsWell_fault (s : State) (n : Nat) : endsWell s (.fault (.undefinedCase n)) := .inr ⟨n, rfl⟩

/-- An op of a core (R80) answers. -/
theorem endsWell_opRun (s : State) (c op : Nat) (body : Flight → CoreSt → Nat → State) : endsWell s (opRun s c op body) := endsWell_answer _ _

/-- A packet's meaning with the pulls it lets go on ends as the meaning does. -/
theorem endsWell_withPulls (s : State) (r : Res) (h : endsWell s r) : endsWell s (withPulls s r) := by
  rcases h with ⟨t, rfl, _⟩ | ⟨n, rfl⟩
  · exact endsWell_answer _ _
  · exact .inr ⟨n, rfl⟩

/-- A LOCKET step answers. -/
theorem endsWell_lkOn (s : State) (b op : Nat) (run : State → Flight → Nat → State) : endsWell s (lkOn s b op run) := by
  unfold lkOn; split
  · exact endsWell_answer _ _
  · simp only
    repeat' split
    all_goals exact endsWell_answer _ _

/-- A MEMORY step ends as what it runs does, whatever the descriptor. -/
theorem endsWell_memOn (s : State) (k : Nat) (mine : Nat → Bool) (run : State → Flight → Nat → Res)
    (h : ∀ t f d, endsWell s (run t f d)) : endsWell s (memOn s k mine run) := by
  unfold memOn; split
  · exact endsWell_answer _ _
  · split
    · exact endsWell_answer _ _
    · simp only; split
      · exact endsWell_answer _ _
      · exact h _ _ _

/-- A setting job answers, or meets U03. -/
theorem endsWell_jobOn (s : State) (k : Nat) (mine : Nat → Bool) (run : Flight → State × Bool) : endsWell s (jobOn s k mine run) := by
  unfold jobOn; split
  · exact endsWell_answer _ _
  · split
    · split
      · exact endsWell_answer _ _
      · simp only [jobAnswer]; split
        · exact .inr ⟨3, rfl⟩
        · exact endsWell_answer _ _
    · exact endsWell_answer _ _

/-- An SPDM request answers. -/
theorem endsWell_spdmOn (s : State) (phase : Nat) (t : State) : endsWell s (spdmOn s phase t) := endsWell_answer _ _

/-- A boundary answers, or meets the undefined case of an entry to RUN that is due. -/
theorem endsWell_tickRes (s t : State) (acts : List PlanAct) : endsWell s (tickRes s t acts) := by
  unfold tickRes; split
  · exact .inr ⟨_, rfl⟩
  · exact endsWell_answer _ _

/-- The queue is what one answer's state has where the other's has it. -/
theorem endsWell_of_pending (s x : State) (r : Res) (h : x.pending = s.pending) (hr : endsWell x r) : endsWell s r := by
  rcases hr with ⟨t, rfl, hp⟩ | ⟨n, rfl⟩
  · exact .inl ⟨t, rfl, hp.trans h⟩
  · exact .inr ⟨n, rfl⟩

/-- A dictionary request answers, or meets an undefined case. -/
theorem endsWell_request (s : State) (by_ : Reach) (h : Nat) (data : List Byte) : endsWell s (request s by_ h data) := by
  unfold request; simp only; split
  · exact endsWell_answer _ _
  · split
    · exact .inr ⟨_, rfl⟩
    · split <;> exact endsWell_answer _ _

theorem endsWell_mailboxRequest (s : State) (m h : Nat) (data : List Byte) : endsWell s (mailboxRequest s m h data) := by
  unfold mailboxRequest; split
  · exact endsWell_answer _ _
  · exact endsWell_of_pending s _ _ (by simp only) (endsWell_request _ _ _ _)

theorem endsWell_fabricRequest (s : State) (dev h : Nat) (data : List Byte) : endsWell s (fabricRequest s dev h data) := by
  unfold fabricRequest; simp only
  repeat' split
  all_goals first | exact endsWell_answer _ _ | exact endsWell_request _ _ _ _

/-- A request by any reach answers, or meets an undefined case. -/
theorem endsWell_reachRequest (s : State) (by_ : Reach) (h : Nat) (data : List Byte) : endsWell s (reachRequest s by_ h data) := by
  unfold reachRequest; split
  · exact endsWell_mailboxRequest _ _ _ _
  · split
    · exact endsWell_request _ _ _ _
    · exact endsWell_answer _ _
  · exact endsWell_fabricRequest _ _ _ _

theorem endsWell_writeRequest (s : State) (by_ : Reach) (tag e off : Nat) (data : List Byte) :
    endsWell s (writeRequest s by_ tag e off data) := endsWell_reachRequest _ _ _ _

end Sys2Proof.Machine
end

