-- ==== Sys2Proof/Laws/Memory.lean ====
section
/-! SUPPORT. The operations over memory keep its canonical form: the checked reads and writes of every agent, what an error response
sets off, and the zeroing of ranges. -/

namespace Sys2Proof.Machine

/-- A state's memory keeps its canonical form where another's has it. -/
def MemKeeps (s t : State) : Prop := Memory.wf s.mem = true → Memory.wf t.mem = true

theorem MemKeeps.refl (s : State) : MemKeeps s s := id

theorem MemKeeps.trans {s t u : State} (h : MemKeeps s t) (k : MemKeeps t u) : MemKeeps s u := fun w => k (h w)

/-- What changes no byte keeps the form. -/
theorem MemKeeps.of_eq {s t : State} (e : t.mem = s.mem) : MemKeeps s t := fun h => e ▸ h

/-- What each step of a list keeps, the list keeps. -/
theorem MemKeeps.foldl {α : Type} (f : State → α → State) (h : ∀ s x, MemKeeps s (f s x)) (l : List α) (s : State) :
    MemKeeps s (l.foldl f s) := by
  induction l generalizing s with
  | nil => exact .refl s
  | cons x t ih => exact (h s x).trans (ih _)

theorem MemKeeps.ite {s t u : State} (c : Prop) [Decidable c] (h : MemKeeps s t) (k : MemKeeps s u) : MemKeeps s (if c then t else u) := by
  split
  · exact h
  · exact k

theorem keeps_memPut (s : State) (a n v : Nat) : MemKeeps s (memPut s a n v) := wf_memPut s a n v
theorem keeps_memWrite (s : State) (a : Nat) (bs : List Byte) : MemKeeps s (memWrite s a bs) := wf_memWrite s a bs
theorem keeps_memZero (s : State) (a n : Nat) : MemKeeps s (memZero s a n) := wf_memZero s a n
theorem keeps_linesWrite (s : State) (a : Nat) (bs : List Byte) : MemKeeps s (linesWrite s a bs) := wf_memWrite s a bs
theorem keeps_codeZero (s : State) (a n : Nat) : MemKeeps s (codeZero s a n) := wf_memZero s a n

theorem keeps_zeroLines (s : State) (a n : Nat) : MemKeeps s (zeroLines s a n) := by
  unfold zeroLines
  exact (keeps_codeZero s a n).trans (.ite _ (.foldl (fun t (p : Nat × Nat) => activate t p.1) (fun _ _ => .of_eq rfl) _ _) (.refl _))

@[simp] theorem msix_mem (s : State) (v : Nat) : (msix s v).mem = s.mem := by
  unfold msix; split
  · rfl
  · split
    · split <;> rfl
    · rfl

@[simp] theorem alert_mem (s : State) (b : Nat) : (alert s b).mem = s.mem := by
  unfold alert; extract_lets c; split
  · rfl
  · exact msix_mem _ _

@[simp] theorem ringPushes_mem (s : State) (e : Nat) (l : List Nat) : (l.foldl (fun t w => ringPush t e w) s).mem = s.mem := by
  induction l generalizing s with
  | nil => rfl
  | cons p t ih => rw [List.foldl_cons, ih, ringPush_mem]

@[simp] theorem telemetry_mem (s : State) (f k : Nat) (l : List Nat) : (telemetryOf s f k l).mem = s.mem := by
  unfold telemetryOf; split
  · exact ringPushes_mem _ _ _
  · rfl

@[simp] theorem fenceRecord_mem (s : State) (k i c : Nat) : (fenceRecord s k i c).mem = s.mem := by
  unfold fenceRecord; extract_lets r
  exact (alert_mem _ _).trans ((telemetry_mem _ _ _ _).trans (ringPush_mem _ _ _))

@[simp] theorem bar2Lose_mem (s : State) : (bar2Lose s).mem = s.mem := by
  simp only [bar2Lose, odAdd_mem]

/-- A choice between two states of the same memory. -/
theorem mem_ite {c : Prop} [Decidable c] {s t u : State} (h : t.mem = s.mem) (k : u.mem = s.mem) : (if c then t else u).mem = s.mem := by
  split
  · exact h
  · exact k

theorem odSet_mem (s : State) (e v : Nat) : (odSet s e v).mem = s.mem := odPut_mem s e 0 v

@[simp] theorem fatal_mem (s : State) (c d : Nat) : (fatal s c d).mem = s.mem := by
  unfold fatal
  refine mem_ite rfl ?_
  extract_lets s1 s2 s3 f s4 s5 n s6 a s7 s8 s9
  have h2 : s2.mem = s.mem := (odSet_mem _ _ _).trans ((odSet_mem _ _ _).trans (bar2Lose_mem s))
  have h3 : s3.mem = s.mem := mem_ite ((odPut_mem _ _ _ _).trans h2) h2
  have h4 : s4.mem = s.mem := h3
  clear_value s4
  have h5 : s5.mem = s.mem := (odClear_mem (odSet s4 OD.LINK_ENABLE 0) OD.LINK_STATE).trans ((odSet_mem s4 OD.LINK_ENABLE 0).trans h4)
  clear_value s5
  have h7 : s7.mem = s.mem := h5
  clear_value s7
  have h8 : s8.mem = s.mem := mem_ite h7 h7
  clear_value s8
  exact (odSet_mem _ _ _).trans ((alert_mem _ _).trans h8)

theorem keeps_descRaw (s : State) (b : Nat) (l : List (Fld × Nat)) : MemKeeps s (descRaw s b l) :=
  .ite _ (.refl _) (keeps_memPut _ _ _ _)

theorem keeps_relink (s : State) (k : Nat) (l : List Nat) : MemKeeps s (relink s k l) := by
  induction l generalizing s with
  | nil => exact .refl _
  | cons a t ih => cases t with
    | nil => exact keeps_descRaw _ _ _
    | cons b u => exact (keeps_descRaw _ _ _).trans (ih _)

theorem keeps_beadFence (s : State) (b : Nat) : MemKeeps s (beadFence s b) := by
  unfold beadFence; extract_lets st cls k r c p s1 s2
  refine .ite _ ?_ (.refl _)
  have h1 : MemKeeps s s1 := .of_eq rfl
  have h2 : MemKeeps s s2 := h1.trans ((keeps_relink _ _ _).trans (keeps_relink _ _ _))
  refine (h2.trans (.of_eq ?_)).trans (keeps_descRaw _ _ _)
  simp only [countMove, odPut_mem]

theorem keeps_fenceRegion (s : State) (k r c : Nat) : MemKeeps s (fenceRegion s k r c) := by
  unfold fenceRegion; extract_lets s1 m s2 s3
  refine .ite _ (.refl _) ?_
  have h2 : MemKeeps s s2 := .of_eq (odPut_mem s OD.REGION_MAP (k * 128 + r) 3)
  exact (h2.trans (.foldl _ (fun _ _ => keeps_beadFence _ _) _ _)).trans (.of_eq (fenceRecord_mem _ _ _ _))

theorem keeps_regionCandidate (s : State) (k r c : Nat) : MemKeeps s (regionCandidate s k r c) := by
  unfold regionCandidate; extract_lets s1
  have h1 : MemKeeps s s1 := .of_eq (odPut_mem s _ _ _)
  exact .ite _ (.refl _) (.ite _ (h1.trans (keeps_fenceRegion _ _ _ _)) h1)

theorem keeps_noteUncorr (s : State) (k l : Nat) : MemKeeps s (noteUncorr s k l) := by
  unfold noteUncorr; extract_lets m s1 mine region here s2 regions
  have h1 : MemKeeps s s1 := .of_eq rfl
  have h2 : MemKeeps s s2 := .ite _ (h1.trans (keeps_regionCandidate _ _ _ _)) h1
  exact .ite _ (.refl _) (.ite _ (h2.trans (.of_eq (fatal_mem _ _ _))) h2)

theorem joinContained_mem (s : State) (k : Nat) : (joinContained s k).mem = s.mem := rfl

theorem withFt_mem (s : State) (f : FaultSt) : ({ s with ft := f } : State).mem = s.mem := rfl

theorem containRecord_mem (s : State) (p : Option (Nat × Nat)) (o : Owner) (rd : Reader) : (containRecord s p o rd).mem = s.mem := by
  unfold containRecord; extract_lets fr s1 stack loc r s2 s3 f
  have h1 : s1.mem = s.mem := mem_ite (takeFree_mem s) rfl
  clear_value r s1
  exact (withFt_mem s3 _).trans ((odAdd_mem s2 OD.CONTAINED_BY_KIND o.kind 1).trans ((ringPush_mem s1 OD.CONTAINMENT_RING r).trans h1))

@[simp] theorem containLine_mem (s : State) (p : Option (Nat × Nat)) (o : Owner) (rd : Reader) : (containLine s p o rd).mem = s.mem := by
  unfold containLine; extract_lets s1 s2 s3
  have h1 : s1.mem = s.mem := containRecord_mem _ _ _ _
  clear_value s1
  have h2 : s2.mem = s.mem := mem_ite ((joinContained_mem _ _).trans h1) h1
  clear_value s2
  have h3 : s3.mem = s.mem := mem_ite ((joinContained_mem _ _).trans h2) h2
  clear_value s3
  exact mem_ite ((joinContained_mem _ _).trans h3) h3

@[simp] theorem trackCorrection_mem (s : State) (a : Nat) : (trackCorrection s a).mem = s.mem := by
  unfold trackCorrection
  exact mem_ite (mem_ite rfl (odAdd_mem _ _ _ _)) rfl

@[simp] theorem noteCorrected_mem (s : State) (a : Nat) : (noteCorrected s a).mem = s.mem := by
  unfold noteCorrected; extract_lets s1
  have h : s1.mem = s.mem := by
    show (match lineStack s a with | some k => _ | none => s : State).mem = s.mem
    split
    · exact odAdd_mem _ _ _ _
    · rfl
  exact mem_ite ((trackCorrection_mem _ _).trans h) h

theorem keeps_noteUncorrectable (s : State) (a : Nat) (rd : Reader) : MemKeeps s (noteUncorrectable s a rd) := by
  unfold noteUncorrectable
  refine .ite _ (.of_eq (odAdd_mem _ _ _ _)) (.ite _ ?_ ?_)
  · extract_lets k line s1 o s2
    have h : MemKeeps s s2 := (MemKeeps.of_eq (by rw [containLine_mem]; exact odAdd_mem _ _ _ _)).trans (keeps_noteUncorr _ _ _)
    exact .ite _ (h.trans (keeps_memZero _ _ _)) h
  · extract_lets f a k
    exact .ite _ (.of_eq ((containLine_mem _ _ _ _).trans (odAdd_mem _ _ _ _))) (.of_eq (containLine_mem _ _ _ _))

@[simp] theorem sampleGranule_mem (s : State) (a : Nat) : (sampleGranule s a).mem = s.mem := by
  unfold sampleGranule; exact mem_ite (mem_ite rfl rfl) rfl

/-- A line read by any agent. -/
theorem keeps_readPiece (s : State) (map : Bool) (rd : Reader) (a n : Nat) : MemKeeps s (readPiece s map rd a n).1 := by
  unfold readPiece; split
  · exact .refl _
  split
  · exact .of_eq (odAdd_mem _ _ _ _)
  extract_lets home s1 s2 k
  have h1 : MemKeeps s s1 := .ite _ (.of_eq (sampleGranule_mem _ _)) (.refl _)
  have h2 : MemKeeps s s2 := .ite _ (h1.trans (.of_eq rfl)) h1
  split
  · exact h2.trans (.of_eq (takeBytes_mem s2 n))
  split
  · exact h2
  split
  · exact h2.trans (.of_eq (noteCorrected_mem _ _))
  · exact h2.trans (keeps_noteUncorrectable _ _ _)

/-- What each step of a fold over pairs keeps, the fold keeps. -/
theorem MemKeeps.foldl_fst {α β : Type} (f : State × β → α → State × β) (h : ∀ x y, MemKeeps x.1 (f x y).1) (l : List α) (x : State × β) :
    MemKeeps x.1 (l.foldl f x).1 := by
  induction l generalizing x with
  | nil => exact .refl _
  | cons y t ih => exact (h x y).trans (ih _)

/-- A checked read keeps the form: a contained line of a free bead may be zeroed. -/
theorem keeps_readMem (s : State) (map : Bool) (rd : Reader) (a n : Nat) : MemKeeps s (readMem s map rd a n).1 := by
  unfold readMem
  refine MemKeeps.foldl_fst _ (fun x y => ?_) _ (s, _)
  exact keeps_readPiece x.1 _ _ _ _

theorem keeps_readRec (s : State) (rd : Reader) (a n : Nat) : MemKeeps s (readRec s rd a n).1 := keeps_readMem _ _ _ _ _

theorem keeps_storeLine (s : State) (rd : Reader) (a : Nat) (bs : List Byte) : MemKeeps s (storeLine s rd a bs).1 := by
  unfold storeLine; extract_lets s1 k s2
  have h1 : MemKeeps s s1 := .ite _ (.of_eq rfl) (.refl _)
  have h2 : MemKeeps s s2 := .ite _ (h1.trans (.of_eq (noteCorrected_mem _ _))) h1
  split
  · exact h1.trans (keeps_noteUncorrectable _ _ _)
  · exact h2.trans (keeps_memWrite _ _ _)

/-- The same bytes stored at lines of several homes. -/
theorem keeps_storeLines (rd : Reader) (bs : List Byte) (at_ : Nat → Nat) (l : List Nat) (x : State × Nat) :
    MemKeeps x.1 (l.foldl (fun (acc : State × Nat) k =>
      let w := storeLine acc.1 rd (at_ k) bs
      (w.1, if acc.2 = 0 then w.2 else acc.2)) x).1 :=
  MemKeeps.foldl_fst (fun (acc : State × Nat) k =>
      let w := storeLine acc.1 rd (at_ k) bs
      (w.1, if acc.2 = 0 then w.2 else acc.2)) (fun x y => keeps_storeLine x.1 rd (at_ y) bs) l x

/-- A line written by any agent. -/
theorem keeps_writePiece (s : State) (map : Bool) (rd : Reader) (a : Nat) (bs : List Byte) : MemKeeps s (writePiece s map rd a bs).1 := by
  unfold writePiece; split
  · exact .refl _
  split
  · exact .of_eq (odAdd_mem _ _ _ _)
  split
  · exact keeps_storeLines rd bs (fun k => sramBase k + (a - sramBcast)) _ (s, 0)
  · exact keeps_storeLine _ _ _ _

/-- A checked write keeps the form. -/
theorem keeps_writeMem (s : State) (map : Bool) (rd : Reader) (a : Nat) (bs : List Byte) : MemKeeps s (writeMem s map rd a bs).1 := by
  unfold writeMem
  refine MemKeeps.foldl_fst _ (fun x y => ?_) _ (s, _)
  exact keeps_writePiece x.1 _ _ _ _

theorem keeps_agentWrite (s : State) (map : Bool) (rd : Reader) (a : Nat) (bs : List Byte) : MemKeeps s (agentWrite s map rd a bs).1 := by
  unfold agentWrite; split
  · exact (MemKeeps.of_eq (takeBytes_mem _ _)).trans (keeps_writeMem _ _ _ _ _)
  · exact keeps_writeMem _ _ _ _ _

theorem keeps_ctlTouch (s : State) (a n : Nat) : MemKeeps s (ctlTouch s a n) := keeps_readMem _ _ _ _ _
theorem keeps_ctlPut (s : State) (a n v : Nat) : MemKeeps s (ctlPut s a n v) := keeps_writeMem _ _ _ _ _
theorem keeps_mapTouch (s : State) (a n : Nat) : MemKeeps s (mapTouch s a n) := keeps_readMem _ _ _ _ _
theorem keeps_mapPut (s : State) (a n v : Nat) : MemKeeps s (mapPut s a n v) := keeps_writeMem _ _ _ _ _

end Sys2Proof.Machine
end

