-- ==== Sys2Proof/Tests/Slice0.lean ====
section
/-! SUPPORT. The model's own tests: an ill-formed term for each check of WellFormed, a witness for the hypotheses of every statement, and
small tests whose results come from the spec's text. -/

namespace Sys2Proof.Machine

set_option Elab.async false

/-- The state after reset with commands waiting. -/
def bench (l : List Instr) : State := { State.reset with pending := l }

/-- A step record: unit class, index, opcode. -/
def stepOf (cls idx op : Nat) : Nat := mkRec [(StepRec.UNIT_CLASS, cls), (StepRec.UNIT_INDEX, idx), (StepRec.OPCODE, op)]

/-- A step in flight since clk 0, of slot 0. -/
def flyOf (st : Nat) : Flight := ⟨st, 0, 0, 0, false⟩

/-- A step in flight on a unit. -/
def putFlight (s : State) (u : Nat) (f : Flight) : State := { s with frm := { s.frm with flights := kput s.frm.flights u f } }

/-- After reset, but for a step in flight. -/
def flyBench (u st : Nat) : State := putFlight State.reset u (flyOf st)

/-- A device in RUN whose current table, whole, holds these steps. -/
def tableBench (l : List Nat) : State :=
  let s := odSet State.reset OD.DEVICE_STATE 2
  { s with frm := { s.frm with curSteps := l.zipIdx.map (fun p => (p.2, p.1)), mode := .whole,
                               curHdr := mkRec [(TableHdr.STEP_COUNT, l.length)] } }

/-- One RUN step of core 0. -/
def stepBench : State := tableBench [stepOf 1 0 1]

/-- A device in RUN at its seal clock. -/
def sealBench : State := { odSet State.reset OD.DEVICE_STATE 2 with clk := 100000 }

/-- An op word: opcode, SEL, X, Y. -/
def opWord (op sel x y : Nat) : Nat := mkRec [(OpWord.OP, op), (OpWord.SEL, sel), (OpWord.X, x), (OpWord.Y, y)]

/-- Core `c` runs a program of one op word. -/
def opBenchW (c w : Nat) : State :=
  setCore (flyBench (coreUnit c) (stepOf 1 c 1)) c { CoreSt.reset with running := true, words := [w] }

/-- Core `c` runs a program of one op. -/
def opBench (c op sel x y : Nat) : State := opBenchW c (opWord op sel x y)

/-- Bead 0 (stack 0, slot 0) in a state, with a generation and references. -/
def beadBench (st gen refs : Nat) : State :=
  descSet State.reset 0 [(BeadDesc.STATE, st), (BeadDesc.GEN, gen), (BeadDesc.REFS, refs)]

/-- A setting engine with a job in flight in a role, its descriptor of `n` bytes at offset 0. -/
def jobBench (k op rl n d : Nat) : State :=
  memPut (odSet (flyBench (engineUnit k) (stepOf 2 k op)) OD.ROLE rl) 0 n d

/-- An ATTEND descriptor of one entry of one layer with one head. -/
def attendDesc : Nat := mkRec [(AttendDesc.ENTRIES, 1), (AttendDesc.L_LOCAL, 1), (AttendDesc.HKV, 1)]

/-- A COPY descriptor from bead 0 to bead 1. -/
def copyDesc : Nat := mkRec [(CopyDesc.DST_BEAD, 1), (CopyDesc.L_LOCAL, 1), (CopyDesc.HKV, 1)]

/-- Engine 0 with that COPY in flight, both beads in state `st`. -/
def copyBench (st : Nat) : State :=
  let s := recSet (jobBench 0 3 2 64 copyDesc) OD.BEAD_CLASSES 0
    [(BeadClass.SLOTS, 2), (BeadClass.L_LOCAL, 1), (BeadClass.HKV, 1), (BeadClass.VALID, 1)]
  descSet (descSet s 0 [(BeadDesc.STATE, st)]) 1 [(BeadDesc.STATE, st)]

/-- A device in RUN, MIXED, that takes admissions; tenant 0 may use model slot 0 of 10 tokens. -/
def admBench : State :=
  let s := odSet (odSet (odSet State.reset OD.DEVICE_STATE 2) OD.ROLE 4) OD.ADMIT_PER_FRAME 64
  let s := recSet s OD.TENANTS 0 [(Tenant.ENABLED, 1), (Tenant.MODEL_PERMIT, 1)]
  let s := recSet s OD.MODEL_SLOTS 0 [(ModelSlot.STATE, 2), (ModelSlot.VOCAB, 10)]
  recSet s OD.BANK_CONFIG 0 [(BankCfg.KIND, 1), (BankCfg.WIDTH, 1), (BankCfg.FIRST, 0), (BankCfg.COUNT, 1)]

/-- An admission of one token with the native selection record of temperature and TOP_P 1. -/
def admMsg : Nat :=
  mkRec [(AdmRec.PROMPT_LEN, 1)] + 2 ^ 512 * mkRec [(SelRec.PARAMS, mkRec [(SelNat.INV_TEMP, 0x3F800000), (SelNat.TOP_P, 0x3F800000)])]

/-- The same device with request 7 held in row 0. -/
def contBench : State :=
  recSet (lkInsert admBench 1 (dedupeKey 7 0) (rowValue admBench 0 4)).1 OD.SCOREBOARD_VIEW 0 [(Row.STATE, 4), (Row.REQUEST_ID, 7)]

/-- A device in RUN with clasp record 3 open on a side in a state: request 9, peer 40, epoch 5. -/
def claspBench (side st : Nat) : State :=
  let s := crSet (odSet State.reset OD.DEVICE_STATE 2) 3 [(ClaspRec.SIDE, side), (ClaspRec.STATE, st), (ClaspRec.EPOCH, 5), (ClaspRec.PEER, 40)]
  setAux s 3 ⟨0, false, 0, 0, [], 9, 0, 0, 0, 0, 0, 0, [], 0, 0, 0x7FFF, 0, false⟩

/-- A clasp message about request 9 from device 40: kind, side of its sender, epoch. -/
def claspMsg (kind side epoch : Nat) : Msg :=
  ⟨1, 4, 0, mkRec [(ClaspMsg.KIND, kind), (ClaspMsg.FROM_SIDE, side), (ClaspMsg.EPOCH, epoch), (ClaspMsg.REQUEST_ID, 9),
    (ClaspMsg.FROM_DEVICE, 40)], 64, [], 0, 0⟩

/-- A CACHE device with a map, a valid key slot of tenant 0 and room, that accepts an OFFER of a row without beads. -/
def offerBench : State :=
  let s := odSet (odSet State.reset OD.DEVICE_STATE 2) OD.ROLE 3
  let s := odPut s OD.MAP_CURRENT 7 (2 ^ 34)
  let s := odPut (odPut s OD.PASS_LIST_AREA 0 0) OD.PASS_LIST_AREA 1 4096
  let s := odPut (odPut s OD.STRAND_HEADER_AREA 0 0) OD.STRAND_HEADER_AREA 1 4096
  let s := odPuts s OD.SEGMENT_AREA 0 [0, 4096, 0, 4096, 0, 4096, 0, 4096, 0, 4096, 0, 4096, 0, 4096, 0, 4096]
  recSet s OD.BEAD_CLASSES 0 [(BeadClass.VALID, 1)]

/-- Its OFFER. -/
def offerMsgBench : Msg := claspMsg 1 0 5

/-- The strand header and segment it names. -/
def offerPlace : List Nat := [64, 0, 0, 0, 0, 0, 0, 0, 0]

/-- A flit group of number `g` with one management flit: control header, descriptors, payloads. -/
def groupBench (g : Nat) : Nat × List Nat × List (List Byte) :=
  let data := List.replicate 15 (List.replicate 256 (0 : Byte))
  let one := mkFlit 3 0 0 1 0 0 3 0 0 (List.replicate 256 0)
  let descs := one.desc :: List.replicate 14 idleFlit.desc
  let h := setF 0 CtlFlit.GSEQ g
  (setF h CtlFlit.CTRL_CRC (crc32c (leBytes 16 (setF h CtlFlit.CTRL_CRC 0) ++ descs.flatMap (leBytes 16))), descs, data)

/-- Queue pair `q` with the fields of a context. -/
def qpBench (q : Nat) (l : List (Fld × Nat)) : State := memPut State.reset (qpAddr State.reset q) 128 (mkRec l)

/-- A packet for queue pair `q` from device 40: opcode, sequence number. -/
def pktBench (op q psn : Nat) : Msg :=
  ⟨1, 1, 40, mkRec [(Pkt.OPCODE, op), (Pkt.DEST_QP, q), (Pkt.PSN, psn)], 32, [], 0, 4096⟩

/-- A packet of one byte in a RAW block, for queue pair 4. -/
def blockBench (op psn : Nat) : Msg :=
  let b := rawBlock [7]
  { pktBench op 4 psn with hdr := setF (pktBench op 4 psn).hdr Pkt.MSG_LEN 1, data := leBytes 8 b.hdr ++ b.bytes }

/-- Queue pair `q` READY with region 0 open to its tenant and any peer, paged or not. -/
def mrBench (q paged : Nat) : State :=
  let s := odSet (qpBench q [(QpCtx.STATE, 2)]) OD.MR_TABLE_ENTRIES 1
  let s := odSet s OD.MR_TABLE_BASE (2 ^ 20)
  memPut s (2 ^ 20) 32 (mkRec [(Mr.VALID, 1), (Mr.RIGHTS, 15), (Mr.ANY_PEER, 1), (Mr.LENGTH, 4096), (Mr.PAGED, paged), (Mr.RESIDENT_MAP, 2 ^ 21),
    (Mr.STALL_LIMIT, 9)])

/-- A tray message of an opcode from the device in slot 3: tag 0, the block of its data; LENGTH_M1. -/
def trayBench (op lenM1 : Nat) (bs : List Byte) : Msg :=
  ⟨1, 2, 8195, mkRec [(TrayHdr.OPCODE, op), (TrayHdr.SRC_SLOT, 3), (TrayHdr.LENGTH_M1, lenM1)], 32, leBytes 8 (rawBlock bs).hdr ++ (rawBlock bs).bytes, 0, 4096⟩

/-- A device that exports its first line to any tenant. -/
def exportBench : State :=
  odPut State.reset OD.EXPORTS 0 (mkRec [(ExportRec.VALID, 1), (ExportRec.SIZE, 4096), (ExportRec.READ, 1), (ExportRec.WRITE, 1),
    (ExportRec.ATOMIC, 1), (ExportRec.ANY_TENANT, 1)])

/-- Access 0 of a kind to slot 3 outstanding under tag 0, of one byte. -/
def accessBench (kind : Nat) : State :=
  let a : Access := ⟨0, .port 0 0, kind, 3 * 2 ^ 42, 1, [], 0, 0, 0, 0, false, some 0, none, none, 0, false⟩
  { State.reset with fab := { FabSt.reset with tags := [(0, 0)], live := [a] } }

/-- A coherence message from slot 3 to the home in slot 0 about line 0. -/
def cohBench (code req : Nat) : Msg :=
  ⟨2, 3, 8195, mkRec [(CohMsg.MSG, code), (CohMsg.FROM_SLOT, 3), (CohMsg.REQ_SLOT, req)], 32, [], 0, 4096⟩

/-- A channel with a step in flight. -/
def dmaBench (ch op : Nat) : State :=
  flyBench (dmaUnit ch) (if ch < 256 then stepOf 3 ch op else stepOf 4 (ch - 256) op)

/-- A channel that runs, its current descriptor and position given. -/
def dmaRunning (ch : Nat) (d : DmaCh) : State := setDma (odPut (dmaBench ch 1) OD.CHANNEL_STATE ch 1) ch d


/-- A built profile 15 with enough bytes counted, and built tables. -/
def codecBench (l : List BuiltTable) : State :=
  let s := odPut State.reset OD.CODEC_PROFILES 15 (mkRec [(Profile.MODE, 1), (Profile.BUILT, 1)])
  withCodec s { s.net.codec with counted := [(15, 2 ^ 40)], tables := l }

/-- Generation 3 of profile 15's table in a state, its DEF to device 5 sent `n` times. -/
def builtBench (st n : Nat) : BuiltTable := ⟨15, 3, [], st, [], [], [], [(5, n)], [], false, [(5, 9)]⟩

/-- A LOCKET step of an opcode in flight on bank 0 of a kind; its descriptor at 0: records, their address. -/
def lkBench (kind op n a : Nat) : State :=
  let s := recSet (flyBench (lkUnit 0) (stepOf 7 0 op)) OD.BANK_CONFIG 0 [(BankCfg.KIND, kind), (BankCfg.WIDTH, kind - 1), (BankCfg.FIRST, 0), (BankCfg.COUNT, 1)]
  memPut s 0 64 (mkRec [(LkDesc.ENTRIES, n), (LkDesc.ENTRY_ADDR, a)])

/-- A DEDUPE bank of 1,024 entries, all taken by key 7; the one at place x has expired where x is not 0. -/
def lkFull (x : Nat) : State :=
  let old := mkRec [(DedupeVal.EXPIRY_EN, 1), (DedupeVal.EXPIRY, 2 ^ 32 - 1)]
  let unit := fun (i : Nat) => mkRec [(LkUnit.KEY_WORD, 7), (LkUnit.VALID, 1), (LkUnit.VALUE, if i = x ∧ x ≠ 0 then old else 0)]
  { State.reset with od := (odKey OD.BANK_CONFIG 0, mkRec [(BankCfg.KIND, 1), (BankCfg.WIDTH, 1), (BankCfg.COUNT, 1)])
      :: (List.range 1024).map (fun i => (odKey OD.LOCKET_VIEW 0 + 2 * i, unit i)) }

theorem lkFull_bank (x : Nat) : recF (lkFull x) OD.BANK_CONFIG 0 BankCfg.WIDTH = 1 ∧ recF (lkFull x) OD.BANK_CONFIG 0 BankCfg.KIND = 1 := by
  have e : odGet (lkFull x) OD.BANK_CONFIG 0 = mkRec [(BankCfg.KIND, 1), (BankCfg.WIDTH, 1), (BankCfg.COUNT, 1)] := by
    unfold odGet kget lkFull kfind
    rw [List.find?_cons_of_pos (by simp)]; rfl
  unfold recF
  rw [e]
  exact ⟨by decide +kernel, by decide +kernel⟩

theorem lkFull_width (x : Nat) : bankWidth (lkFull x) 0 = 2 := by unfold bankWidth; rw [(lkFull_bank x).1]; rfl

theorem lkFull_entries (x v : Nat) (h : v ∈ bankEntries (lkFull x) 0) : ∃ i, i < 1024 ∧ v = 2 * i := by
  simp only [bankEntries, lkFull_width, List.mem_map, List.mem_range] at h
  obtain ⟨i, hi, rfl⟩ := h
  exact ⟨i, hi, by omega⟩

theorem lkFull_unit (x i : Nat) (h : i < 1024) : unitRec (lkFull x) (2 * i) = mkRec [(LkUnit.KEY_WORD, 7), (LkUnit.VALID, 1),
    (LkUnit.VALUE, if i = x ∧ x ≠ 0 then mkRec [(DedupeVal.EXPIRY_EN, 1), (DedupeVal.EXPIRY, 2 ^ 32 - 1)] else 0)] := by
  have r := kfind_run (odKey OD.LOCKET_VIEW 0) 2 1024 (fun i => mkRec [(LkUnit.KEY_WORD, 7), (LkUnit.VALID, 1),
    (LkUnit.VALUE, if i = x ∧ x ≠ 0 then mkRec [(DedupeVal.EXPIRY_EN, 1), (DedupeVal.EXPIRY, 2 ^ 32 - 1)] else 0)]) (by decide) i h
  have e : odKey OD.LOCKET_VIEW (2 * i) = odKey OD.LOCKET_VIEW 0 + 2 * i := by simp [odKey]
  have n : (odKey OD.BANK_CONFIG 0 == odKey OD.LOCKET_VIEW 0 + 2 * i) = false := by
    have : odKey OD.BANK_CONFIG 0 < odKey OD.LOCKET_VIEW 0 := by decide
    rw [beq_eq_false_iff_ne]; omega
  unfold unitRec odGet kget
  rw [e]
  unfold lkFull kfind
  simp only [List.find?_cons, n]
  unfold kfind at r
  rw [r, Option.getD_some]

theorem lkFull_facts (x i : Nat) (h : i < 1024) : getF (unitRec (lkFull x) (2 * i)) LkUnit.KEY_WORD = 7
    ∧ getF (unitRec (lkFull x) (2 * i)) LkUnit.VALID = 1 ∧ (dedupeLive (lkFull x) (lkValue (lkFull x) (2 * i)) = false ↔ i = x ∧ x ≠ 0) := by
  have z : frameNo (lkFull x) = 0 := by
    unfold frameNo od odGet kget
    have : kfind (lkFull x).od (odKey OD.FRAME_NUMBER 0) = none := by
      unfold kfind
      have g : List.find? (fun p => p.1 == odKey OD.FRAME_NUMBER 0) (lkFull x).od = none := by
        rw [List.find?_eq_none]
        intro p hp
        rcases List.mem_cons.1 hp with rfl | hp
        · decide
        · obtain ⟨i, -, rfl⟩ := List.mem_map.1 hp
          have : odKey OD.FRAME_NUMBER 0 < odKey OD.LOCKET_VIEW 0 := by decide
          simp only [beq_iff_eq]; omega
      rw [g]; rfl
    rw [this]; rfl
  unfold dedupeLive lkValue
  rw [z, lkFull_unit x i h]
  by_cases c : i = x ∧ x ≠ 0
  · rw [if_pos c]; exact ⟨by decide +kernel, by decide +kernel, iff_of_true (by decide +kernel) c⟩
  · rw [if_neg c]; exact ⟨by decide +kernel, by decide +kernel, iff_of_false (by decide +kernel) c⟩

theorem lkFull_none (x : Nat) : bankFind (lkFull x) 0 9 = none := by
  apply bankFind_none
  intro v hv
  obtain ⟨i, hi, rfl⟩ := lkFull_entries x v hv
  rw [(lkFull_facts x i hi).1]; decide

theorem witness_LocketInsertIsFound_expired : let s := lkFull 1023
    bankFind s 0 9 = none ∧ (∀ v ∈ bankEntries s 0, getF (unitRec s v) LkUnit.VALID ≠ 0) ∧ bankKind s 0 = 1 ∧ 2046 ∈ bankEntries s 0
      ∧ dedupeLive s (lkValue s 2046) = false ∧ (∀ v ∈ bankEntries s 0, dedupeLive s (lkValue s v) = false → 2046 ≤ v) := by
  refine ⟨lkFull_none _, fun v hv => ?_, (lkFull_bank _).2, ?_, ((lkFull_facts 1023 1023 (by decide)).2.2).2 (by decide), fun v hv hd => ?_⟩
  · obtain ⟨i, hi, rfl⟩ := lkFull_entries _ v hv
    rw [(lkFull_facts _ i hi).2.1]; decide
  · have w : bankWidth (lkFull 1023) 0 = 2 := rfl
    simp only [bankEntries, w, List.mem_map, List.mem_range]; exact ⟨1023, by decide, by decide⟩
  · obtain ⟨i, hi, rfl⟩ := lkFull_entries _ v hv
    have := ((lkFull_facts 1023 i hi).2.2).1 hd; omega

theorem witness_LocketInsertIsFound_full : let s := lkFull 0
    bankFind s 0 9 = none ∧ (∀ v ∈ bankEntries s 0, getF (unitRec s v) LkUnit.VALID ≠ 0)
      ∧ ∀ v ∈ bankEntries s 0, dedupeLive s (lkValue s v) = true := by
  refine ⟨lkFull_none _, fun v hv => ?_, fun v hv => ?_⟩
  · obtain ⟨i, hi, rfl⟩ := lkFull_entries _ v hv
    rw [(lkFull_facts _ i hi).2.1]; decide
  · obtain ⟨i, hi, rfl⟩ := lkFull_entries _ v hv
    by_contra hd
    have := ((lkFull_facts 0 i hi).2.2).1 (by simpa using hd); omega

/-- A device in CONFIG whose link, bus and rights let every reach write. -/
def dictBench : State :=
  let s := odPuts (odSet State.reset OD.DEVICE_STATE 1) OD.REACH_RIGHTS 0 (List.replicate 16 7)
  { s with host := { s.host with power := 0, pwrGood := true, perst := false, command := 2 }, dct := { s.dct with dynAddr := some 9 } }

/-- A device in CONFIG with its keys derived and the SPDM connection at a phase. -/
def spdmBench (phase : Nat) : State :=
  let s := odSet State.reset OD.DEVICE_STATE 1
  { s with sec := { s.sec with derived := true, spdm := phase } }

/-- A BIST step of an opcode in flight, its descriptor at 0 with a SLICE_CLK. -/
def sliceBench (op n : Nat) : State := memPut (flyBench bistUnit (stepOf 10 0 op)) 0 64 (mkRec [(BistDesc.SLICE_CLK, n)])

/-- A device in CONFIG, LOCKED, whose entry to RUN is due, its QP contexts and Locket shadow at two places. -/
def entryBench (qp shadow : Nat) : State :=
  let s := odSet (odSet (odSet State.reset OD.DEVICE_STATE 1) OD.RUN_STATUS 1) OD.TICK_STATE 2
  odSet (odSet (odSet s OD.QP_CONTEXT_BASE qp) OD.SHADOW_BASE shadow) OD.MR_TABLE_BASE (4 * qp)
theorem witness_StepIdlesOnEmptyQueue :
    State.reset.pending = [] := by decide +kernel

theorem witness_StepKeepsQueue :
    (∃ t, (bench [.tickSourceEnable, .tickLost]).queueOk ∧ step (bench [.tickSourceEnable, .tickLost]) = .next t) := ⟨_, by simp [State.queueOk, bench, Instr.wf], rfl⟩

theorem witness_OnlyListedCommandsStop :
    mayStop (.nop 0) = false := by decide +kernel

theorem witness_MemoryReadsBackLittleEndian :
    Memory.wf State.reset.mem = true ∧ (3 < 4) ∧ (5 < 6 ∨ 6 + 4 ≤ 5) := by decide +kernel

theorem witness_DictionaryValuesReadBack :
    (0 < 2 ^ 24) := by decide +kernel

theorem witness_FramesCompareUnderR9 :
    (5 < 2 ^ 32) ∧ (2 ^ 32 - 1 < 2 ^ 32) := by decide +kernel

theorem witness_TickStates_1 :
    (od (odSet State.reset OD.DEVICE_STATE 1) OD.DEVICE_STATE = 1 ∧ od (odSet State.reset OD.DEVICE_STATE 1) OD.TICK_STATE = 0) := by decide +kernel

theorem witness_TickStates_2 :
    (od (odSet (odSet State.reset OD.TICK_STATE 3) OD.TICK_HOLDOVER_MAX 0) OD.TICK_STATE = 3 ∧ od (odSet (odSet State.reset OD.TICK_STATE 3) OD.TICK_HOLDOVER_MAX 0) OD.TICK_HOLDOVER_MAX ≤ (odSet (odSet State.reset OD.TICK_STATE 3) OD.TICK_HOLDOVER_MAX 0).frm.missed) := by decide +kernel

theorem witness_TickStates_3 :
    (frameClk { odSet State.reset OD.TICK_STATE 1 with frm := { FrameSt.reset with adopted := true } } ≤ 8000 ∧ od { odSet State.reset OD.TICK_STATE 1 with frm := { FrameSt.reset with adopted := true } } OD.TICK_STATE = 1) := by decide +kernel

theorem witness_TickStates_4 :
    (frameClk { odSet State.reset OD.TICK_STATE 2 with clk := 8000 } ≤ 8000 ∧ od { odSet State.reset OD.TICK_STATE 2 with clk := 8000 } OD.TICK_STATE = 2 ∧ 7 ≠ frameNo { odSet State.reset OD.TICK_STATE 2 with clk := 8000 }) := by decide +kernel

theorem witness_TickStates_5 :
    (8000 < frameClk { State.reset with clk := 8001 }) := by decide +kernel

theorem witness_TickStates_6 :
    (frameClk { odSet (odSet (odSet State.reset OD.TICK_STATE 1) OD.TICK_SOURCE 1) OD.TICK_LINK 63 with frm := { FrameSt.reset with adopted := true } } ≤ 8000 ∧ od (odSet (odSet (odSet State.reset OD.TICK_STATE 1) OD.TICK_SOURCE 1) OD.TICK_LINK 63) OD.TICK_SOURCE = 1 ∧ od (odSet (odSet (odSet State.reset OD.TICK_STATE 1) OD.TICK_SOURCE 1) OD.TICK_LINK 63) OD.TICK_LINK = 63 ∧ od (odSet (odSet (odSet State.reset OD.TICK_STATE 1) OD.TICK_SOURCE 1) OD.TICK_LINK 63) OD.TICK_STATE = 1) := by decide +kernel

theorem witness_TicksRunTheBoundary_1 :
    (let s := odSet State.reset OD.TICK_STATE 1; tickWindow s (tickOffset s 60000) = true ∧ od s OD.TICK_STATE = 1 ∧ od s OD.TICK_SOURCE ≠ 2) := by decide +kernel

theorem witness_TicksRunTheBoundary_2 :
    (let s := odSet (odSet State.reset OD.TICK_STATE 1) OD.TICK_SOURCE 2; tickWindow s (tickOffset s 60000) = true ∧ od s OD.TICK_STATE = 1 ∧ od s OD.TICK_SOURCE = 2 ∧ entryDue (internalFirst s (tickOffset s 60000)) = false) := by decide +kernel

theorem witness_TicksRunTheBoundary_3 :
    (let s := entryBench 0 0; tickWindow s (tickOffset s 0) = true ∧ 2 ≤ od s OD.TICK_STATE ∧ entryDue (tickCentre (markDone s) 0) = true ∧ tickOffset s 0 = 0 ∧ entryUndef (tickCentre (markDone s) 0) = 10 ∧ entryDue s = true ∧ entryUndef s = 10 ∧ tickWindow s (tickOffset s 99999) = false ∧ s.frm.slipCount = 0) := by decide +kernel

theorem witness_TicksRunTheBoundary_4 :
    (let s := entryBench (2 ^ 30) (2 ^ 31); tickWindow s (tickOffset s 0) = true ∧ tickOffset s 0 = 0 ∧ 2 ≤ od s OD.TICK_STATE ∧ entryUndef (tickCentre (markDone s) 0) = 0 ∧ entryDue s = true ∧ entryUndef s = 0) := by decide +kernel

theorem witness_TicksRunTheBoundary_5 :
    (let s := odSet (odSet State.reset OD.DEVICE_STATE 2) OD.TICK_STATE 2; entryDue (tickCentre (markDone s) 0) = false ∧ od s OD.TICK_SOURCE ≠ 2 ∧ 2 ≤ od s OD.TICK_STATE) := by decide +kernel

theorem witness_TicksRunTheBoundary_6 :
    (let s := odSet (odSet State.reset OD.DEVICE_STATE 2) OD.TICK_STATE 0; od s OD.TICK_SOURCE ≠ 2 ∧ od s OD.TICK_STATE = 0 ∧ inRun s = true) := by decide +kernel

theorem witness_TicksRunTheBoundary_7 :
    (let s := odSet State.reset OD.TICK_STATE 1; let s := { s with frm := { s.frm with lockCount := 3 } }; tickWindow s (tickOffset s 99999) = false ∧ od s OD.TICK_STATE = 1) := by decide +kernel

theorem witness_TicksRunTheBoundary_8 :
    (let s := odSet (odSet State.reset OD.DEVICE_STATE 2) OD.TICK_STATE 2; let s := { s with frm := { s.frm with slipCount := 2, slipPhase := 99999 } }; tickWindow s (tickOffset s 99999) = false ∧ s.frm.slipCount = 2 ∧ (tickOffset s 99999 - s.frm.slipPhase).natAbs ≤ od s OD.TICK_CAPTURE_CLK ∧ entryDue (tickCentre (slipNote (markDone s) 99999 3) 99999) = false) := by decide +kernel

theorem witness_TicksRunTheBoundary_9 :
    (State.reset.frm.numberNext = false ∧ { State.reset.frm with numberNext := true }.numberNext = true) := by decide +kernel

theorem witness_IssueTakesTheFirstReadyStep :
    ∀ p ∈ stepBench.frm.curSteps, p.1 < 8192 := by decide +kernel

theorem witness_StepIssueIssues_1 :
    (framesRun stepBench = true ∧ stepBench.frm.draining = false ∧ nextIssue stepBench = some (0, stepOf 1 0 1) ∧ namesFenced stepBench (stepOf 1 0 1) = false ∧ getF (stepOf 1 0 1) StepRec.UNIT_CLASS ≠ 12) := by decide +kernel

theorem witness_StepIssueIssues_2 :
    (framesRun (tableBench [stepOf 12 0 9]) = true ∧ nextIssue (tableBench [stepOf 12 0 9]) = some (0, stepOf 12 0 9) ∧ namesFenced (tableBench [stepOf 12 0 9]) (stepOf 12 0 9) = false ∧ getF (stepOf 12 0 9) StepRec.UNIT_CLASS = 12 ∧ getF (stepOf 12 0 9) StepRec.OPCODE ≠ 1 ∧ getF (stepOf 12 0 9) StepRec.OPCODE ≠ 2) := by decide +kernel

theorem witness_StepIssueIssues_3 :
    (let s := { stepBench with frm := { stepBench.frm with fencedAtSeal := [256] } }; framesRun s = true ∧ nextIssue s = some (0, stepOf 1 0 1) ∧ namesFenced s (stepOf 1 0 1) = true) := by decide +kernel

theorem witness_StepIssueIssues_4 :
    (framesRun State.reset = false) := by decide +kernel

theorem witness_StepIssueIssues_5 :
    (let s := { stepBench with frm := { stepBench.frm with issueCount := 4 } }; s.frm.issueClk = s.clk ∧ 4 ≤ s.frm.issueCount) := by decide +kernel

theorem witness_FinishedStepFreesItsUnit_1 :
    (flightOn (flyBench 256 (stepOf 1 0 1)) 256 = some (flyOf (stepOf 1 0 1)) ∧ (flyOf (stepOf 1 0 1)).carried = false) := by decide +kernel

theorem witness_FinishedStepFreesItsUnit_2 :
    (flightOn (putFlight State.reset 256 { flyOf (stepOf 1 0 1) with carried := true }) 256 = some { flyOf (stepOf 1 0 1) with carried := true }) := by decide +kernel

theorem witness_SealAndDrain_1 :
    (sealDue sealBench = true) := by decide +kernel

theorem witness_SealAndDrain_2 :
    (let s := { State.reset with frm := { FrameSt.reset with draining := true } }; s.frm.draining = true ∧ ∀ p ∈ s.frm.flights, p.2.carried = false) := by decide +kernel

theorem witness_SealAndDrain_3 :
    (let f := { flyOf (stepOf 1 0 1) with carried := true }; let s := { putFlight State.reset 256 f with clk := 2 ^ 32 }; let s := { s with frm := { s.frm with draining := true } }; flightOn s 256 = some f ∧ s.frm.draining = true ∧ f.carried = true ∧ od s OD.DRAIN_LIMIT_CLK ≤ frameClk s) := by decide +kernel

theorem witness_SealAndDrain_4 :
    (seqFlight (flyBench (unitKey 12 0) (stepOf 12 0 2)) 2 = some (flyOf (stepOf 12 0 2))) := by decide +kernel

theorem witness_SealAndDrain_5 :
    (let s := { State.reset with clk := 64, frm := { FrameSt.reset with applying := true } }; applyDone s = true ∧ overlayUndef (overlayRecords s s.dct.switchSlot) s = 0 ∧ s.dct.held = [] ∧ (releaseHeld s.dct.held (applyEffect s)).2 = 0) := by decide +kernel

theorem witness_SealAndDrain_6 :
    (let s := odSet (odSet State.reset OD.SWITCH_STATE 2) OD.FRAME_NUMBER (2 ^ 31); od s OD.SWITCH_STATE = 2 ∧ s.dct.switchStuck = false ∧ od s OD.SWITCH_LIMIT_FRAMES < frameDiff s.dct.switchFrom (frameNo s)) := by decide +kernel

theorem witness_BarriersCountArrivals_1 :
    (let s := odSet (odSet (flyBench (unitKey 12 0) (stepOf 12 0 1)) OD.TICK_STATE 2) OD.BARRIER_GROUP 3; seqFlight s 1 = some (flyOf (stepOf 12 0 1)) ∧ s.frm.barrierSent = false ∧ od s OD.TICK_STATE ≠ 0) := by decide +kernel

theorem witness_BarriersCountArrivals_2 :
    (let s := odSet State.reset OD.BARRIER_GROUP (2 ^ 31); 0 = frameNo s ∧ kfind s.frm.arrivals 31 = none ∧ bitOf (od s OD.BARRIER_GROUP) 31 = true ∧ s.frm.barrierSent = false) := by decide +kernel

theorem witness_BarriersCountArrivals_3 :
    (let s := odSet (flyBench (unitKey 12 0) (stepOf 12 0 1)) OD.BARRIER_GROUP 2; let s := { s with frm := { s.frm with barrierSent := true } }; barrierMissing s = [1] ∧ s.frm.barrierSent = true ∧ (seqFlight s 1).isSome = true) := by decide +kernel

theorem witness_BarriersCountArrivals_4 :
    (frameLater 1 (frameNo State.reset) = true) := by decide +kernel

theorem witness_BarriersCountArrivals_5 :
    (let s := { State.reset with ft := { FaultSt.reset with winBarriers := 1024 } }; 1024 ≤ s.ft.winBarriers) := by decide +kernel

theorem witness_Vc0SlotsAreAskedAndGranted_1 :
    (let s := flyBench (unitKey 5 15) (stepOf 5 15 0x0F01); let f := flyOf (stepOf 5 15 0x0F01); passFlight s 15 0x0F01 = some f ∧ (vc0Records s f).2 = some []) := by decide +kernel

theorem witness_Vc0SlotsAreAskedAndGranted_2 :
    (let s := flyBench (unitKey 5 15) (setF (stepOf 5 15 0x0F01) StepRec.DESC_ADDR (2 ^ 41)); let f := flyOf (setF (stepOf 5 15 0x0F01) StepRec.DESC_ADDR (2 ^ 41)); passFlight s 15 0x0F01 = some f ∧ (vc0Records s f).2 = none) := by decide +kernel

theorem witness_Vc0SlotsAreAskedAndGranted_3 :
    (let s := flyBench (unitKey 5 0) (stepOf 5 0 0x0F02); let f := flyOf (stepOf 5 0 0x0F02); passFlight s 0 0x0F02 = some f ∧ (vc0Records s f).2 = some []) := by decide +kernel

theorem witness_Vc0SlotsAreAskedAndGranted_4 :
    (let s := flyBench (unitKey 5 0) (setF (stepOf 5 0 0x0F02) StepRec.DESC_ADDR (2 ^ 41)); let f := flyOf (setF (stepOf 5 0 0x0F02) StepRec.DESC_ADDR (2 ^ 41)); passFlight s 0 0x0F02 = some f ∧ (vc0Records s f).2 = none) := by decide +kernel

theorem witness_Vc0SlotsAreAskedAndGranted_5 :
    (frameLater 1 (frameNo State.reset + 1) = false ∧ frameLater 2 (frameNo State.reset + 1) = true) := by decide +kernel

theorem witness_Vc0SlotsAreAskedAndGranted_6 :
    (let s := odSet { State.reset with net := { NetSt.reset with wanted := [⟨3, 1, 9, 32, 0, false⟩] } } OD.LINK_PROFILE 1; let w := mkRec [(fld 63 32, 1), (fld 31 26, 3), (fld 12 0, 1)]; frameLater 1 (frameNo s + 1) = false ∧ localLink s 9 (getF w (fld 31 26)) = some 3 ∧ s.net.wanted.find? (fun r => r.link == 3 && r.peer == 9 && r.frame == getF w (fld 63 32) && !r.answered) = some ⟨3, 1, 9, 32, 0, false⟩) := by decide +kernel

theorem witness_Vc0SlotsAreAskedAndGranted_7 :
    (getF State.reset.frm.curHdr TableHdr.PERIOD_CLK * od State.reset OD.VC0_GRANT_PM ≤ 1000 * frameClk State.reset) := by decide +kernel

theorem witness_CoreStepsBeginAndEnd_1 :
    (let s := flyBench (coreUnit 199) (stepOf 1 199 1); let f := flyOf (stepOf 1 199 1); flightOn s (coreUnit 199) = some f ∧ getF f.step StepRec.OPCODE = 1 ∧ (coreOf s 199).running = false ∧ odGet s OD.CORE_MAP 199 ≠ 3 ∧ (readRec s (stepReader f) (getF f.step StepRec.DESC_ADDR) 192).2.2.1 = 0) := by decide +kernel

theorem witness_CoreStepsBeginAndEnd_2 :
    (let f := flyOf (setF (stepOf 1 0 1) StepRec.DESC_ADDR 0x1FFFFFFFF00); let s := putFlight State.reset (coreUnit 0) f; flightOn s (coreUnit 0) = some f ∧ getF f.step StepRec.OPCODE = 1 ∧ (coreOf s 0).running = false ∧ odGet s OD.CORE_MAP 0 ≠ 3 ∧ (readRec s (stepReader f) (getF f.step StepRec.DESC_ADDR) 192).2.2.1 ≠ 0) := by decide +kernel

theorem witness_CoreStepsBeginAndEnd_3 :
    (let s := flyBench (coreUnit 0) (stepOf 1 0 3); let f := flyOf (stepOf 1 0 3); flightOn s (coreUnit 0) = some f ∧ getF f.step StepRec.OPCODE ≠ 1 ∧ getF f.step StepRec.OPCODE ≠ 2 ∧ (coreOf s 0).running = false ∧ odGet s OD.CORE_MAP 0 ≠ 3) := by decide +kernel

theorem witness_CoreStepsBeginAndEnd_4 :
    (let s := flyBench (coreUnit 0) (stepOf 1 0 2); let f := flyOf (stepOf 1 0 2); flightOn s (coreUnit 0) = some f ∧ getF f.step StepRec.OPCODE = 2 ∧ odGet s OD.CORE_MAP 0 ≠ 3 ∧ (readRec s (stepReader f) (getF f.step StepRec.DESC_ADDR) 64).2.2.1 = 0) := by decide +kernel

theorem witness_CoreStepsBeginAndEnd_5 :
    (let s := odPut (flyBench (coreUnit 0) (stepOf 1 0 2)) OD.CORE_MAP 0 3; flightOn s (coreUnit 0) = some (flyOf (stepOf 1 0 2)) ∧ odGet s OD.CORE_MAP 0 = 3) := by decide +kernel

theorem witness_CoreStepsBeginAndEnd_6 :
    (let a : AsyncOp := ⟨false, 0, 0, [⟨0, 0, 2, 0, true, 0, [7, 8]⟩]⟩; let s := setCore State.reset 0 { CoreSt.reset with asyncs := [a] }; (coreOf s 0).asyncs[0]? = some a ∧ (takeParts s a.parts).2.all AsyncPart.done = true) := by decide +kernel

theorem witness_CoreStepsBeginAndEnd_7 :
    (let s := setCore (flyBench (coreUnit 0) (stepOf 1 0 1)) 0 { CoreSt.reset with running := true, ended := true }; flightOn s (coreUnit 0) = some (flyOf (stepOf 1 0 1)) ∧ (coreOf s 0).running = true ∧ (coreOf s 0).ended = true ∧ (coreOf s 0).asyncs = []) := by decide +kernel

theorem witness_CoreStepsBeginAndEnd_8 :
    ((199 : Nat) < 200 ∧ coreMap (odPut State.reset OD.CORE_MAP 199 0) 199 ≠ 3 ∧ coreMap (odPut State.reset OD.CORE_MAP 199 0) 199 ≠ 2) := by decide +kernel

theorem witness_CoreControlOps_1 :
    (opAt (opBench 0 0x00 0 0 0) 0 0x00 = some (flyOf (stepOf 1 0 1), opWord 0x00 0 0 0)) := by decide +kernel

theorem witness_CoreControlOps_2 :
    (opAt (opBench 0 0x01 0 0 0) 0 0x01 = some (flyOf (stepOf 1 0 1), opWord 0x01 0 0 0) ∧ (coreOf (opBench 0 0x01 0 0 0) 0).asyncs = []) := by decide +kernel

theorem witness_CoreControlOps_3 :
    (let s0 := opBench 0 0x01 0 0 0; let s := setCore s0 0 { coreOf s0 0 with asyncs := [⟨false, 0, 0, []⟩] }; opAt s 0 0x01 = some (flyOf (stepOf 1 0 1), opWord 0x01 0 0 0) ∧ (coreOf s 0).asyncs ≠ []) := by decide +kernel

theorem witness_CoreControlOps_4 :
    (let w := opWord 0x02 0 65535 1; opAt (opBench 0 0x02 0 65535 1) 0 0x02 = some (flyOf (stepOf 1 0 1), w) ∧ 65535 = (if getF w OpWord.FLAG = 1 then paramOf (coreOf (opBench 0 0x02 0 65535 1) 0) w 0 % 65536 else getF w OpWord.X) ∧ getF w OpWord.Y ≠ 0) := by decide +kernel

theorem witness_CoreControlOps_5 :
    (let w := opWord 0x02 0 0 1; opAt (opBench 0 0x02 0 0 1) 0 0x02 = some (flyOf (stepOf 1 0 1), w) ∧ 0 = (if getF w OpWord.FLAG = 1 then paramOf (coreOf (opBench 0 0x02 0 0 1) 0) w 0 % 65536 else getF w OpWord.X)) := by decide +kernel

theorem witness_CoreControlOps_6 :
    (opAt (opBench 199 0x03 15 1 2) 199 0x03 = some (flyOf (stepOf 1 199 1), opWord 0x03 15 1 2)) := by decide +kernel

theorem witness_CoreControlOps_7 :
    (opAt (opBench 0 0x04 15 1 2) 0 0x04 = some (flyOf (stepOf 1 0 1), opWord 0x04 15 1 2)) := by decide +kernel

theorem witness_CoreControlOps_8 :
    (opAt (opBench 0 0x05 15 65535 65535) 0 0x05 = some (flyOf (stepOf 1 0 1), opWord 0x05 15 65535 65535)) := by decide +kernel

theorem witness_CoreControlOps_9 :
    (opAt (opBench 0 0x06 15 1 2) 0 0x06 = some (flyOf (stepOf 1 0 1), opWord 0x06 15 1 2)) := by decide +kernel

theorem witness_LoopsRepeatTheirBody :
    ((⟨1, 2, 0⟩ : LoopSt).last ≠ 1) ∧ (0 < (⟨1, 2, 1⟩ : LoopSt).left) ∧ ((⟨1, 2, 0⟩ : LoopSt).left = 0) := by decide +kernel

theorem witness_CoreEventOps_1 :
    (opAt (opBench 0 0x08 0 4095 0) 0 0x08 = some (flyOf (stepOf 1 0 1), opWord 0x08 0 4095 0) ∧ (coreOf (opBench 0 0x08 0 4095 0) 0).asyncs = [] ∧ (flyOf (stepOf 1 0 1)).carried = false) := by decide +kernel

theorem witness_CoreEventOps_2 :
    (let f := { flyOf (stepOf 1 0 1) with carried := true }; let s := putFlight (opBench 0 0x08 0 4095 0) (coreUnit 0) f; opAt s 0 0x08 = some (f, opWord 0x08 0 4095 0) ∧ (coreOf s 0).asyncs = [] ∧ f.carried = true) := by decide +kernel

theorem witness_CoreEventOps_3 :
    (let s := { (postEvent (opBench 0 0x09 0 5 1) 5) with clk := 64 }; let s := setCore s 0 { coreOf s 0 with waitFrom := some 0 }; opAt s 0 0x09 = some (flyOf (stepOf 1 0 1), opWord 0x09 0 5 1) ∧ (flyOf (stepOf 1 0 1)).carried = false ∧ kfind s.frm.events (getF (opWord 0x09 0 5 1) OpWord.X % 4096) = some 8 ∧ 8 ≤ s.clk ∧ 8 ≤ (coreOf s 0).waitFrom.getD s.clk + 64 * getF (opWord 0x09 0 5 1) OpWord.Y ∧ (coreOf s 0).waitFrom ≠ none) := by decide +kernel

theorem witness_CoreEventOps_4 :
    (let s := { (postEvent (opBench 0 0x09 0 5 1) 5) with clk := 7 }; opAt s 0 0x09 = some (flyOf (stepOf 1 0 1), opWord 0x09 0 5 1) ∧ kfind s.frm.events (getF (opWord 0x09 0 5 1) OpWord.X % 4096) = some 8 ∧ s.clk < 8 ∧ s.clk < (coreOf s 0).waitFrom.getD s.clk + 64 * getF (opWord 0x09 0 5 1) OpWord.Y) := by decide +kernel

theorem witness_CoreEventOps_5 :
    (let s0 := opBench 0 0x09 0 5 1; let s := { setCore s0 0 { coreOf s0 0 with waitFrom := some 0 } with clk := 64 }; opAt s 0 0x09 = some (flyOf (stepOf 1 0 1), opWord 0x09 0 5 1) ∧ (coreOf s 0).waitFrom.getD s.clk + 64 * getF (opWord 0x09 0 5 1) OpWord.Y ≤ s.clk ∧ kfind s.frm.events (getF (opWord 0x09 0 5 1) OpWord.X % 4096) = none ∧ (coreOf s 0).waitFrom ≠ none) := by decide +kernel

theorem witness_CoreEventOps_6 :
    (let s0 := opBench 0 0x08 0 5 1; let s := setCore s0 0 { coreOf s0 0 with asyncs := [⟨false, 0, 0, []⟩] }; opAt s 0 0x08 = some (flyOf (stepOf 1 0 1), opWord 0x08 0 5 1) ∧ (coreOf s 0).asyncs ≠ []) := by decide +kernel

theorem witness_CoreEventOps_7 :
    (opAt (opBench 0 0x0A 0 0 0) 0 0x0A = some (flyOf (stepOf 1 0 1), opWord 0x0A 0 0 0) ∧ (coreOf (opBench 0 0x0A 0 0 0) 0).asyncs = []) := by decide +kernel

theorem witness_CoreMovesAndLoads_1 :
    (opAt (opBench 0 0x10 0 1 0) 0 0x10 = some (flyOf (stepOf 1 0 1), opWord 0x10 0 1 0) ∧ getF (opWord 0x10 0 1 0) OpWord.X ≠ 0 ∧ (coreOf (opBench 0 0x10 0 1 0) 0).asyncs.length < 64) := by decide +kernel

theorem witness_CoreMovesAndLoads_2 :
    (opAt (opBench 0 0x11 0 1 0) 0 0x11 = some (flyOf (stepOf 1 0 1), opWord 0x11 0 1 0) ∧ getF (opWord 0x11 0 1 0) OpWord.X ≠ 0 ∧ (coreOf (opBench 0 0x11 0 1 0) 0).asyncs.length < 64) := by decide +kernel

theorem witness_CoreMovesAndLoads_3 :
    (let s0 := opBench 0 0x10 0 1 0; let s := setCore s0 0 { coreOf s0 0 with asyncs := List.replicate 64 ⟨false, 0, 0, []⟩ }; opAt s 0 0x10 = some (flyOf (stepOf 1 0 1), opWord 0x10 0 1 0) ∧ 64 ≤ (coreOf s 0).asyncs.length) := by decide +kernel

theorem witness_CoreMovesAndLoads_4 :
    (opAt (opBench 0 0x12 0 1 0) 0 0x12 = some (flyOf (stepOf 1 0 1), opWord 0x12 0 1 0) ∧ getF (opWord 0x12 0 1 0) OpWord.X ≠ 0) := by decide +kernel

theorem witness_CoreMovesAndLoads_5 :
    (opAt (opBench 0 0x13 0 1 2) 0 0x13 = some (flyOf (stepOf 1 0 1), opWord 0x13 0 1 2) ∧ getF (opWord 0x13 0 1 2) OpWord.X ≠ 0 ∧ getF (opWord 0x13 0 1 2) OpWord.Y ≠ 0) := by decide +kernel

theorem witness_CoreMovesAndLoads_6 :
    (opAt (opBench 0 0x51 0 1 2) 0 0x51 = some (flyOf (stepOf 1 0 1), opWord 0x51 0 1 2) ∧ getF (opWord 0x51 0 1 2) OpWord.A_ACC = 0 ∧ getF (opWord 0x51 0 1 2) OpWord.B_ACC = 0) := by decide +kernel

theorem witness_CoreMovesAndLoads_7 :
    (opAt (opBench 0 0x52 0 1 2) 0 0x52 = some (flyOf (stepOf 1 0 1), opWord 0x52 0 1 2) ∧ getF (opWord 0x52 0 1 2) OpWord.A_ACC = 0 ∧ getF (opWord 0x52 0 1 2) OpWord.B_ACC = 0) := by decide +kernel

theorem witness_CoreMovesAndLoads_8 :
    (opAt (opBench 0 0x53 0 1 2) 0 0x53 = some (flyOf (stepOf 1 0 1), opWord 0x53 0 1 2) ∧ getF (opWord 0x53 0 1 2) OpWord.X ≠ 0 ∧ getF (opWord 0x53 0 1 2) OpWord.Y ≠ 0) := by decide +kernel

theorem witness_CoreMovesAndLoads_9 :
    (let s0 := opBench 0 0x71 0 1 192; let s := setCore s0 0 { coreOf s0 0 with reduce := some ⟨false, 0, 0, []⟩ }; opAt s 0 0x71 = some (flyOf (stepOf 1 0 1), opWord 0x71 0 1 192) ∧ 2 ≤ getF (opWord 0x71 0 1 192) OpWord.Y % 256 ∧ getF (opWord 0x71 0 1 192) OpWord.Y % 256 ≤ 192 ∧ (coreOf s 0).reduce = some ⟨false, 0, 0, []⟩) := by decide +kernel

theorem witness_CoreMovesAndLoads_10 :
    (opAt (opBench 0 0x71 0 1 2) 0 0x71 = some (flyOf (stepOf 1 0 1), opWord 0x71 0 1 2) ∧ 2 ≤ getF (opWord 0x71 0 1 2) OpWord.Y % 256 ∧ (coreOf (opBench 0 0x71 0 1 2) 0).reduce = none ∧ ([] : List AsyncPart).all AsyncPart.done = true) := by decide +kernel

theorem witness_CoreMovesAndLoads_11 :
    (opAt (opBench 0 0x12 0 0 0) 0 0x12 = some (flyOf (stepOf 1 0 1), opWord 0x12 0 0 0) ∧ getF (opWord 0x12 0 0 0) OpWord.X = 0) := by decide +kernel

theorem witness_VectorOpsComputeEveryElement_1 :
    (∀ op ∈ [0x30, 0x31, 0x32, 0x33, 0x34, 0x35, 0x37, 0x38], opAt (opBench 0 op 0 1 1) 0 op = some (flyOf (stepOf 1 0 1), opWord op 0 1 1) ∧ vecFmtOk (opWord op 0 1 1) true = true ∧ getF (opWord op 0 1 1) OpWord.X ≠ 0 ∧ getF (opWord op 0 1 1) OpWord.Y ≠ 0) := by decide +kernel

theorem witness_VectorOpsComputeEveryElement_2 :
    (∀ op ∈ [0x36, 0x48, 0x40, 0x41, 0x42, 0x43], opAt (opBench 0 op 0 1 1) 0 op = some (flyOf (stepOf 1 0 1), opWord op 0 1 1) ∧ vecFmtOk (opWord op 0 1 1) false = true ∧ getF (opWord op 0 1 1) OpWord.X ≠ 0 ∧ getF (opWord op 0 1 1) OpWord.Y ≠ 0) := by decide +kernel

theorem witness_MatrixOpsWriteTheirElements_1 :
    (let w := setF (opWord 0x20 0 32 0) OpWord.FA 5; let w := setF w OpWord.FB 5; let s := opBenchW 0 w; opAt s 0 0x20 = some (flyOf (stepOf 1 0 1), w) ∧ pairOk (getF w OpWord.FA) (getF w OpWord.FB) = true ∧ (opndOf (coreOf s 0) false (getF w OpWord.OPA)).unit % 4 = 0 ∧ getF w OpWord.A_ACC = 0 ∧ getF w OpWord.Y / 256 + 1 ≤ 128) := by decide +kernel

theorem witness_MatrixOpsWriteTheirElements_2 :
    (let w := setF (opWord 0x21 0 16384 (127 * 256 + 127)) OpWord.FA 5; let w := setF w OpWord.FB 5; let s := opBenchW 0 w; opAt s 0 0x21 = some (flyOf (stepOf 1 0 1), w) ∧ pairOk (getF w OpWord.FA) (getF w OpWord.FB) = true ∧ getF w OpWord.X % 32 = 0 ∧ getF w OpWord.X ≤ 16384 ∧ getF w OpWord.Y / 256 + 1 ≤ 128 ∧ getF w OpWord.Y % 256 + 1 ≤ 128) := by decide +kernel

theorem witness_RoutingAndConversionOps_1 :
    (let w := opWord 0x50 0 1 8; let s0 := opBenchW 0 w; let s := setCore s0 0 { coreOf s0 0 with pr := lset (coreOf s0 0).pr 0 (65534 * 65536 + 256) }; opAt s 0 0x50 = some (flyOf (stepOf 1 0 1), w) ∧ paramOf (coreOf s 0) w 0 % 65536 ≤ 256 ∧ 1 ≤ paramOf (coreOf s 0) w 0 % 65536 ∧ paramOf (coreOf s 0) w 0 / 65536 % 65536 ≤ 65534 ∧ getF w OpWord.Y % 16 ≤ 8) := by decide +kernel

theorem witness_RoutingAndConversionOps_2 :
    (let w := opWord 0x58 0 1 1024; let s0 := opBenchW 0 w; let s := setCore s0 0 { coreOf s0 0 with pr := lset (coreOf s0 0).pr 0 1024 }; opAt s 0 0x58 = some (flyOf (stepOf 1 0 1), w) ∧ paramOf (coreOf s 0) w 0 % 2048 ≤ getF w OpWord.Y ∧ getF w OpWord.FA ≤ 1 ∧ getF w OpWord.D_ACC = 0 ∧ getF w OpWord.FD = 0) := by decide +kernel

theorem witness_RoutingAndConversionOps_3 :
    (let w0 := setF (opWord 0x60 0 16 1) OpWord.FD 13; opAt (opBenchW 0 w0) 0 0x60 = some (flyOf (stepOf 1 0 1), w0) ∧ getF (setF w0 OpWord.FA 0) OpWord.FD = 13 ∧ getF (setF w0 OpWord.FA 0) OpWord.X % 16 = 0) := by decide +kernel

theorem witness_RoutingAndConversionOps_4 :
    (let w0 := setF (opWord 0x61 0 1 1) OpWord.FA 13; opAt (opBenchW 0 w0) 0 0x61 = some (flyOf (stepOf 1 0 1), w0) ∧ getF (setF w0 OpWord.FD 0) OpWord.FA ≠ 0 ∧ getF (setF w0 OpWord.FD 0) OpWord.FA ≤ 13) := by decide +kernel

theorem witness_BadOpsEndTheStep_1 :
    (opAt (opBenchW 0 (setF (opWord 0x30 0 1 1) OpWord.FA 7)) 0 0x30 = some (flyOf (stepOf 1 0 1), setF (opWord 0x30 0 1 1) OpWord.FA 7) ∧ vecFmtOk (setF (opWord 0x30 0 1 1) OpWord.FA 7) true = false) := by decide +kernel

theorem witness_BadOpsEndTheStep_2 :
    (opAt (opBenchW 0 (setF (opWord 0x48 0 1 1) OpWord.FA 7)) 0 0x48 = some (flyOf (stepOf 1 0 1), setF (opWord 0x48 0 1 1) OpWord.FA 7) ∧ vecFmtOk (setF (opWord 0x48 0 1 1) OpWord.FA 7) false = false) := by decide +kernel

theorem witness_BadOpsEndTheStep_3 :
    (opAt (opBench 0 0x38 0 0 1) 0 0x38 = some (flyOf (stepOf 1 0 1), opWord 0x38 0 0 1) ∧ vecFmtOk (opWord 0x38 0 0 1) true = true ∧ getF (opWord 0x38 0 0 1) OpWord.X = 0) := by decide +kernel

theorem witness_BadOpsEndTheStep_4 :
    (let w := setF (opWord 0x20 0 32 0) OpWord.FA 5; opAt (opBenchW 0 w) 0 0x20 = some (flyOf (stepOf 1 0 1), w) ∧ pairOk (getF w OpWord.FA) (getF w OpWord.FB) = false) := by decide +kernel

theorem witness_BadOpsEndTheStep_5 :
    (let w := setF (setF (opWord 0x21 0 16416 0) OpWord.FA 5) OpWord.FB 5; opAt (opBenchW 0 w) 0 0x21 = some (flyOf (stepOf 1 0 1), w) ∧ pairOk (getF w OpWord.FA) (getF w OpWord.FB) = true ∧ 16384 < getF w OpWord.X) := by decide +kernel

theorem witness_BadOpsEndTheStep_6 :
    (opAt (opBench 0 0x50 0 1 0) 0 0x50 = some (flyOf (stepOf 1 0 1), opWord 0x50 0 1 0) ∧ getF (opWord 0x50 0 1 0) OpWord.Y % 16 = 0) := by decide +kernel

theorem witness_BadOpsEndTheStep_7 :
    (let w := setF (opWord 0x58 0 1 1) OpWord.FA 2; opAt (opBenchW 0 w) 0 0x58 = some (flyOf (stepOf 1 0 1), w) ∧ getF w OpWord.A_ACC = 0 ∧ 1 < getF w OpWord.FA) := by decide +kernel

theorem witness_BadOpsEndTheStep_8 :
    (opAt (opBench 0 0x58 0 1 1) 0 0x58 = some (flyOf (stepOf 1 0 1), opWord 0x58 0 1 1) ∧ getF (opWord 0x58 0 1 1) OpWord.FA ≤ 1 ∧ getF (opWord 0x58 0 1 1) OpWord.FD ≤ 2 ∧ paramOf (coreOf (opBench 0 0x58 0 1 1) 0) (opWord 0x58 0 1 1) 0 % 2048 = 0) := by decide +kernel

theorem witness_BadOpsEndTheStep_9 :
    (let w := setF (opWord 0x52 0 1 1) OpWord.B_ACC 1; opAt (opBenchW 0 w) 0 0x52 = some (flyOf (stepOf 1 0 1), w) ∧ getF w OpWord.B_ACC = 1) := by decide +kernel

theorem witness_CoreOpsStayOnTheirCore :
    localOp (.wcopy 3) = some 3 ∧ (∃ t, exec (.wcopy 3) State.reset = .next t) ∧ (0 < windowBase 3) ∧ (0 / 65536 ≠ 3) ∧ (Instr.wcopy 3 ≠ .quant 3) ∧ Memory.wf State.reset.mem = true := ⟨rfl, ⟨_, rfl⟩, by decide, by decide, by decide, by decide⟩

theorem witness_CanonicalNans :
    ofF32 0xFFFFFFFF = .nan ∧ (0 < 2) ∧ (1 < 2 ^ 2) ∧ (2 ^ 23 - 1 < 2 ^ 23) := by decide +kernel

theorem witness_SettingJobsRunAndFree_1 :
    (let s := jobBench 7 1 2 128 attendDesc; let f := flyOf (stepOf 2 7 1); flightOn s (engineUnit 7) = some f ∧ odGet s OD.ENGINE_MAP 7 ≠ 3 ∧ jobFenced s 7 f = false ∧ (readRec s (stepReader f) (getF f.step StepRec.DESC_ADDR) 128).2.2.1 = 0 ∧ (readRec s (stepReader f) (getF f.step StepRec.DESC_ADDR) 128).2.1 = attendDesc ∧ getF attendDesc AttendDesc.PROB_EN = 0 ∧ role s = 2 ∧ attendBad s attendDesc = false) := by decide +kernel

theorem witness_SettingJobsRunAndFree_2 :
    (attendRun (jobBench 7 1 2 128 attendDesc) 7 (flyOf (stepOf 2 7 1)) attendDesc).2 = false := by decide +kernel

theorem witness_SettingJobsRunAndFree_3 :
    (let s := odSet (flyBench (engineUnit 0) (stepOf 2 0 2)) OD.ROLE 1; flightOn s (engineUnit 0) = some (flyOf (stepOf 2 0 2)) ∧ odGet s OD.ENGINE_MAP 0 ≠ 3 ∧ jobFenced s 0 (flyOf (stepOf 2 0 2)) = false ∧ role s ≠ 0 ∧ role s ≠ 3 ∧ (appendRun s 0 (flyOf (stepOf 2 0 2))).2 = false) := by decide +kernel

theorem witness_SettingJobsRunAndFree_4 :
    (let s := copyBench 0; let f := flyOf (stepOf 2 0 3); flightOn s (engineUnit 0) = some f ∧ odGet s OD.ENGINE_MAP 0 ≠ 3 ∧ jobFenced s 0 f = false ∧ role s ≠ 0 ∧ (readRec s (stepReader f) (getF f.step StepRec.DESC_ADDR) 64).2.2.1 = 0 ∧ (readRec s (stepReader f) (getF f.step StepRec.DESC_ADDR) 64).2.1 = copyDesc ∧ copyBad s 0 copyDesc = false ∧ (copyRun s 0 f copyDesc).2 = true) := by decide +kernel

theorem witness_SettingJobsRunAndFree_5 :
    (copyRun (copyBench 1) 0 (flyOf (stepOf 2 0 3)) copyDesc).2 = false := by decide +kernel

theorem witness_SettingJobsRunAndFree_6 :
    (let f := flyOf (stepOf 2 0 4); let d := mkRec [(GfDesc.N_IN, 1), (GfDesc.N_OUT, 1), (GfDesc.LENGTH, 1)]; let s := jobBench 0 4 3 64 d; let dr := readRec s (stepReader f) (getF f.step StepRec.DESC_ADDR) 64; flightOn s (engineUnit 0) = some f ∧ odGet s OD.ENGINE_MAP 0 ≠ 3 ∧ jobFenced s 0 f = false ∧ getF f.step StepRec.OPCODE = 4 ∧ role s = 3 ∧ dr.2.2.1 = 0 ∧ dr.2.1 = d ∧ (sramRead dr.1 (stepReader f) 0 0 8).2 = (List.replicate 8 0, true)) := by decide +kernel

theorem witness_SettingJobsRunAndFree_7 :
    (let s := odPut (flyBench (engineUnit 0) (stepOf 2 0 3)) OD.ENGINE_MAP 0 3; flightOn s (engineUnit 0) = some (flyOf (stepOf 2 0 3)) ∧ odGet s OD.ENGINE_MAP 0 = 3) := by decide +kernel

theorem witness_SettingJobsRunAndFree_8 :
    (let s := flyBench (engineUnit 0) (stepOf 2 0 3); flightOn s (engineUnit 0) = some (flyOf (stepOf 2 0 3)) ∧ odGet s OD.ENGINE_MAP 0 ≠ 3 ∧ jobFenced s 0 (flyOf (stepOf 2 0 3)) = false ∧ role s = 0) := by decide +kernel

theorem witness_SettingJobsRunAndFree_9 :
    (let s := flyBench (engineUnit 0) (stepOf 2 0 5); flightOn s (engineUnit 0) = some (flyOf (stepOf 2 0 5)) ∧ jobFenced s 0 (flyOf (stepOf 2 0 5)) = false ∧ 4 < getF (stepOf 2 0 5) StepRec.OPCODE) := by decide +kernel

theorem witness_BeadCommands_1 :
    ((kget State.reset.pool.ready (listKey 0 0) []).length < 1) := by decide +kernel

theorem witness_BeadCommands_2 :
    ((0 : Nat) ≤ (kget State.reset.pool.ready (listKey 7 7) []).length) := by decide +kernel

theorem witness_BeadCommands_3 :
    (let s := beadBench 1 5 1; descF s 0 BeadDesc.STATE = 1 ∧ descF s 0 BeadDesc.GEN = 5 ∧ descF s 0 BeadDesc.REFS < 65535) := by decide +kernel

theorem witness_BeadCommands_4 :
    (let s := beadBench 1 5 65535; descF s 0 BeadDesc.STATE = 1 ∧ descF s 0 BeadDesc.GEN = 5 ∧ descF s 0 BeadDesc.REFS = 65535) := by decide +kernel

theorem witness_BeadCommands_5 :
    (descF (beadBench 2 5 0) 0 BeadDesc.STATE ≠ 1) := by decide +kernel

theorem witness_BeadCommands_6 :
    (descF (beadBench 4 5 1) 0 BeadDesc.STATE = 4 ∧ descF (beadBench 4 5 1) 0 BeadDesc.REFS = 1) := by decide +kernel

theorem witness_BeadCommands_7 :
    (descF (beadBench 1 5 2) 0 BeadDesc.STATE = 1 ∧ 1 < descF (beadBench 1 5 2) 0 BeadDesc.REFS) := by decide +kernel

theorem witness_BeadCommands_8 :
    (descF (beadBench 1 5 1) 0 BeadDesc.STATE = 1 ∧ descF (beadBench 1 5 1) 0 BeadDesc.REFS = 1) := by decide +kernel

theorem witness_BeadCommands_9 :
    (let s := { State.reset with pool := { PoolSt.reset with clearing := [(listKey 0 0, [0])], clearPos := [(beadIdx 0 0, 2 ^ 40)] } }; let s := recSet s OD.BEAD_CLASSES 0 [(BeadClass.VALID, 1), (BeadClass.L_LOCAL, 80), (BeadClass.HKV, 8), (BeadClass.DHEAD, 1)]; flightOn s (unitKey 2 0) = none ∧ kget s.pool.clearing (listKey 0 0) [] = [0] ∧ classBeadBytes s 0 ≤ kget s.pool.clearPos (beadIdx 0 0) 0 + 204800) := by decide +kernel

theorem witness_BeadCommands_10 :
    (let s := { State.reset with pool := { PoolSt.reset with clearing := [(listKey 0 0, [0])] } }; let s := recSet s OD.BEAD_CLASSES 0 [(BeadClass.VALID, 1), (BeadClass.L_LOCAL, 80), (BeadClass.HKV, 8), (BeadClass.DHEAD, 1)]; flightOn s (unitKey 2 0) = none ∧ kget s.pool.clearing (listKey 0 0) [] = [0] ∧ kget s.pool.clearPos (beadIdx 0 0) 0 + 204800 < classBeadBytes s 0) := by decide +kernel

theorem witness_BeadAudits_1 :
    (let s := recSet State.reset OD.BEAD_CLASSES 7 [(BeadClass.VALID, 1)]; classF s 7 BeadClass.VALID = 1) := by decide +kernel

theorem witness_BeadAudits_2 :
    (let s := { State.reset with pool := { PoolSt.reset with walks := [⟨0, 7, true⟩] } }; s.pool.walks.find? (fun w => w.cls == 0 && w.stack == 7) = some ⟨0, 7, true⟩) := by decide +kernel

theorem witness_RowsAdmitAndEnd_1 :
    (let s := odSet State.reset OD.DEVICE_STATE 2; inRun s = true ∧ qpF s 0 QpCtx.FUNCTION ≤ 1 ∧ fnOpen s 0 = false) := by decide +kernel

theorem witness_RowsAdmitAndEnd_2 :
    (let s := odSet (odSet (odSet State.reset OD.DEVICE_STATE 2) OD.ROLE 1) OD.ADMIT_PER_FRAME 64; inRun s = true ∧ qpF s 0 QpCtx.FUNCTION = 0 ∧ fnOpen s 0 = true ∧ admTakes s = true ∧ admTurn s 0 [] = true ∧ admScreen s [] ≠ 0) := by decide +kernel

theorem witness_RowsAdmitAndEnd_3 :
    (let s := odSet State.reset OD.DEVICE_STATE 2; inRun s = true ∧ (requestRow s 7).2 = none) := by decide +kernel

theorem witness_RowsAdmitAndEnd_4 :
    (let s := admBench; let msg := leBytes 128 admMsg ++ [0, 0, 0, 0]; inRun s = true ∧ qpF s 0 QpCtx.FUNCTION = 0 ∧ fnOpen s 0 = true ∧ admTakes s = true ∧ admTurn s 0 msg = true ∧ admScreen s msg = 0 ∧ (search s 1 (dedupeKey (getF (admRec msg) AdmRec.REQUEST_ID) 0)).2 = none) := by decide +kernel

theorem witness_RowsAdmitAndEnd_5 :
    (let s := setBuckets admBench 0 (2 ^ 20) (2 ^ 20); let msg := leBytes 128 admMsg ++ [0, 0, 0, 0]; let t := (wicketAdmits s msg).1; getF (admRec msg) AdmRec.FORK ≠ 1 ∧ (wicketAdmits s msg).2 = true ∧ (prefillUnits t (getF (admRec msg) AdmRec.MODEL_SLOT) (getF (admRec msg) AdmRec.PROMPT_LEN) : Int) ≤ balance t (getF (admRec msg) AdmRec.TENANT) ∧ freeRow t = some 0) := by decide +kernel

theorem witness_RowsAdmitAndEnd_6 :
    (inRun contBench = true ∧ (requestRow contBench 7).2 = some 0) := by decide +kernel

theorem witness_RowsAdmitAndEnd_7 :
    (let x := holdWithdraw (requestRow contBench 7).1 0; 9 < recF x OD.MODEL_SLOTS (rowGet x 0 Row.MODEL_SLOT) ModelSlot.VOCAB ∧ 1 ≤ od x OD.CONTINUE_MAX ∧ rowGet x 0 Row.COMMITTED_LEN + 1 + 1 ≤ 2 ^ 24 ∧ rowState x 0 = 4 ∧ hasDue x 0 = false ∧ rowGet x 0 Row.PROMPT_LEN ≤ rowGet x 0 Row.COMMITTED_LEN ∧ fnPlans x 2 = true ∧ role x ≠ 1 ∧ (reserve x 0 (prefillUnits x (rowGet x 0 Row.MODEL_SLOT) 1)).isSome = true) := by decide +kernel

theorem witness_RowsAdmitAndEnd_8 :
    (let s := recSet (odSet State.reset OD.DEVICE_STATE 2) OD.SCOREBOARD_VIEW 32767 [(Row.STATE, 4), (Row.FLAGS, 128)]; let s := odSet s OD.FRAME_NUMBER 1; framesRun s = true ∧ rowState s 32767 = 4 ∧ rowFlag s 32767 7 = true ∧ frameLater (frameNo s) (rowGet s 32767 Row.DEADLINE_FRAME) = true ∧ getF (selRec s 32767) SelRec.OUTPUT_COUNT = 0 ∧ s.rows.missed.contains 32767 = false ∧ tenF s (rowGet s 32767 Row.TENANT) Tenant.DEADLINE_HARD = 0) := by decide +kernel

theorem witness_RowsAdmitAndEnd_9 :
    (let s := recSet (odSet (odSet (odSet State.reset OD.DEVICE_STATE 2) OD.ROLE 2) OD.PARK_IDLE_FRAMES 0) OD.SCOREBOARD_VIEW 0 [(Row.STATE, 4)]; framesRun s = true ∧ rowState s 0 = 4 ∧ role s = 2 ∧ od s OD.PARK_IDLE_FRAMES ≤ rowIdle s 0 ∧ hasDue s 0 = false ∧ rowGet s 0 Row.PROMPT_LEN ≤ rowGet s 0 Row.COMMITTED_LEN) := by decide +kernel

theorem witness_RowsAdmitAndEnd_10 :
    (let s := recSet (odSet (odSet State.reset OD.DEVICE_STATE 2) OD.FRAME_NUMBER 12000000) OD.SCOREBOARD_VIEW 0 [(Row.STATE, 6)]; framesRun s = true ∧ rowState s 0 = 6 ∧ tenF s (rowGet s 0 Row.TENANT) Tenant.HOLD_LIMIT ≤ rowIdle s 0 ∧ hasDue s 0 = false) := by decide +kernel

theorem witness_RowsAdmitAndEnd_11 :
    (let s := recSet State.reset OD.SCOREBOARD_VIEW 0 [(Row.STATE, 8)]; 8 ≤ rowState s 0 ∧ rowInFlight s 0 = false) := by decide +kernel

theorem witness_SelectCommitsTokens_1 :
    (let f := flyOf (stepOf 3 0 1); let s := odSet (flyBench (tsuUnit 0) (stepOf 3 0 1)) OD.ROLE 2; let s := memPut s 0 64 (mkRec [(SelDesc.ENTRIES, 1), (SelDesc.ENTRY_ADDR, 4096)]); flightOn s (tsuUnit 0) = some f ∧ getF f.step StepRec.OPCODE = 1 ∧ roleOpens (role s) 4 = true ∧ (readRec s (stepReader f) (getF f.step StepRec.DESC_ADDR) 64).2.2.1 = 0 ∧ getF (readRec s (stepReader f) (getF f.step StepRec.DESC_ADDR) 64).2.1 SelDesc.ENTRIES = 1 ∧ getF (readRec s (stepReader f) (getF f.step StepRec.DESC_ADDR) 64).2.1 SelDesc.ENTRY_ADDR = 4096 ∧ (readMem s true (stepReader f) 4096 32).2.2.1 = 0) := by decide +kernel

theorem witness_SelectCommitsTokens_2 :
    (flightOn (flyBench (tsuUnit 0) (stepOf 3 0 2)) (tsuUnit 0) = some (flyOf (stepOf 3 0 2)) ∧ getF (stepOf 3 0 2) StepRec.OPCODE ≠ 1) := by decide +kernel

theorem witness_SelectCommitsTokens_3 :
    (flightOn (flyBench (tsuUnit 0) (stepOf 3 0 1)) (tsuUnit 0) = some (flyOf (stepOf 3 0 1)) ∧ roleOpens (role (flyBench (tsuUnit 0) (stepOf 3 0 1))) 4 = false) := by decide +kernel

theorem witness_ClaspMessages_1 :
    (claspRuns State.reset = false) := by decide +kernel

theorem witness_ClaspMessages_2 :
    (let s := claspBench 1 4; let m := claspMsg 1 1 5; claspRuns s = true ∧ recordOf (toInbox s m) 1 (getF m.hdr ClaspMsg.REQUEST_ID) (getF m.hdr ClaspMsg.FROM_DEVICE) = some 3 ∧ crF (toInbox s m) 3 ClaspRec.STATE = 4) := by decide +kernel

theorem witness_ClaspMessages_3 :
    (let s := odSet State.reset OD.DEVICE_STATE 2; let m := claspMsg 1 1 5; claspRuns s = true ∧ recordOf (toInbox s m) 1 (getF m.hdr ClaspMsg.REQUEST_ID) (getF m.hdr ClaspMsg.FROM_DEVICE) = none ∧ (offerTests (toInbox s m) m.hdr 0 0 []).1 ≠ 0) := by decide +kernel

theorem witness_ClaspMessages_4 :
    (let m := offerMsgBench; claspRuns offerBench = true ∧ recordOf (toInbox offerBench m) 1 (getF m.hdr ClaspMsg.REQUEST_ID) (getF m.hdr ClaspMsg.FROM_DEVICE) = none ∧ (offerTests (toInbox offerBench m) m.hdr (leNat (m.data.take 128)) (leNat ((m.data.drop 128).take 64)) offerPlace).1 = 0 ∧ areaFree (toInbox offerBench m) 0 (192 + 16 * getF m.hdr ClaspMsg.BEAD_COUNT + 4 * getF m.hdr ClaspMsg.TOKENS) = true ∧ placeOk (toInbox offerBench m) (2 ^ segLog2 (getF m.hdr ClaspMsg.BEAD_COUNT)) offerPlace = true) := by decide +kernel

theorem witness_ClaspMessages_5 :
    (let s := claspBench 1 3; let m := claspMsg 1 0 5; claspRuns s = true ∧ recordOf (toInbox s m) 1 (getF m.hdr ClaspMsg.REQUEST_ID) (getF m.hdr ClaspMsg.FROM_DEVICE) = some 3 ∧ crF (toInbox s m) 3 ClaspRec.STATE = 3 ∧ crF (toInbox s m) 3 ClaspRec.EPOCH = getF m.hdr ClaspMsg.EPOCH) := by decide +kernel

theorem witness_ClaspMessages_6 :
    (let s := claspBench 0 2; let m := claspMsg 2 1 5; claspRuns s = true ∧ sourceRec (toInbox s m) m.hdr (getF m.hdr ClaspMsg.EPOCH) = some 3 ∧ crF (toInbox s m) 3 ClaspRec.STATE ≠ 1) := by decide +kernel

theorem witness_ClaspMessages_7 :
    (let s := claspBench 0 1; let m := claspMsg 2 1 5; claspRuns s = true ∧ sourceRec (toInbox s m) m.hdr (getF m.hdr ClaspMsg.EPOCH) = some 3 ∧ crF (toInbox s m) 3 ClaspRec.STATE = 1) := by decide +kernel

theorem witness_ClaspMessages_8 :
    (let s := claspBench 0 1; let m := claspMsg 4 1 6; claspRuns s = true ∧ sourceRec (toInbox s m) m.hdr ((getF m.hdr ClaspMsg.EPOCH + 2 ^ 32 - 1) % 2 ^ 32) = some 3) := by decide +kernel

theorem witness_ClaspMessages_9 :
    (let s := crSet (claspBench 1 4) 3 [(ClaspRec.ROW, 1)]; let s := rowSet s 1 [(Row.STATE, 4)]; let m := claspMsg 5 0 6; claspRuns s = true ∧ destRec (toInbox s m) m.hdr ((getF m.hdr ClaspMsg.EPOCH + 2 ^ 32 - 1) % 2 ^ 32) = some 3 ∧ crF (toInbox s m) 3 ClaspRec.STATE = 4 ∧ rowState (recordFree (toInbox s m) 3) 1 ≠ 0) := by decide +kernel

theorem witness_ClaspMessages_10 :
    (let s := claspBench 1 3; let m := claspMsg 5 0 6; claspRuns s = true ∧ destRec (toInbox s m) m.hdr ((getF m.hdr ClaspMsg.EPOCH + 2 ^ 32 - 1) % 2 ^ 32) = some 3 ∧ crF (toInbox s m) 3 ClaspRec.STATE ≠ 4) := by decide +kernel

theorem witness_ClaspMessages_11 :
    (let s := claspBench 1 4; let m := claspMsg 5 0 6; claspRuns s = true ∧ destRec (toInbox s m) m.hdr ((getF m.hdr ClaspMsg.EPOCH + 2 ^ 32 - 1) % 2 ^ 32) = some 3 ∧ crF (toInbox s m) 3 ClaspRec.STATE = 4 ∧ rowState (recordFree (toInbox s m) 3) (crF (toInbox s m) 3 ClaspRec.ROW) = 0) := by decide +kernel

theorem witness_ClaspMessages_12 :
    (let s := claspBench 1 4; let m := claspMsg 6 0 5; getF m.hdr ClaspMsg.FROM_SIDE = 0 ∧ destRec (toInbox s m) m.hdr (getF m.hdr ClaspMsg.EPOCH) = some 3 ∧ crF (toInbox s m) 3 ClaspRec.STATE = 4) := by decide +kernel

theorem witness_ClaspMessages_13 :
    (let s := claspBench 1 3; let m := claspMsg 6 0 5; claspRuns s = true ∧ destRec (toInbox s m) m.hdr (getF m.hdr ClaspMsg.EPOCH) = some 3 ∧ crF (toInbox s m) 3 ClaspRec.STATE = 3) := by decide +kernel

theorem witness_ClaspMessages_14 :
    (let s := odSet State.reset OD.DEVICE_STATE 2; let m := claspMsg 6 0 5; claspRuns s = true ∧ getF m.hdr ClaspMsg.FROM_SIDE = 0 ∧ (toInbox s m).rows.clasp = [] ∧ (requestRow (toInbox s m) 9).2 = none) := by decide +kernel

theorem witness_ClaspMessages_15 :
    (let s := claspBench 0 1; let m := claspMsg 6 1 6; claspRuns s = true ∧ getF m.hdr ClaspMsg.FROM_SIDE = 1 ∧ sourceRec (toInbox s m) m.hdr ((getF m.hdr ClaspMsg.EPOCH + 2 ^ 32 - 1) % 2 ^ 32) = some 3) := by decide +kernel

theorem witness_ClaspMessages_16 :
    (let s := claspBench 1 1; let m := claspMsg 6 1 6; claspRuns s = true ∧ getF m.hdr ClaspMsg.FROM_SIDE = 1 ∧ sourceRec (toInbox s m) m.hdr 5 = none ∧ (requestRow (toInbox s m) 9).2 = none ∧ (departed (requestRow (toInbox s m) 9).1 9).2 = false ∧ (requestRow (departed (requestRow (toInbox s m) 9).1 9).1 9).2 = none) := by decide +kernel

theorem witness_ClaspMessages_17 :
    (let s := (deviceInsert (odSet State.reset OD.DEVICE_STATE 2) 1 (dedupeKey 9 1) (mkRec [(DedupeVal.FORM, 3)])).1; let s := recSet s OD.BANK_CONFIG 0 [(BankCfg.KIND, 1), (BankCfg.WIDTH, 1), (BankCfg.FIRST, 0), (BankCfg.COUNT, 1)]; let s := (deviceInsert s 1 (dedupeKey 9 1) (mkRec [(DedupeVal.FORM, 3)])).1; let m := claspMsg 4 1 6; claspRuns s = true ∧ sourceRec (toInbox s m) m.hdr 5 = none ∧ (requestRow (toInbox s m) 9).2 = none ∧ (departed (requestRow (toInbox s m) 9).1 9).2 = true) := by decide +kernel

theorem witness_ClaspMessages_18 :
    (let s := claspBench 1 1; let m := claspMsg 4 1 6; claspRuns s = true ∧ sourceRec (toInbox s m) m.hdr 5 = none ∧ (requestRow (toInbox s m) 9).2 = none ∧ (departed (requestRow (toInbox s m) 9).1 9).2 = false) := by decide +kernel

theorem witness_ClaspTimersAndCommit_1 :
    (let s := odSet (claspBench 0 1) OD.FRAME_NUMBER 100; claspRuns s = true ∧ crF s 3 ClaspRec.STATE = 1 ∧ crF s 3 ClaspRec.SENDS < od s OD.CLASP_RESEND_MAX ∧ od s OD.CLASP_RESEND_FRAMES ≤ sinceSend s 3) := by decide +kernel

theorem witness_ClaspTimersAndCommit_2 :
    (let s := odSet (claspBench 1 4) OD.FRAME_NUMBER 100; claspRuns s = true ∧ crF s 3 ClaspRec.STATE = 4 ∧ crF s 3 ClaspRec.SENDS < od s OD.CLASP_RESEND_MAX ∧ od s OD.CLASP_RESEND_FRAMES ≤ sinceSend s 3) := by decide +kernel

theorem witness_ClaspTimersAndCommit_3 :
    (let s := odSet (claspBench 0 2) OD.FRAME_NUMBER 100000; claspRuns s = true ∧ queries s 3 = true ∧ od s OD.CLASP_QUERY_FRAMES ≤ sinceSend s 3) := by decide +kernel

theorem witness_ClaspTimersAndCommit_4 :
    (let s := odSet (claspBench 0 2) OD.FRAME_NUMBER 1000000; claspRuns s = true ∧ crF s 3 ClaspRec.STATE ≠ 0 ∧ (claspAux s 3).stuck = false ∧ od s OD.CLASP_STUCK_FRAMES < frameDiff (claspAux s 3).opened (frameNo s)) := by decide +kernel

theorem witness_ClaspTimersAndCommit_5 :
    (let s := odSet (claspBench 1 3) OD.FRAME_NUMBER 1000000; claspRuns s = true ∧ crF s 3 ClaspRec.STATE = 3 ∧ od s OD.CLASP_NO_DATA_FRAMES ≤ frameDiff (claspAux s 3).lastLand (frameNo s)) := by decide +kernel

theorem witness_ClaspTimersAndCommit_6 :
    (let f := flyOf (stepOf 8 0 1); let s := memPut (odSet (flyBench claspUnit (stepOf 8 0 1)) OD.ROLE 3) 0 64 (mkRec [(CommitDesc.ENTRIES, 1), (CommitDesc.ENTRY_ADDR, 4096)]); let d := readRec s (stepReader f) (getF f.step StepRec.DESC_ADDR) 64; flightOn s claspUnit = some f ∧ getF f.step StepRec.OPCODE = 1 ∧ roleOpens (role s) 6 = true ∧ d.2.2.1 = 0 ∧ getF d.2.1 CommitDesc.ENTRIES = 1 ∧ getF d.2.1 CommitDesc.ENTRY_ADDR = 4096 ∧ (commitRun d.1 f 4096 1 0).2.2.2 = false) := by decide +kernel

theorem witness_ClaspTimersAndCommit_7 :
    (flightOn (flyBench claspUnit (stepOf 8 0 2)) claspUnit = some (flyOf (stepOf 8 0 2)) ∧ getF (stepOf 8 0 2) StepRec.OPCODE ≠ 1) := by decide +kernel

theorem witness_ClaspTimersAndCommit_8 :
    (flightOn (flyBench claspUnit (stepOf 8 0 1)) claspUnit = some (flyOf (stepOf 8 0 1)) ∧ roleOpens (role (flyBench claspUnit (stepOf 8 0 1))) 6 = false) := by decide +kernel

theorem witness_ClaspTimersAndCommit_9 :
    (let s := claspBench 1 3; crF s 3 ClaspRec.SIDE = 1 ∧ crF s 3 ClaspRec.STATE = 3 ∧ crF s 3 ClaspRec.BYTES_LANDED = crF s 3 ClaspRec.BYTES_EXPECTED) := by decide +kernel

theorem witness_ClaspTimersAndCommit_10 :
    (let s := crSet (claspBench 1 3) 3 [(ClaspRec.BYTES_EXPECTED, 1)]; crF s 3 ClaspRec.SIDE = 1 ∧ crF s 3 ClaspRec.STATE = 3 ∧ crF s 3 ClaspRec.BYTES_LANDED ≠ crF s 3 ClaspRec.BYTES_EXPECTED) := by decide +kernel

theorem witness_ClaspTimersAndCommit_11 :
    (crF (claspBench 1 4) 3 ClaspRec.STATE ≠ 0 ∧ crF (claspBench 1 4) 3 ClaspRec.STATE ≠ 3) := by decide +kernel

theorem witness_MemorySteps_1 :
    (let f := flyOf (stepOf 9 0 1); let s := memPut (flyBench (memUnit 0) (stepOf 9 0 1)) 0 64 (mkRec [(MemDesc.SCRUB_LINES, 1), (MemDesc.SCRUB_AUTO, 1)]); let d := readRec s (stepReader f) (getF f.step StepRec.DESC_ADDR) 64; flightOn s (memUnit 0) = some f ∧ getF f.step StepRec.OPCODE = 1 ∧ d.2.2.1 = 0 ∧ getF d.2.1 MemDesc.SCRUB_LINES = 1 ∧ getF d.2.1 MemDesc.SCRUB_AUTO = 1) := by decide +kernel

theorem witness_MemorySteps_2 :
    (let f := flyOf (stepOf 9 7 1); let s := memPut (flyBench (memUnit 7) (stepOf 9 7 1)) 0 64 (mkRec [(MemDesc.SCRUB_LINES, 1), (MemDesc.SCRUB_START_LINE, 2 ^ 31 - 1)]); let d := readRec s (stepReader f) (getF f.step StepRec.DESC_ADDR) 64; flightOn s (memUnit 7) = some f ∧ d.2.2.1 = 0 ∧ getF d.2.1 MemDesc.SCRUB_LINES = 1 ∧ getF d.2.1 MemDesc.SCRUB_START_LINE + 1 ≤ 2 ^ 31 ∧ getF d.2.1 MemDesc.SCRUB_AUTO = 0) := by decide +kernel

theorem witness_MemorySteps_3 :
    (let f := flyOf (stepOf 9 7 1); let s := memPut (flyBench (memUnit 7) (stepOf 9 7 1)) 0 64 (mkRec [(MemDesc.SCRUB_LINES, 2), (MemDesc.SCRUB_START_LINE, 2 ^ 31 - 1)]); let d := readRec s (stepReader f) (getF f.step StepRec.DESC_ADDR) 64; flightOn s (memUnit 7) = some f ∧ d.2.2.1 = 0 ∧ 2 ^ 31 < getF d.2.1 MemDesc.SCRUB_START_LINE + getF d.2.1 MemDesc.SCRUB_LINES) := by decide +kernel

theorem witness_MemorySteps_4 :
    (let s := { State.reset with mc := { State.reset.mc with lineErr := [(0, 4)] } }; kget s.mc.lineErr (stackOff 0 (64 * 0) / 64) 0 = 4) := by decide +kernel

theorem witness_MemorySteps_5 :
    (let s := { State.reset with mc := { State.reset.mc with lineErr := [(0, 5)] } }; 4 < kget s.mc.lineErr (stackOff 0 (64 * 0) / 64) 0) := by decide +kernel

theorem witness_MemorySteps_6 :
    (let f := flyOf (stepOf 9 0 2); let s := memPut (flyBench (memUnit 0) (stepOf 9 0 2)) 0 64 (mkRec [(MemDesc.REMAP_ROWS, 3)]); let d := readRec s (stepReader f) (getF f.step StepRec.DESC_ADDR) 64; flightOn s (memUnit 0) = some f ∧ getF f.step StepRec.OPCODE = 2 ∧ d.2.2.1 = 0 ∧ getF d.2.1 MemDesc.REMAP_ROWS ≠ 0) := by decide +kernel

theorem witness_MemorySteps_7 :
    (let f := flyOf (stepOf 9 0 3); let s := memPut (flyBench (memUnit 0) (stepOf 9 0 3)) 0 64 (mkRec [(MemDesc.MIGRATE_ENTRIES, 1), (MemDesc.MIGRATE_ENTRY_ADDR, 64)]); let d := readRec s (stepReader f) (getF f.step StepRec.DESC_ADDR) 64; flightOn s (memUnit 0) = some f ∧ getF f.step StepRec.OPCODE = 3 ∧ d.2.2.1 = 0 ∧ getF d.2.1 MemDesc.MIGRATE_ENTRIES ≠ 0 ∧ getF d.2.1 MemDesc.MIGRATE_ENTRY_ADDR % 64 = 0) := by decide +kernel

theorem witness_MemorySteps_8 :
    (freeSpare State.reset 0 0 0 = some 0 ∧ remapEntries State.reset 0 = []) := by decide +kernel

theorem witness_MemorySteps_9 :
    (let s := odPut State.reset OD.REMAP_TABLE 0 (mkRec [(RemapEnt.VALID, 1)]); freeSpare s 0 0 0 = some 1 ∧ remapEntries s 0 = [(0, mkRec [(RemapEnt.VALID, 1)])]) := by decide +kernel

theorem witness_MemorySteps_10 :
    (Memory.wf State.reset.mem = true ∧ State.reset.mc.lineErr = []) := by decide +kernel

theorem witness_MemorySteps_11 :
    (let s := odSet State.reset OD.TIER_FRAMES 1; let e := mkRec [(MemDesc.E_GRANULE, 2 ^ 20)]; getF e MemDesc.E_FRAME < od s OD.TIER_FRAMES ∧ getF e MemDesc.E_GRANULE / 2 ^ 21 = 0 ∧ granuleExcluded s (getF e MemDesc.E_GRANULE) = false ∧ tierFrame s (getF e MemDesc.E_GRANULE) = none) := by decide +kernel

theorem witness_MemorySteps_12 :
    (let s := odPut (odSet State.reset OD.TIER_FRAMES 1) OD.GRANULE_MAP 0 (2 ^ 31 + 2 ^ 20); let e := mkRec [(MemDesc.E_GRANULE, 2 ^ 20), (MemDesc.E_DIR, 1)]; getF e MemDesc.E_FRAME < od s OD.TIER_FRAMES ∧ getF e MemDesc.E_GRANULE / 2 ^ 21 = 0 ∧ granuleExcluded s (getF e MemDesc.E_GRANULE) = false ∧ getF e MemDesc.E_DIR ≠ 0 ∧ odGet s OD.GRANULE_MAP (getF e MemDesc.E_FRAME) = 2 ^ 31 + getF e MemDesc.E_GRANULE) := by decide +kernel

theorem witness_MemorySteps_13 :
    (let f := flyOf (stepOf 9 0 2); let s := flyBench (memUnit 0) (stepOf 9 0 2); let d := readRec s (stepReader f) (getF f.step StepRec.DESC_ADDR) 64; flightOn s (memUnit 0) = some f ∧ getF f.step StepRec.OPCODE = 2 ∧ d.2.2.1 = 0 ∧ getF d.2.1 MemDesc.REMAP_ROWS = 0) := by decide +kernel

theorem witness_MemorySteps_14 :
    (let f := flyOf (stepOf 9 0 3); let s := flyBench (memUnit 0) (stepOf 9 0 3); let d := readRec s (stepReader f) (getF f.step StepRec.DESC_ADDR) 64; flightOn s (memUnit 0) = some f ∧ getF f.step StepRec.OPCODE = 3 ∧ d.2.2.1 = 0 ∧ getF d.2.1 MemDesc.MIGRATE_ENTRIES = 0) := by decide +kernel

theorem witness_MemorySteps_15 :
    (let f := flyOf (stepOf 9 0 4); flightOn (flyBench (memUnit 0) (stepOf 9 0 4)) (memUnit 0) = some f ∧ 3 < getF f.step StepRec.OPCODE) := by decide +kernel

theorem witness_MemorySteps_16 :
    (let s := { State.reset with mc := { State.reset.mc with acts := [(5, 2 ^ 32)] } }; od s OD.ACT_THRESHOLD ≤ kget s.mc.acts (0 * 512 + 5) 0) := by decide +kernel

theorem witness_MemorySteps_17 :
    (let s := odSet State.reset OD.ACT_THRESHOLD 9; kget s.mc.acts (0 * 512 + 5) 0 < od s OD.ACT_THRESHOLD) := by decide +kernel

theorem witness_LinkStates_1 :
    (let s := odSet State.reset OD.DEVICE_STATE 2; inRun s = true ∧ linkState s 63 = 0) := by decide +kernel

theorem witness_LinkStates_2 :
    (let s := odPut State.reset OD.LINK_STATE 62 1; linkState s 62 = 1 ∧ peerExpected s 62 1 0 0 0 = true) := by decide +kernel

theorem witness_LinkStates_3 :
    (let s := odPut State.reset OD.LINK_STATE 0 1; linkState s 0 = 1 ∧ peerExpected s 0 1 0 0 0 = false) := by decide +kernel

theorem witness_LinkStates_4 :
    (let s := odPut (odSet State.reset OD.DEVICE_STATE 2) OD.LINK_STATE 0 2; inRun s = true ∧ linkState s 0 ≠ 0) := by decide +kernel

theorem witness_LinkStates_5 :
    (inConfig (odSet State.reset OD.DEVICE_STATE 3) = false ∧ inRun (odSet State.reset OD.DEVICE_STATE 3) = false) := by decide +kernel

theorem witness_LinkStates_6 :
    (let s := { odPut State.reset OD.LINK_STATE 0 1 with clk := 100000 * usClk }; linkState s 0 = 1 ∧ (lnk s 0).since + 100000 * usClk ≤ s.clk ∧ (lnk s 0).attempts + 1 < od s OD.TRAIN_ATTEMPTS) := by decide +kernel

theorem witness_LinkStates_7 :
    (let s := { setLnk (odPut State.reset OD.LINK_STATE 0 1) 0 { LinkSt.reset with attempts := 99 } with clk := 100000 * usClk }; linkState s 0 = 1 ∧ (lnk s 0).since + 100000 * usClk ≤ s.clk ∧ od s OD.TRAIN_ATTEMPTS ≤ (lnk s 0).attempts + 1) := by decide +kernel

theorem witness_LinkStates_8 :
    (let s := { setLnk (odPut State.reset OD.LINK_STATE 0 2) 0 { LinkSt.reset with replay := [⟨0, [], 1, 0⟩] } with clk := 2500 }; linkActive s 0 = true ∧ ∃ g ∈ (lnk s 0).replay, g.first + 2500 ≤ s.clk) := by decide +kernel

theorem witness_LinkStates_9 :
    (let s := odPut State.reset OD.LINK_STATE 0 3; linkState s 0 = 3 ∧ s.clk < (lnk s 0).since + 20 * usClk ∧ (recentRecoveries s 0).length < od s OD.RECOVERY_LIMIT) := by decide +kernel

theorem witness_LinkStates_10 :
    (let s := odSet (odPut State.reset OD.LINK_STATE 0 3) OD.RECOVERY_LIMIT 1; linkState s 0 = 3 ∧ s.clk < (lnk s 0).since + 20 * usClk ∧ od s OD.RECOVERY_LIMIT ≤ (recentRecoveries s 0).length) := by decide +kernel

theorem witness_LinkStates_11 :
    (let s := { odPut State.reset OD.LINK_STATE 0 3 with clk := 20 * usClk }; linkState s 0 = 3 ∧ (lnk s 0).since + 20 * usClk ≤ s.clk) := by decide +kernel

theorem witness_LinkStates_12 :
    (let s := odPut State.reset OD.LINK_STATE 5 3; 1 ≤ linkState s (69 % 64) ∧ linkState s (69 % 64) ≤ 3) := by decide +kernel

theorem witness_LinkStates_13 :
    (linkState State.reset (3 % 64) = 0) := by decide +kernel

theorem witness_FlitGroups_1 :
    (let s := odPut State.reset OD.LINK_STATE 63 2; linkActive s 63 = true ∧ s.txq = [] ∧ (lnk s 63).replayDue = [] ∧ (lnk s 63).replay.length < 64 ∧ (lnk s 63).queue = []) := by decide +kernel

theorem witness_FlitGroups_2 :
    (let m : Msg := ⟨1, 1, 0, mkRec [(Pkt.OPCODE, 1)], 32, [], 4, 0⟩; let s := { odPut State.reset OD.LINK_STATE 0 2 with txq := [m] }; linkActive s 0 = true ∧ ordered m = true ∧ qpF s m.stream QpCtx.QUANTUM = 0) := by decide +kernel

theorem witness_FlitGroups_3 :
    (let s := odPut State.reset OD.LINK_STATE 0 2; linkActive s 0 = true ∧ ctrlCrcOk 0 [] = false) := by decide +kernel

theorem witness_FlitGroups_4 :
    (let s := odPut State.reset OD.LINK_STATE 0 2; let g := groupBench 0; ctrlCrcOk g.1 g.2.1 = true ∧ linkActive (takeControl s 0 g.1) 0 = true ∧ (∃ d ∈ g.2.1, getF d PayDesc.PAYLOAD ≠ 0) ∧ (g.2.1.zip g.2.2).all (fun p => flitCrc p.1 p.2 == getF p.1 PayDesc.FLIT_CRC) = true ∧ g.2.1.length = 15 ∧ g.2.2.length = 15 ∧ getF g.1 CtlFlit.GSEQ = (lnk (takeControl s 0 g.1) 0).rxSeq) := by decide +kernel

theorem witness_FlitGroups_5 :
    (let s := odPut State.reset OD.LINK_STATE 0 2; let g := groupBench 7; ctrlCrcOk g.1 g.2.1 = true ∧ linkActive (takeControl s 0 g.1) 0 = true ∧ getF g.1 CtlFlit.GSEQ ≠ (lnk (takeControl s 0 g.1) 0).rxSeq) := by decide +kernel

theorem witness_FlitGroups_6 :
    (let s := odPut State.reset OD.LINK_STATE 0 2; let h := setF 0 CtlFlit.CTRL_CRC (crc32c (leBytes 16 0)); ctrlCrcOk h [] = true ∧ linkActive s 0 = true) := by decide +kernel

theorem witness_FlitGroups_7 :
    (linkActive State.reset 0 = false ∧ (lnk State.reset 0).hopping = []) := by decide +kernel

theorem witness_FlitGroups_8 :
    (let f : Flit := ⟨mkRec [(PayDesc.VC, 1), (PayDesc.HOP, 1), (PayDesc.DEST, 77)], [1]⟩; let s := odPut (odPut State.reset OD.LINK_STATE 5 2) OD.LINK_PEER 5 (mkRec [(fld 31 19, 77), (fld 18 14, 3)]); let s := setLnk (setLnk s 2 { LinkSt.reset with hopping := [[f]] }) 5 { LinkSt.reset with credits := [1, 0, 0] }; (lnk s 2).hopping = [[f]] ∧ (directLinks s (getF f.desc PayDesc.DEST)).head? = some 5 ∧ 1 ≤ freeCredits s 5 1) := by decide +kernel

theorem witness_QueuePairRequests_1 :
    (let f := flyOf (stepOf 5 3 1); let s := flyBench (unitKey 5 3) (stepOf 5 3 1); flightOn s (unitKey 5 3) = some f ∧ getF f.step StepRec.OPCODE = 1 ∧ unitWork s (unitKey 5 3) = false ∧ (readRec s (stepReader f) (getF f.step StepRec.DESC_ADDR) 64).2.2.1 = 0) := by decide +kernel

theorem witness_QueuePairRequests_2 :
    (let f := flyOf (stepOf 5 0 7); flightOn (flyBench (unitKey 5 0) (stepOf 5 0 7)) (unitKey 5 0) = some f ∧ getF f.step StepRec.OPCODE = 7) := by decide +kernel

theorem witness_QueuePairRequests_3 :
    (let s := qpBench 4 [(QpCtx.STATE, 1)]; pullOf s 4 0 = none ∧ qpState s 4 ≠ 2 ∧ qpState s 4 ≠ 5) := by decide +kernel

theorem witness_QueuePairRequests_4 :
    (let s := odSet (qpBench 4 [(QpCtx.STATE, 2)]) OD.QP_FUNCTIONS_OPEN 1; pullOf s 4 0 = none ∧ funcOpen s (qpF s 4 QpCtx.FUNCTION) = true ∧ qpState s 4 = 2) := by decide +kernel

theorem witness_QueuePairRequests_5 :
    (let s := memPut (qpBench 4 [(QpCtx.STATE, 2), (QpCtx.SQ_PI, 1), (QpCtx.SQ_BASE, 65536)]) 65536 64 (mkRec [(Sqe.OP, 3), (Sqe.LENGTH, 64)]); qpState s 4 = 2 ∧ nextIdx s 4 = some 0 ∧ (readRec s ownReader (sqAddr s 4 0) 64).2.2.1 = 0 ∧ getF (readRec s ownReader (sqAddr s 4 0) 64).2.1 Sqe.OP = 3 ∧ mayStart (readRec s ownReader (sqAddr s 4 0) 64).1 4 (readRec s ownReader (sqAddr s 4 0) 64).2.1 = true) := by decide +kernel

theorem witness_QueuePairRequests_6 :
    (nextIdx State.reset 65535 = none) := by decide +kernel

theorem witness_QueuePairRequests_7 :
    (let s := qpBench 4 [(QpCtx.STATE, 3)]; qpState s 4 = 3 ∧ (qpSt s 4).wqes = [] ∧ qpF s 4 QpCtx.ACK_PSN = qpF s 4 QpCtx.SEND_PSN ∧ qpF s 4 QpCtx.SQ_CI = qpF s 4 QpCtx.SQ_PI) := by decide +kernel

theorem witness_QueuePairRequests_8 :
    (let m := pktBench 7 4 9; qpState (takeRx State.reset m) (getF m.hdr Pkt.DEST_QP) = 0) := by decide +kernel

theorem witness_QueuePairRequests_9 :
    (let m := pktBench 7 4 9; let x := takeRx (qpBench 4 [(QpCtx.STATE, 2), (QpCtx.SEND_PSN, 20)]) m; qpState x 4 = 2 ∧ psnBefore (qpSt x 4).acked (psnAdd (getF m.hdr Pkt.PSN) 1) = true ∧ psnDiff (qpSt x 4).acked (psnAdd (getF m.hdr Pkt.PSN) 1) ≤ psnDiff (qpSt x 4).acked (qpF x 4 QpCtx.SEND_PSN)) := by decide +kernel

theorem witness_QueuePairRequests_10 :
    (let s := { setQpSt (qpBench 4 [(QpCtx.STATE, 2)]) 4 { QpSt.reset with ackDue := some 0 } with clk := usClk }; (qpSt s 4).ackDue = some 0 ∧ 0 + usClk ≤ s.clk ∧ qpState s 4 = 2) := by decide +kernel

theorem witness_QueuePairRequests_11 :
    (let p : SentPkt := ⟨7, 7, pktBench 1 4 7, 0, 0, some 3⟩; let s := { setQpSt (qpBench 4 [(QpCtx.STATE, 2)]) 4 { QpSt.reset with sent := [p] } with clk := 3 }; (qpSt s 4).sent.find? (fun p => p.psn == 7) = some p ∧ p.due = some 3 ∧ 3 ≤ s.clk ∧ qpState s 4 = 2) := by decide +kernel

theorem witness_QueuePairRequests_12 :
    (let w : Wqe := ⟨0, 0, 0, 0, 0, 0, [], 0, 0, 0, 0, 0, none, .host, false⟩; let s := setQpSt (qpBench 4 [(QpCtx.STATE, 2), (QpCtx.SEND_PSN, 1)]) 4 { QpSt.reset with timer := some 0, wqes := [w] }; let x := dropRevoked (qpCount s 2 1) 4; (qpSt s 4).timer = some 0 ∧ 0 + usClk * qpF s 4 QpCtx.TIMEOUT ≤ s.clk ∧ qpState s 4 = 2 ∧ qpF x 4 QpCtx.ACK_PSN ≠ qpF x 4 QpCtx.SEND_PSN ∧ qpF x 4 QpCtx.RETRY_MAX ≤ (qpSt x 4).retries + 1 ∧ (qpSt x 4).wqes.find? (fun w => !w.finished) = some w) := by decide +kernel

theorem witness_QueuePairPackets_1 :
    (let m := pktBench 1 4 9; let x := takeRx State.reset m; let z := mapTouch x (qpAddr x 4) 128; ¬ (qpState z 4 = 2 ∨ qpState z 4 = 3) ∧ (requestGate x 4 m).2 = 3) := by decide +kernel

theorem witness_QueuePairPackets_2 :
    (let m := pktBench 1 4 9000; let x := takeRx (qpBench 4 [(QpCtx.STATE, 2)]) m; let z := mapTouch x (qpAddr x 4) 128; qpState z 4 = 2 ∧ classify z 4 9000 = 2) := by decide +kernel

theorem witness_QueuePairPackets_3 :
    (let m := pktBench 5 4 9; let x := takeRx (setQpSt (qpBench 4 [(QpCtx.STATE, 2), (QpCtx.RECV_PSN, 10)]) 4 { QpSt.reset with atomics := [(9, 1)] }) m; let z := mapTouch x (qpAddr x 4) 128; let g := requestGate x 4 m; qpState z 4 = 2 ∧ classify z 4 9 = 1 ∧ isHeld z 4 9 = false ∧ owedResend z 4 m.hdr = false ∧ g.2 = 1 ∧ (qpSt g.1 4).atomics.find? (fun y => y.1 == 9) = some (9, 1)) := by decide +kernel

theorem witness_QueuePairPackets_4 :
    (let m := pktBench 1 4 9; let x := takeRx (setQpSt (qpBench 4 [(QpCtx.STATE, 2)]) 4 { QpSt.reset with bitmap := [9], owed := [(9, 1)] }) m; let z := mapTouch x (qpAddr x 4) 128; qpState z 4 = 2 ∧ classify z 4 9 = 1 ∧ isHeld z 4 9 = false ∧ owedResend z 4 m.hdr = true) := by decide +kernel

theorem witness_QueuePairPackets_5 :
    (let m : Msg := { pktBench 2 4 9 with data := [255, 255, 255, 255, 255, 255, 255, 255] }; let x := takeRx (qpBench 4 [(QpCtx.STATE, 2)]) m; let g := requestGate x 4 m; let z := pktData g.1 m; g.2 = 0 ∧ z.2.1 = none ∧ z.2.2 = false) := by decide +kernel

theorem witness_QueuePairPackets_6 :
    (let m := blockBench 2 9; let x := takeRx (qpBench 4 [(QpCtx.STATE, 2)]) m; let g := requestGate x 4 m; let z := pktData g.1 m; g.2 = 0 ∧ z.2.1.map (fun d => ((msgOf (countIn z.1 4 d.raw) 4 m.hdr).status, keyCheck (countIn z.1 4 d.raw) 4 m 2 (touched m.hdr).1 d.raw)) = some (0, 2)) := by decide +kernel

theorem witness_QueuePairPackets_7 :
    (let m := blockBench 2 9; let x := takeRx (mrBench 4 0) m; let g := requestGate x 4 m; let z := pktData g.1 m; g.2 = 0 ∧ z.2.1.map (fun d => let c := countIn z.1 4 d.raw; ((msgOf c 4 m.hdr).status, keyCheck c 4 m 2 (touched m.hdr).1 d.raw, pageAbsent c m)) = some (0, 0, false)) := by decide +kernel

theorem witness_QueuePairPackets_8 :
    (let m := blockBench 2 9; let x := takeRx (mrBench 4 1) m; let g := requestGate x 4 m; let z := pktData g.1 m; g.2 = 0 ∧ z.2.1.map (fun d => let c := countIn z.1 4 d.raw; ((msgOf c 4 m.hdr).status, keyCheck c 4 m 2 (touched m.hdr).1 d.raw, pageAbsent c m)) = some (0, 0, true)) := by decide +kernel

theorem witness_QueuePairPackets_9 :
    (let m := blockBench 1 9; let y := qpBench 4 [(QpCtx.STATE, 2)]; psnBefore (getF m.hdr Pkt.MSN) (qpF y 4 QpCtx.RECV_MSN) = false ∧ (qpSt y 4).rx = [] ∧ rxBuffer y 4 (getF m.hdr Pkt.MSN) = none) := by decide +kernel

theorem witness_QueuePairPackets_10 :
    (let m := blockBench 1 9; let y := memPut (qpBench 4 [(QpCtx.STATE, 2), (QpCtx.RQ_PI, 1), (QpCtx.RQ_BASE, 65536)]) 65536 32 (mkRec [(Rqe.LENGTH, 64), (Rqe.ADDR, 131072)]); let nr := newSend y 4 m.hdr 0; rxBuffer y 4 (getF m.hdr Pkt.MSN) = some 0 ∧ rxKnown y 4 (getF m.hdr Pkt.MSN) = true ∧ nr.2.status = 0 ∧ (placeData (rxSet (countIn nr.1 4 1) 4 nr.2) m false (nr.2.addr + getF m.hdr Pkt.OFFSET) ⟨[7], 1, false⟩).2 = 0) := by decide +kernel

theorem witness_QueuePairPackets_11 :
    (let m := pktBench 3 4 9; let x := takeRx (mrBench 4 0) m; let g := requestGate x 4 m; g.2 = 0 ∧ pageAbsent g.1 m = false) := by decide +kernel

theorem witness_QueuePairPackets_12 :
    (let m := pktBench 5 4 9; let x := takeRx (mrBench 4 0) m; let g := requestGate x 4 m; let c := countIn g.1 4 16; g.2 = 0 ∧ keyCheck c 4 m 1 (getF m.hdr Pkt.REMOTE_OFFSET) 8 = 0 ∧ pageAbsent c m = false) := by decide +kernel

theorem witness_QueuePairPackets_13 :
    (let m := pktBench 4 4 9; let x := takeRx (qpBench 4 [(QpCtx.STATE, 2)]) m; qpState x 4 = 2 ∧ respWqe x 4 9 true = none ∧ respWqe x 4 9 false = none) := by decide +kernel

theorem witness_QueuePairPackets_14 :
    (let m := pktBench 4 4 9; let x := takeRx State.reset m; ¬ (qpState x (getF m.hdr Pkt.DEST_QP) = 2 ∨ qpState x (getF m.hdr Pkt.DEST_QP) = 3)) := by decide +kernel

theorem witness_QueuePairPackets_15 :
    (let w : Wqe := ⟨mkRec [(Sqe.OP, 3), (Sqe.LENGTH, 1)], 0, 0, 9, 1, 0, [], 0, 1, 0, 0, 0, none, .host, false⟩; let m := blockBench 4 9; let x := takeRx (setQpSt (qpBench 4 [(QpCtx.STATE, 2)]) 4 { QpSt.reset with wqes := [w] }) m; let z := pktData x m; qpState x 4 = 2 ∧ respWqe x 4 9 true = some w ∧ z.2.1.map (fun d => (placeResp (countIn z.1 4 d.raw) w m (getF m.hdr Pkt.OFFSET) d).2) = some 0) := by decide +kernel

theorem witness_QueuePairPackets_16 :
    (let w : Wqe := ⟨mkRec [(Sqe.OP, 4)], 0, 0, 9, 1, 0, [], 0, 1, 0, 0, 0, none, .host, false⟩; let m := pktBench 6 4 9; let x := takeRx (setQpSt (qpBench 4 [(QpCtx.STATE, 2)]) 4 { QpSt.reset with wqes := [w] }) m; qpState x 4 = 2 ∧ respWqe x 4 9 false = some w ∧ (placeResp (countIn x 4 8) w m 0 ⟨m.data.take 8, 8, false⟩).2 = 0) := by decide +kernel

theorem witness_QueuePairPackets_17 :
    (let m : Msg := { pktBench 8 4 9 with hdr := setF (pktBench 8 4 9).hdr Pkt.STATUS 0x20 }; qpState (takeRx (qpBench 4 [(QpCtx.STATE, 2)]) m) 4 = 2 ∧ getF m.hdr Pkt.STATUS = 0x20 ∧ getF m.hdr Pkt.DEST_QP = 4) := by decide +kernel

theorem witness_QueuePairPackets_18 :
    (let w : Wqe := ⟨0, 0, 0, 9, 1, 0, [], 0, 1, 0, 0, 0, none, .host, false⟩; let m : Msg := { pktBench 8 4 9 with hdr := setF (pktBench 8 4 9).hdr Pkt.STATUS 2 }; let x := takeRx (setQpSt (qpBench 4 [(QpCtx.STATE, 2)]) 4 { QpSt.reset with wqes := [w] }) m; qpState x 4 = 2 ∧ getF m.hdr Pkt.STATUS = 2 ∧ wqeOf x 4 9 = some w ∧ w.finished = false) := by decide +kernel

theorem witness_HeldPacketsCompletionsAndWickets_1 :
    (let h : HeldPkt := ⟨4, pktBench 3 4 9, 0, false⟩; let s := { State.reset with net := { State.reset.net with faults := [h] } }; s.net.faults.find? (fun h => h.qp == 4 && getF h.msg.hdr Pkt.PSN == 9) = some h ∧ pageAbsent s h.msg = false ∧ h.clk + usClk * getF (mrOf s h.msg) Mr.STALL_LIMIT ≤ s.clk) := by decide +kernel

theorem witness_HeldPacketsCompletionsAndWickets_2 :
    (let m := { pktBench 3 4 9 with hdr := setF (pktBench 3 4 9).hdr Pkt.MSG_LEN 64 }; let h : HeldPkt := ⟨4, m, 0, false⟩; let s := mrBench 4 1; let s := { s with net := { s.net with faults := [h] } }; s.net.faults.find? (fun h => h.qp == 4 && getF h.msg.hdr Pkt.PSN == 9) = some h ∧ pageAbsent s h.msg = true ∧ s.clk < h.clk + usClk * getF (mrOf s h.msg) Mr.STALL_LIMIT) := by decide +kernel

theorem witness_HeldPacketsCompletionsAndWickets_3 :
    (let s := { State.reset with net := { State.reset.net with cqWait := [(2, 0), (1, 5)] } }; s.net.cqWait.find? (fun p => p.1 == 1) = some (1, 5) ∧ cqFull s 1 = true) := by decide +kernel

theorem witness_HeldPacketsCompletionsAndWickets_4 :
    (let s := odPut { State.reset with net := { State.reset.net with cqWait := [(2, 0), (1, 5)] } } OD.CQ_TABLE 1 (2 ^ 64); s.net.cqWait.find? (fun p => p.1 == 1) = some (1, 5) ∧ cqFull s 1 = false) := by decide +kernel

theorem witness_HeldPacketsCompletionsAndWickets_5 :
    (let s := { odSet State.reset OD.DEVICE_STATE 2 with clk := 64 }; inRun s = true ∧ s.net.wicketClk + 64 ≤ s.clk) := by decide +kernel

theorem witness_TrayMessages_1 :
    (respRoom State.reset (respBytes (trayBench 0x40 4031 [])) = true ∧ respRoom exportBench (respBytes (trayBench 0x44 7 [])) = true) := by decide +kernel

theorem witness_TrayMessages_2 :
    (let m := trayBench 0x41 0 (List.replicate 4032 0); respRoom { State.reset with txq := List.replicate 260 m } (respBytes (trayBench 0x40 4031 [])) = false) := by decide +kernel

theorem witness_TrayMessages_3 :
    (let m : Msg := { trayBench 0x42 0 [] with data := [255, 255, 255, 255, 255, 255, 255, 255] }; (trayData (takeRx exportBench m) m 1).2 = none) := by decide +kernel

theorem witness_TrayMessages_4 :
    (let m := trayBench 0x40 0 []; (trayCheck (takeRx State.reset m) m.hdr 0).2.1 = 1) := by decide +kernel

theorem witness_TrayMessages_5 :
    (let m := trayBench 0x40 0 []; let c := trayCheck (takeRx exportBench m) m.hdr 0; c.2.1 = 0 ∧ (readMem c.1 true (trayReader m.hdr) (getF m.hdr TrayHdr.OFFSET) (getF m.hdr TrayHdr.LENGTH_M1 + 1)).2.2.1 = 0) := by decide +kernel

theorem witness_TrayMessages_6 :
    (let m := trayBench 0x40 0 []; let x := takeRx { exportBench with mc := { exportBench.mc with lineErr := [(0, 5)] } } m; let c := trayCheck x m.hdr 0; c.2.1 = 0 ∧ (readMem c.1 true (trayReader m.hdr) (getF m.hdr TrayHdr.OFFSET) (getF m.hdr TrayHdr.LENGTH_M1 + 1)).2.2.1 ≠ 0) := by decide +kernel

theorem witness_TrayMessages_7 :
    (let m := trayBench 0x42 0 [7]; let w := trayCheck (takeRx exportBench m) m.hdr 1; w.2.1 = 0 ∧ (trayData w.1 m (getF m.hdr TrayHdr.LENGTH_M1 + 1)).2 = some [7]) := by decide +kernel

theorem witness_TrayMessages_8 :
    (let m := trayBench 0x42 0 [7]; let w := trayCheck (takeRx State.reset m) m.hdr 1; w.2.1 = 1 ∧ (trayData w.1 m (getF m.hdr TrayHdr.LENGTH_M1 + 1)).2 = some [7]) := by decide +kernel

theorem witness_TrayMessages_9 :
    (let m := trayBench 0x44 7 (List.replicate 16 1); let a := trayCheck (takeRx exportBench m) m.hdr 2; let d := trayData a.1 m 16; a.2.1 = 0 ∧ d.2 = some (List.replicate 16 1) ∧ (localAtomic d.1 (trayReader m.hdr) (getF m.hdr TrayHdr.OFFSET) (getF m.hdr TrayHdr.ATOMIC_OP) 1 1).2.2 = 0) := by decide +kernel

theorem witness_TrayMessages_10 :
    (let m := trayBench 0x44 7 (List.replicate 16 1); let a := trayCheck (takeRx State.reset m) m.hdr 2; a.2.1 = 1 ∧ (trayData a.1 m 16).2 = some (List.replicate 16 1)) := by decide +kernel

theorem witness_TrayMessages_11 :
    (let m := trayBench 0x41 0 []; respAccess (takeRx State.reset m) m 0 = none ∧ respAccess (takeRx State.reset m) m 1 = none ∧ respAccess (takeRx State.reset m) m 2 = none) := by decide +kernel

theorem witness_TrayMessages_12 :
    (let m := trayBench 0x41 0 [7]; let s := accessBench 0; (respAccess (takeRx s m) m 0).isSome = true ∧ (trayData (takeRx s m) m 1).2 = some [7] ∧ getF m.hdr TrayHdr.STATUS = 0 ∧ getF m.hdr TrayHdr.CACHEABLE = 0) := by decide +kernel

theorem witness_TrayMessages_13 :
    (let m := trayBench 0x43 0 []; (respAccess (takeRx (accessBench 1) m) m 1).isSome = true) := by decide +kernel

theorem witness_TrayMessages_14 :
    (let m := trayBench 0x45 7 (List.replicate 8 1); let s := accessBench 2; (respAccess (takeRx s m) m 2).isSome = true ∧ (trayData (takeRx s m) m 8).2 = some (List.replicate 8 1)) := by decide +kernel

theorem witness_TrayMessages_15 :
    (let s := { accessBench 0 with clk := 10 ^ 9 }; ((kfind s.fab.tags 0).bind (liveAccess s)).isSome = true ∧ 0 + od s OD.TRAY_TIMEOUT_CLK ≤ s.clk ∧ 0 < od s OD.TRAY_TIMEOUT_CLK) := by decide +kernel

theorem witness_TrayMessages_16 :
    (let s := accessBench 0; let s := liveSet s { (s.fab.live.headD ⟨0, .port 0 0, 0, 0, 0, [], 0, 0, 0, 0, false, none, none, none, 0, false⟩) with aperture := some 0 }; (liveAccess s 0).any (fun a => a.aperture.isSome && decide (a.issued + od s OD.APERTURE_TIMEOUT_CLK ≤ 10 ^ 9)) = true ∧ 0 < od s OD.APERTURE_TIMEOUT_CLK) := by decide +kernel

theorem witness_CoherenceMessages_1 :
    (getF (cohBench 1 0).hdr CohMsg.EPOCH ≠ 1) := by decide +kernel

theorem witness_CoherenceMessages_2 :
    (let s := { State.reset with fab := { FabSt.reset with dir := [(0, ⟨2, [], 4, 0, 0, 0, []⟩)] } }; let m := cohBench 1 0; od s OD.COH_STATE ≠ 1 ∧ getF m.hdr CohMsg.EPOCH = od s OD.COH_EPOCH ∧ getF m.hdr CohMsg.MSG = 1 ∧ getF m.hdr CohMsg.HOME_SLOT = ownSlot s ∧ kfind s.fab.dir (getF m.hdr CohMsg.LINE) = some ⟨2, [], 4, 0, 0, 0, []⟩ ∧ (4 : Nat) ≠ ownSlot s) := by decide +kernel

theorem witness_CoherenceMessages_3 :
    (let s := { State.reset with fab := { FabSt.reset with coh := [(0, ⟨2, [], 250⟩)] } }; let m := cohBench 5 0; kfind s.fab.wb (msgLine m.hdr) = none ∧ kfind s.fab.reqs (msgLine m.hdr) = none ∧ cohLine s (msgLine m.hdr) = some ⟨2, [], 250⟩ ∧ s.clk < 250) := by decide +kernel

theorem witness_CoherenceMessages_4 :
    (let s := { State.reset with fab := { FabSt.reset with coh := [(0, ⟨1, [], 0⟩)] } }; let m := cohBench 7 3; cohLine s (msgLine m.hdr) = some ⟨1, [], 0⟩ ∧ getF m.hdr CohMsg.REQ_SLOT ≠ ownSlot s) := by decide +kernel

theorem witness_CoherenceMessages_5 :
    (cohLine State.reset 5 = none ∧ kfind State.reset.fab.reqs 5 = none) := by decide +kernel

theorem witness_CoherenceMessages_6 :
    (let s := { State.reset with clk := 10 ^ 9, fab := { FabSt.reset with dir := [(0, ⟨3, [], 4, 0, 0, 0, []⟩)] } }; kfind s.fab.dir 0 = some ⟨3, [], 4, 0, 0, 0, []⟩ ∧ 0 + od s OD.COH_TIMEOUT_CLK ≤ s.clk) := by decide +kernel

theorem witness_CoherenceMessages_7 :
    (0 = od State.reset OD.COH_EPOCH ∧ 9 ≠ ownDevice State.reset) := by decide +kernel

theorem witness_CoherenceMessages_8 :
    (od (odSet State.reset OD.COH_STATE 0) OD.COH_STATE ≠ 1) := by decide +kernel

theorem witness_CoherenceMessages_9 :
    (let s := odSet State.reset OD.COH_STATE 2; od s OD.COH_STATE = 2 ∧ ((slotsOf s.fab.members).filter (· != ownSlot s)).length ≤ 1) := by decide +kernel

theorem witness_FabricSteps_1 :
    (flightOn (flyBench (unitKey 0xB 3) (stepOf 0xB 3 9)) (unitKey 0xB 3) = some (flyOf (stepOf 0xB 3 9)) ∧ getF (stepOf 0xB 3 9) StepRec.OPCODE = 9) := by decide +kernel

theorem witness_FabricSteps_2 :
    (let f := flyOf (stepOf 0xB 0 1); let s := memPut (flyBench (unitKey 0xB 0) (stepOf 0xB 0 1)) 0 64 (mkRec [(FabDesc.ENTRIES, 1), (FabDesc.ENTRY_ADDR, 4096)]); flightOn s (unitKey 0xB 0) = some f ∧ getF f.step StepRec.OPCODE = 1 ∧ kfind s.fab.ports 0 = none ∧ kfind s.fab.portDone 0 = none ∧ (fabricOpen s 0 f 1024).2.isSome = true) := by decide +kernel

theorem witness_FabricSteps_3 :
    (let f := flyOf (stepOf 0xB 0 2); let s := memPut (flyBench (unitKey 0xB 0) (stepOf 0xB 0 2)) 0 64 (mkRec [(FabDesc.ENTRIES, 1), (FabDesc.ENTRY_ADDR, 4096)]); flightOn s (unitKey 0xB 0) = some f ∧ getF f.step StepRec.OPCODE = 2 ∧ (fabricOpen s 0 f 64).2.isSome = true) := by decide +kernel

theorem witness_FabricSteps_4 :
    (let f := flyOf (stepOf 0xB 0 2); let s := flyBench (unitKey 0xB 0) (stepOf 0xB 0 2); flightOn s (unitKey 0xB 0) = some f ∧ getF f.step StepRec.OPCODE = 2 ∧ (fabricOpen s 0 f 64).2 = none) := by decide +kernel

theorem witness_FabricSteps_5 :
    (let s := flyBench (unitKey 0xB 0) (stepOf 0xB 0 1); let s := { s with fab := { s.fab with portDone := [(0, [])] } }; flightOn s (unitKey 0xB 0) = some (flyOf (stepOf 0xB 0 1)) ∧ (kfind s.fab.portDone 0).isSome = true) := by decide +kernel

theorem witness_DmaChannels_1 :
    (let s := dmaBench 511 1; flightOn s (dmaUnit 511) = some (flyOf (stepOf 4 255 1)) ∧ dmaState s 511 = 0 ∧ dmaPaused s 511 = false) := by decide +kernel

theorem witness_DmaChannels_2 :
    (let s := odSet (dmaBench 511 1) OD.CHANNEL_PAUSE (2 ^ 511); flightOn s (dmaUnit 511) = some (flyOf (stepOf 4 255 1)) ∧ dmaState s 511 = 0 ∧ dmaPaused s 511 = true) := by decide +kernel

theorem witness_DmaChannels_3 :
    (let s := odPut (dmaBench 511 1) OD.CHANNEL_STATE 511 2; flightOn s (dmaUnit 511) = some (flyOf (stepOf 4 255 1)) ∧ dmaState s 511 = 2) := by decide +kernel

theorem witness_DmaChannels_4 :
    (let s := odPut (dmaBench 511 2) OD.CHANNEL_STATE 511 3; flightOn s (dmaUnit 511) = some (flyOf (stepOf 4 255 2)) ∧ dmaState s 511 = 3 ∧ dmaPaused s 511 = false) := by decide +kernel

theorem witness_DmaChannels_5 :
    (let s := dmaBench 511 3; flightOn s (dmaUnit 511) = some (flyOf (stepOf 4 255 3)) ∧ dmaState s 511 ≠ 1 ∧ dmaPaused s 511 = false) := by decide +kernel

theorem witness_DmaChannels_6 :
    (let s := dmaRunning 0 { DmaCh.reset with desc := mkRec [(DmaDesc.KIND, 1)] }; flightOn s (dmaUnit 0) = some (flyOf (stepOf 3 0 1)) ∧ dmaState s 0 = 1 ∧ dmaTriggered s (dmaOf s 0).desc = true ∧ (dmaOf s 0).fail = none ∧ (dmaOf s 0).pausing = false ∧ (dmaOf s 0).started = false) := by decide +kernel

theorem witness_DmaChannels_7 :
    (dmaOverlap 0 = true ∧ dmaOverlap (mkRec [(DmaDesc.KIND, 1)]) = false) := by decide +kernel

theorem witness_DmaChannels_8 :
    (let s := dmaBench 3 2; flightOn s (dmaUnit 3) = some (flyOf (stepOf 3 3 2)) ∧ dmaState s 3 = 0 ∧ dmaPaused s 3 = false) := by decide +kernel

theorem witness_DmaChannels_9 :
    (let s := dmaBench 3 9; flightOn s (dmaUnit 3) = some (flyOf (stepOf 3 3 9)) ∧ dmaState s 3 ≠ 1) := by decide +kernel

theorem witness_DmaChannels_10 :
    (let s := memPut State.reset 0 64 (mkRec [(DmaDesc.LAST, 1)]); let r := readRec s (stepReader (flyOf 0)) (DmaCh.reset.chain + 64 * 0) 64; r.2.2.1 = 0 ∧ dmaBad r.1 r.2.1 0 = false) := by decide +kernel

theorem witness_DmaChannels_11 :
    (let s := { dmaRunning 0 { DmaCh.reset with desc := mkRec [(DmaDesc.TRIGGER, 1), (DmaDesc.TRIG_CLK, 5000), (DmaDesc.TRIG_LIMIT, 1)] } with clk := 64 }; dmaState s 0 = 1 ∧ dmaTriggered s (dmaOf s 0).desc = false ∧ getF (dmaOf s 0).desc DmaDesc.TRIG_LIMIT ≠ 0 ∧ (dmaOf s 0).began + 64 * getF (dmaOf s 0).desc DmaDesc.TRIG_LIMIT ≤ s.clk) := by decide +kernel

theorem witness_DmaChannels_12 :
    (let s := dmaRunning 0 { DmaCh.reset with started := true, row := 1, desc := mkRec [(DmaDesc.KIND, 1)] }; let r := dmaPump (dmaFuel (dmaOf s 0).desc) s 0 (flyOf (stepOf 3 0 1)) (dmaOf s 0); let t := dmaTakeWrites r.1 r.2; let p := dmaTakePosted t.1 0 t.2; dmaState s 0 = 1 ∧ dmaDone p.2 = true ∧ p.2.pausing = false) := by decide +kernel

theorem witness_DmaChannels_13 :
    (let s := dmaRunning 0 DmaCh.reset; let r := dmaPump (dmaFuel (dmaOf s 0).desc) s 0 (flyOf (stepOf 3 0 1)) (dmaOf s 0); let t := dmaTakeWrites r.1 r.2; dmaDone (dmaTakePosted t.1 0 t.2).2 = false) := by decide +kernel

theorem witness_DmaChannels_14 :
    (let s := odPut (dmaRunning 0 { DmaCh.reset with started := true, fail := some ⟨0, 4, 0, 0, 64, none, 2⟩ }) OD.CHANNEL_CONFIG 0 3; (dmaOf s 0).posted = [] ∧ (dmaOf s 0).writes = [] ∧ (dmaOf s 0).read = none ∧ (dmaOf s 0).fail = some ⟨0, 4, 0, 0, 64, none, 2⟩ ∧ 2 < odGet s OD.CHANNEL_CONFIG 0 % 8 ∧ dmaState s 0 = 1) := by decide +kernel

theorem witness_DmaChannels_15 :
    (let s := dmaRunning 0 { DmaCh.reset with started := true, fail := some ⟨0, 5, 0, 0, 64, none, 0⟩ }; (dmaOf s 0).fail = some ⟨0, 5, 0, 0, 64, none, 0⟩ ∧ (dmaOf s 0).posted = [] ∧ dmaState s 0 = 1) := by decide +kernel

theorem witness_DmaChannels_16 :
    (dmaState State.reset 511 ≠ 1) := by decide +kernel

theorem witness_DmaChannels_17 :
    (let s := dmaRunning 0 { DmaCh.reset with pausing := true }; dmaState s 0 = 1 ∧ (dmaOf s 0).pausing = true ∧ (dmaOf s 0).started = false ∧ (dmaOf s 0).fail = none ∧ (dmaOf s 0).read = none ∧ (dmaOf s 0).writes = [] ∧ (dmaOf s 0).posted = [] ∧ flightOn s (dmaUnit 0) = some (flyOf (stepOf 3 0 1))) := by decide +kernel

theorem witness_CodecTables_1 :
    (let s := codecBench []; profileBuilt s 15 = true ∧ kfind s.net.codec.lastBuild 15 = none ∧ od s OD.BUILD_BYTES ≤ kget s.net.codec.counted 15 0) := by decide +kernel

theorem witness_CodecTables_2 :
    (let s := codecBench []; let s := { withCodec s { s.net.codec with lastBuild := [(15, 0)] } with clk := 0 }; let s := odSet s OD.REBUILD_FRAMES 0; profileBuilt s 15 = true ∧ kfind s.net.codec.lastBuild 15 = some 0 ∧ od s OD.REBUILD_FRAMES ≤ frameDiff 0 (frameNo s) ∧ s.net.codec.tables.filter (fun t => t.id == 15) = []) := by decide +kernel

theorem witness_CodecTables_3 :
    (let s := odSet (withCodec (codecBench [builtBench 1 0]) { (codecBench [builtBench 1 0]).net.codec with lastBuild := [(15, 0)] }) OD.REBUILD_FRAMES 0; profileBuilt s 15 = true ∧ kfind s.net.codec.lastBuild 15 = some 0 ∧ od s OD.REBUILD_FRAMES ≤ frameDiff 0 (frameNo s) ∧ s.net.codec.tables.filter (fun t => t.id == 15) = [builtBench 1 0] ∧ (builtBench 1 0).state = 1) := by decide +kernel

theorem witness_CodecTables_4 :
    (ownTable State.reset 15 3 = none) := by decide +kernel

theorem witness_CodecTables_5 :
    (let s := codecBench [builtBench 0 16]; ownTable s 15 3 = some (builtBench 0 16) ∧ (builtBench 0 16).state ≠ 2) := by decide +kernel

theorem witness_CodecTables_6 :
    ((List.all (unpackLengths 0) (· == 0) || overSubscribed (unpackLengths 0)) = true) := by decide +kernel

theorem witness_CodecTables_7 :
    ((List.all (unpackLengths 1) (· == 0) || overSubscribed (unpackLengths 1)) = false ∧ (storeTable [] ⟨5, 15, 3, unpackLengths 1⟩).isSome = true ∧ storeTable ((List.range 512).map (fun d => ⟨d + 9, 0, 0, []⟩)) ⟨5, 15, 3, unpackLengths 1⟩ = none) := by decide +kernel

theorem witness_CodecTables_8 :
    ((codecBench [{ builtBench 2 0 with dropping := true, drops := [4, 5] }]).net.codec.tables.any (fun t => t.id == 15 && t.gen == 3 && t.dropping) = true) := by decide +kernel

theorem witness_CodecTables_9 :
    (let s := codecBench [builtBench 0 16]; s.net.codec.tables.find? (fun t => t.id == 15 && t.state != 2 && t.defs.any (fun p => p.1 == 5)) = some (builtBench 0 16) ∧ kfind (builtBench 0 16).lastSend 5 ≠ some (frameNo s) ∧ 16 ≤ (((builtBench 0 16).defs.find? (fun p => p.1 == 5)).getD (5, 0)).2) := by decide +kernel

theorem witness_CodecTables_10 :
    (let s := codecBench [builtBench 0 1]; s.net.codec.tables.find? (fun t => t.id == 15 && t.state != 2 && t.defs.any (fun p => p.1 == 5)) = some (builtBench 0 1) ∧ kfind (builtBench 0 1).lastSend 5 ≠ some (frameNo s) ∧ (((builtBench 0 1).defs.find? (fun p => p.1 == 5)).getD (5, 0)).2 < 16) := by decide +kernel

theorem witness_CodecTables_11 :
    (let s := codecBench [builtBench 2 1]; s.net.codec.tables.find? (fun t => t.id == 15 && t.state == 2 && !t.dropping) = some (builtBench 2 1) ∧ noNewPackets s (builtBench 2 1) = true ∧ (builtBench 2 1).refs = []) := by decide +kernel

theorem witness_CodecTables_12 :
    (let b := { builtBench 2 1 with refs := [(0, 0)] }; (codecBench [b]).net.codec.tables.find? (fun t => t.id == 15 && t.state == 2 && !t.dropping) = some b ∧ b.refs ≠ []) := by decide +kernel

theorem witness_CodecTables_13 :
    (let b := { builtBench 2 1 with dropping := true, drops := [5] }; (codecBench [b]).net.codec.tables.find? (fun t => t.id == 15 && t.dropping && t.drops.contains 5) = some b ∧ kfind b.lastSend 5 ≠ some (frameNo (codecBench [b]))) := by decide +kernel

theorem witness_CodecTables_14 :
    (let b := { builtBench 2 1 with dropping := true, drops := [5], lastSend := [(5, 0)] }; (codecBench [b]).net.codec.tables.find? (fun t => t.id == 15 && t.dropping && t.drops.contains 5) = some b ∧ kfind b.lastSend 5 = some (frameNo (codecBench [b]))) := by decide +kernel

theorem witness_CodecTables_15 :
    (let st : List StoredTable := [⟨5, 15, 1, []⟩, ⟨5, 15, 2, []⟩, ⟨6, 15, 2, []⟩]; storeTable st ⟨5, 15, 3, []⟩ = some [⟨5, 15, 2, []⟩, ⟨6, 15, 2, []⟩, ⟨5, 15, 3, []⟩]) := by decide +kernel

theorem witness_CodedBlocksDecode :
    ((List.replicate 256 8).length = 256 ∧ (∀ n ∈ List.replicate 256 8, 0 < n ∧ n < 16) ∧ overSubscribed (List.replicate 256 8) = false) := by decide +kernel

theorem witness_LocketSteps_1 :
    (let s := lkBench 0 2 0 0; flightOn s (lkUnit 0) = some (flyOf (stepOf 7 0 2)) ∧ bankKind (odSet (lkBench 2 2 0 0) OD.ROLE 3) 0 = 2 ∧ prefixOpen (odSet (lkBench 2 2 0 0) OD.ROLE 3) = false) := by decide +kernel

theorem witness_LocketSteps_2 :
    (let s := lkBench 1 1 1 4096; let f := flyOf (stepOf 7 0 1); let d := readRec s (stepReader f) (getF f.step StepRec.DESC_ADDR) 64; flightOn s (lkUnit 0) = some f ∧ d.2.2.1 = 0 ∧ bankKind d.1 0 = 1 ∧ getF d.2.1 LkDesc.ENTRIES = 1 ∧ getF d.2.1 LkDesc.ENTRY_ADDR % 64 = 0) := by decide +kernel

theorem witness_LocketSteps_3 :
    (let s := lkBench 1 3 0 4096; let f := flyOf (stepOf 7 0 3); let d := readRec s (stepReader f) (getF f.step StepRec.DESC_ADDR) 64; flightOn s (lkUnit 0) = some f ∧ d.2.2.1 = 0 ∧ getF d.2.1 LkDesc.ENTRIES = 0) := by decide +kernel

theorem witness_LocketSteps_4 :
    (let s := lkBench 1 4 1 4096; let s := { s with mc := { s.mc with lineErr := [(0, 5)] } }; let f := flyOf (stepOf 7 0 4); flightOn s (lkUnit 0) = some f ∧ (readRec s (stepReader f) (getF f.step StepRec.DESC_ADDR) 64).2.2.1 ≠ 0) := by decide +kernel

theorem witness_LocketSteps_5 :
    (flightOn (lkBench 0 7 0 0) (lkUnit 0) = some (flyOf (stepOf 7 0 7))) := by decide +kernel

theorem witness_LocketSteps_6 :
    (let s := lkBench 2 5 0 0; let s := odSet (memPut s 0 64 (mkRec [(WalkDesc.BLOCKS, 1), (WalkDesc.OUT_ADDR, 4096)])) OD.ROLE 1; let f := flyOf (stepOf 7 0 5); let d := readRec s (stepReader f) (getF f.step StepRec.DESC_ADDR) 64; flightOn s (lkUnit 0) = some f ∧ prefixOpen s = true ∧ d.2.2.1 = 0 ∧ bankKind d.1 0 = 2 ∧ kindGroup d.1 2 = some (0, 1, 2) ∧ getF d.2.1 WalkDesc.BLOCKS ≠ 0) := by decide +kernel

theorem witness_LocketSteps_7 :
    (let s := lkBench 2 5 0 0; let s := odSet s OD.ROLE 1; let f := flyOf (stepOf 7 0 5); let d := readRec s (stepReader f) (getF f.step StepRec.DESC_ADDR) 64; flightOn s (lkUnit 0) = some f ∧ prefixOpen s = true ∧ d.2.2.1 = 0 ∧ getF d.2.1 WalkDesc.BLOCKS = 0) := by decide +kernel

theorem witness_LocketSteps_8 :
    (let s := lkBench 1 6 0 0; let s := memPut s 0 64 (mkRec [(LkScrubDesc.UNITS, 2048)]); let f := flyOf (stepOf 7 0 6); let d := readRec s (stepReader f) (getF f.step StepRec.DESC_ADDR) 64; flightOn s (lkUnit 0) = some f ∧ d.2.2.1 = 0 ∧ bankKind d.1 0 ≠ 0 ∧ getF d.2.1 LkScrubDesc.UNITS = 2048) := by decide +kernel

theorem witness_LocketSteps_9 :
    (keyBank State.reset (bankKind State.reset 0) (recKey State.reset 0 0) ≠ some 0) := by decide +kernel

theorem witness_LocketSteps_10 :
    (entryOf State.reset 0 (getF (mkRec [(LkDesc.R_BY_INDEX, 1), (LkDesc.R_ENTRY, 4)]) LkDesc.R_ENTRY) = false ∧ getF (mkRec [(LkDesc.R_BY_INDEX, 1), (LkDesc.R_ENTRY, 4)]) LkDesc.R_BY_INDEX = 1) := by decide +kernel

theorem witness_LocketSteps_11 :
    (entryOf State.reset (4 / 2048) 4 = false) := by decide +kernel

theorem witness_LocketSteps_12 :
    (let s := odPut (lkBench 1 1 0 0) OD.LOCKET_VIEW 2047 (mkRec [(LkUnit.VALID, 1)]); entryOf s (2047 / 2048) 2047 = true ∧ bankKind s (2047 / 2048) ≠ 0) := by decide +kernel

theorem witness_LocketInsertIsFound_1 :
    (let s := recSet State.reset OD.BANK_CONFIG 31 [(BankCfg.KIND, 2), (BankCfg.WIDTH, 1), (BankCfg.FIRST, 31), (BankCfg.COUNT, 1)]; let r := lkInsertBank s 31 (2 ^ 128 - 1) 5; (1 : Nat) < 2 ∧ r.2 = (0, 31 * 2048) ∧ bankFind r.1 31 (2 ^ 128 - 1) = some (31 * 2048) ∧ bankWidth s 31 = 2 ∧ bankKind s 31 ≠ 1) := by decide +kernel

theorem witness_LocketInsertIsFound_2 :
    (let s := recSet State.reset OD.BANK_CONFIG 0 [(BankCfg.KIND, 1), (BankCfg.WIDTH, 0), (BankCfg.FIRST, 0), (BankCfg.COUNT, 1)]; let r := lkInsertBank s 0 9 0; r.2 = (0, 0) ∧ bankKind s 0 = 1 ∧ dedupeLive s 0 = true ∧ bankFind s 0 9 = none ∧ 0 ∈ bankEntries s 0 ∧ getF (unitRec s 0) LkUnit.VALID = 0) := by decide +kernel

theorem witness_DictionaryCommandsAnswer_1 :
    (let s := dictBench; let h := writeHeader ⟨.mailbox 15, OD.ALERT_CLEAR, 0, leBytes 8 0, 9⟩; (submitted s (.mailbox 15) h (leBytes 8 0)).any (fun x => (serve x (.mailbox 15) h (leBytes 8 0)).any (fun d => d.undef == 0 && !d.held && d.status == 0 && (kget d.st.dct.mailboxes 15 ⟨0, 0, 0, []⟩).state == 1)) = true) := by decide +kernel

theorem witness_DictionaryCommandsAnswer_2 :
    (let s := odSet dictBench OD.SWITCH_STATE 1; let b := leBytes 4 62500; let h := writeHeader ⟨.bus 8, OD.FRAME_PERIOD_CLK, 0, b, 9⟩; (submitted s (.bus 8) h b).any (fun x => (serve x (.bus 8) h b).any (fun d => d.undef == 0 && d.held)) = true) := by decide +kernel

theorem witness_DictionaryCommandsAnswer_3 :
    (let s := odSet dictBench OD.DEVICE_STATE 2; let b := leBytes 1 1; let h := writeHeader ⟨.fabric 40, OD.TICK_SOURCE, 0, b, 9⟩; (submitted s (.fabric 40) h b).any (fun x => (serve x (.fabric 40) h b).any (fun d => d.undef == 9)) = true) := by decide +kernel

theorem witness_DictionaryCommandsAnswer_4 :
    (let h := mkRec [(DictReq.OP, 1), (DictReq.INDEX, OD.ALERT_CAUSES / 256), (DictReq.SUBINDEX, OD.ALERT_CAUSES % 256), (DictReq.LENGTH, 8)]; (submitted dictBench (.mailbox 0) h []).any (fun x => (serve x (.mailbox 0) h []).any (fun d => d.undef == 0 && !d.held && d.status == 0)) = true ∧ getF h DictReq.LENGTH ≤ reachMost (.mailbox 0)) := by decide +kernel

theorem witness_DictionaryCommandsAnswer_5 :
    (let s := { odSet dictBench OD.DEVICE_STATE 1 with dct := { dictBench.dct with kept := [⟨40, 0, []⟩] } }; (served s (.fabric 40) 1 0x101001).isSome = true ∧ served (odSet s OD.DEVICE_STATE 0) (.fabric 40) 1 0x101001 = none ∧ s.dct.kept.find? (fun k => k.dev == 40 && k.tag == getF (leNat (List.take 32 ([] : List Byte))) DictReq.TAG) = some ⟨40, 0, []⟩) := by decide +kernel

theorem witness_DictionaryCommandsAnswer_6 :
    ((odFind OD.ALERT_CLEAR).any (fun ro => served dictBench (.mailbox 15) 2 ro.ent == some true && accessCheck dictBench (.mailbox 15) ro == (0, 0) && !isStaged ro.ent && lenOk dictBench ro 0 8 && rangesOk ro 0 (leBytes 8 0) && ro.acc == 2) = true) := by decide +kernel

theorem witness_DictionaryCommandsAnswer_7 :
    ((odFind OD.FRAME_PERIOD_CLK).any (fun ro => let b := leBytes 4 62500; let t := odSet dictBench OD.DEVICE_STATE 2; accessCheck dictBench (.bus 0) ro == (0, 0) && accessCheck t (.bus 0) ro == (0, 0) && lenOk dictBench ro 0 4 && rangesOk ro 0 b && ro.acc == 3 && !isHeldWrite dictBench ro && isHeldWrite (odSet dictBench OD.SWITCH_STATE 1) ro && ownCheck dictBench ro 0 b == (0, 0) && ownCheck t ro 0 b == (0, 0) && !writesU06 t ro 0 b && inRun t && !inRun dictBench) = true) := by decide +kernel

theorem witness_DictionaryCommandsAnswer_8 :
    ((odFind OD.ATTEST_REQUEST).any (fun ro => accessCheck dictBench (.bus 0) ro == (0, 0) && isStaged ro.ent && ro.acc == 2 && stagedLen ro.ent (List.replicate 32 0) == some 32) = true ∧ stagedLen OD.BASE_IMAGE (leBytes 64 (setF 0 ImgHdr.BYTES 64)) = some 64 ∧ (baseImage dictBench []).undef = 0) := by decide +kernel

theorem witness_DictionaryCommandsAnswer_9 :
    ((odFind OD.ALERT_CAUSES).any (fun ro => ro.acc != 2 && lenOk dictBench ro 0 8) = true ∧ served dictBench (.mailbox 0) 1 OD.ALERT_CAUSES = some true ∧ served dictBench (.mailbox 0) 3 OD.ALERT_CAUSES = some true) := by decide +kernel

theorem witness_WritesTakeEffect_1 :
    (served dictBench (.mailbox 15) 2 OD.ALERT_CLEAR = some true ∧ OD.ALERT_CLEAR < 2 ^ 24) := by decide +kernel

theorem witness_WritesTakeEffect_2 :
    (odFind 0x4FFFFF = none) := by decide +kernel

theorem witness_WritesTakeEffect_3 :
    ((odFind OD.ALERT_CAUSES).any (fun r => r.acc == 0) = true) := by decide +kernel

theorem witness_WritesTakeEffect_4 :
    ((odFind OD.FRAME_PERIOD_CLK).any (fun r => r.acc != 0 && !hasRight (odSet State.reset OD.DEVICE_STATE 1) (.fabric 40) r.ent) = true) := by decide +kernel

theorem witness_WritesTakeEffect_5 :
    ((odFind OD.ALERT_CLEAR).any (fun r => accessCheck dictBench (.mailbox 0) r == (0, 0) && !isStaged r.ent && !lenOk dictBench r 0 3 && lenOk dictBench r 0 8 && r.acc == 2 && rangesOk r 0 (leBytes 8 0)) = true) := by decide +kernel

theorem witness_WritesTakeEffect_6 :
    ((odFind OD.POWER_STATE_REQ).any (fun r => accessCheck dictBench (.bus 0) r == (0, 0) && lenOk dictBench r 0 1 && r.acc == 2 && !rangesOk r 0 [4]) = true) := by decide +kernel

theorem witness_WritesTakeEffect_7 :
    ((odFind OD.FRAME_PERIOD_CLK).any (fun r => let b := leBytes 4 62500; accessCheck dictBench (.bus 0) r == (0, 0) && lenOk dictBench r 0 4 && r.acc == 3 && !isHeldWrite dictBench r && rangesOk r 0 b && ownCheck dictBench r 0 b == (0, 0) && !isLayout r.ent && isHeldWrite (odSet dictBench OD.SWITCH_STATE 1) r) = true) := by decide +kernel

theorem witness_WritesTakeEffect_8 :
    ((odFind OD.FRAME_PERIOD_CLK).any (fun r => let s := odSet dictBench OD.DEVICE_STATE 2; let b := leBytes 4 62500; accessCheck s (.bus 0) r == (0, 0) && !isHeldWrite s r && inRun s && ownCheck s r 0 b == (0, 0)) = true) := by decide +kernel

theorem witness_WritesTakeEffect_9 :
    ((odFind OD.BEAD_CLASSES).any (fun r => let s := odSet dictBench OD.DEVICE_STATE 2; let s := odSet s OD.POWER_STATE 2; accessCheck s (.bus 0) r == (0, 0) && isLayout r.ent && inRun s && r.acc == 4 && !isHeldWrite s r && rangesOk r 0 []) = true) := by decide +kernel

theorem witness_WritesTakeEffect_10 :
    ((odFind OD.TICK_SOURCE).any (fun r => let s := odSet dictBench OD.DEVICE_STATE 2; accessCheck s (.bus 0) r == (0, 0) && r.acc == 4 && lenOk s r 0 1) = true) := by decide +kernel

theorem witness_WritesTakeEffect_11 :
    ((odFind OD.ATTEST_REQUEST).any (fun r => accessCheck dictBench (.bus 0) r == (0, 0) && isStaged r.ent && r.acc == 2 && stagedLen r.ent (List.replicate 32 0) == some 32 && stagedLen r.ent [0] == some 32) = true) := by decide +kernel

theorem witness_WritesTakeEffect_12 :
    ((odFind OD.BASE_IMAGE).any (fun r => accessCheck dictBench (.bus 0) r == (0, 0) && isStaged r.ent && r.acc == 2 && stagedLen r.ent (leBytes 64 (setF 0 ImgHdr.BYTES 64)) == some 64) = true) := by decide +kernel

theorem witness_CommandEntries_1 :
    (let s := odPut State.reset OD.OVERLAY_SLOTS 15 (mkRec [(OvSlot.STATE, 3)]); ovF s (leNat (leBytes 1 15) % 16) OvSlot.STATE = 3) := by decide +kernel

theorem witness_CommandEntries_2 :
    (let s := odPut (odSet State.reset OD.DEVICE_STATE 2) OD.OVERLAY_SLOTS 15 (mkRec [(OvSlot.STATE, 1), (OvSlot.ROLE, 3)]); inRun s = true ∧ od s OD.POWER_STATE = 0 ∧ ovF s (leNat (leBytes 1 15) % 16) OvSlot.STATE = 1 ∧ od s OD.SWITCH_STATE = 0 ∧ (overlayCheck s 15).2.1 = 0) := by decide +kernel

theorem witness_CommandEntries_3 :
    (let s := recSet State.reset OD.BEAD_CLASSES 7 [(BeadClass.VALID, 1)]; auditOk s (leNat (leBytes 4 (7 * 256 + 7)) / 256 % 256) (leNat (leBytes 4 (7 * 256 + 7)) % 256) = true ∧ auditOk s 7 8 = false) := by decide +kernel

theorem witness_CommandEntries_4 :
    (let s := rowSet State.reset 32767 [(Row.STATE, 7)]; rowState s 32767 = 7 ∧ hasDue s 32767 = false ∧ rowState (rowSet s 32767 [(Row.STATE, 6)]) 32767 = 6 ∧ rowState (rowSet s 32767 [(Row.STATE, 3)]) 32767 = 3) := by decide +kernel

theorem witness_CommandEntries_5 :
    ((adapterLoad State.reset (2 ^ 63 + 256 * 2 ^ 27)).isSome = true) := by decide +kernel

theorem witness_CommandEntries_6 :
    (let s := odPuts State.reset OD.ADAPTER_VERSIONS 4092 (List.replicate 4 (mkRec [(AdVer.SLOT, 1023), (AdVer.STATE, 1)])); 4 ≤ (liveVersions s (getF (1023 * 2 ^ 54) (fld 63 54))).length) := by decide +kernel

theorem witness_CommandEntries_7 :
    (leNat ((leBytes 4 3).take 4) < 4 ∧ mrBarred State.reset 0 = false) := by decide +kernel

theorem witness_CommandEntries_8 :
    (slotDevice State.reset 31 = none) := by decide +kernel

theorem witness_CommandEntries_9 :
    (inConfig dictBench = true ∧ od dictBench OD.BASE_STATE ≠ 1 ∧ (let s := odSet (odPut dictBench OD.OVERLAY_SLOTS 15 (mkRec [(OvSlot.STATE, 1), (OvSlot.ROLE, 3)])) OD.BASE_STATE 1; ovF s 15 OvSlot.STATE ≠ 0 ∧ (overlayCheck s 15).2.1 = 0)) := by decide +kernel

theorem witness_CommandEntries_10 :
    ((imageCheck 2 0 512 [] ≠ 0) ∧ (odFind OD.ADAPTER_COMMIT).isSome = true) := by decide +kernel

theorem witness_PowerStatesAndWake_1 :
    (let s := odSet (odSet State.reset OD.DEVICE_STATE 2) OD.ALLOWANCE_LEASE_FRAMES 4; let s := odSet s OD.FRAME_NUMBER 4; inRun s = true ∧ s.en.lapsed = false ∧ od s OD.ALLOWANCE_LEASE_FRAMES ≠ 0 ∧ od s OD.ALLOWANCE_LEASE_FRAMES ≤ frameDiff s.en.leaseFrame (frameNo s)) := by decide +kernel

theorem witness_PowerStatesAndWake_2 :
    (let s := odSet State.reset OD.ALLOWANCE_LEASE_FRAMES 4; frameDiff s.en.leaseFrame (frameNo s) < od s OD.ALLOWANCE_LEASE_FRAMES) := by decide +kernel

theorem witness_PowerStatesAndWake_3 :
    (od State.reset OD.POWER_STATE = 0) := by decide +kernel

theorem witness_PowerStatesAndWake_4 :
    (od (odSet State.reset OD.POWER_STATE 2) OD.POWER_STATE = 2 ∧ State.reset.host.power = 0) := by decide +kernel

theorem witness_PowerStatesAndWake_5 :
    (let s := odSet (odSet State.reset OD.POWER_STATE 1) OD.FRAME_NUMBER (2 ^ 31 - 1); od s OD.POWER_STATE = 1 ∧ od s OD.IDLE_DRAIN_FRAMES ≤ frameDiff s.en.idleSince (frameNo s)) := by decide +kernel

theorem witness_PowerStatesAndWake_6 :
    ({ State.reset.host with power := 2 }.power = 2) := by decide +kernel

theorem witness_PowerStatesAndWake_7 :
    ((1 : Nat) ≤ 8 ∧ (10501 : Int) > 10500) := by decide +kernel

theorem witness_ManagementBus_1 :
    (busOn dictBench = true ∧ dictBench.dct.dynAddr.isSome = true) := by decide +kernel

theorem witness_ManagementBus_2 :
    (State.reset.dct.dynAddr = none) := by decide +kernel

theorem witness_BootStages_1 :
    (let s := { State.reset with sec := { State.reset.sec with boot := 1 } }; s.sec.boot = 1 ∧ bootCheck s [] = 1 ∧ bitOf (od s OD.STRAPS) 5 = false ∧ bitOf (od (odSet s OD.STRAPS 63) OD.STRAPS) 5 = true ∧ od s OD.LIFECYCLE ≠ 2) := by decide +kernel

theorem witness_BootStages_2 :
    (od (odSet State.reset OD.LIFECYCLE 2) OD.LIFECYCLE = 2) := by decide +kernel

theorem witness_BootStages_3 :
    (let img := leBytes 128 (mkRec [(BootHdr.MAGIC, 0x444E4254), (BootHdr.FORMAT, 2)]); 128 ≤ img.length ∧ getF (leNat (img.take 128)) BootHdr.MAGIC = 0x444E4254 ∧ getF (leNat (img.take 128)) BootHdr.FORMAT ≠ 1) := by decide +kernel

theorem witness_BootStages_4 :
    ({ State.reset.sec with boot := 8 }.boot = 8) := by decide +kernel

theorem witness_BootStages_5 :
    (let s := { State.reset with sec := { State.reset.sec with boot := 3 } }; s.sec.boot = 3 ∧ bootCheck s [] ≠ 0) := by decide +kernel

theorem witness_BootStages_6 :
    (let s := { State.reset with sec := { State.reset.sec with boot := 5 } }; bootAwaits s = some 2 ∧ bootCheck s (stagedImage s) = 1 ∧ bootAwaits State.reset = none) := by decide +kernel

theorem witness_BootStages_7 :
    (od State.reset OD.FUSED_SVN ≤ leNat (leBytes 1 63) ∧ leNat (leBytes 1 63) ≤ { State.reset.sec with firstSvn := 63 }.firstSvn) := by decide +kernel

theorem witness_BootStages_8 :
    (let s := { State.reset with sec := { State.reset.sec with boot := 6, derived := true } }; od s OD.DEVICE_STATE = 0 ∧ s.sec.boot = 6 ∧ s.sec.derived = true ∧ regionImage 1 [] = none ∧ (∀ o ∈ List.replicate 16 ([] : List Byte), regionImage 2 o = none)) := by decide +kernel

theorem witness_BootStages_9 :
    (let img := leBytes 64 (mkRec [(ImgHdr.MAGIC, 0x444F4E44), (ImgHdr.FORMAT, 1), (ImgHdr.KIND, 1), (ImgHdr.BYTES, 64)]); regionImage 1 img = some img ∧ (baseImage (odSet State.reset OD.DEVICE_STATE 1) img).undef = 0) := by decide +kernel

theorem witness_SpdmResponder_1 :
    (let s := spdmBench 3; spdmServes s = true ∧ 3 ≤ s.sec.spdm ∧ canSign s = true ∧ bitOf 16 4 = true ∧ bitOf 2 1 = true ∧ bitOf 0 1 = false) := by decide +kernel

theorem witness_SpdmResponder_2 :
    (let s := spdmBench 3; chainServed s 0 [] = false ∧ chainServed s 1 [] = false ∧ s.sec.large = none) := by decide +kernel

theorem witness_SpdmResponder_3 :
    ({ (spdmBench 3).sec with large := some (1, [7, 8]) }.large = some (1, [7, 8])) := by decide +kernel

theorem witness_SpdmResponder_4 :
    (spdmServes (spdmBench 0) = true ∧ (spdmBench 0).sec.spdm < 1 ∧ spdmServes State.reset = false) := by decide +kernel

theorem witness_PartitionsReportsAndAudits_1 :
    (let s := odPut State.reset OD.PARTITIONS 63 (mkRec [(Part.STATE, 2), (Part.BASE, 65536), (Part.SIZE, 65536)]); partF s 63 Part.STATE = 2 ∧ partF s 63 Part.BASE = 65536 ∧ s.sec.unlocking = none ∧ od (odSet s OD.TIER_FRAMES 0) OD.TIER_FRAMES = 0) := by decide +kernel

theorem witness_PartitionsReportsAndAudits_2 :
    (let s := { State.reset with sec := { State.reset.sec with unlocking := some 5 } }; s.sec.unlocking = some 5 ∧ ∀ j, j < 64 → partF s j Part.STATE = 0) := by decide +kernel

theorem witness_PartitionsReportsAndAudits_3 :
    (let a : Attest := ⟨[], false, some []⟩; let s := { spdmBench 0 with sec := { (spdmBench 0).sec with signing := some a, attWaiting := some a } }; s.sec.signing = some a ∧ canSign s = true ∧ canSign { s with sec := { s.sec with derived := false } } = false ∧ s.sec.attWaiting = some a) := by decide +kernel

theorem witness_PartitionsReportsAndAudits_4 :
    (let s := { State.reset with aud := { State.reset.aud with running := some (3, 7), results := [(0, (true, 0)), (9, (false, 5))], terms := [(9, [1])] } }; s.aud.running = some (3, 7) ∧ s.pool.walks.any (fun w => w.law) = false ∧ s.aud.waiting = none ∧ (∀ r ∈ s.aud.results, r.1 < 10) ∧ (s.aud.results.map Prod.fst).Nodup ∧ (∀ x ∈ s.aud.terms, x.1 < 10 ∧ x.2.length ≤ 4096)) := by decide +kernel

theorem witness_PartitionsReportsAndAudits_5 :
    (let s := (auditStart State.reset 0 0 true); s.pool.walks.any (fun w => w.law) = true) := by decide +kernel

theorem witness_PartitionsReportsAndAudits_6 :
    (let s := odPut State.reset OD.PARTITIONS 63 (mkRec [(Part.STATE, 1), (Part.SIZE, 65536)]); partF s (leNat (leBytes 1 63)) Part.STATE = 1) := by decide +kernel

theorem witness_PartitionsReportsAndAudits_7 :
    (let s := odPut State.reset OD.KEY_SLOTS 255 (mkRec [(KeySlot.STATE, 1)]); keyF s (leNat (leBytes 1 255)) KeySlot.STATE = 1 ∧ claspRuns s = false) := by decide +kernel

theorem witness_PartitionsReportsAndAudits_8 :
    (let d := leBytes 32 (mkRec [(Part.BASE, 65536), (Part.SIZE, 65536), (Part.KIND, 1)]); let p := leNat (d.take 32); d.length = 32 ∧ getF p Part.BASE % 65536 = 0 ∧ partPlace State.reset (getF p Part.BASE) (getF p Part.SIZE) = true ∧ od State.reset OD.DEBUG_STATE = 0 ∧ State.reset.sec.unlocking = none ∧ partF State.reset 0 Part.STATE = 0) := by decide +kernel

theorem witness_PartitionsReportsAndAudits_9 :
    (let d := leBytes 1680 (setF 0 InstallRec.SLOT 255); let h := leNat (d.take 64); d.length = 1680 ∧ getF h InstallRec.SLOT = 255 ∧ getF h InstallRec.NONCE = nonceOf State.reset OD.KEY_NONCE ∧ keyF State.reset 255 KeySlot.STATE = 0 ∧ { State.reset.sec with derived := true }.derived = true) := by decide +kernel

theorem witness_PartitionsReportsAndAudits_10 :
    (tokenOk State.reset [] = false ∧ canSign (spdmBench 0) = true ∧ (spdmBench 0).sec.signing = none ∧ (List.replicate 32 (0 : Byte)).length = 32) := by decide +kernel

theorem witness_PartitionsReportsAndAudits_11 :
    (frameLater 1 (frameNo State.reset) = true ∧ frameLater (2 ^ 31) (frameNo State.reset) = false ∧ State.reset.aud.running = none ∧ od State.reset OD.POWER_STATE ≠ 2) := by decide +kernel

theorem witness_SelfTestFaultsAndExpulsion_1 :
    (flightOn (sliceBench 2 0) bistUnit = some (flyOf (stepOf 10 0 2))) := by decide +kernel

theorem witness_SelfTestFaultsAndExpulsion_2 :
    (let s := { sliceBench 1 2000 with mc := { (sliceBench 1 2000).mc with lineErr := [(0, 5)] } }; let f := flyOf (stepOf 10 0 1); flightOn s bistUnit = some f ∧ getF f.step StepRec.OPCODE = 1 ∧ (readRec s (stepReader f) (getF f.step StepRec.DESC_ADDR) 64).2.2.1 ≠ 0) := by decide +kernel

theorem witness_SelfTestFaultsAndExpulsion_3 :
    (let s := sliceBench 1 100000; let f := flyOf (stepOf 10 0 1); let d := readRec s (stepReader f) (getF f.step StepRec.DESC_ADDR) 64; flightOn s bistUnit = some f ∧ d.2.2.1 = 0 ∧ getF d.2.1 BistDesc.SLICE_CLK = 100000 ∧ d.1.ft.bistCore = 200) := by decide +kernel

theorem witness_SelfTestFaultsAndExpulsion_4 :
    (let s := sliceBench 1 102000; let f := flyOf (stepOf 10 0 1); let d := readRec s (stepReader f) (getF f.step StepRec.DESC_ADDR) 64; d.2.2.1 = 0 ∧ 100000 < getF d.2.1 BistDesc.SLICE_CLK) := by decide +kernel

theorem witness_SelfTestFaultsAndExpulsion_5 :
    (let s := odSet (sliceBench 1 2000) OD.BIST_ENABLE 1; let s := { s with ft := { s.ft with bistCore := 199 } }; let f := flyOf (stepOf 10 0 1); let d := readRec s (stepReader f) (getF f.step StepRec.DESC_ADDR) 64; flightOn s bistUnit = some f ∧ d.2.2.1 = 0 ∧ getF d.2.1 BistDesc.SLICE_CLK = 2000 ∧ d.1.ft.bistCore = 199 ∧ od d.1 OD.BIST_ENABLE ≠ 0) := by decide +kernel

theorem witness_SelfTestFaultsAndExpulsion_6 :
    (odGet State.reset OD.ENGINE_MAP 7 ≠ 3 ∧ odGet (odPut State.reset OD.ENGINE_MAP 7 3) OD.ENGINE_MAP 7 = 3) := by decide +kernel

theorem witness_SelfTestFaultsAndExpulsion_7 :
    ((expelledNow State.reset).contains 40 = false ∧ (expelledNow { State.reset with ft := { State.reset.ft with expelled := [(40, 0)] } }).contains 40 = true) := by decide +kernel

theorem witness_SelfTestFaultsAndExpulsion_8 :
    (let s := { State.reset with ft := { State.reset.ft with expelFrame := some 0 } }; s.ft.expelFrame = some 0 ∧ s.frm.flights = []) := by decide +kernel

theorem witness_SelfTestFaultsAndExpulsion_9 :
    (let s := flyBench 256 (stepOf 1 0 1); let s := { s with ft := { s.ft with expelFrame := some 0 } }; s.frm.flights ≠ [] ∧ s.clk < 0 + od s OD.DRAIN_LIMIT_CLK) := by decide +kernel

theorem witness_SelfTestFaultsAndExpulsion_10 :
    (od State.reset OD.DEVICE_STATE ≠ 3 ∧ od (odSet State.reset OD.DEVICE_STATE 3) OD.DEVICE_STATE = 3) := by decide +kernel

theorem witness_SelfTestFaultsAndExpulsion_11 :
    (kindGroup State.reset 2 = none ∧ leNat (leBytes 1 1) = 1) := by decide +kernel

theorem witness_SelfTestFaultsAndExpulsion_12 :
    (regionFenced State.reset 7 127 = false ∧ leNat (leBytes 4 1023) / 128 % 8 = 7) := by decide +kernel

theorem witness_SelfTestFaultsAndExpulsion_13 :
    (let d := leBytes 456 (mkRec [(FenceCmd.MAGIC, 0x444E4645), (FenceCmd.APPROVALS, 1)]); let h := leNat (d.take 64); let s := odSet State.reset OD.DEVICE_NUMBER 0; getF h FenceCmd.MAGIC = 0x444E4645 ∧ getF h FenceCmd.APPROVALS = 1 ∧ getF h FenceCmd.TARGET = ownDevice s ∧ d.length = 64 + 392 ∧ getF h FenceCmd.NONCE = nonceOf s OD.FENCE_NONCE ∧ od (odSet s OD.QUORUM 0) OD.QUORUM = 0 ∧ od s OD.EXPEL_STATE ≠ 1) := by decide +kernel

theorem witness_ShardExchange_1 :
    (let s := odSet (odSet State.reset OD.DEVICE_STATE 2) OD.ROLE 1; claspRuns s = true ∧ roleOpens (role s) 8 = false) := by decide +kernel

theorem witness_ShardExchange_2 :
    (let s := { odSet (odSet State.reset OD.DEVICE_STATE 2) OD.ROLE 3 with ft := { (odSet State.reset OD.DEVICE_STATE 2).ft with suspect := true } }; claspRuns s = true ∧ roleOpens (role s) 8 = true ∧ s.ft.suspect = true) := by decide +kernel

theorem witness_ShardExchange_3 :
    (let s := odSet (odSet State.reset OD.DEVICE_STATE 2) OD.ROLE 3; roleOpens (role s) 8 = true ∧ s.ft.suspect = false ∧ shardClass s 0 = none) := by decide +kernel

theorem witness_ShardExchange_4 :
    (let s := recSet (odSet (odSet State.reset OD.DEVICE_STATE 2) OD.ROLE 3) OD.BEAD_CLASSES 0 [(BeadClass.SLOTS, 2), (BeadClass.VALID, 1)]; shardClass s 0 = some 0 ∧ kget s.pool.ready (listKey 0 (shardStack 0 0)) [] = []) := by decide +kernel

theorem witness_ShardExchange_5 :
    (let s := recSet (odSet (odSet State.reset OD.DEVICE_STATE 2) OD.ROLE 3) OD.BEAD_CLASSES 0 [(BeadClass.SLOTS, 2), (BeadClass.VALID, 1)]; let s := odSet { s with pool := { s.pool with ready := [(listKey 0 0, [1])] } } OD.MR_TABLE_ENTRIES 4; kget s.pool.ready (listKey 0 (shardStack 0 0)) [] ≠ [] ∧ (shardTake s 40 0 0).isSome = true ∧ (shardTake (odSet s OD.MR_TABLE_ENTRIES 0) 40 0 0).isSome = false) := by decide +kernel

theorem witness_ShardExchange_6 :
    (let x : Shard := ⟨0, 0, 0, 40, 1, 2, 0, 0, []⟩; let s := odPut ({ qpBench 4 [(QpCtx.STATE, 2), (QpCtx.FUNCTION, 3), (QpCtx.PEER_DEVICE, 40)] with od := (odSet State.reset OD.DEVICE_STATE 2).od }) OD.PASS_QPS 40 4; let s := { s with sh := { s.sh with shards := [x] } }; claspRuns s = true ∧ answered s 40 0 2 = some x ∧ passQp s 40 = some 4 ∧ getF (setF 0 ShardMsg.STATUS 1) ShardMsg.STATUS ≠ 0 ∧ answered s 40 (setF 0 ShardMsg.STATUS 1) 2 = some x) := by decide +kernel

theorem witness_ShardExchange_7 :
    (let x : Shard := ⟨0, 0, 0, 40, 1, 4, 0, 0, []⟩; let s := { (odSet State.reset OD.DEVICE_STATE 2) with sh := { (odSet State.reset OD.DEVICE_STATE 2).sh with shards := [x] } }; claspRuns s = true ∧ answered s 40 0 4 = some x) := by decide +kernel

theorem witness_ShardExchange_8 :
    (let h : HeldShard := ⟨0, 40, 0, 0, 0, 1, 0, false⟩; let s := odSet { (odSet State.reset OD.DEVICE_STATE 2) with sh := { (odSet State.reset OD.DEVICE_STATE 2).sh with held := [h] } } OD.MR_TABLE_ENTRIES 4; claspRuns s = true ∧ heldOf s 40 0 = some h ∧ (anyReadKey (beadShard (mrDeregister s (h.key % 2 ^ 24)) h.bead) 0 0 0).isSome = true) := by decide +kernel

theorem witness_ShardExchange_9 :
    (let h : HeldShard := ⟨0, 40, 0, 0, 0, 1, 0, true⟩; heldOf { (odSet State.reset OD.DEVICE_STATE 2) with sh := { (odSet State.reset OD.DEVICE_STATE 2).sh with held := [h] } } 40 0 = some h) := by decide +kernel

theorem witness_ShardExchange_10 :
    (heldOf (odSet State.reset OD.DEVICE_STATE 2) 40 0 = none ∧ claspRuns (odSet State.reset OD.DEVICE_STATE 2) = true ∧ claspRuns State.reset = false ∧ answered (odSet State.reset OD.DEVICE_STATE 2) 40 0 2 = none ∧ answered (odSet State.reset OD.DEVICE_STATE 2) 40 0 4 = none) := by decide +kernel

theorem witness_HostInterface_1 :
    (linkOut State.reset = false ∧ barsOpen State.reset = false ∧ State.reset.host.pwrGood = false ∧ bitOf State.reset.host.msixCtl 15 = false) := by decide +kernel

theorem witness_HostInterface_2 :
    ({ State.reset.host with power := 1, thermtrip := false }.power ≠ 2 ∧ { State.reset.host with thermtrip := true }.thermtrip = true ∧ OD.SERIAL ∈ fuses ∧ OD.CORE_MAP ∉ fuses) := by decide +kernel

theorem witness_HostInterface_3 :
    (let s := { State.reset with host := { State.reset.host with power := 0 } }; s.host.power = 0 ∧ s.host.pwrGood = false ∧ s.host.thermtrip = false) := by decide +kernel

theorem witness_HostInterface_4 :
    (dictBench.host.pwrGood = true ∧ dictBench.host.power = 0 ∧ linkOut dictBench = true) := by decide +kernel

theorem witness_HostInterface_5 :
    (let s := odSet dictBench OD.HOST_LINK 1; bitOf (od s OD.HOST_LINK) 0 = true ∧ inConfig s = true ∧ bitOf (od dictBench OD.HOST_LINK) 0 = false) := by decide +kernel

theorem witness_HostInterface_6 :
    (barsOpen dictBench = true ∧ linkOut dictBench = true ∧ inConfig dictBench = true) := by decide +kernel

theorem witness_HostInterface_7 :
    (let s := { dictBench with host := { dictBench.host with pm := 3 } }; linkOut s = true ∧ barsOpen s = false) := by decide +kernel

theorem witness_HostInterface_8 :
    (let s := odSet dictBench OD.DEVICE_STATE 3; barsOpen s = true ∧ inConfig s = false ∧ inRun s = false ∧ 0 + 64 ≤ 2 ^ 32) := by decide +kernel

theorem witness_HostInterface_9 :
    (let a := bar2Addr dictBench 64; a + 64 ≤ 2 ^ 42 ∧ bar2Barred a true = false ∧ bar2Barred a false = false ∧ bar2Closed dictBench a 64 = false) := by decide +kernel

theorem witness_HostInterface_10 :
    (let s := odPut dictBench OD.PARTITIONS 63 (mkRec [(Part.STATE, 2), (Part.SIZE, 65536), (Part.KIND, 1)]); bar2Closed s (bar2Addr s 65535) 1 = true ∧ bar2Closed s (bar2Addr s 65536) 1 = false ∧ bar2Barred (bar2Addr s 65535) true = false ∧ bar2Barred (bar2Addr s 65535) false = false) := by decide +kernel

theorem witness_HostInterface_11 :
    (let s := odSet dictBench OD.BAR2_WINDOW (setF 0 (fld 41 32) (sramBase 0 / 2 ^ 32)); let x := sramBase 0 % 2 ^ 32; bar2Barred (bar2Addr s x) true = true ∧ bar2Barred (bar2Addr s x) false = true ∧ bar2Addr s x + 64 ≤ 2 ^ 42 ∧ x + 64 ≤ 2 ^ 32) := by decide +kernel

/-! Ill-formed terms: one for each check of WellFormed. -/

/-- A message, well formed. -/
def goodMsg : Msg := ⟨1, 4, 40, 0, 64, [], 0, 0⟩

theorem test_wf_accepts_a_message_and_reaches :
    (Instr.trayRead goodMsg).wf = true ∧ (Instr.dictInfo (.mailbox 15) 65535 0xFFFFFF).wf = true
    ∧ (Instr.dictInfo (.bus 255) 0 0).wf = true ∧ (Instr.dictInfo (.fabric 8191) 0 0).wf = true := by decide

theorem test_wf_refuses_reaches :
    [Instr.dictInfo (.mailbox 16) 0 0, .dictInfo (.bus 256) 0 0, .dictInfo (.fabric 8192) 0 0, .dictInfo (.bus 0) 65536 0,
     .dictInfo (.bus 0) 0 0x1000000, .dictWrite (.bus 0) 0 0 (2 ^ 32) []].all (fun i => !i.wf) = true := by decide

theorem test_wf_refuses_messages :
    [{ goodMsg with vc := 4 }, { goodMsg with kind := 5 }, { goodMsg with dest := 8224 }, { goodMsg with hlen := 65 },
     { goodMsg with hdr := 256 ^ 64 }, { goodMsg with tenant := 4097 }].all (fun m => !(Instr.trayRead m).wf) = true := by decide +kernel

theorem test_wf_refuses_units :
    [Sys2Proof.unitOf 0, Sys2Proof.unitOf (13 * 256), Sys2Proof.unitOf (256 + 200), Sys2Proof.unitOf (2 * 256 + 8), Sys2Proof.unitOf (5 * 256 + 16), Sys2Proof.unitOf (6 * 256 + 4), Sys2Proof.unitOf (7 * 256 + 32),
     Sys2Proof.unitOf (8 * 256 + 1), Sys2Proof.unitOf (9 * 256 + 8), Sys2Proof.unitOf (10 * 256 + 1), Sys2Proof.unitOf (11 * 256 + 4), Sys2Proof.unitOf (12 * 256 + 1)].all (fun b => !b) = true := by decide

theorem test_wf_refuses_unit_numbers :
    [Instr.nop 200, .coreCheckFail 0 256, .attend 8, .select 4, .post 16, .lookup 32, .scrub 8, .fabricAtomic 4, .dmaRun 512, .audit 8 0,
     .audit 0 8, .refreshManagement 0 512, .drainWatchdog 0, .engineCheckFail 8].all (fun i => !i.wf) = true := by decide

theorem test_wf_refuses_planner_decisions :
    [PlanAct.put (2 ^ 42) [0], .share 32768 0 [], .share 0 (2 ^ 42) [], .plan 0 0 0 [1], .plan 0 0 2 [], .cow 0 (2 ^ 20), .back 32768,
     .register 0 (2 ^ 20), .evict 65536, .offer 0 4 0, .short 0 8 0, .place 0 0 16, .grown 32768, .fail 32768, .vc1 0 8 0 0 0 0].all (fun a => !actOk a) = true := by decide +kernel

theorem test_wf_refuses_frames_and_numbers :
    [Instr.tick (2 ^ 29) [], .tick 0 [.grown 32768], .frameSync (2 ^ 32) 0, .frameSync 0 (2 ^ 20), .tickMessage 64 0, .barrierArrive 32 0,
     .tableSeal (2 ^ 512) [] [], .tableSeal 0 [2 ^ 256] [], .vc0Request 16, .vc0RequestReceive 8192 0 [], .vc0GrantReceive 0 0 [2 ^ 64]].all
      (fun i => !i.wf) = true := by decide +kernel

theorem test_wf_refuses_rows_beads_and_records :
    [Instr.deadlineMiss 32768, .parkIdle 0 (2 ^ 42), .cancel 65536 0, .close 0 (2 ^ 64), .continue 0 0 [2 ^ 32], .suspend (.bus 0) 0 32768,
     .alloc 0 0 4097 0 0 0, .alloc 0 0 0 0 0 4096, .ref (2 ^ 24) 0, .ref 0 256, .claspStuck 2048, .admissionRecord 0 [] [1],
     .offer goodMsg [] (2 ^ 42) (0, 0), .offer goodMsg [] 0 (2 ^ 64, 0), .offer goodMsg [] 0 (0, 64)].all (fun i => !i.wf) = true := by decide +kernel

theorem test_wf_refuses_links_and_queue_pairs :
    [Instr.linkEnableSet 64, .fenceLink 256, .recoveryComplete 0 [] [0, 0, 0] 0, .recoveryComplete 0 [0, 0, 0] [0, 0, 0] (2 ^ 32),
     .linkTrained 0 3 0 0 0 0 [0, 0, 0] [0, 0, 0] [0, 0, 0] 0, .flitGroupReceive 0 0 [] [] 0 0, .send 65536, .qpTimeout 65536,
     .stallLimit 0 (2 ^ 32), .cqEntry 4096, .trayTimeout 4096, .cohHoldEnd (2 ^ 27), .cohTimeout (2 ^ 22), .domainDown 0 65536].all
      (fun i => !i.wf) = true := by decide +kernel

theorem test_wf_refuses_tables_keys_and_host :
    [Instr.tableDef 0 16 0 0, .tableDef 0 0 256 0, .tableDef 0 0 0 (2 ^ 1024), .directCommand 65536 none, .directCommand 0 (some (2 ^ 128)),
     .entdaa 128, .setEndpointId 256, .doorbell 16 0 [], .doorbell 0 (2 ^ 256) [], .firstStageLoad [] [] [] [200], .challenge 0 [] [],
     .getCertificate 0 0 65536 [], .negotiateAlgorithms (2 ^ 32) 0, .partitionErased 64, .fatalError 0 (2 ^ 24), .shardOffer 0 (2 ^ 512),
     .temperatureSample 14 0, .temperatureSample 0 (2 ^ 31), .configurationWrite 5 0, .msiXTableWrite 2048 0, .bar2Read 0 0 4097,
     .hostLinkUp 0 32 false, .unsupportedRequest 65536].all (fun i => !i.wf) = true := by decide +kernel

/-! Results that the spec's worked examples, or a published check value of an algorithm it names, give. -/

/-- Chapter 3, "a rescale during E88 decode": the scales, the codes of 1.1, of the element re-encoded and of 3.9. -/
theorem test_bead_scales :
    kvScaleOf 2516582 (-20) = 0x2D ∧ kvElem 0x2D (.fin false 1153434 (-20)) = (5, false) ∧ kvScaleOf 4089446 (-20) = 0x33
    ∧ kvElem 0x33 (.fin false 39 (-5)) = (4, false) ∧ kvElem 0x33 (.fin false 4089446 (-20)) = (7, false) := by decide +kernel

/-- Chapter 6, "E88 bead": the sizes, and where the head block of layer 40, head 5, K lies. -/
theorem test_bead_sizes : beadBytes 88 8 128 0 = 2883584 ∧ beadBytes 88 8 128 1 = 1443200 ∧ hbNum 40 8 5 0 = 650 := by decide

/-- Chapter 17, "three frames of a generation node": the lots after each close, what is returned, and the throttled grant. -/
theorem test_ledger_lots :
    closeLots [40000] 100000 107000 = ([0, 33000], 0) ∧ closeLots [33000] 92500 104000 = ([0, 21500], 0)
    ∧ closeLots [21500] 100000 45000 = ([0, 76500], 0) ∧ grantAfter 100000 40000 7 = 250 * 92500 := by decide

/-- Chapter 15, "one packet of BF16 gradients": the header of its block. -/
theorem test_codec_header : blockHdr 2 1 3 1 0 4032 2823 = 0x53103F0160E00000 := by decide +kernel

/-- R9 and R354 at the wrap: a frame number just past 2^32 is later. -/
theorem test_frames_wrap : frameGe 0 (2 ^ 32 - 1) = true ∧ frameGe (2 ^ 32 - 1) 0 = false ∧ frameDiff (2 ^ 32 - 1) 1 = 2 := by decide

/-- The check value of CRC-32C: the digits 1 to 9. -/
theorem test_crc32c : crc32c [0x31, 0x32, 0x33, 0x34, 0x35, 0x36, 0x37, 0x38, 0x39] = 0xE3069283 := by decide +kernel

/-- FIPS 180-4's SHA-384 of "abc", its first 8 bytes. -/
theorem test_sha384 : (sha384 [0x61, 0x62, 0x63]).take 8 = [0xcb, 0x00, 0x75, 0x3f, 0x45, 0xa3, 0x5e, 0x8b] := by decide +kernel

/-- The reference vector of SipHash-2-4 with 128-bit output for the empty message under key 00 to 0F. -/
theorem test_siphash : sipHash128 0x0706050403020100 0x0F0E0D0C0B0A0908 [] = 0x930255C71472F66DE6A825BA047F81A3 := by decide +kernel

/-- R317: the canonical codes of lengths 1, 2, 2 and the bytes they code a stream to: bit 0 of a byte first. -/
theorem test_canonical_codes :
    canonCodes [1, 2, 2] = [⟨0, 1, 0⟩, ⟨1, 2, 2⟩, ⟨2, 2, 3⟩]
    ∧ (entropyBits (canonCodes [1, 2, 2]) [0, 1, 2, 0]).map packBits = some [0b011010] := by decide +kernel

/-- The step record's layout: UNIT_CLASS at [235:232], OPCODE at [223:208]. -/
theorem test_step_record : stepOf 7 0 3 = 7 * 2 ^ 232 + 3 * 2 ^ 208 := by decide +kernel

end Sys2Proof.Machine
end

/-! # Scope: how a step ends, what it leaves of the queue, and the numbers of bytes and frames

Chapters 00, 01 and 20. A command's meaning is built from a few wrappers (`answer`, `opRun`, `lkOn`, `memOn`, `spdmOn`, `withPulls`,
`writeRequest`, `jobOn`, `tickRes`); one lemma for each says how it ends. `exec_endsAs` then takes the commands by the wrapper
their meaning is built from, and the statements on ends and on the queue follow from it. -/

namespace Sys2Proof.Machine

/-! ## Answers that are next states -/

/-- An answer is a next state, the queue as `s` has it. -/
def Answers (s : State) (r : Res) : Prop := ∃ t, r = .next t ∧ t.pending = s.pending

theorem Answers.endsWell {s : State} {r : Res} (h : Answers s r) : endsWell s r := .inl h

/-- What is answered from a state with the same queue. -/
theorem answers_answer_of_pending {s x : State} (h : x.pending = s.pending) (t : State) : Answers s (answer x t) := ⟨_, rfl, h⟩

theorem answers_answer (s t : State) : Answers s (answer s t) := answers_answer_of_pending rfl t

theorem Answers.ite {s : State} {q r : Res} {c : Prop} [Decidable c] (hq : Answers s q) (hr : Answers s r) :
    Answers s (if c then q else r) := by
  split
  · exact hq
  · exact hr

/-! ## The wrappers that always answer -/

@[simp] theorem freeFlits_pending (s : State) (l vc n : Nat) : (freeFlits s l vc n).pending = s.pending := by
  unfold freeFlits; extract_lets x v; split <;> rfl

/-- A message taken from its buffer leaves the queue. -/
@[simp] theorem takeRx_pending (s : State) (m : Msg) : (takeRx s m).pending = s.pending := by
  unfold takeRx; split
  · rfl
  · exact freeFlits_pending ..

/-- A meaning that first takes its message from its buffer. -/
theorem answers_takeRx (s : State) (m : Msg) (t : State) : Answers s (answer (takeRx s m) t) :=
  answers_answer_of_pending (takeRx_pending s m) t

theorem answers_cohTake (s : State) (code : Nat) (m : Msg) : Answers s (cohTake code m s) := answers_takeRx s m _

theorem answers_whenRoom {s : State} {r : Res} (m : Msg) (h : Answers s r) : Answers s (whenRoom s m r) := h.ite (answers_answer s s)

theorem answers_withPulls {s : State} {r : Res} (h : Answers s r) : Answers s (withPulls s r) := by
  obtain ⟨t, rfl, -⟩ := h
  exact answers_answer s _

theorem answers_lkOn (s : State) (b op : Nat) (run : State → Flight → Nat → State) : Answers s (lkOn s b op run) := by
  unfold lkOn; split
  · exact answers_answer s _
  · exact .ite (answers_answer s _) (.ite (answers_answer s _) (.ite (answers_answer s _) (answers_answer s _)))

/-- A MEMORY step answers where what it runs does. -/
theorem answers_memOn (s : State) (k : Nat) (mine : Nat → Bool) (run : State → Flight → Nat → Res)
    (h : ∀ t f d, Answers s (run t f d)) : Answers s (memOn s k mine run) := by
  unfold memOn; split
  · exact answers_answer s _
  · exact .ite (answers_answer s _) (.ite (answers_answer s _) (h _ _ _))

/-! ## The meanings that choose among answers -/

theorem answers_execBarrier (s : State) : Answers s (execBarrier s) := by
  unfold execBarrier; split
  · exact answers_answer s _
  · exact .ite (answers_answer s _) (answers_answer s _)

theorem answers_execVc0Request (port : Nat) (s : State) : Answers s (execVc0Request port s) := by
  unfold execVc0Request; split
  · exact answers_answer s _
  · extract_lets r; split <;> exact answers_answer s _

theorem answers_execVc0Grant (port : Nat) (s : State) : Answers s (execVc0Grant port s) := by
  unfold execVc0Grant; split
  · exact answers_answer s _
  · extract_lets r; split <;> exact answers_answer s _

theorem answers_execSelect (lane : Nat) (s : State) : Answers s (execSelect lane s) := by
  unfold execSelect; split
  · exact answers_answer s _
  · exact .ite (answers_answer s _) (.ite (answers_answer s _) (.ite (answers_answer s _) (.ite (answers_answer s _)
      (.ite (answers_answer s _) (answers_answer s _)))))

theorem answers_execCommit (s : State) : Answers s (execCommit s) := by
  unfold execCommit; split
  · exact answers_answer s _
  · exact .ite (answers_answer s _) (.ite (answers_answer s _) (.ite (answers_answer s _) (.ite (answers_answer s _)
      (answers_answer s _))))

theorem answers_execLookup (b : Nat) (s : State) : Answers s (execLookup b s) := by
  unfold execLookup; split
  · exact answers_answer s _
  · exact .ite (answers_answer s _) (answers_lkOn s _ _ _)

theorem answers_execSlice (block : Nat) (s : State) : Answers s (execSlice block s) := by
  unfold execSlice; split
  · exact answers_answer s _
  · exact .ite (answers_answer s _) (.ite (answers_answer s _) (.ite (answers_answer s _) (.ite (answers_answer s _)
      (.ite (answers_answer s _) (answers_answer s _)))))

theorem answers_execScrub (k : Nat) (s : State) : Answers s (execScrub k s) := by
  unfold execScrub; split
  · exact answers_answer s _
  · exact .ite (answers_answer s _) (answers_memOn s _ _ _ fun _ _ _ => .ite (answers_answer s _) (answers_answer s _))

theorem answers_execPrefixWalk (b : Nat) (s : State) : Answers s (execPrefixWalk b s) := answers_lkOn s b 5 _

theorem answers_execLocketScrub (b : Nat) (s : State) : Answers s (execLocketScrub b s) := answers_lkOn s b 6 _

theorem answers_execRemap (k : Nat) (s : State) : Answers s (execRemap k s) :=
  answers_memOn s _ _ _ fun _ _ _ => .ite (answers_answer s _) (answers_answer s _)

theorem answers_execMigrate (k : Nat) (s : State) : Answers s (execMigrate k s) :=
  answers_memOn s _ _ _ fun _ _ _ => .ite (answers_answer s _) (answers_answer s _)

theorem answers_postStep (port : Nat) (s : State) : Answers s (postStep port s) := by
  unfold postStep; extract_lets u; split
  · exact answers_answer s _
  · exact .ite (answers_answer s _) (.ite (answers_answer s _) (.ite (answers_answer s _) (.ite (answers_answer s _)
      (answers_answer s _))))

/-- A READ request answers, with its image read where it is one. -/
theorem answers_execReadReq (m : Msg) (s : State) : Answers s (execReadReq m s) := by
  obtain ⟨t, e, -⟩ : Answers s (readReq m s) := answers_takeRx s m _
  unfold execReadReq; rw [e]
  exact answers_answer s _

/-! ## The commands that may meet an undefined case -/

theorem endsWell_ite {s : State} {q r : Res} {c : Prop} [Decidable c] (hq : endsWell s q) (hr : endsWell s r) :
    endsWell s (if c then q else r) := by
  split
  · exact hq
  · exact hr

theorem endsWell_execTick (x : Int) (acts : List PlanAct) (s : State) : endsWell s (execTick x acts s) :=
  endsWell_ite (endsWell_answer s _) (endsWell_ite (endsWell_ite (endsWell_tickRes s _ _) (endsWell_answer s _)) (endsWell_tickRes s _ _))

/-- The tick mark taken leaves the queue, so a tick out of the window answers as from the state before it. -/
theorem endsWell_execTickOutOfWindow (x : Int) (acts : List PlanAct) (s : State) : endsWell s (execTickOutOfWindow x acts s) :=
  have hmark : ∀ r, endsWell (markDone s) r → endsWell s r := fun r => endsWell_of_pending s (markDone s) r rfl
  endsWell_ite (endsWell_answer s _) (endsWell_ite (hmark _ (endsWell_answer _ _))
    (endsWell_ite (hmark _ (endsWell_answer _ _)) (hmark _ (endsWell_tickRes _ _ _))))

theorem endsWell_execHoldoverTick (acts : List PlanAct) (s : State) : endsWell s (execHoldoverTick acts s) :=
  endsWell_ite (endsWell_answer s _) (endsWell_tickRes s _ _)

theorem endsWell_execRunEntry (acts : List PlanAct) (s : State) : endsWell s (execRunEntry acts s) :=
  endsWell_ite (endsWell_tickRes s _ _) (endsWell_answer s _)

/-- U02: a step that names what is fenced. -/
theorem endsWell_execStepIssue (s : State) : endsWell s (execStepIssue s) := by
  unfold execStepIssue
  refine endsWell_ite ?_ (endsWell_answer s _)
  split
  · exact endsWell_answer s _
  · exact endsWell_ite (endsWell_fault s _) (endsWell_answer s _)

theorem endsWell_execOverlayApplyComplete (s : State) : endsWell s (execOverlayApplyComplete s) :=
  endsWell_ite (endsWell_ite (endsWell_fault s _) (endsWell_ite (endsWell_fault s _) (endsWell_answer s _))) (endsWell_answer s _)

theorem endsWell_execConfigEntry (base : List Byte) (overlays : List (List Byte)) (s : State) :
    endsWell s (execConfigEntry base overlays s) :=
  endsWell_ite (endsWell_answer s _) (endsWell_ite (endsWell_fault s _) (endsWell_answer s _))

/-- U07: a queue pair whose QUANTUM is 0. -/
theorem endsWell_execFlitGroupSend (l : Nat) (s : State) : endsWell s (execFlitGroupSend l s) :=
  endsWell_ite (endsWell_ite (endsWell_fault s _) (endsWell_answer s _)) (endsWell_answer s _)

theorem endsWell_execAttend (k : Nat) (s : State) : endsWell s (execAttend k s) := endsWell_jobOn s k _ _

theorem endsWell_execAppend (k : Nat) (s : State) : endsWell s (execAppend k s) := endsWell_jobOn s k _ _

theorem endsWell_execCopy (k : Nat) (s : State) : endsWell s (execCopy k s) := endsWell_jobOn s k _ _

theorem endsWell_execGfcomb (k : Nat) (s : State) : endsWell s (execGfcomb k s) := endsWell_jobOn s k _ _

/-! ## Every command -/

/-- How command `i`'s answer ends: well, and in a next state unless `mayStop` lists the command. -/
def EndsAs (i : Instr) (s : State) (r : Res) : Prop := endsWell s r ∧ (mayStop i = false → Answers s r)

theorem EndsAs.of_answers {i : Instr} {s : State} {r : Res} (h : Answers s r) : EndsAs i s r := ⟨h.endsWell, fun _ => h⟩

theorem EndsAs.of_endsWell {i : Instr} {s : State} {r : Res} (hm : mayStop i = true) (h : endsWell s r) : EndsAs i s r :=
  ⟨h, fun hn => absurd (hm.symm.trans hn) Bool.noConfusion⟩

/-- Every command's end, by the wrapper its meaning is built from. -/
theorem exec_endsAs (i : Instr) (s : State) : EndsAs i s (exec i s) :=
  match i with
  -- Meanings that are one `answer`, the ops of a core and the requests of SPDM among them.
  | .tickSourceEnable | .tickLost | .frameSync .. | .tickMessage .. | .tableSeal .. | .drainEnd | .drainWatchdog .. | .seqPost
  | .barrierArrive .. | .vc0RequestReceive .. | .vc0GrantReceive .. | .vc0GrantDeadline | .ctx .. | .run .. | .asyncOpComplete ..
  | .coreStepComplete .. | .coreCheckFail .. | .beadClearUnit .. | .alloc .. | .ref .. | .unref .. | .shard .. | .audit ..
  | .auditWalkDone .. | .admissionRecord .. | .cancel .. | .continue .. | .close .. | .deadlineMiss .. | .parkIdle ..
  | .holdLimit .. | .rowCompletion .. | .offer .. | .accept .. | .refuse .. | .take .. | .released .. | .query .. | .abandoned ..
  | .claspResend .. | .claspQueryTimer .. | .claspStuck .. | .claspNoData .. | .refreshManagement .. | .linkEnableSet ..
  | .linkEnableClear .. | .linkTrained .. | .trainingTimeout .. | .groupAckTimeout .. | .fecLockLost .. | .peerTrainingRecord ..
  | .recoveryComplete .. | .recoveryTimeout .. | .fenceLink .. | .flitGroupReceive .. | .chunkForward .. | .qpDrained ..
  | .send .. | .write .. | .fetchAdd .. | .cmpSwap .. | .ackTimer .. | .retryAfterResend .. | .stallLimit .. | .pageResident ..
  | .cqEntry .. | .wicketFill | .trayTimeout .. | .fabricAtomic .. | .inval .. | .cohHoldEnd .. | .cohTimeout .. | .domainDown ..
  | .cohReady .. | .apertureTimeout .. | .dmaRun .. | .dmaResume .. | .dmaReset .. | .dmaTrigger .. | .triggerExpired ..
  | .dmaDescriptorComplete .. | .dmaErrorResponse .. | .channelPause .. | .dmaPauseComplete .. | .tableDef .. | .tableAck ..
  | .tableRefused .. | .tableDrop .. | .dropAck .. | .tableBuild .. | .tableRebuild .. | .tableDefResend .. | .tableDropResend ..
  | .tableRetire .. | .directCommand .. | .leaseExpiry | .idleDrainTimeout | .wakeN | .dictResponse .. | .entdaa ..
  | .setEndpointId .. | .getEndpointId | .getMctpVersionSupport | .getMessageTypeSupport | .switchLimit | .bootRomStart ..
  | .firstStageLoad .. | .attestSigned | .partitionErased .. | .auditDone | .engineCheckFail .. | .healthWindowClose
  | .expelled .. | .expelDrainEnd | .fatalError .. | .shardOffer .. | .shardGrant .. | .shardSeal .. | .shardHeld ..
  | .shardFree .. | .shardFreed .. | .coldBoot | .pwrGoodRelease .. | .perstN | .hotReset | .functionLevelReset | .hostLinkDown
  | .bar2Read .. | .bar2Write .. | .thermtrip | .p48vOutOfRange | .temperatureSample .. | .p48vOutsideOperatingRange
  | .thermtripNRelease | .perstNRise | .hostLinkUp .. | .configurationWrite .. | .msiXTableWrite .. | .unsupportedRequest ..
  | .nop .. | .endOp .. | .loop .. | .setad .. | .addad .. | .addp .. | .movpa .. | .evtPost .. | .evtWait .. | .evtWaitExpire ..
  | .fenceOp .. | .wload .. | .wstore .. | .wcopy .. | .transp .. | .mmaOp .. | .mmat .. | .vadd .. | .vsub .. | .vmul ..
  | .vfma .. | .vmax .. | .vmin .. | .vaff .. | .vrowsub .. | .vrowmul .. | .rsum .. | .rmax .. | .rmin .. | .rssq .. | .sfn ..
  | .idxbuild .. | .gather .. | .gatherw .. | .scatter .. | .topk .. | .quant .. | .dequant .. | .creduce .. | .getVersion
  | .getCapabilities | .negotiateAlgorithms .. | .getDigests .. | .getCertificate .. | .challenge .. | .getMeasurements ..
  | .chunkGet | .spdmUnsupportedRequest =>
      .of_answers (answers_answer s _)
  -- What takes its message from its buffer first.
  | .sendPacket .. | .writePacket .. | .atomic .. | .atomicResp .. | .ack .. | .trayReadResp .. | .trayWriteResp ..
  | .trayAtomicResp .. =>
      .of_answers (answers_takeRx s _ _)
  -- The messages of coherence.
  | .getS .. | .getM .. | .putM .. | .putE .. | .fwdS .. | .fwdM .. | .inv .. | .recall .. | .dataOp .. | .dataE .. | .invAck ..
  | .copyBack .. | .putAck .. =>
      .of_answers (answers_cohTake s _ _)
  -- The steps of Locket, and what chooses among answers.
  | .insert .. | .locketWrite .. | .remove .. => .of_answers (answers_lkOn s _ _ _)
  | .barrier => .of_answers (answers_execBarrier ..)
  | .vc0Request .. => .of_answers (answers_execVc0Request ..)
  | .vc0Grant .. => .of_answers (answers_execVc0Grant ..)
  | .select .. => .of_answers (answers_execSelect ..)
  | .commit => .of_answers (answers_execCommit ..)
  | .scrub .. => .of_answers (answers_execScrub ..)
  | .readReq .. => .of_answers (answers_execReadReq ..)
  | .prefixWalk .. => .of_answers (answers_execPrefixWalk ..)
  | .locketScrub .. => .of_answers (answers_execLocketScrub ..)
  | .lookup .. => .of_answers (answers_execLookup ..)
  | .slice .. => .of_answers (answers_execSlice ..)
  | .remap .. => .of_answers (answers_execRemap ..)
  | .migrate .. => .of_answers (answers_execMigrate ..)
  | .post .. => .of_answers (answers_withPulls (answers_postStep _ s))
  | .readResp .. | .nak .. => .of_answers (answers_withPulls (answers_takeRx s _ _))
  | .read .. | .qpTimeout .. => .of_answers (answers_withPulls (answers_answer s _))
  | .trayRead .. | .trayWrite .. | .trayAtomic .. => .of_answers (answers_whenRoom _ (answers_takeRx s _ _))
  -- What `mayStop` lists: the dictionary server, the setting engines, the ticks and the rest.
  | .auditReq .. | .suspend .. | .resume .. | .modelSlots .. | .adapterLoad .. | .adapterCommit .. | .grammars .. | .peerLost ..
  | .mapNext .. | .qpContexts .. | .mrRegister .. | .mrDeregister .. | .wickets .. | .traySlotDead .. | .trayMembers ..
  | .trcInvalAll .. | .cohReset .. | .allowanceUj .. | .peakUj .. | .idleRequest .. | .activeRequest .. | .dormantRequest ..
  | .dictWrite .. | .baseImage .. | .cyclicSteps .. | .progImage .. | .overlayLoad .. | .overlayErase .. | .overlayRequest ..
  | .runRequest .. | .alertClear .. | .bar2Window .. | .bootCommit .. | .svnCommit .. | .debugUnlock .. | .keyInstall ..
  | .keyRevoke .. | .attestRequest .. | .partitionCreate .. | .partitionRelease .. | .auditRequest .. | .fenceRegion ..
  | .derateEnter .. | .derateLeave .. | .fenceCommand .. =>
      .of_endsWell rfl (endsWell_writeRequest s _ _ _ _ _)
  | .attend .. => .of_endsWell rfl (endsWell_execAttend ..)
  | .append .. => .of_endsWell rfl (endsWell_execAppend ..)
  | .copy .. => .of_endsWell rfl (endsWell_execCopy ..)
  | .gfcomb .. => .of_endsWell rfl (endsWell_execGfcomb ..)
  | .doorbell .. => .of_endsWell rfl (endsWell_mailboxRequest s _ _ _)
  | .dictInfo .. => .of_endsWell rfl (endsWell_reachRequest s _ _ _)
  | .dictRequest .. => .of_endsWell rfl (endsWell_fabricRequest s _ _ _)
  | .tick .. => .of_endsWell rfl (endsWell_execTick ..)
  | .holdoverTick .. => .of_endsWell rfl (endsWell_execHoldoverTick ..)
  | .stepIssue => .of_endsWell rfl (endsWell_execStepIssue ..)
  | .overlayApplyComplete => .of_endsWell rfl (endsWell_execOverlayApplyComplete ..)
  | .runEntry .. => .of_endsWell rfl (endsWell_execRunEntry ..)
  | .configEntry .. => .of_endsWell rfl (endsWell_execConfigEntry ..)
  | .flitGroupSend .. => .of_endsWell rfl (endsWell_execFlitGroupSend ..)
  | .tickOutOfWindow .. => .of_endsWell rfl (endsWell_execTickOutOfWindow ..)

/-- Settles O3: each command's meaning ends as its wrapper does (`exec_endsAs`). -/
theorem everyCommandEndsWell : Obligations.EveryCommandEndsWell := fun i s => (exec_endsAs i s).1

/-- Settles O5: no wrapper but those of the commands that `mayStop` lists can stop (`exec_endsAs`). -/
theorem onlyListedCommandsStop : Obligations.OnlyListedCommandsStop := fun i s => (exec_endsAs i s).2

/-! ## The step -/

/-- With no command waiting one core clock passes. -/
theorem step_nil {s : State} (h : s.pending = []) : step s = .next (idle s) := by
  unfold step; rw [h]

/-- A step carries out the command at the front, the rest of the queue waiting behind it. -/
theorem step_cons {s : State} {c : Instr} {rest : List Instr} (h : s.pending = c :: rest) :
    step s = exec c { s with pending := rest } := by
  unfold step; rw [h]

/-- A step that answers takes exactly the queue's front. -/
theorem step_pending {s t : State} (h : step s = .next t) : t.pending = s.pending.tail := by
  cases hq : s.pending with
  | nil =>
    rw [step_nil hq] at h
    cases h
    exact hq
  | cons c rest =>
    rw [step_cons hq] at h
    rcases (exec_endsAs c { s with pending := rest }).1 with ⟨u, hu, hp⟩ | ⟨n, hf⟩
    · cases hu.symm.trans h
      exact hp
    · cases hf.symm.trans h

/-- Settles O4: what waits after a step waited before it. -/
theorem stepKeepsQueue : Obligations.StepKeepsQueue := by
  intro s t hs h
  have hp := step_pending h
  refine ⟨hp, fun c hc => hs c (List.mem_of_mem_tail ?_)⟩
  rwa [← hp]

/-- Settles O2: the queue is empty, so the step is idle. -/
theorem stepIdlesOnEmptyQueue : Obligations.StepIdlesOnEmptyQueue := fun _ h => step_nil h

/-! ## Bytes of memory (R7) -/

/-- Bytes stored from `a` on: the first at `a`, the others from `a + 1` on. -/
theorem memWrite_cons (s : State) (a : Nat) (b : Byte) (bs : List Byte) :
    memWrite s a (b :: bs) = memWrite (memSet s a b) (a + 1) bs := rfl

/-- Each byte stored reads back at its place. -/
theorem memByte_memWrite_in (s : State) (a : Nat) (bs : List Byte) (k : Nat) (h : k < bs.length) :
    memByte (memWrite s a bs) (a + k) = bs[k] := by
  induction bs generalizing s a k with
  | nil => exact absurd h (Nat.not_lt_zero k)
  | cons b bs ih =>
    rw [memWrite_cons]
    cases k with
    | zero =>
      exact (memByte_memWrite_out _ _ _ _ (.inl (Nat.lt_add_one a))).trans (memByte_memSet_same s a b)
    | succ k =>
      rw [show a + (k + 1) = a + 1 + k by omega]
      exact ih _ _ k (Nat.lt_of_succ_lt_succ h)

/-- The bytes stored are the bytes read. -/
theorem memBytes_memWrite_same (s : State) (a : Nat) (bs : List Byte) : memBytes (memWrite s a bs) a bs.length = bs := by
  refine List.ext_getElem (by simp [memBytes, span]) fun k _ hk => ?_
  simp [memBytes, span, memByte_memWrite_in s a bs k hk]

/-- Byte `k` of a number: its bits 8k + 7 to 8k. -/
theorem leBytes_getElem (n v k : Nat) (h : k < (leBytes n v).length) : (leBytes n v)[k] = BitVec.ofNat 8 (v / 256 ^ k) := by
  induction n generalizing v k with
  | zero => exact absurd h (Nat.not_lt_zero k)
  | succ n ih =>
    cases k with
    | zero => simp [leBytes]
    | succ k =>
      have hk : k < (leBytes n (v / 256)).length := Nat.lt_of_succ_lt_succ h
      have hdiv : v / 256 / 256 ^ k = v / 256 ^ (k + 1) := by rw [Nat.div_div_eq_div_mul, Nat.pow_succ']
      calc (leBytes (n + 1) v)[k + 1] = (leBytes n (v / 256))[k] := rfl
        _ = BitVec.ofNat 8 (v / 256 ^ (k + 1)) := by rw [ih _ _ hk, hdiv]

/-- A number stored reads back, cut to its bytes. -/
theorem memNat_memPut_same (s : State) (a n v : Nat) : memNat (memPut s a n v) a n = v % 256 ^ n := by
  have h := memBytes_memWrite_same s a (leBytes n v)
  rw [leBytes_length] at h
  rw [memNat, memPut, h, leNat_leBytes]

/-- Byte `k` of a number stored. -/
theorem memByte_memPut_in (s : State) (a n v k : Nat) (h : k < n) :
    memByte (memPut s a n v) (a + k) = BitVec.ofNat 8 (v / 256 ^ k) := by
  have hk : k < (leBytes n v).length := (leBytes_length n v).symm ▸ h
  rw [memPut, memByte_memWrite_in s a _ k hk, leBytes_getElem]

/-- A byte outside the number stored is as it was. -/
theorem memByte_memPut_out (s : State) (a n v c : Nat) (h : c < a ∨ a + n ≤ c) : memByte (memPut s a n v) c = memByte s c :=
  memByte_memWrite_out s a _ c (by rwa [leBytes_length])

/-- Settles O7: the bytes stored are the number's, each at its place, and a store writes memory only. -/
theorem memoryReadsBackLittleEndian : Obligations.MemoryReadsBackLittleEndian := by
  intro s a n v
  refine ⟨memNat_memPut_same s a n v, fun k hk => ?_, memByte_memPut_out s a n v, wf_memPut s a n v, rfl⟩
  rw [memByte_memPut_in s a n v k hk, BitVec.toNat_ofNat]

/-! ## Frame numbers (R9) -/

/-- The distance from frame `b` to frame `a` is their difference modulo 2^32. -/
theorem frameDiff_eq_sub_emod (a b : Nat) : (frameDiff b a : Int) = ((a : Int) - b) % 2 ^ 32 := by
  unfold frameDiff; omega

/-- Settles O9: the distance is the difference, and `frameGe` tests that it is below 2^31. -/
theorem framesCompareUnderR9 : Obligations.FramesCompareUnderR9 := by
  intro a b _ _
  have hd := frameDiff_eq_sub_emod a b
  refine ⟨?_, hd⟩
  rw [← hd, frameGe, decide_eq_true_iff]
  norm_cast

end Sys2Proof.Machine

/-! # Locket: how a step of a bank is answered, and the commands on an entry of it (chapter 16)

A step's meaning is `lkOn`: the role's check, the descriptor's read, then what its opcode runs. One lemma for each way it is answered;
what `recsStep`, PREFIX_WALK and SCRUB run is then judged by the descriptor read. The commands that act on an entry write its units, so
the rules of `unitWrite` say what each leaves there. -/

namespace Sys2Proof.Machine

/-- R16: the role in force closes opcode `op` on bank `b`. -/
abbrev RoleCloses (s : State) (b op : Nat) : Prop := (op = 5 ∨ (op = 2 ∧ bankKind s b = 2)) ∧ prefixOpen s = false

/-- The descriptor of the step in flight, read on the step's behalf: state, record, memory status, address. -/
abbrev descRead (s : State) (f : Flight) : State × Nat × Nat × Nat :=
  readRec s (stepReader f) (getF f.step StepRec.DESC_ADDR) 64

/-! ## The ways a LOCKET step is answered -/

section
variable {i : Instr} {s : State} {b op : Nat} {f : Flight} {run : State → Flight → Nat → State}

theorem lkOn_completes_roleClosed (hi : exec i s = lkOn s b op run) (hf : flightOn s (lkUnit b) = some f)
    (hop : getF f.step StepRec.OPCODE = op) (hr : RoleCloses s b op) : completes i s (lkRefuse s b f 2) := by
  refine hi.trans ?_
  simp only [lkOn, hf]
  rw [if_neg (not_not.2 hop), if_pos hr, answer]

theorem lkOn_completes_unread (hi : exec i s = lkOn s b op run) (hf : flightOn s (lkUnit b) = some f)
    (hop : getF f.step StepRec.OPCODE = op) (hr : ¬ RoleCloses s b op) (hd : (descRead s f).2.2.1 ≠ 0) :
    completes i s (lkRefuse (descRead s f).1 b f 5) := by
  refine hi.trans ?_
  simp only [lkOn, hf]
  rw [if_neg (not_not.2 hop), if_neg hr, if_pos hd, answer]

theorem lkOn_completes_read (hi : exec i s = lkOn s b op run) (hf : flightOn s (lkUnit b) = some f)
    (hop : getF f.step StepRec.OPCODE = op) (hr : ¬ RoleCloses s b op) (hd : (descRead s f).2.2.1 = 0) :
    completes i s (run (descRead s f).1 f (descRead s f).2.1) := by
  refine hi.trans ?_
  simp only [lkOn, hf]
  rw [if_neg (not_not.2 hop), if_neg hr, if_neg (not_not.2 hd), answer]

/-- A step of an opcode outside the table (R333). -/
theorem lookup_completes_undefined (hf : flightOn s (lkUnit b) = some f)
    (hop : getF f.step StepRec.OPCODE = 0 ∨ 6 < getF f.step StepRec.OPCODE) : completes (.lookup b) s (lkRefuse s b f 4) := by
  show execLookup b s = answer s _
  simp only [execLookup, hf]
  exact if_pos hop

theorem execLookup_defined (hf : flightOn s (lkUnit b) = some f)
    (hop : ¬ (getF f.step StepRec.OPCODE = 0 ∨ 6 < getF f.step StepRec.OPCODE)) : execLookup b s = lkOn s b 1 (recsStep 1 b) := by
  simp only [execLookup, hf]
  exact if_neg hop

end

/-- A LOCKET step leaves its bank free, whatever it ends with. -/
@[simp] theorem flightOn_lkEnd_same (r : LkRun) (b : Nat) (f : Flight) (status : Nat) (how : StepEnd) :
    flightOn (lkEnd r b f status how) (lkUnit b) = none := flightOn_finishStep_same _ _ _

/-! ## The steps of records (R333, R334) -/

/-- The opcodes that run records, with their commands. -/
abbrev recordCommands (b : Nat) : List (Nat × Instr) := [(1, .lookup b), (2, .insert b), (3, .locketWrite b), (4, .remove b)]

/-- R333: the descriptor of a step of records fails its check. -/
abbrev RecsBad (s : State) (b d : Nat) : Prop := bankKind s b = 0 ∨ getF d LkDesc.ENTRIES = 0 ∨ getF d LkDesc.ENTRY_ADDR % 64 ≠ 0

section
variable {i : Instr} {s : State} {b op d : Nat} {f : Flight}

/-- A step of records is `lkOn` over its records' run, under each of the four commands. -/
theorem exec_recordCommand (hi : (op, i) ∈ recordCommands b) (hf : flightOn s (lkUnit b) = some f)
    (hop : getF f.step StepRec.OPCODE = op) : exec i s = lkOn s b op (recsStep op b) := by
  simp only [List.mem_cons, Prod.mk.injEq, List.not_mem_nil, or_false] at hi
  obtain ⟨rfl, rfl⟩ | ⟨rfl, rfl⟩ | ⟨rfl, rfl⟩ | ⟨rfl, rfl⟩ := hi
  · exact execLookup_defined hf (by omega)
  · rfl
  · rfl
  · rfl

/-- None of them is PREFIX_WALK's opcode: the role closes only an INSERT into a PREFIX bank. -/
theorem roleCloses_recordCommand (hi : (op, i) ∈ recordCommands b) :
    RoleCloses s b op ↔ op = 2 ∧ bankKind s b = 2 ∧ prefixOpen s = false := by
  have h5 : op ≠ 5 := by
    rintro rfl
    simp at hi
  simp [RoleCloses, h5, and_assoc]

theorem recsStep_bad (h : RecsBad s b d) : recsStep op b s f d = lkRefuse s b f 7 := if_pos h

theorem recsStep_good (h : ¬ RecsBad s b d) :
    recsStep op b s f d =
      let r := recsRun (getF d LkDesc.ENTRIES) (LkRun.start s) f op b (getF d LkDesc.ENTRY_ADDR)
      lkEnd r b f (lkStatus r) .done := if_neg h

end

/-! ## PREFIX_WALK and SCRUB (R336, R339) -/

/-- R333, R336: the descriptor of a PREFIX_WALK passes its check. -/
abbrev WalkFits (s : State) (b d : Nat) : Prop :=
  bankKind s b ≠ 0 ∧ getF d WalkDesc.BLOCKS ≠ 0 ∧ getF d WalkDesc.TOKEN_ADDR % 4 = 0 ∧ getF d WalkDesc.OUT_ADDR % 64 = 0
    ∧ ∀ g, kindGroup s 2 = some g → g.1 ≤ b ∧ b < g.1 + g.2.1

/-- A PREFIX_WALK is `lkOn` over a body that walks where the descriptor fits and refuses it elsewhere. -/
theorem exec_prefixWalk (b : Nat) (s : State) : ∃ run, exec (.prefixWalk b) s = lkOn s b 5 run ∧ ∀ t f d,
    (WalkFits t b d → run t f d = lkEnd (walkRun t f d) b f (lkStatus (walkRun t f d)) .done)
      ∧ (¬ WalkFits t b d → run t f d = lkRefuse t b f 7) := by
  refine ⟨_, (rfl : execPrefixWalk b s = _), ?_⟩
  intro t f d
  refine ⟨fun ⟨hk, hn, ht, ho, hg⟩ => if_neg ?_, fun h => if_pos (by_contra fun hc => h ?_)⟩
  · cases e : kindGroup t 2 with
    | none => simp [hk, hn, ht, ho]
    | some g => simpa [hk, hn, ht, ho] using hg g e
  · simp only [not_or, not_not] at hc
    obtain ⟨hk, hn, ht, ho, hg⟩ := hc
    exact ⟨hk, hn, ht, ho, fun g e => by simpa [e] using hg⟩

/-- SCRUB's run over `n` units from the bank's pointer on (R339). -/
abbrev bankScrub (s : State) (b n : Nat) : LkRun :=
  (List.range n).foldl (fun r i => scrubUnit r b (b * 2048 + (odGet s OD.SCRUB_POINTERS b + i) % 2048)) (LkRun.start s)

/-- A SCRUB is `lkOn` over a body that compares UNITS units and refuses a bank of no kind or a number of units out of range. -/
theorem exec_locketScrub (b : Nat) (s : State) : ∃ run, exec (.locketScrub b) s = lkOn s b 6 run ∧ ∀ t f d,
    let n := getF d LkScrubDesc.UNITS
    let r := bankScrub t b n
    (bankKind t b ≠ 0 → 0 < n → n ≤ 2048 → run t f d =
      lkEnd { r with s := odPut r.s OD.SCRUB_POINTERS b ((odGet t OD.SCRUB_POINTERS b + n) % 2048) } b f 0 .done)
      ∧ (bankKind t b = 0 ∨ n = 0 ∨ 2048 < n → run t f d = lkRefuse t b f 7) := by
  refine ⟨_, (rfl : execLocketScrub b s = _), ?_⟩
  intro t f d
  exact ⟨fun hk h0 hn => if_neg (by omega), fun h => if_pos h⟩

/-! ## One record (R334) -/

section
variable {s : State} {op b r : Nat}

/-- A record by key of another bank answers WRONG_BANK, nothing done. -/
theorem oneRec_wrongBank (hkey : op = 1 ∨ op = 2 ∨ getF r LkDesc.R_BY_INDEX ≠ 1)
    (hbank : keyBank s (bankKind s b) (recKey s b r) ≠ some b) :
    oneRec s op b r = ⟨s, 5, getF r LkDesc.R_ENTRY, getF r LkDesc.R_VALUE⟩ := by
  have hby : ¬ (getF r LkDesc.R_BY_INDEX = 1 ∧ 3 ≤ op) := by omega
  refine if_pos ?_
  simp only [Bool.and_eq_true, Bool.not_eq_true', Bool.and_eq_false_iff, beq_eq_false_iff_ne, decide_eq_false_iff_not, bne_iff_ne]
  exact ⟨not_and_or.1 hby, hbank⟩

theorem changeRec_badEntry (act : State → Nat → State) (hindex : getF r LkDesc.R_BY_INDEX = 1)
    (hentry : entryOf s b (getF r LkDesc.R_ENTRY) = false) :
    changeRec s b r act = ⟨s, 4, getF r LkDesc.R_ENTRY, getF r LkDesc.R_VALUE⟩ := by
  simp [changeRec, hindex, hentry]

/-- A WRITE or REMOVE by an index that names no valid entry answers BAD_ENTRY, nothing done. -/
theorem oneRec_badEntry (hop : op = 3 ∨ op = 4) (hindex : getF r LkDesc.R_BY_INDEX = 1)
    (hentry : entryOf s b (getF r LkDesc.R_ENTRY) = false) :
    oneRec s op b r = ⟨s, 4, getF r LkDesc.R_ENTRY, getF r LkDesc.R_VALUE⟩ := by
  obtain rfl | rfl := hop
  · simp [oneRec, hindex, changeRec_badEntry _ hindex hentry]
  · simp [oneRec, hindex, changeRec_badEntry _ hindex hentry]

end

/-! ## The units of an entry (R332) -/

/-- Of the dictionary a unit's write changes the unit. -/
theorem unitWrite_od (s : State) (u x : Nat) : (unitWrite s u x).od = (odPut s OD.LOCKET_VIEW u x).od := rfl

@[simp] theorem unitRec_unitWrite_same (s : State) (u x : Nat) : unitRec (unitWrite s u x) u = x := by
  unfold unitRec odGet
  rw [unitWrite_od]
  exact odGet_odPut_same ..

theorem unitRec_unitWrite_ne (s : State) {u v : Nat} (x : Nat) (h : v ≠ u) : unitRec (unitWrite s u x) v = unitRec s v := by
  unfold unitRec odGet
  rw [unitWrite_od]
  exact odGet_odPut_elem s _ _ x _ h

/-- A counter of Locket is no unit of it. -/
theorem unitRec_lkCount (s : State) {i u : Nat} (hi : i < 2 ^ 24) (hu : u < 2 ^ 24) : unitRec (lkCount s i) u = unitRec s u :=
  odGet_odAdd_entry s _ _ _ _ _ (by decide) hi hu

/-- Nor is a bank's number of entries. -/
theorem unitRec_entryCount (s : State) {b u : Nat} (n : Nat) (hb : b < 2 ^ 24) (hu : u < 2 ^ 24) :
    unitRec (odPut s OD.ENTRY_COUNTS b n) u = unitRec s u :=
  odGet_odPut_entry s _ _ _ _ _ (by decide) hb hu

/-- A unit's VALID bit. -/
abbrev validBit (s : State) (u : Nat) : Nat := getF (unitRec s u) LkUnit.VALID

/-- Unit `u` with its VALID bit cleared (R332). -/
abbrev unitInvalidate (s : State) (u : Nat) : State := unitWrite s u (setF (unitRec s u) LkUnit.VALID 0)

theorem validBit_unitInvalidate_same (s : State) (u : Nat) : validBit (unitInvalidate s u) u = 0 := by
  rw [validBit, unitRec_unitWrite_same, getF_setF_same, Nat.zero_mod]

/-- A unit already invalid stays so when any unit is invalidated. -/
theorem validBit_unitInvalidate_of_zero {s : State} {u : Nat} (h : validBit s u = 0) (v : Nat) : validBit (unitInvalidate s v) u = 0 := by
  obtain rfl | hv := eq_or_ne u v
  · exact validBit_unitInvalidate_same s u
  · rwa [validBit, unitRec_unitWrite_ne _ _ hv]

/-- It stays so while the units at several places from `a` on are invalidated. -/
theorem validBit_unitsInvalidate_of_zero {s : State} {u : Nat} (h : validBit s u = 0) (a : Nat) (l : List Nat) :
    validBit (l.foldl (fun t i => unitInvalidate t (a + i)) s) u = 0 := by
  induction l generalizing s with
  | nil => exact h
  | cons i l ih => exact ih (validBit_unitInvalidate_of_zero h _)

/-- The first of `n + 1` units from `u` on is invalid once they all have been invalidated. -/
theorem validBit_unitsInvalidate_first (s : State) (u n : Nat) :
    validBit ((List.range (n + 1)).foldl (fun t i => unitInvalidate t (u + i)) s) u = 0 := by
  rw [List.range_succ_eq_map, List.foldl_cons]
  exact validBit_unitsInvalidate_of_zero (validBit_unitInvalidate_same s u) u _

/-! ## The commands on an entry (R332, R334) -/

/-- An entry of Locket removed is no longer valid. -/
theorem validBit_entryRemove (s : State) {u : Nat} (hu : u < 65536) : validBit (entryRemove s u) u = 0 := by
  obtain ⟨n, hn⟩ : ∃ n, bankWidth s (u / 2048) = n + 1 :=
    Nat.exists_eq_succ_of_ne_zero (Nat.two_pow_pos _).ne'
  unfold entryRemove
  split
  · next h => exact h
  · rw [validBit, unitRec_lkCount _ (by decide) (by omega), unitRec_entryCount _ _ (by omega) (by omega), hn]
    exact validBit_unitsInvalidate_first s u n

/-- A rewrite replaces the value, cut to its field. -/
theorem lkValue_entryRewrite (s : State) (u v : Nat) : lkValue (entryRewrite s u v) u = v % 2 ^ 128 := by
  rw [lkValue, entryRewrite, unitRec_unitWrite_same]
  exact getF_setF_same ..

/-- A rewrite leaves the entry as valid as it was. -/
theorem validBit_entryRewrite (s : State) (u v : Nat) : validBit (entryRewrite s u v) u = validBit s u := by
  rw [validBit, entryRewrite, unitRec_unitWrite_same, getF_setF_ne _ _ _ _ (by decide)]

theorem validBit_of_entryOf {s : State} {b u : Nat} (h : entryOf s b u = true) : validBit s u = 1 := by
  simp only [entryOf, Bool.and_eq_true, beq_iff_eq] at h
  exact h.2

section
variable {s : State} {u : Nat}

theorem directCommand_remove (hu : u < 65536) (he : entryOf s (u / 2048) u = true) (hk : bankKind s (u / 2048) ≠ 0) :
    completes (.directCommand u none) s (entryRemove s u) :=
  congrArg (answer s) (if_pos ⟨hu, he, hk⟩)

theorem directCommand_rewrite (v : Nat) (hu : u < 65536) (he : entryOf s (u / 2048) u = true) (hk : bankKind s (u / 2048) ≠ 0) :
    completes (.directCommand u (some v)) s (entryRewrite s u v) :=
  congrArg (answer s) (if_pos ⟨hu, he, hk⟩)

/-- An index that names no valid entry, or one of a bank of no kind: nothing changes. -/
theorem directCommand_none (v : Option Nat) (h : entryOf s (u / 2048) u = false ∨ bankKind s (u / 2048) = 0) :
    completes (.directCommand u v) s s := by
  refine congrArg (answer s) (if_neg ?_)
  rintro ⟨-, he, hk⟩
  exact h.elim (fun hn => Bool.noConfusion (hn.symm.trans he)) hk

end

/-! ## Each step from its flight to its completion -/

/-- The record steps: R16, then the descriptor's read, its check and the records' run. -/
theorem recordStep_completes {i : Instr} {s : State} {b op : Nat} {f : Flight} (hi : (op, i) ∈ recordCommands b)
    (hf : flightOn s (lkUnit b) = some f) (hop : getF f.step StepRec.OPCODE = op) :
    let d := descRead s f
    (op = 2 → bankKind s b = 2 → prefixOpen s = false → completes i s (lkRefuse s b f 2))
      ∧ (op ≠ 2 ∨ bankKind s b ≠ 2 ∨ prefixOpen s = true →
        (d.2.2.1 ≠ 0 → completes i s (lkRefuse d.1 b f 5))
        ∧ (d.2.2.1 = 0 → RecsBad d.1 b d.2.1 → completes i s (lkRefuse d.1 b f 7))
        ∧ (d.2.2.1 = 0 → ¬ RecsBad d.1 b d.2.1 →
          let r := recsRun (getF d.2.1 LkDesc.ENTRIES) (LkRun.start d.1) f op b (getF d.2.1 LkDesc.ENTRY_ADDR)
          completes i s (lkEnd r b f (lkStatus r) .done))) := by
  have he := exec_recordCommand hi hf hop
  have hc := roleCloses_recordCommand (s := s) hi
  refine ⟨fun h2 hk hp => lkOn_completes_roleClosed he hf hop (hc.2 ⟨h2, hk, hp⟩), fun hopen => ?_⟩
  have hr : ¬ RoleCloses s b op := by
    rw [hc]
    rintro ⟨h2, hk, hp⟩
    simp [h2, hk, hp] at hopen
  refine ⟨lkOn_completes_unread he hf hop hr, fun hd hbad => ?_, fun hd hgood => ?_⟩
  · rw [← recsStep_bad (op := op) hbad]
    exact lkOn_completes_read he hf hop hr hd
  · have h := lkOn_completes_read he hf hop hr hd
    rwa [recsStep_good hgood] at h

/-- A PREFIX_WALK in a role that opens it: its descriptor unread, refused by its check, or walked. -/
theorem prefixWalk_completes {s t : State} {b d st m : Nat} {f : Flight} (hf : flightOn s (lkUnit b) = some f)
    (hop : getF f.step StepRec.OPCODE = 5) (hp : prefixOpen s = true) (hd : descRead s f = (t, d, st, m)) :
    (st ≠ 0 → completes (.prefixWalk b) s (lkRefuse t b f 5))
      ∧ (st = 0 → WalkFits t b d → completes (.prefixWalk b) s (lkEnd (walkRun t f d) b f (lkStatus (walkRun t f d)) .done))
      ∧ (st = 0 → ¬ WalkFits t b d → completes (.prefixWalk b) s (lkRefuse t b f 7)) := by
  obtain ⟨run, he, hrun⟩ := exec_prefixWalk b s
  obtain ⟨hfit, hbad⟩ := hrun t f d
  have hr : ¬ RoleCloses s b 5 := by simp [RoleCloses, hp]
  have hu := lkOn_completes_unread he hf hop hr
  have hc := lkOn_completes_read he hf hop hr
  simp only [hd] at hu hc
  exact ⟨hu, fun h0 h => hfit h ▸ hc h0, fun h0 h => hbad h ▸ hc h0⟩

/-- A SCRUB: its descriptor unread, refused by its check, or its units compared and the pointer advanced. -/
theorem locketScrub_completes {s t : State} {b d st m : Nat} {f : Flight} (hf : flightOn s (lkUnit b) = some f)
    (hop : getF f.step StepRec.OPCODE = 6) (hd : descRead s f = (t, d, st, m)) :
    let n := getF d LkScrubDesc.UNITS
    let r := bankScrub t b n
    (st ≠ 0 → completes (.locketScrub b) s (lkRefuse t b f 5))
      ∧ (st = 0 → bankKind t b ≠ 0 → 0 < n → n ≤ 2048 → completes (.locketScrub b) s
        (lkEnd { r with s := odPut r.s OD.SCRUB_POINTERS b ((odGet t OD.SCRUB_POINTERS b + n) % 2048) } b f 0 .done))
      ∧ (st = 0 → bankKind t b = 0 ∨ n = 0 ∨ 2048 < n → completes (.locketScrub b) s (lkRefuse t b f 7)) := by
  obtain ⟨run, he, hrun⟩ := exec_locketScrub b s
  obtain ⟨hfit, hbad⟩ := hrun t f d
  have hr : ¬ RoleCloses s b 6 := by simp [RoleCloses]
  have hu := lkOn_completes_unread he hf hop hr
  have hc := lkOn_completes_read he hf hop hr
  simp only [hd] at hu hc
  exact ⟨hu, fun h0 hk hn0 hn => hfit hk hn0 hn ▸ hc h0, fun h0 h => hbad h ▸ hc h0⟩

/-- Settles O48: each clause is the rule above of the step, record or entry it speaks of. -/
theorem locketSteps : Obligations.LocketSteps := by
  refine ⟨fun s b op f i hi hf hop => recordStep_completes hi hf hop, fun s b f hf => ⟨lookup_completes_undefined hf, ?_, ?_, ?_⟩,
    flightOn_lkEnd_same, ?_, ?_, ?_, fun s u v => directCommand_none v⟩
  · intro hop hp
    obtain ⟨run, he, -⟩ := exec_prefixWalk b s
    exact lkOn_completes_roleClosed he hf hop ⟨.inl rfl, hp⟩
  · intro t d m hd
    refine ⟨fun hop hp => ?_, fun hop => ?_⟩
    · obtain ⟨-, hwalk, hbad⟩ := prefixWalk_completes hf hop hp hd
      exact ⟨hwalk rfl, hbad rfl⟩
    · obtain ⟨-, hscrub, hbad⟩ := locketScrub_completes hf hop hd
      exact ⟨hscrub rfl, hbad rfl⟩
  · intro t d st m hd hst
    exact ⟨fun hop hp => (prefixWalk_completes hf hop hp hd).1 hst, fun hop => (locketScrub_completes hf hop hd).1 hst⟩
  · intro s b r op hkey hbank
    rw [oneRec_wrongBank hkey hbank]
    exact ⟨rfl, rfl⟩
  · intro s b r op hop hindex hentry
    rw [oneRec_badEntry hop hindex hentry]
    exact ⟨rfl, rfl⟩
  · intro s u v hu he hk
    exact ⟨directCommand_remove hu he hk, directCommand_rewrite v hu he hk, validBit_entryRemove s hu, lkValue_entryRewrite s u v,
      (validBit_entryRewrite s u v).trans (validBit_of_entryOf he)⟩

end Sys2Proof.Machine

/-! # Rules of the shared operations that the frames need

What fields, keyed stores and entries read as after an operation on them, and what an alert or a telemetry record leaves as it was. -/

namespace Sys2Proof.Machine

/-! ## Fields of records -/

/-- A field that shares no bit with those set is as it was. -/
theorem getF_setFs_disjoint (f : Fld) (l : List (Fld × Nat)) (w : Nat)
    (h : (l.map Prod.fst).all (fun g => decide (f.lo + f.width ≤ g.lo) || decide (g.lo + g.width ≤ f.lo)) = true) :
    getF (setFs w l) f = getF w f := by
  induction l generalizing w with
  | nil => rfl
  | cons p l ih =>
    simp only [List.map_cons, List.all_cons, Bool.and_eq_true, Bool.or_eq_true, decide_eq_true_eq] at h
    exact (ih (setF w p.1 p.2) h.2).trans (getF_setF_ne w p.1 f p.2 h.1)

/-- A field set last of those it shares bits with reads back. -/
theorem getF_setFs_append_cons (f : Fld) (v : Nat) (l m : List (Fld × Nat)) (w : Nat)
    (h : (m.map Prod.fst).all (fun g => decide (f.lo + f.width ≤ g.lo) || decide (g.lo + g.width ≤ f.lo)) = true) :
    getF (setFs w (l ++ (f, v) :: m)) f = v % 2 ^ f.width := by
  have he : setFs w (l ++ (f, v) :: m) = setFs (setF (setFs w l) f v) m := by simp [setFs]
  rw [he, getF_setFs_disjoint f m _ h, getF_setF_same]

/-! ## Keyed stores and entries of the dictionary -/

theorem kfind_kdel_of_none {α : Type} {m : KMap α} {j : Nat} (k : Nat) (h : kfind m j = none) : kfind (kdel m k) j = none := by
  obtain rfl | hne := eq_or_ne j k
  · exact kfind_kdel_same m j
  · rwa [kfind_kdel_ne m k j hne]

theorem kfind_kerase_of_none {α : Type} {m : KMap α} {j : Nat} (a n : Nat) (h : kfind m j = none) : kfind (kerase m a n) j = none := by
  rw [kfind, Option.map_eq_none_iff] at h ⊢
  exact List.find?_eq_none.2 fun p hp => List.find?_eq_none.1 h p (List.mem_of_mem_filter hp)

/-- A value that is no default is read at its key under whatever entry's name. -/
theorem odGet_odPut_key (s : State) {e i v e' i' : Nat} (hk : odKey e' i' = odKey e i) (hv : v ≠ odDefault e i) :
    odGet (odPut s e i v) e' i' = v := by
  rw [odGet, hk, odPut, kputD, if_neg hv]
  exact kget_kput_same _ _ _ _

/-- An entry cleared reads its default. -/
theorem odGet_odClear_same (s : State) (e i : Nat) (hi : i < 2 ^ 24) : odGet (odClear s e) e i = odDefault e i := by
  have h : kfind (kerase s.od (odKey e 0) (2 ^ 24)) (odKey e i) = none := by
    unfold kfind kerase
    rw [kfind_filter_none s.od _ (fun k => decide (k < odKey e 0) || decide (odKey e 0 + 2 ^ 24 ≤ k)) (by simp [odKey]; omega)]
    rfl
  rw [odGet, odClear, kget, h]
  rfl

/-- Another entry is as it was. -/
theorem odGet_odClear_entry (s : State) (e e' i : Nat) (h : e' ≠ e) (hi : i < 2 ^ 24) : odGet (odClear s e) e' i = odGet s e' i := by
  have hk : kfind (kerase s.od (odKey e 0) (2 ^ 24)) (odKey e' i) = kfind s.od (odKey e' i) := by
    unfold kfind kerase
    rw [kfind_filter s.od _ (fun k => decide (k < odKey e 0) || decide (odKey e 0 + 2 ^ 24 ≤ k)) (by simp [odKey]; omega)]
  rw [odGet, odClear, kget, hk]
  rfl

/-- Elements stored together leave every key outside them. -/
theorem odGet_odBlock_entry (s : State) {e e' i : Nat} {vs : List Nat} (hlen : vs.length ≤ 2 ^ 24) (h : e' ≠ e) (hi : i < 2 ^ 24) :
    odGet (odBlock s e 0 vs) e' i = odGet s e' i := by
  have hout : odKey e' i < odKey e 0 ∨ odKey e (0 + vs.length) ≤ odKey e' i := by
    unfold odKey
    omega
  have hnew : ∀ p ∈ (vs.zipIdx 0).filterMap (fun p => if p.1 = odDefault e p.2 then none else some (odKey e p.2, p.1)),
      ¬ (p.1 == odKey e' i) = true := by
    intro p hp
    obtain ⟨⟨v, j⟩, hmem, hsome⟩ := List.mem_filterMap.1 hp
    have hj := (List.mem_zipIdx hmem).2.1
    split at hsome
    · cases hsome
    · cases hsome
      simp only [odKey, beq_iff_eq] at hout ⊢
      omega
  have hfind : kfind (odBlock s e 0 vs).od (odKey e' i) = kfind s.od (odKey e' i) := by
    unfold kfind odBlock
    rw [List.find?_append, List.find?_append, List.find?_eq_none.2 hnew, Option.or_none]
    congr 1
    rcases hout with hlt | hge
    · rw [kfind_filter s.od _ (fun k => decide (k < odKey e 0)) (by simpa using hlt),
        kfind_filter_none s.od _ (fun k => decide (odKey e (0 + vs.length) ≤ k)) (decide_eq_false (by unfold odKey at *; omega)),
        Option.or_none]
    · rw [kfind_filter_none s.od _ (fun k => decide (k < odKey e 0)) (decide_eq_false (by unfold odKey at *; omega)),
        kfind_filter s.od _ (fun k => decide (odKey e (0 + vs.length) ≤ k)) (by simpa using hge), Option.none_or]
  rw [odGet, kget, hfind]
  rfl

/-- Elements stored change the dictionary alone. -/
theorem odPuts_eq (s : State) (e i : Nat) (vs : List Nat) : odPuts s e i vs = { s with od := (odPuts s e i vs).od } := by
  unfold odPuts
  generalize vs.zipIdx i = l
  induction l generalizing s with
  | nil => rfl
  | cons p l ih =>
    rw [List.foldl_cons, ih]
    rfl

theorem odPuts_concat (s : State) (e i v : Nat) (l : List Nat) : odPuts s e i (l ++ [v]) = odPut (odPuts s e i l) e (i + l.length) v := by
  simp [odPuts, List.zipIdx_append]

/-- Defaults stored list no key. -/
theorem odPuts_default_none {s : State} {e j : Nat} (l : List Nat) (i : Nat) (hl : ∀ v ∈ l, ∀ k, v = odDefault e k)
    (h : kfind s.od j = none) : kfind (odPuts s e i l).od j = none := by
  induction l using List.reverseRecOn with
  | nil => exact h
  | append_singleton l v ih =>
    rw [odPuts_concat]
    have hv : v = odDefault e (i + l.length) := hl v (by simp) _
    have hih := ih fun x hx => hl x (by simp [hx])
    rw [odPut, kputD, if_pos hv]
    exact kfind_kdel_of_none _ hih

/-! ## Alerts and telemetry -/

/-- An alert changes the dictionary and what the host is sent, nothing else. -/
theorem alert_eq (s : State) (b : Nat) :
    alert s b = { s with od := (alert s b).od, out := (alert s b).out, host := (alert s b).host } :=
  congrArg (fun x : State => { x with od := (alert s b).od, out := (alert s b).out, host := (alert s b).host }) (alert_frame s b)

/-- Records pushed change the dictionary and the counts of the rings. -/
theorem ringPushes_eq (e : Nat) (l : List Nat) (s : State) :
    l.foldl (fun t w => ringPush t e w) s = { s with
      od := (l.foldl (fun t w => ringPush t e w) s).od, rings := (l.foldl (fun t w => ringPush t e w) s).rings } := by
  induction l generalizing s with
  | nil => rfl
  | cons w l ih => rw [List.foldl_cons, ih]; rfl

/-- So does a telemetry record. -/
theorem telemetryOf_eq (s : State) (frame source : Nat) (words : List Nat) :
    telemetryOf s frame source words = { s with
      od := (telemetryOf s frame source words).od, rings := (telemetryOf s frame source words).rings } := by
  unfold telemetryOf
  split
  · exact ringPushes_eq _ _ _
  · rfl

/-- A record pushed and a telemetry record written leave the rest as it was, sequencer and fault state among it. -/
theorem telemetry_ringPush_eq (s : State) (e r source : Nat) (words : List Nat) :
    telemetry (ringPush s e r) source words = { s with
      od := (telemetry (ringPush s e r) source words).od, rings := (telemetry (ringPush s e r) source words).rings } :=
  telemetryOf_eq _ _ _ _

end Sys2Proof.Machine

/-! # Issue: the merged order and the step that issues next (chapter 02, R32, R35, R36)

`mergedSteps` is Mathlib's insertion sort by one key, so it is a permutation that rises. `nextIssue` walks it and keeps the units that
earlier open steps hold; `nextIssue_go_eq_some_iff` reads the walk as a search for the first step that is `issueReady`. -/

namespace Sys2Proof.Machine

/-! ## The merged order -/

theorem insertBy_eq_orderedInsert {α : Type} (le : α → α → Bool) (x : α) (l : List α) :
    insertBy le x l = l.orderedInsert (fun a b => le a b = true) x := by
  induction l with
  | nil => rfl
  | cons y l ih => rw [insertBy, List.orderedInsert, ih]

theorem sortBy_eq_insertionSort {α : Type} (le : α → α → Bool) (l : List α) :
    sortBy le l = l.insertionSort (fun a b => le a b = true) := by
  rw [sortBy, List.insertionSort, funext fun x => funext (insertBy_eq_orderedInsert le x)]

/-- What the merged order rises in: START_CLK, then the slot, which is below 8192. -/
def mergeKey (p : Nat × Nat) : Nat := getF p.2 StepRec.START_CLK * 8192 + p.1

theorem mergedSteps_eq_insertionSort (s : State) :
    mergedSteps s = s.frm.curSteps.insertionSort (fun p q => decide (mergeKey p ≤ mergeKey q) = true) :=
  sortBy_eq_insertionSort _ _

theorem mergedSteps_perm (s : State) : List.Perm (mergedSteps s) s.frm.curSteps := by
  rw [mergedSteps_eq_insertionSort]
  exact List.perm_insertionSort _ _

theorem mergedSteps_rises (s : State) : (mergedSteps s).Pairwise (fun p q => mergeKey p ≤ mergeKey q) := by
  have htotal : Std.Total (fun p q : Nat × Nat => decide (mergeKey p ≤ mergeKey q) = true) :=
    ⟨fun p q => by simpa using le_total (mergeKey p) (mergeKey q)⟩
  have htrans : IsTrans (Nat × Nat) (fun p q => decide (mergeKey p ≤ mergeKey q) = true) :=
    ⟨fun p q r hpq hqr => by simp only [decide_eq_true_eq] at *; exact hpq.trans hqr⟩
  rw [mergedSteps_eq_insertionSort]
  simpa using List.pairwise_insertionSort (fun p q => decide (mergeKey p ≤ mergeKey q) = true) s.frm.curSteps

/-- A key not above another is of an earlier START_CLK, or of the same and a slot not above. -/
theorem startClk_slot_of_mergeKey_le {p q : Nat × Nat} (hp : p.1 < 8192) (hq : q.1 < 8192) (h : mergeKey p ≤ mergeKey q) :
    getF p.2 StepRec.START_CLK < getF q.2 StepRec.START_CLK
      ∨ (getF p.2 StepRec.START_CLK = getF q.2 StepRec.START_CLK ∧ p.1 ≤ q.1) := by
  unfold mergeKey at h
  omega

/-! ## What holds a step back -/

/-- Distinct powers added where a test holds: none is added exactly where it holds nowhere. -/
theorem foldl_add_pow_eq_zero (c : Nat → Bool) (l : List Nat) (a : Nat) :
    l.foldl (fun acc i => if c i then acc + 2 ^ i else acc) a = 0 ↔ a = 0 ∧ ∀ i ∈ l, c i = false := by
  induction l generalizing a with
  | nil => simp
  | cons i l ih =>
    rw [List.foldl_cons, ih]
    have hpow : 2 ^ i ≠ 0 := (Nat.two_pow_pos i).ne'
    cases hc : c i <;> simp [hc]

theorem unmetEvents_eq_zero_iff (s : State) (st : Nat) :
    unmetEvents s st = 0 ↔ ∀ i < 64, bitOf (getF st StepRec.WAIT_MASK) i = true →
      eventMet s (64 * getF st StepRec.WAIT_WINDOW + i) = true := by
  unfold unmetEvents
  rw [foldl_add_pow_eq_zero]
  simp

/-- A step's slot of a section that runs is not of one skipped whole. -/
theorem slotSkipped_of_slotRuns {s : State} {slot : Nat} (h : slotRuns s slot = true) : slotSkipped s slot = false := by
  unfold slotRuns at h
  unfold slotSkipped
  by_cases hc : slot < getF s.frm.curHdr TableHdr.CYCLIC_COUNT
  · simp [Nat.not_le.2 hc]
  · have hm : s.frm.mode = .whole := by simp_all
    simp [hm]

/-- A step of the table that has completed, or is of a section skipped whole, holds no unit. -/
def StepPast (s : State) (q : Nat × Nat) : Prop := kget s.frm.slotState q.1 0 = 2 ∨ slotSkipped s q.1 = true

/-- The units that the steps `before` hold back. -/
def Holds (s : State) (before : List (Nat × Nat)) (u : Nat) : Prop := ∃ q ∈ before, stepUnit q.2 = u ∧ ¬ StepPast s q

theorem holds_append_singleton {s : State} {before : List (Nat × Nat)} {x : Nat × Nat} {u : Nat} :
    Holds s (before ++ [x]) u ↔ Holds s before u ∨ (stepUnit x.2 = u ∧ ¬ StepPast s x) := by
  simp only [Holds, List.mem_append, List.mem_singleton]
  constructor
  · rintro ⟨q, hq | rfl, h⟩
    · exact .inl ⟨q, hq, h⟩
    · exact .inr h
  · rintro (⟨q, hq, h⟩ | h)
    · exact ⟨q, .inl hq, h⟩
    · exact ⟨x, .inr rfl, h⟩

/-- R32's conditions, with the earlier steps' hold on the unit as one of them. -/
theorem issueReady_iff (s : State) (before : List (Nat × Nat)) (p : Nat × Nat) :
    issueReady s before p ↔ kget s.frm.slotState p.1 0 ≠ 1 ∧ ¬ StepPast s p ∧ slotRuns s p.1 = true
      ∧ getF p.2 StepRec.START_CLK ≤ frameClk s ∧ unmetEvents s p.2 = 0 ∧ flightOn s (stepUnit p.2) = none
      ∧ fencedSince s p.2 = false ∧ ¬ Holds s before (stepUnit p.2) := by
  have hholds : (∀ q ∈ before, stepUnit q.2 = stepUnit p.2 → kget s.frm.slotState q.1 0 = 2 ∨ slotSkipped s q.1 = true)
      ↔ ¬ Holds s before (stepUnit p.2) := by
    simp only [Holds, StepPast, not_exists, not_and, not_not]
  rw [issueReady, hholds, ← unmetEvents_eq_zero_iff]
  constructor
  · rintro ⟨h1, h2, hr, h⟩
    exact ⟨h1, by simp [StepPast, h2, slotSkipped_of_slotRuns hr], hr, h⟩
  · rintro ⟨h1, hp, hr, h⟩
    exact ⟨h1, fun h2 => hp (.inl h2), hr, h⟩

/-! ## The walk -/

section
variable {s : State} {l before : List (Nat × Nat)} {busy : List Nat} {x : Nat × Nat}

theorem nextIssue_go_of_past (h : StepPast s x) : nextIssue.go s (x :: l) busy = nextIssue.go s l busy := by
  rw [nextIssue.go]
  exact if_pos (by simpa [StepPast] using h)

/-- A step that is not past issues where it is ready after the steps that made `busy`, and else holds its unit. -/
theorem nextIssue_go_of_not_past (hb : ∀ u, u ∈ busy ↔ Holds s before u) (h : ¬ StepPast s x) [Decidable (issueReady s before x)] :
    nextIssue.go s (x :: l) busy = if issueReady s before x then some x else nextIssue.go s l (stepUnit x.2 :: busy) := by
  rw [nextIssue.go, if_neg (by simpa [StepPast] using h)]
  by_cases hr : issueReady s before x
  · rw [if_pos hr, if_neg]
    obtain ⟨h1, -, hruns, hclk, hev, hfl, hfence, hhold⟩ := (issueReady_iff s before x).1 hr
    simp [h1, hb, hhold, hruns, hclk, hev, hfl, hfence]
  · rw [if_neg hr, if_pos]
    rw [issueReady_iff, ← hb] at hr
    by_contra hn
    refine hr ?_
    simp only [Bool.or_eq_true, decide_eq_true_eq, List.contains_iff_mem, Bool.not_eq_true', bne_iff_ne, not_or, not_lt,
      Bool.not_eq_true, Option.isSome_eq_false_iff, Option.isNone_iff_eq_none, not_not] at hn
    obtain ⟨⟨⟨⟨⟨⟨h1, hbusy⟩, hruns⟩, hfl⟩, hclk⟩, hev⟩, hfence⟩ := hn
    exact ⟨h1, h, by simpa using hruns, hclk, hev, hfl, hfence, hbusy⟩

end

/-- The first of `l` that is ready after the steps `before` and those of `l` that precede it. -/
def FirstReady (s : State) (before l : List (Nat × Nat)) (p : Nat × Nat) : Prop :=
  ∃ mid after, l = mid ++ p :: after ∧ issueReady s (before ++ mid) p ∧ ∀ b q r, mid = b ++ q :: r → ¬ issueReady s (before ++ b) q

section
variable {s : State} {l before : List (Nat × Nat)} {x p : Nat × Nat}

theorem firstReady_cons_of_ready (h : issueReady s before x) : FirstReady s before (x :: l) p ↔ x = p := by
  constructor
  · rintro ⟨mid, after, he, -, hnone⟩
    cases mid with
    | nil => exact (List.cons.inj he).1
    | cons y mid =>
      obtain ⟨rfl, -⟩ := List.cons.inj he
      exact absurd h (by simpa using hnone [] x mid rfl)
  · rintro rfl
    exact ⟨[], l, rfl, by simpa using h, by simp⟩

theorem firstReady_cons_of_not_ready (h : ¬ issueReady s before x) :
    FirstReady s before (x :: l) p ↔ FirstReady s (before ++ [x]) l p := by
  constructor
  · rintro ⟨mid, after, he, hp, hnone⟩
    cases mid with
    | nil =>
      obtain ⟨rfl, -⟩ := List.cons.inj he
      exact absurd (by simpa using hp) h
    | cons y mid =>
      obtain ⟨rfl, rfl⟩ := List.cons.inj he
      refine ⟨mid, after, rfl, by simpa using hp, fun b q r hm => ?_⟩
      simpa using hnone (x :: b) q r (by rw [hm]; rfl)
  · rintro ⟨mid, after, rfl, hp, hnone⟩
    refine ⟨x :: mid, after, rfl, by simpa using hp, fun b q r hm => ?_⟩
    cases b with
    | nil =>
      obtain ⟨rfl, -⟩ := List.cons.inj hm
      simpa using h
    | cons y b =>
      obtain ⟨rfl, rfl⟩ := List.cons.inj hm
      simpa using hnone b q r rfl

end

/-- The walk finds the first step that is ready, `busy` being the units that the steps before the list hold. -/
theorem nextIssue_go_eq_some_iff {s : State} (l before : List (Nat × Nat)) (busy : List Nat)
    (hb : ∀ u, u ∈ busy ↔ Holds s before u) (p : Nat × Nat) :
    nextIssue.go s l busy = some p ↔ FirstReady s before l p := by
  classical
  induction l generalizing before busy with
  | nil => simp [nextIssue.go, FirstReady]
  | cons x l ih =>
    by_cases hpast : StepPast s x
    · have hnot : ¬ issueReady s before x := fun h => ((issueReady_iff s before x).1 h).2.1 hpast
      rw [nextIssue_go_of_past hpast, firstReady_cons_of_not_ready hnot]
      exact ih _ _ fun u => by rw [hb, holds_append_singleton]; simp [hpast]
    · rw [nextIssue_go_of_not_past hb hpast]
      by_cases hr : issueReady s before x
      · rw [if_pos hr, firstReady_cons_of_ready hr, Option.some_inj]
      · rw [if_neg hr, firstReady_cons_of_not_ready hr]
        exact ih _ _ fun u => by rw [List.mem_cons, hb, holds_append_singleton]; simp [hpast, or_comm, eq_comm]

theorem nextIssue_eq_some_iff (s : State) (p : Nat × Nat) : nextIssue s = some p ↔ FirstReady s [] (mergedSteps s) p :=
  nextIssue_go_eq_some_iff _ [] [] (by simp [Holds]) p

/-- Settles O12: the merged order is an insertion sort, and the walk over it finds the first ready step. -/
theorem issueTakesTheFirstReadyStep : Obligations.IssueTakesTheFirstReadyStep := by
  intro s
  refine ⟨mergedSteps_perm s, fun hslots => ?_, fun p => nextIssue_eq_some_iff s p⟩
  refine (mergedSteps_rises s).imp_of_mem fun {p q} hp hq h => ?_
  exact startClk_slot_of_mergeKey_le (hslots p ((mergedSteps_perm s).mem_iff.1 hp)) (hslots q ((mergedSteps_perm s).mem_iff.1 hq)) h

end Sys2Proof.Machine

/-! # The tick states, issue, barriers and health windows (chapter 02)

Each command's meaning is one `answer` of a guarded operation, so a clause follows from the guard and from what the operation does; the
operations have their rules first. -/

namespace Sys2Proof.Machine

/-! ## The frame number received (R27, R28) -/

section
variable {s : State} {frame : Nat}

theorem numberReceived_adopts (hf : frame < 2 ^ 32) (ht : od s OD.TICK_STATE = 1) (ha : s.frm.adopted = true) :
    numberReceived s frame = odSet (odSet s OD.FRAME_NUMBER frame) OD.TICK_STATE 2 := by
  rw [numberReceived, if_pos ht, if_pos ha, Nat.mod_eq_of_lt hf]

theorem numberReceived_agrees (hf : frame < 2 ^ 32) (ht : od s OD.TICK_STATE = 2 ∨ od s OD.TICK_STATE = 3) (h : frame = frameNo s) :
    numberReceived s frame = s := by
  have h1 : od s OD.TICK_STATE ≠ 1 := by omega
  rw [numberReceived, if_neg h1, if_pos ht, Nat.mod_eq_of_lt hf, if_pos h.symm]

theorem numberReceived_differs (hf : frame < 2 ^ 32) (ht : od s OD.TICK_STATE = 2 ∨ od s OD.TICK_STATE = 3) (h : frame ≠ frameNo s) :
    numberReceived s frame = alert (odInc s OD.FRAME_MISMATCHES) 0 := by
  have h1 : od s OD.TICK_STATE ≠ 1 := by omega
  rw [numberReceived, if_neg h1, if_pos ht, Nat.mod_eq_of_lt hf, if_neg h.symm]

theorem frameSync_completes {period : Nat} (hp : period < 2 ^ 20) (hc : frameClk s ≤ 8000) :
    completes (.frameSync frame period) s (numberReceived s frame) :=
  congrArg (answer s) (if_pos ⟨hc, hp⟩)

end

/-- TICK_LOST at the limit: unlocked, with the alert's cause. -/
theorem tickLost_completes {s : State} (ht : od s OD.TICK_STATE = 3) (hm : od s OD.TICK_HOLDOVER_MAX ≤ s.frm.missed) :
    completes .tickLost s (alert (odSet s OD.TICK_STATE 0) 0) :=
  congrArg (answer s) (if_pos ⟨ht, hm⟩)

/-- What a frame number that differs leaves: the number kept, the mismatch counted, the cause raised. -/
theorem mismatchAlert_spec (s : State) :
    let t := alert (odInc s OD.FRAME_MISMATCHES) 0
    frameNo t = frameNo s ∧ bitOf (od t OD.ALERT_CAUSES) 0 = true
      ∧ od t OD.FRAME_MISMATCHES = (od s OD.FRAME_MISMATCHES + 1) % 2 ^ 32 ∧ { t with od := s.od, out := s.out, host := s.host } = s := by
  refine ⟨?_, alert_bit _ _, ?_, ?_⟩
  · rw [frameNo, od, alert_od_ne _ _ _ _ (by decide) (by decide)]
    exact odGet_odAdd_entry _ _ _ _ _ _ (by decide) (by decide) (by decide)
  · rw [od, alert_od_ne _ _ _ _ (by decide) (by decide), odGet_odAdd_same]
    rfl
  · rw [alert_eq]
    rfl

/-- Settles O10: each clause is the guard of its command and the rule above of what it then does. -/
theorem tickStates : Obligations.TickStates := by
  refine ⟨fun s hc ht => ?_, fun s ht hm => ?_, fun s frame period hf hp hc ht ha => ?_, fun s frame period hf hp hc ht he => ?_,
    fun s frame period hf hp hc ht he => ?_, fun s frame period hc => ?_, fun s link frame hf hc hsrc hlink ht ha => ?_⟩
  · exact congrArg (answer s) (if_pos (by simp [inConfig, hc, ht]))
  · refine ⟨_, tickLost_completes ht hm, ?_, alert_bit _ _, ?_⟩
    · rw [od, alert_od_ne _ _ _ _ (by decide) (by decide)]
      exact odGet_odPut_same _ _ _ _
    · rw [alert_eq]
      rfl
  · exact numberReceived_adopts hf ht ha ▸ frameSync_completes hp hc
  · have h := frameSync_completes (frame := frame) hp hc
    rwa [numberReceived_agrees hf ht he] at h
  · exact ⟨_, numberReceived_differs hf ht he ▸ frameSync_completes hp hc, mismatchAlert_spec s⟩
  · exact congrArg (answer s) (if_neg (by omega))
  · exact numberReceived_adopts hf ht ha ▸ congrArg (answer s) (if_pos ⟨hsrc, hlink, hc⟩)

end Sys2Proof.Machine

namespace Sys2Proof.Machine

/-! ## Issue (R32) -/

@[simp] theorem flightOn_issueStep_same (s : State) (slot st : Nat) :
    flightOn (issueStep s slot st) (stepUnit st) = some ⟨st, slot, frameNo s, s.clk, false⟩ := kfind_kput_same _ _ _

theorem flightOn_issueStep_ne (s : State) (slot st : Nat) {u : Nat} (h : u ≠ stepUnit st) :
    flightOn (issueStep s slot st) u = flightOn s u := kfind_kput_ne _ _ _ _ h

@[simp] theorem slotState_issueStep_same (s : State) (slot st : Nat) : kget (issueStep s slot st).frm.slotState slot 0 = 1 :=
  kget_kput_same _ _ _ _

theorem slotState_issueStep_ne (s : State) (slot st : Nat) {k : Nat} (h : k ≠ slot) :
    kget (issueStep s slot st).frm.slotState k 0 = kget s.frm.slotState k 0 := kget_kput_ne _ _ _ _ _ h

/-- R32, R39: frames run, no drain is under way, and fewer than four steps have issued in this clk. -/
def MayIssue (s : State) : Prop := framesRun s = true ∧ s.frm.draining = false ∧ (s.frm.issueClk = s.clk → s.frm.issueCount < 4)

section
variable {s : State} {slot st : Nat}

theorem issueGuard_iff :
    (framesRun s && !s.frm.draining && !(s.frm.issueClk == s.clk && decide (4 ≤ s.frm.issueCount))) = true ↔ MayIssue s := by
  simp [MayIssue, and_assoc, imp_iff_not_or]

theorem execStepIssue_of_next (h : MayIssue s) (hn : nextIssue s = some (slot, st)) :
    exec .stepIssue s = if namesFenced s st then .fault (.undefinedCase 2)
      else answer s (if getF st StepRec.UNIT_CLASS = 12 ∧ getF st StepRec.OPCODE ≠ 1 ∧ getF st StepRec.OPCODE ≠ 2
        then seqBadOp (issueStep s slot st) else issueStep s slot st) := by
  show execStepIssue s = _
  rw [execStepIssue, if_pos (issueGuard_iff.2 h), hn]

theorem stepIssue_completes_unchanged (h : ¬ MayIssue s ∨ nextIssue s = none) : completes .stepIssue s s := by
  show execStepIssue s = answer s s
  unfold execStepIssue
  by_cases hm : MayIssue s
  · rw [if_pos (issueGuard_iff.2 hm), h.resolve_left (not_not.2 hm)]
  · rw [if_neg (mt issueGuard_iff.1 hm)]

end

/-- Settles O13: STEP_ISSUE is `issueStep` of the step that issues next, but for a SEQ step of another opcode and for U02. -/
theorem stepIssueIssues : Obligations.StepIssueIssues := by
  refine ⟨fun s slot st hr hd hc hn hf hop => ?_, fun s slot st hr hd hc hn hf h12 h1 h2 => ?_, fun s slot st hr hd hc hn hf => ?_,
    fun s h => stepIssue_completes_unchanged ?_⟩
  · refine ⟨issueStep s slot st, ?_, flightOn_issueStep_same s slot st, fun u hu => flightOn_issueStep_ne s slot st hu,
      slotState_issueStep_same s slot st, fun k hk => slotState_issueStep_ne s slot st hk, rfl, rfl, rfl⟩
    refine (execStepIssue_of_next ⟨hr, hd, hc⟩ hn).trans ?_
    rw [hf, if_neg Bool.false_ne_true, if_neg (by tauto)]
    rfl
  · refine (execStepIssue_of_next ⟨hr, hd, hc⟩ hn).trans ?_
    rw [hf, if_neg Bool.false_ne_true, if_pos ⟨h12, h1, h2⟩]
    rfl
  · rw [execStepIssue_of_next ⟨hr, hd, hc⟩ hn, if_pos hf]
  · rcases h with h | h | ⟨hclk, h⟩ | h
    · exact .inl fun hm => by simp [hm.1] at h
    · exact .inl fun hm => by simp [hm.2.1] at h
    · exact .inl fun hm => absurd (hm.2.2 hclk) (Nat.not_lt.2 h)
    · exact .inr h

/-! ## Barriers (R43) -/

section
variable {s : State} {slot frame : Nat}

/-- The first arrival of a member noted, with its clk. -/
theorem noteArrival_first (hnone : kfind s.frm.arrivals slot = none) (hbit : bitOf (od s OD.BARRIER_GROUP) slot = true) :
    noteArrival s slot = { s with frm := { s.frm with arrivals := kput s.frm.arrivals slot s.clk, barrierLast := slot } } :=
  if_pos ⟨by simp [hnone], hbit⟩

theorem mem_barrierMissing {k : Nat} :
    k ∈ barrierMissing s ↔ k < 32 ∧ bitOf (od s OD.BARRIER_GROUP) k = true ∧ kfind s.frm.arrivals k = none := by
  simp only [barrierMissing, slotsOf, List.mem_filter, List.mem_range, Option.isNone_iff_eq_none, and_assoc]

/-- With the one missing member's arrival none is missing. -/
theorem barrierMissing_noteArrival_last (hm : barrierMissing s = [slot]) : barrierMissing (noteArrival s slot) = [] := by
  obtain ⟨-, hbit, hnone⟩ := mem_barrierMissing.1 (hm ▸ List.mem_singleton_self slot)
  rw [noteArrival_first hnone hbit, List.eq_nil_iff_forall_not_mem]
  intro k hk
  obtain ⟨hlt, hkbit, hkput⟩ := mem_barrierMissing.1 hk
  obtain rfl | hne := eq_or_ne k slot
  · simp [kfind_kput_same] at hkput
  · have hmiss : k ∈ barrierMissing s := mem_barrierMissing.2 ⟨hlt, hkbit, (kfind_kput_ne _ _ _ _ hne).symm.trans hkput⟩
    rw [hm, List.mem_singleton] at hmiss
    exact hne hmiss

theorem barrierArrive_completes (hf : frame = frameNo s) : completes (.barrierArrive slot frame) s (barrierTry (noteArrival s slot)) :=
  congrArg (answer s) (if_pos hf)

theorem ne_of_frameLater {a b : Nat} (h : frameLater a b = true) : a ≠ b := by
  rintro rfl
  simp [frameLater, frameDiff] at h
  omega

end

/-! ## Health windows (R432) -/

/-- A window that begins has its counts 0 and no arrival counted; other entries are as they were. -/
theorem windowOpen_lastArrival (s : State) {k : Nat} (hk : k < 2 ^ 24) : odGet (windowOpen s) OD.LAST_ARRIVAL k = 0 :=
  odGet_odClear_same s OD.LAST_ARRIVAL k hk

theorem windowOpen_entry (s : State) {e i : Nat} (he : e ≠ OD.LAST_ARRIVAL) (hi : i < 2 ^ 24) : odGet (windowOpen s) e i = odGet s e i :=
  odGet_odClear_entry s OD.LAST_ARRIVAL e i he hi

/-- R432, R433: what the close does once the window is reported: its flags and the slots `sus` shown, the next window begun. -/
def windowNext (u : State) (flags sus : Nat) : State :=
  let v := windowOpen (odSet (odSet u OD.SELF_FLAGS flags) OD.PEER_SUSPECT sus)
  { v with ft := { v.ft with window := v.ft.window + 1 } }

/-- The close reports the window, then begins the next; the report leaves all but the dictionary and the rings. -/
theorem healthClose_eq (s : State) :
    ∃ u, u = { s with od := u.od, rings := u.rings } ∧ healthClose s = windowNext u (windowFlags u) (suspectSlots s) :=
  ⟨_, telemetry_ringPush_eq s _ _ _ _, rfl⟩

theorem windowNext_window (u : State) (flags sus : Nat) : (windowNext u flags sus).ft.window = u.ft.window + 1 := rfl

theorem windowNext_frame (u : State) (flags sus : Nat) (o r : KMap Nat) (f : FaultSt) :
    { windowNext u flags sus with od := o, rings := r, ft := f } = { u with od := o, rings := r, ft := f } := rfl

theorem windowNext_lastArrival (u : State) (flags sus : Nat) {k : Nat} (hk : k < 2 ^ 24) :
    odGet (windowNext u flags sus) OD.LAST_ARRIVAL k = 0 := windowOpen_lastArrival _ hk

theorem windowNext_suspect (u : State) (flags sus : Nat) : od (windowNext u flags sus) OD.PEER_SUSPECT = sus :=
  (windowOpen_entry (odSet (odSet u OD.SELF_FLAGS flags) OD.PEER_SUSPECT sus) (by decide) (by decide)).trans (odGet_odPut_same _ _ _ _)

/-- R432: what the close of a window leaves: every count 0, the window numbered, the suspects shown. -/
theorem healthClose_spec (s : State) :
    (healthClose s).ft.winBarriers = 0 ∧ (healthClose s).ft.winTimeouts = 0 ∧ (healthClose s).ft.winMissing = []
      ∧ (healthClose s).ft.window = s.ft.window + 1 ∧ (∀ k, k < 32 → odGet (healthClose s) OD.LAST_ARRIVAL k = 0)
      ∧ od (healthClose s) OD.PEER_SUSPECT = suspectSlots s
      ∧ { healthClose s with od := s.od, rings := s.rings, ft := s.ft } = s := by
  obtain ⟨u, hu, he⟩ := healthClose_eq s
  have hft : u.ft = s.ft := by rw [hu]
  have hrest : { u with od := s.od, rings := s.rings, ft := s.ft } = s := by rw [hu]
  rw [he]
  exact ⟨rfl, rfl, rfl, (windowNext_window u _ _).trans (by rw [hft]), fun k hk => windowNext_lastArrival u _ _ (hk.trans (by decide)),
    windowNext_suspect u _ _, (windowNext_frame u _ _ _ _ _).trans hrest⟩

/-- Settles O16: BARRIER by its definition, an arrival by `noteArrival` and what is then missing, the window by its close. -/
theorem barriersCountArrivals : Obligations.BarriersCountArrivals := by
  refine ⟨fun s f hf hsent ht => ?_, fun s slot frame hfr hnone hbit hsent => ?_, fun s slot frame hfr hm hlt hsent hsome => ?_,
    fun s slot frame hl => ?_, fun s hw => ?_⟩
  · show execBarrier s = _
    rw [execBarrier, hf]
    exact if_neg (by simp [hsent, ht])
  · have h := barrierArrive_completes (s := s) (slot := slot) hfr
    rw [barrierTry, if_neg (by simp [noteArrival_first hnone hbit, hsent]), noteArrival_first hnone hbit] at h
    exact h
  · obtain ⟨-, hbit, hnone⟩ := mem_barrierMissing.1 (hm ▸ List.mem_singleton_self slot)
    have h := barrierArrive_completes (s := s) (slot := slot) hfr
    have hend := barrierMissing_noteArrival_last hm
    rw [noteArrival_first hnone hbit] at h hend
    rw [barrierTry, if_pos ⟨hsome, hsent, hend⟩] at h
    exact h
  · exact congrArg (answer s) ((if_neg (ne_of_frameLater hl)).trans (if_pos hl))
  · obtain ⟨h1, h2, h3, h4, h5, h6, h7⟩ := healthClose_spec s
    exact ⟨healthClose s, congrArg (answer s) (if_pos hw), h1, h2, h3, h4, h5, h6, h7⟩

end Sys2Proof.Machine

/-! # The VC0 exchange (chapter 02, R41, R42) -/

namespace Sys2Proof.Machine

/-- Messages sent leave the network's own state. -/
theorem vc0Messages_net (s : State) (mkind : Nat) (l : List (Nat × Nat)) : (vc0Messages s mkind l).net = s.net := by
  unfold vc0Messages
  generalize (l.map Prod.fst).eraseDups = devs
  induction devs generalizing s with
  | nil => rfl
  | cons d devs ih => rw [List.foldl_cons, ih, sendMgmt_net]

/-- R41: each record's slots are noted as asked for. -/
theorem vc0Ask_wanted (s : State) (l : List Nat) :
    (vc0Ask s l).net.wanted
      = s.net.wanted ++ l.map (fun w =>
          (⟨getF w (fld 31 26), getF w (fld 63 32), getF w (fld 25 13), 16 * getF w (fld 12 0), 0, false⟩ : Vc0Rec)) := by
  unfold vc0Ask
  simp only [vc0Messages_net, List.map_map]
  rfl

/-- R41: a grant is at most what the message asks and what the pool has, in units of 16. -/
theorem vc0Give_le (s : State) (frame link peer slots : Nat) :
    (vc0Give s frame link peer slots).2 ≤ slots ∧ (vc0Give s frame link peer slots).2 ≤ vc0Pool s
      ∧ (vc0Give s frame link peer slots).2 % 16 = 0 := by
  unfold vc0Give
  split
  · simp
  · extract_lets free n
    show n ≤ slots ∧ n ≤ vc0Pool s ∧ n % 16 = 0
    have hn : n = if linkActive s link then min (min slots _) free / 16 * 16 else 0 := rfl
    have hfree : free ≤ vc0Pool s := Nat.sub_le _ _
    clear_value n free
    split at hn <;> omega

section
variable {s t : State} {port : Nat} {f : Flight}

theorem vc0Request_completes {r : Option (List Nat)} (hf : passFlight s port 0x0F01 = some f) (hr : vc0Records s f = (t, r)) :
    completes (.vc0Request port) s (match r with
      | none => passEnd t port 5 .unread
      | some l => passEnd (vc0Ask t l) port 0 .done) := by
  show execVc0Request port s = _
  simp only [execVc0Request, hf, hr]
  cases r <;> rfl

theorem vc0Grant_completes {r : Option (List Nat)} (hf : passFlight s port 0x0F02 = some f) (hr : vc0Records s f = (t, r)) :
    completes (.vc0Grant port) s (match r with
      | none => passEnd t port 5 .unread
      | some l => passEnd (vc0Answer t l) port 0 .done) := by
  show execVc0Grant port s = _
  simp only [execVc0Grant, hf, hr]
  cases r <;> rfl

end

/-- A grant received for a request that waits. -/
theorem vc0GrantReceive_completes {s : State} {dev frame w l : Nat} {r : Vc0Rec} (hframe : frameLater frame (frameNo s + 1) = false)
    (hlink : localLink s dev (getF w (fld 31 26)) = some l)
    (hr : s.net.wanted.find? (fun r => r.link == l && r.peer == dev && r.frame == getF w (fld 63 32) && !r.answered) = some r) :
    completes (.vc0GrantReceive dev frame [w]) s { s with net := { s.net with
      wanted := s.net.wanted.map (fun x => if x = r then { r with answered := true } else x),
      mine := s.net.mine ++ [⟨l, r.frame, dev, min r.slots (16 * getF w (fld 12 0)), 0, true⟩] } } := by
  refine congrArg (answer s) ((if_neg (by simp [hframe])).trans ?_)
  simp only [List.foldl_cons, List.foldl_nil, hlink, hr]

/-- At the grant deadline nothing is left unanswered. -/
theorem vc0GrantDeadline_completes {s : State}
    (h : getF s.frm.curHdr TableHdr.PERIOD_CLK * od s OD.VC0_GRANT_PM ≤ 1000 * frameClk s) :
    completes .vc0GrantDeadline s { s with net := { s.net with
      wanted := s.net.wanted.map (fun r => { r with answered := true }), asked := s.net.asked.filter (fun r => r.answered) } } :=
  congrArg (answer s) (if_pos h)

/-- Settles O17: the steps by what their records read as, the messages by their frame, the deadline by what it leaves. -/
theorem vc0SlotsAreAskedAndGranted : Obligations.Vc0SlotsAreAskedAndGranted := by
  refine ⟨fun s t port f l hf hr => vc0Request_completes hf hr, fun s t port f hf hr => vc0Request_completes hf hr, vc0Ask_wanted,
    fun s t port f l hf hr => vc0Grant_completes hf hr, fun s t port f hf hr => vc0Grant_completes hf hr, vc0Give_le,
    fun s dev frame recs h => ?_, fun s dev frame recs h => ?_, fun s dev frame w l r => vc0GrantReceive_completes,
    fun s h => ⟨_, vc0GrantDeadline_completes h, ?_, ?_, rfl⟩⟩
  · exact congrArg (answer s) (if_pos h)
  · exact congrArg (answer s) (if_neg (by simp [h]))
  · simp
  · simp

end Sys2Proof.Machine

/-! # The seal, the drain and the switch (chapter 02, R30, R34, R39, R46, R382, R427) -/

namespace Sys2Proof.Machine

/-! ## The table sealed (R34) -/

/-- What is fenced rests on four maps, each read below 2^24. -/
theorem nameFenced_congr {s t : State} {x : Nat} (hx : x < 2 ^ 24)
    (h : ∀ e ∈ [OD.CORE_MAP, OD.ENGINE_MAP, OD.REGION_MAP, OD.LINK_STATE], ∀ i < 2 ^ 24, odGet t e i = odGet s e i) :
    nameFenced t x = nameFenced s x := by
  simp only [List.mem_cons, List.not_mem_nil, or_false, forall_eq_or_imp, forall_eq] at h
  obtain ⟨hcore, hengine, hregion, hlink⟩ := h
  unfold nameFenced
  rw [hcore _ (by omega), hengine _ (by omega), hregion _ (by omega), hlink _ (by omega)]

theorem fencedNames_congr {s t : State}
    (h : ∀ e ∈ [OD.CORE_MAP, OD.ENGINE_MAP, OD.REGION_MAP, OD.LINK_STATE], ∀ i < 2 ^ 24, odGet t e i = odGet s e i) :
    fencedNames t = fencedNames s := by
  unfold fencedNames
  refine List.filter_congr fun x hx => nameFenced_congr ?_ h
  simp only [List.mem_append, List.mem_map, List.mem_range, unitKey, regionName, linkName] at hx
  omega

/-- SWITCH_STATE is no map of what is fenced. -/
theorem fencedNames_odSet_switchState (s : State) (v : Nat) : fencedNames (odSet s OD.SWITCH_STATE v) = fencedNames s := by
  refine fencedNames_congr fun e he i hi => odGet_odPut_entry s _ _ _ _ _ ?_ (by decide) hi
  rintro rfl
  revert he
  decide

/-- R30, R34: the header of a sealed table, the writes it fixes, and what is fenced at its seal. -/
theorem sealTable_spec (s : State) (hdr : Nat) (planned : List Nat) (cyc period : Nat) :
    getF (sealTable s hdr planned cyc period).frm.nextHdr TableHdr.SEALED = 1
      ∧ getF (sealTable s hdr planned cyc period).frm.nextHdr TableHdr.FRAME = (frameNo s + 1) % 2 ^ 32
      ∧ (sealTable s hdr planned cyc period).dct.rwf = []
      ∧ (sealTable s hdr planned cyc period).dct.rwfSealed = s.dct.rwfSealed ++ s.dct.rwf
      ∧ (sealTable s hdr planned cyc period).frm.fencedNext = fencedNames s := by
  unfold sealTable
  extract_lets apply steps planned count hdr s1 slot h s2
  have hs2 : s2 = if apply = true then odSet s1 OD.SWITCH_STATE 3 else s1 := rfl
  have hdct : s2.dct = s.dct := by
    rw [hs2]
    split <;> rfl
  have hfenced : fencedNames s2 = fencedNames s := by
    have hs1 : fencedNames s1 = fencedNames s := fencedNames_congr fun _ _ _ _ => rfl
    rw [hs2]
    split
    · exact (fencedNames_odSet_switchState s1 3).trans hs1
    · exact hs1
  refine ⟨getF_setFs_append_cons TableHdr.SEALED 1 [_, _, _] [_, _, _, _, _, _] 0 (by simp), ?_, rfl, ?_, hfenced⟩
  · exact Eq.trans (getF_setFs_append_cons TableHdr.FRAME _ [] [_, _, _, _, _, _, _, _, _] 0 (by simp)) (Nat.mod_mod _ _)
  · rw [← hdct]

/-! ## The end of a switch (R382) -/

theorem applyEffect_switchState (s : State) : od (applyEffect s) OD.SWITCH_STATE = 0 := by
  unfold applyEffect
  extract_lets s1 s2 s3
  show od s3 OD.SWITCH_STATE = 0
  exact odGet_odPut_same s2 OD.SWITCH_STATE 0 0

/-- SWITCH_STUCK raised changes the dictionary, the server and what the host is sent. -/
theorem switchLimit_completes {s : State} (hst : od s OD.SWITCH_STATE = 1 ∨ od s OD.SWITCH_STATE = 2) (hstuck : s.dct.switchStuck = false)
    (hlim : od s OD.SWITCH_LIMIT_FRAMES < frameDiff s.dct.switchFrom (frameNo s)) :
    completes .switchLimit s (alert (overlayCount { s with dct := { s.dct with switchStuck := true } } 3) 6) :=
  congrArg (answer s) (if_pos ⟨hst, hstuck, hlim⟩)

theorem tableSeal_completes {s : State} (hdr : Nat) (planned : List Nat) (acts : List PlanAct) (h : sealDue s = true) :
    completes (.tableSeal hdr planned acts) s (if getF hdr TableHdr.SEALED = 0 then tableLeft s hdr planned (od (future s) OD.CYCLIC_COUNT)
      else sealTable (buildPlan s acts (od (future s) OD.FRAME_PERIOD_CLK)) hdr planned
        (od (future s) OD.CYCLIC_COUNT) (od (future s) OD.FRAME_PERIOD_CLK)) :=
  congrArg (answer s) (if_pos h)

theorem drainEnd_completes {s : State} (hd : s.frm.draining = true) (hf : ∀ p ∈ s.frm.flights, p.2.carried = false) :
    completes .drainEnd s (drainDone s (lastFrame s)) :=
  congrArg (answer s) (if_pos ⟨hd, by simpa using hf⟩)

theorem drainWatchdog_completes {s : State} {u : Nat} {f : Flight} (hf : flightOn s u = some f) (hd : s.frm.draining = true)
    (hc : f.carried = true) (hlim : od s OD.DRAIN_LIMIT_CLK ≤ frameClk s) :
    completes (.drainWatchdog u) s (watchdogUnit (faultStep s u f) u) := by
  show execDrainWatchdog u s = _
  simp only [execDrainWatchdog, hf]
  rw [if_pos ⟨hd, hc, hlim⟩, answer]

theorem overlayApplyComplete_completes {s : State} (hd : applyDone s = true) (hu : overlayUndef (overlayRecords s s.dct.switchSlot) s = 0)
    (hr : (releaseHeld s.dct.held (applyEffect s)).2 = 0) :
    completes .overlayApplyComplete s (releaseHeld s.dct.held (applyEffect s)).1 :=
  (if_pos hd).trans ((if_neg (not_not.2 hu)).trans (if_neg (not_not.2 hr)))

/-- Settles O15: the seal by the header it writes, the others by their guards. -/
theorem sealAndDrain : Obligations.SealAndDrain := by
  refine ⟨fun s hdr planned acts h hs => ?_, fun s hdr planned acts h hs => ?_, sealTable_spec, fun s => drainEnd_completes,
    fun s u f => drainWatchdog_completes, fun s f hf => ?_, fun s => overlayApplyComplete_completes, fun s => ?_, fun s hst hstuck hlim => ?_⟩
  · have hc := tableSeal_completes hdr planned acts h
    rwa [if_neg hs] at hc
  · have hc := tableSeal_completes hdr planned acts h
    rwa [if_pos hs] at hc
  · exact congrArg (answer s) (if_pos (by simp [hf]))
  · exact ⟨rfl, applyEffect_switchState s, rfl⟩
  · refine ⟨_, switchLimit_completes hst hstuck hlim, ?_, alert_bit _ _, ?_⟩
    · rw [alert_eq]
      rfl
    · rw [alert_eq]
      rfl

end Sys2Proof.Machine

/-! # A step's end: where the record of a handed-over row is not of the table (chapter 02, R190)

`finishStep` finds the record of a row being handed over by reading CLASP_RECORDS at the number the record has. A state may list a record
of a number far past the table's 2,048, whose key is then another entry's: charging the step can change what is read there. -/

namespace Sys2Proof.Machine

/-- The number at which CLASP_RECORDS would have HOUSEKEEPING_ENERGY's key. -/
def housekeepingRecord : Nat := (OD.HOUSEKEEPING_ENERGY - OD.CLASP_RECORDS) * 2 ^ 24

/-- A step of row 0 in flight, row 0 HANDING, and one clasp record, listed under HOUSEKEEPING_ENERGY's key, which reads row 1 there. -/
def strayRecordBench : State :=
  { State.reset with
    od := [(odKey OD.SCOREBOARD_VIEW 0, mkRec [(Row.STATE, 3)]), (odKey OD.HOUSEKEEPING_ENERGY 0, mkRec [(ClaspRec.ROW, 1)])]
    frm := { FrameSt.reset with flights := [(0, ⟨mkRec [(StepRec.ROW_VALID, 1)], 0, 0, 0, false⟩)] }
    rows := { RowsSt.reset with clasp := [(housekeepingRecord, claspAux State.reset 0)] } }

/-- No record there is of the step's row. -/
theorem strayRecordBench_noRecord : ∀ p ∈ strayRecordBench.rows.clasp,
    crF strayRecordBench p.1 ClaspRec.ROW ≠ getF (mkRec [(StepRec.ROW_VALID, 1)]) StepRec.ROW
      ∨ crF strayRecordBench p.1 ClaspRec.SIDE ≠ 0 := by
  decide +kernel

/-- The charge wraps HOUSEKEEPING_ENERGY to its 64 bits, so that the record reads row 0, and the row's image is stored. -/
theorem strayRecordBench_stores : memByte (finishStep strayRecordBench 0 .done) 118 = 3 := by
  decide +kernel

theorem strayRecordBench_memByte : memByte strayRecordBench 118 = 0 := rfl

/-- Refutes O14: memory changes where no clasp record is of the step's row at its SOURCE side, in a state that lists a record by a number
past the table (`strayRecordBench`). -/
theorem not_finishedStepFreesItsUnit : ¬ Obligations.FinishedStepFreesItsUnit := by
  intro h
  obtain ⟨-, -, -, -, -, -, -, -, hmem, -⟩ := h strayRecordBench 0 _ .done rfl
  obtain ⟨hsame, -⟩ := hmem strayRecordBench_noRecord
  have hbyte : memByte (finishStep strayRecordBench 0 .done) 118 = memByte strayRecordBench 118 := by
    unfold memByte
    rw [hsame]
  rw [strayRecordBench_stores, strayRecordBench_memByte] at hbyte
  exact absurd hbyte (by decide)

end Sys2Proof.Machine

/-! # CYCLIC_STEPS written past its entry (chapter 18, R30, R393)

The dictionary's store has one key per element, 2^24 to an entry, and `cyclicPut` stores a section at CYCLIC_STEPS from element 0 on,
whatever its length. In a state whose CYCLIC_COUNT reaches as far as MEASURE_EXTENDS' key, a write behind that section stores its record
there: the measurement then counts on from the record and not from what the counter was. -/

namespace Sys2Proof.Machine

/-! ## A measurement that revokes no key (R393, R404) -/

theorem sha384_length_le (bs : List Byte) : (sha384 bs).length ≤ 48 := by
  unfold sha384
  extract_lets pad msg
  rw [List.length_flatMap]
  have hb : ∀ v, (beBytes 8 v).length = 8 := fun v => by simp [beBytes]
  simp only [hb, List.map_const', List.sum_replicate, List.length_take, smul_eq_mul]
  omega

/-- Every row is noted for SUSPEND and every key slot has its key: what a revocation, or a pull it abandons, would end. -/
def NothingRevoked (t : State) : Prop := (∀ r < 2 ^ 15, r ∈ t.rows.suspending) ∧ ∀ k < 256, (kfind t.net.keys k).isSome

theorem rowFree_not_suspending (s : State) (r : Nat) : r ∉ (rowFree s r).rows.suspending := by
  unfold rowFree
  extract_lets s1 s2 s3 s4 s5
  show r ∉ s5.rows.suspending.filter (· != r)
  simp

/-- A row given up by an abandoned pull is no longer noted for SUSPEND. -/
theorem not_nothingRevoked_claspAbandon (s : State) (c reason : Nat) : ¬ NothingRevoked (claspAbandon s c reason) := by
  have hrow : crF s c ClaspRec.ROW < 2 ^ 15 := getF_lt _ ClaspRec.ROW
  have hfree : crF s c ClaspRec.ROW ∉ (claspAbandon s c reason).rows.suspending := by
    unfold claspAbandon
    extract_lets r s1 s2
    exact rowFree_not_suspending _ r
  exact fun h => hfree (h.1 _ hrow)

theorem not_nothingRevoked_claspAbandons (s : State) (reason : Nat) (l : List Nat) (hl : l ≠ []) :
    ¬ NothingRevoked (l.foldl (fun t c => claspAbandon t c reason) s) := by
  rw [← List.dropLast_append_getLast hl, List.foldl_append]
  exact not_nothingRevoked_claspAbandon _ _ _

/-- A slot whose key is still there has not been revoked. -/
theorem slotRevoke_eq_self {s : State} {k : Nat} (hk : k < 256) (h : NothingRevoked (slotRevoke s k)) : slotRevoke s k = s := by
  unfold slotRevoke at h ⊢
  split
  · rfl
  · next hne =>
    rw [if_neg hne] at h
    extract_lets ten mine s1 s2 n s3 at h
    have hs3 : kfind s3.net.keys k = none := kfind_kdel_same _ _
    have hgone : ¬ NothingRevoked s3 := fun hn => by simpa [hs3] using hn.2 k hk
    clear_value s3
    split at h
    · by_cases hmine : mine = []
      · rw [hmine] at h
        exact absurd h hgone
      · exact absurd h (not_nothingRevoked_claspAbandons _ _ _ hmine)
    · exact absurd h hgone

/-- Slots counted and revoked, none of them in truth: MEASURE_EXTENDS is as it was. -/
theorem measureExtends_revokes {s : State} (l : List Nat) (hl : ∀ k ∈ l, k < 256)
    (h : NothingRevoked (l.foldl (fun t k => slotRevoke (keyCount t 3) k) s)) :
    od (l.foldl (fun t k => slotRevoke (keyCount t 3) k) s) OD.MEASURE_EXTENDS = od s OD.MEASURE_EXTENDS := by
  induction l using List.reverseRecOn with
  | nil => rfl
  | append_singleton l k ih =>
    rw [List.foldl_append, List.foldl_cons, List.foldl_nil] at h ⊢
    have he := slotRevoke_eq_self (hl k (by simp)) h
    rw [he] at h ⊢
    rw [od, odGet_odAdd_entry _ _ _ _ _ _ (by decide) (by decide) (by decide)]
    exact ih (fun x hx => hl x (by simp [hx])) h

/-- R393: the code measurement alone, before any slot is revoked. -/
def measured (s : State) (d : List Byte) : State :=
  odInc (odSetBytes s OD.CODE_MEASURE (sha384 (odBytes s OD.CODE_MEASURE 48 ++ d))) OD.MEASURE_EXTENDS

/-- The bound slots that a measurement revokes. -/
def boundSlots (s : State) : List Nat := (List.range 256).filter (fun k => keyF s k KeySlot.STATE == 1 && keyF s k KeySlot.BIND == 1)

theorem codeExtend_eq (s : State) (d : List Byte) :
    codeExtend s d = (boundSlots (measured s d)).foldl (fun t k => slotRevoke (keyCount t 3) k) (measured s d) := rfl

theorem measureBytes_length_le (s : State) (d : List Byte) :
    ((sha384 (odBytes s OD.CODE_MEASURE 48 ++ d)).map BitVec.toNat).length ≤ 2 ^ 24 := by
  rw [List.length_map]
  exact (sha384_length_le _).trans (by decide)

theorem measured_entry (s : State) (d : List Byte) {e i : Nat} (hc : e ≠ OD.CODE_MEASURE) (hm : e ≠ OD.MEASURE_EXTENDS) (hi : i < 2 ^ 24) :
    odGet (measured s d) e i = odGet s e i :=
  (odGet_odAdd_entry _ _ _ _ _ _ hm (by decide) hi).trans (odGet_odBlock_entry s (measureBytes_length_le s d) hc hi)

theorem measured_measureExtends (s : State) (d : List Byte) :
    od (measured s d) OD.MEASURE_EXTENDS = (od s OD.MEASURE_EXTENDS + 1) % 2 ^ odWidth OD.MEASURE_EXTENDS := by
  rw [measured, od, odGet_odAdd_same, odGet_odBlock_entry s (measureBytes_length_le s d) (by decide) (by decide)]

/-- A measurement after which nothing has been revoked counts one. -/
theorem codeExtend_measureExtends {s : State} {d : List Byte} (h : NothingRevoked (codeExtend s d)) :
    od (codeExtend s d) OD.MEASURE_EXTENDS = (od s OD.MEASURE_EXTENDS + 1) % 2 ^ odWidth OD.MEASURE_EXTENDS := by
  rw [codeExtend_eq] at h ⊢
  have hslots : ∀ k ∈ boundSlots (measured s d), k < 256 := fun k hk => List.mem_range.1 (List.mem_of_mem_filter hk)
  rw [measureExtends_revokes _ hslots h, measured_measureExtends]

/-! ## The write -/

/-- The element of CYCLIC_STEPS that has MEASURE_EXTENDS' key. -/
def measureElement : Nat := (OD.MEASURE_EXTENDS - OD.CYCLIC_STEPS) * 2 ^ 24

theorem odKey_measureElement : odKey OD.CYCLIC_STEPS measureElement = odKey OD.MEASURE_EXTENDS 0 := by decide

/-- CYCLIC_COUNT reaches to MEASURE_EXTENDS' key; nothing has been measured, no step is stored, and nothing has been revoked. -/
def longSectionBench : State :=
  { State.reset with
    od := [(odKey OD.CYCLIC_COUNT 0, measureElement)]
    net := { NetSt.reset with keys := (List.range 256).map (fun k => (k, [])) }
    rows := { RowsSt.reset with suspending := List.range (2 ^ 15) } }

/-- The dictionary's row of CYCLIC_STEPS. -/
def cyclicRow : OdRow := ⟨OD.CYCLIC_STEPS, 9, 3, 32, 1024, 0⟩

theorem odFind_cyclicSteps : odFind OD.CYCLIC_STEPS = some cyclicRow := by decide +kernel

/-- The state as the section written stands, before its measurement. -/
def writtenBench : State := minUpdate (cyclicPut longSectionBench measureElement [5])

/-- The write names that one element, and no reserved bit of it. -/
theorem writeElems_measureElement : writeElems cyclicRow (32 * measureElement) (leBytes 32 5) = [(measureElement, 5)] := by
  have hoff : 32 * measureElement / 32 = measureElement := Nat.mul_div_cancel_left _ (by decide)
  have hnum : leNat (((leBytes 32 5).drop (32 * 0)).take 32) = 5 := by decide
  simp only [writeElems, cyclicRow, leBytes_length, Nat.reduceDiv, List.range_one, List.map_cons, List.map_nil, hoff, hnum, Nat.add_zero]

theorem elemClean_cyclicSteps_five (i : Nat) : elemClean OD.CYCLIC_STEPS i 5 = 5 := by
  rw [elemClean, rsvdOf, if_pos rfl]
  decide

theorem takeEffect_longSectionBench : takeEffect longSectionBench cyclicRow (32 * measureElement) (leBytes 32 5)
    = codeExtend writtenBench (sha384 ((cyclicSection writtenBench).flatMap (leBytes 32))) := by
  have hoff : 32 * measureElement / 32 = measureElement := Nat.mul_div_cancel_left _ (by decide)
  unfold takeEffect
  rw [writeElems_measureElement, if_pos (show cyclicRow.ent = OD.CYCLIC_STEPS from rfl), hoff]
  simp only [List.map_cons, List.map_nil, show cyclicRow.ent = OD.CYCLIC_STEPS from rfl, elemClean_cyclicSteps_five]
  rfl

/-- No key but CYCLIC_COUNT's is listed, so that another entry's elements read their default. -/
theorem kfind_longSectionBench {j : Nat} (h : j ≠ odKey OD.CYCLIC_COUNT 0) : kfind longSectionBench.od j = none := by
  have hne : (odKey OD.CYCLIC_COUNT 0 == j) = false := by simpa using h.symm
  simp [longSectionBench, kfind, hne]

/-- The section in force: as many records as reach MEASURE_EXTENDS, all 0. -/
theorem cyclicSection_longSectionBench : cyclicSection longSectionBench = List.replicate measureElement 0 := by
  have hcount : od longSectionBench OD.CYCLIC_COUNT = measureElement := by simp [longSectionBench, odGet, kget, kfind]
  have hzero : ∀ i, odGet longSectionBench OD.CYCLIC_STEPS i = 0 := fun i => by
    rw [odGet, kget, kfind_longSectionBench (by simp only [odKey, OD.CYCLIC_STEPS, OD.CYCLIC_COUNT]; omega)]
    rfl
  rw [cyclicSection, hcount, List.eq_replicate_iff]
  simp [hzero]

/-- That section stored over itself. -/
def restoredBench : State := odPuts (odClear longSectionBench OD.CYCLIC_STEPS) OD.CYCLIC_STEPS 0 (List.replicate measureElement 0)

/-- The section written: that one, and the record behind it. -/
theorem writtenBench_eq : writtenBench = minUpdate (odSet (odPut restoredBench OD.CYCLIC_STEPS measureElement 5)
    OD.CYCLIC_COUNT (measureElement + 1)) := by
  have hsec : (cyclicSection longSectionBench).take measureElement ++ [5] = List.replicate measureElement 0 ++ [5] := by
    rw [cyclicSection_longSectionBench, List.take_replicate, Nat.min_self]
  unfold writtenBench cyclicPut
  extract_lets sec
  rw [show sec = List.replicate measureElement 0 ++ [5] from hsec, odPuts_concat, restoredBench]
  simp only [List.length_replicate, List.length_append, List.length_cons, List.length_nil, Nat.zero_add]

theorem writtenBench_entry {e i : Nat} (hm : e ≠ OD.MIN_ALLOWANCE_UJ) (hc : e ≠ OD.CYCLIC_COUNT) (hi : i < 2 ^ 24) :
    odGet writtenBench e i = odGet (odPut restoredBench OD.CYCLIC_STEPS measureElement 5) e i := by
  rw [writtenBench_eq, minUpdate, odGet_odPut_entry _ _ _ _ _ _ hm (by decide) hi, odGet_odPut_entry _ _ _ _ _ _ hc (by decide) hi]

theorem writtenBench_measureExtends : od writtenBench OD.MEASURE_EXTENDS = 5 :=
  (writtenBench_entry (by decide) (by decide) (by decide)).trans (odGet_odPut_key _ odKey_measureElement.symm (by decide))

/-- No key slot is listed, so that each reads its default, which is bound to no measurement. -/
theorem writtenBench_bind (k : Nat) (hk : k < 256) : keyF writtenBench k KeySlot.BIND = 0 := by
  have hkey : odKey OD.KEY_SLOTS k ≠ odKey OD.CYCLIC_STEPS measureElement := by
    rw [odKey_measureElement]
    exact odKey_entry _ _ _ _ (by decide) (by omega) (by decide)
  have hnone : kfind restoredBench.od (odKey OD.KEY_SLOTS k) = none := by
    refine odPuts_default_none _ _ (fun v hv j => ?_) (kfind_kerase_of_none _ _ (kfind_longSectionBench ?_))
    · rw [List.eq_of_mem_replicate hv]
      rfl
    · exact odKey_entry _ _ _ _ (by decide) (by omega) (by decide)
  have hdefault : odGet writtenBench OD.KEY_SLOTS k = odDefault OD.KEY_SLOTS k := by
    rw [writtenBench_entry (by decide) (by decide) (by omega), odGet_odPut_ne _ _ _ _ _ _ hkey, odGet, kget, hnone]
    rfl
  rw [keyF, recF, hdefault]
  by_cases h0 : k = 0
  · subst h0
    decide
  · rw [show odDefault OD.KEY_SLOTS k = 0 from if_neg h0, getF_zero]

theorem codeExtend_writtenBench (d : List Byte) : codeExtend writtenBench d = measured writtenBench d := by
  have hnone : boundSlots (measured writtenBench d) = [] := by
    refine List.filter_eq_nil_iff.2 fun k hk => ?_
    have hlt := List.mem_range.1 hk
    have hbind : keyF (measured writtenBench d) k KeySlot.BIND = 0 := by
      rw [keyF, recF, measured_entry _ _ (by decide) (by decide) (by omega)]
      exact writtenBench_bind k hlt
    simp [hbind]
  rw [codeExtend_eq, hnone, List.foldl_nil]

theorem nothingRevoked_longSectionBench : NothingRevoked longSectionBench := by
  have hrows : longSectionBench.rows.suspending = List.range (2 ^ 15) := by simp only [longSectionBench]
  have hkeys : longSectionBench.net.keys = (List.range 256).map (fun i => (0 + 1 * i, ([] : List Byte))) := by
    simp only [longSectionBench, Nat.zero_add, Nat.one_mul]
  unfold NothingRevoked
  rw [hrows, hkeys]
  refine ⟨fun r hr => List.mem_range.2 hr, fun k hk => ?_⟩
  have hrun := kfind_run 0 1 256 (fun _ => ([] : List Byte)) (by decide) k hk
  rw [Nat.zero_add, Nat.one_mul] at hrun
  rw [hrun]
  rfl

/-- Neither the write nor the measurement changes rows or keys. -/
theorem nothingRevoked_measured_written {s : State} (off : Nat) (recs : List Nat) (d : List Byte) (h : NothingRevoked s) :
    NothingRevoked (measured (minUpdate (cyclicPut s off recs)) d) := by
  have hput : ∀ t e i vs, (odPuts t e i vs).rows = t.rows ∧ (odPuts t e i vs).net = t.net := fun t e i vs => by
    rw [odPuts_eq]
    exact ⟨rfl, rfl⟩
  have hrows : (measured (minUpdate (cyclicPut s off recs)) d).rows = s.rows := (hput (odClear s OD.CYCLIC_STEPS) _ _ _).1
  have hnet : (measured (minUpdate (cyclicPut s off recs)) d).net = s.net := (hput (odClear s OD.CYCLIC_STEPS) _ _ _).2
  unfold NothingRevoked
  rw [hrows, hnet]
  exact h

/-- Refutes O52: a CYCLIC_STEPS write behind a section that reaches MEASURE_EXTENDS' key stores its record there, so the measurement does
not count one on from what the counter was (`longSectionBench`). -/
theorem not_commandEntries : ¬ Obligations.CommandEntries := by
  intro h
  obtain ⟨-, -, -, -, -, -, -, -, -, -, -, -, -, -, -, -, -, -, hcode, -⟩ := h longSectionBench (32 * measureElement) (leBytes 32 5)
  obtain ⟨x, d, hx, -, hsame⟩ := hcode cyclicRow OD.CYCLIC_STEPS (.inl rfl) odFind_cyclicSteps
  have hwritten := takeEffect_longSectionBench
  rw [codeExtend_writtenBench] at hwritten
  have hnone : NothingRevoked (codeExtend x d) := by
    rw [← hx, hwritten]
    exact nothingRevoked_measured_written _ _ _ nothingRevoked_longSectionBench
  have hcount := codeExtend_measureExtends hnone
  have hzero : od longSectionBench OD.MEASURE_EXTENDS = 0 := by
    rw [od, odGet, kget, kfind_longSectionBench (by decide)]
    decide
  rw [← hx, hwritten, measured_measureExtends, writtenBench_measureExtends, hsame, hzero] at hcount
  exact absurd hcount (by decide)

end Sys2Proof.Machine

/-! # The canonical NaN (chapter 03, R48, R49) -/

namespace Sys2Proof.Machine

/-- A magnitude above the largest finite code that is not the infinity's encodes NaN, under either sign. -/
theorem decodeF_eq_nan (f : FFmt) (sg : Nat) {mag : Nat} (hmag : mag < 2 ^ f.sign) (hmax : f.maxBits < mag) (hinf : f.infBits ≠ some mag) :
    decodeF f (sg * 2 ^ f.sign + mag) = .nan := by
  have hcode : (sg * 2 ^ f.sign + mag) % 2 ^ f.sign = mag := by rw [Nat.mul_add_mod_self_right, Nat.mod_eq_of_lt hmag]
  simp only [decodeF, hcode]
  rw [if_neg (by omega), if_neg hinf]

/-- In a format whose infinity has the exponent all ones, that exponent with a fraction that is not 0 encodes NaN. -/
theorem decodeF_eq_nan_of_fraction (f : FFmt) {e : Nat} (hinf : f.infBits = some (e * 2 ^ f.man)) (hmax : f.maxBits < e * 2 ^ f.man)
    (htop : e * 2 ^ f.man + 2 ^ f.man = 2 ^ f.sign) (sg : Nat) {m : Nat} (hm : m < 2 ^ f.man) (h0 : m ≠ 0) :
    decodeF f (sg * 2 ^ f.sign + e * 2 ^ f.man + m) = .nan := by
  rw [Nat.add_assoc]
  refine decodeF_eq_nan f sg (by omega) (by omega) ?_
  rw [hinf, ne_eq, Option.some.injEq]
  omega

/-- The NaNs of FP32 are the codes above the infinity. -/
theorem f32isNan_of_ofF32_eq_nan {w : Nat} (h : ofF32 w = .nan) : f32isNan w = true := by
  simp only [ofF32, decodeF] at h
  split at h
  · split at h <;> cases h
  · split at h
    · cases h
    · next hfin hinf =>
      simp only [fp32, Option.some.injEq] at hfin hinf
      simp only [f32isNan, decide_eq_true_eq]
      omega

theorem cvtF_nan (f : FFmt) (rnd : Option Nat) (sat : Bool) : cvtF f rnd sat .nan = (f.nanBits.getD 0, false) := rfl

/-! The formats of the codes 1 to 4 (R77). -/

theorem decodeFmt_bf16 (w : Nat) : decodeFmt 1 w = decodeF bf16 w := by simp [decodeFmt]

theorem decodeFmt_fp16 (w : Nat) : decodeFmt 2 w = decodeF fp16 w := by simp [decodeFmt]

theorem decodeFmt_e4m3 (w : Nat) : decodeFmt 3 w = decodeF e4m3 w := by simp [decodeFmt]

theorem decodeFmt_e5m2 (w : Nat) : decodeFmt 4 w = decodeF e5m2 w := by simp [decodeFmt]

/-- Settles O28: NaN is written as the format's one code, and read from every magnitude above the finite codes but infinity's. -/
theorem canonicalNans : Obligations.CanonicalNans := by
  refine ⟨rfl, fun rnd sat w h => ⟨?_, ?_, ?_, ?_, ?_⟩, fun sg m _ hm h0 => ?_, fun sg m _ hm h0 => ?_, fun sg m _ hm h0 => ?_,
    fun sg _ => ?_, fun sg m _ hm h0 => ?_⟩
  · simp [encodeFmt, f32isNan_of_ofF32_eq_nan h]
  · simp [encodeFmt, h, cvtF_nan, bf16]
  · simp [encodeFmt, h, cvtF_nan, fp16]
  · simp [encodeFmt, h, cvtF_nan, e4m3]
  · simp [encodeFmt, h, cvtF_nan, e5m2]
  · exact decodeF_eq_nan_of_fraction fp32 (e := 0xFF) (by decide) (by decide) (by decide) sg hm h0
  · rw [decodeFmt_bf16]
    exact decodeF_eq_nan_of_fraction bf16 (e := 0xFF) (by decide) (by decide) (by decide) sg hm h0
  · rw [decodeFmt_fp16]
    exact decodeF_eq_nan_of_fraction fp16 (e := 0x1F) (by decide) (by decide) (by decide) sg hm h0
  · rw [decodeFmt_e4m3]
    exact decodeF_eq_nan e4m3 sg (by decide) (by decide) (by decide)
  · rw [decodeFmt_e5m2]
    exact decodeF_eq_nan_of_fraction e5m2 (e := 0x1F) (by decide) (by decide) (by decide) sg hm h0

end Sys2Proof.Machine

/-! # The ops that compute on a core: where they run, and how they stop (chapter 04, R81, R82) -/

namespace Sys2Proof.Machine

@[simp] theorem coreOf_setCore_same (s : State) (c : Nat) (cs : CoreSt) : coreOf (setCore s c cs) c = cs := kget_kput_same _ _ _ _

theorem coreOf_setCore_ne (s : State) {c d : Nat} (cs : CoreSt) (h : d ≠ c) : coreOf (setCore s c cs) d = coreOf s d :=
  kget_kput_ne _ _ _ _ _ h

@[simp] theorem coreOf_opDone_same (s : State) (c : Nat) (cs : CoreSt) : coreOf (opDone s c cs) c = stepPast cs cs.pc :=
  coreOf_setCore_same _ _ _

theorem coreOf_opDone_ne (s : State) {c d : Nat} (cs : CoreSt) (h : d ≠ c) : coreOf (opDone s c cs) d = coreOf s d :=
  coreOf_setCore_ne s _ h

/-- An op completes as its body says where the core's program is at it. -/
theorem opRun_completes {i : Instr} {s : State} {c op w : Nat} {f : Flight} {body : Flight → CoreSt → Nat → State}
    (hi : exec i s = opRun s c op body) (hop : opAt s c op = some (f, w)) : completes i s (body f (coreOf s c) w) := by
  rw [completes, hi, opRun, hop, answer]

theorem opRun_stops {i : Instr} {s : State} {c op w st : Nat} {f : Flight} {body : Flight → CoreSt → Nat → State}
    (hi : exec i s = opRun s c op body) (hop : opAt s c op = some (f, w)) (hb : body f (coreOf s c) w = opStop s c (coreOf s c) st) :
    completes i s (opStop s c (coreOf s c) st) :=
  hb ▸ opRun_completes hi hop

/-! ## Vector, reduction and special-function ops (R63 to R65) -/

/-- What every vector, reduction and special-function op does: formats, then the shape judged, then the rows stored. -/
def shapedRun (s : State) (c : Nat) (useB : Bool) (cs : CoreSt) (w : Nat) (rows : List (List Nat)) : State :=
  if vecFmtOk w useB = false then opStop s c cs 1
  else if getF w OpWord.X = 0 ∨ getF w OpWord.Y = 0 then opStop s c cs 4
  else vecStore s c cs w rows

section
variable {s : State} {c w : Nat} {useB : Bool} {cs : CoreSt} {rows : List (List Nat)}

theorem shapedRun_badFormat (h : vecFmtOk w useB = false) : shapedRun s c useB cs w rows = opStop s c cs 1 := if_pos h

theorem shapedRun_emptyShape (h : vecFmtOk w useB = true) (he : getF w OpWord.X = 0 ∨ getF w OpWord.Y = 0) :
    shapedRun s c useB cs w rows = opStop s c cs 4 := by
  rw [shapedRun, if_neg (by simp [h]), if_pos he]

theorem shapedRun_stores (h : vecFmtOk w useB = true) (hx : getF w OpWord.X ≠ 0) (hy : getF w OpWord.Y ≠ 0) :
    shapedRun s c useB cs w rows = vecStore s c cs w rows := by
  rw [shapedRun, if_neg (by simp [h]), if_neg (not_or.2 ⟨hx, hy⟩)]

/-- The formats of three operands allowed are allowed where B is not read. -/
theorem vecFmtOk_of_two (h : vecFmtOk w true = true) (useB : Bool) : vecFmtOk w useB = true := by
  cases useB with
  | true => exact h
  | false =>
    simp only [vecFmtOk, Bool.and_eq_true] at h ⊢
    obtain ⟨⟨ha, -⟩, hd⟩ := h
    exact ⟨⟨ha, rfl⟩, hd⟩

end

/-- An op of a core that does what `shapedRun` says, with rows computed from the state, the core and the op word. -/
def ShapedOp (useB : Bool) (c op : Nat) (i : Instr) (rows : State → CoreSt → Nat → List (List Nat)) : Prop :=
  ∀ s, exec i s = opRun s c op (fun _ cs w => shapedRun s c useB cs w (rows s cs w))

section
variable {i : Instr} {s : State} {c op w : Nat} {f : Flight} {useB : Bool} {rows : State → CoreSt → Nat → List (List Nat)}

theorem ShapedOp.badFormat (hi : ShapedOp useB c op i rows) (hop : opAt s c op = some (f, w)) (h : vecFmtOk w useB = false) :
    completes i s (opStop s c (coreOf s c) 1) :=
  opRun_stops (hi s) hop (shapedRun_badFormat h)

theorem ShapedOp.emptyShape (hi : ShapedOp useB c op i rows) (hop : opAt s c op = some (f, w)) (h : vecFmtOk w useB = true)
    (he : getF w OpWord.X = 0 ∨ getF w OpWord.Y = 0) : completes i s (opStop s c (coreOf s c) 4) :=
  opRun_stops (hi s) hop (shapedRun_emptyShape h he)

theorem ShapedOp.stores (hi : ShapedOp useB c op i rows) (hop : opAt s c op = some (f, w)) (h : vecFmtOk w useB = true)
    (hx : getF w OpWord.X ≠ 0) (hy : getF w OpWord.Y ≠ 0) : completes i s (vecStore s c (coreOf s c) w (rows s (coreOf s c) w)) := by
  have hc := opRun_completes (hi s) hop
  rwa [shapedRun_stores h hx hy] at hc

end

/-! ### The rows each op computes (R63 to R65, R81) -/

/-- X rows of Y elements each. -/
def gridOf (w : Nat) (e : Nat → Nat → Nat) : List (List Nat) :=
  (List.range (getF w OpWord.X)).map (fun i => (List.range (getF w OpWord.Y)).map (fun j => e i j))

/-- The rows of an op of A and B, element by element. -/
def pairRows (c : Nat) (g : Nat → Nat → Nat) (s : State) (cs : CoreSt) (w : Nat) : List (List Nat) :=
  gridOf w (fun i j => g (vecA s c cs w (getF w OpWord.Y) i j) (vecB s c cs w (getF w OpWord.Y) i j))

/-- The one row a reduction of A's rows leaves. -/
def reducedRow (c : Nat) (g : List Nat → Nat) (s : State) (cs : CoreSt) (w : Nat) : List (List Nat) :=
  [(gridOf w (vecA s c cs w (getF w OpWord.Y))).map g]

/-- A reduction judges formats and shape as the vector ops do. -/
theorem redRun_eq (s : State) (c : Nat) (g : List Nat → Nat) (cs : CoreSt) (w : Nat) :
    redRun s c g cs w = shapedRun s c false cs w (reducedRow c g s cs w) := by
  rw [reducedRow, gridOf, List.map_map]
  rfl

theorem vadd_shaped (c : Nat) : ShapedOp true c 0x30 (.vadd c) (pairRows c f32add) := fun _ => rfl

theorem vsub_shaped (c : Nat) : ShapedOp true c 0x31 (.vsub c) (pairRows c f32sub) := fun _ => rfl

theorem vmul_shaped (c : Nat) : ShapedOp true c 0x32 (.vmul c) (pairRows c f32mul) := fun _ => rfl

theorem vmax_shaped (c : Nat) : ShapedOp true c 0x34 (.vmax c) (pairRows c f32max) := fun _ => rfl

theorem vmin_shaped (c : Nat) : ShapedOp true c 0x35 (.vmin c) (pairRows c f32min) := fun _ => rfl

theorem vfma_shaped (c : Nat) : ShapedOp true c 0x33 (.vfma c) (fun s cs w => gridOf w (fun i j =>
    f32fma (vecA s c cs w (getF w OpWord.Y) i j) (vecB s c cs w (getF w OpWord.Y) i j) (vecD s c cs w (getF w OpWord.Y) i j))) :=
  fun _ => rfl

theorem vaff_shaped (c : Nat) : ShapedOp false c 0x36 (.vaff c) (fun s cs w => gridOf w (fun i j =>
    f32fma (vecA s c cs w (getF w OpWord.Y) i j) (paramOf cs w 0 % 2 ^ 32) (paramOf cs w 0 / 2 ^ 32 % 2 ^ 32))) :=
  fun _ => rfl

theorem vrowsub_shaped (c : Nat) : ShapedOp true c 0x37 (.vrowsub c) (fun s cs w => gridOf w (fun i j =>
    if getF w OpWord.FLAG = 1 ∧ paramOf cs w 1 / 2 ^ 32 % 2 ^ 32 + i < paramOf cs w 1 % 2 ^ 32 + j then 0xFF800000
    else f32fma (vecA s c cs w (getF w OpWord.Y) i j) (paramOf cs w 0 % 2 ^ 32) (f32neg (vecB s c cs w (getF w OpWord.X) 0 i)))) :=
  fun _ => rfl

theorem vrowmul_shaped (c : Nat) : ShapedOp true c 0x38 (.vrowmul c) (fun s cs w => gridOf w (fun i j =>
    f32mul (vecA s c cs w (getF w OpWord.Y) i j) (vecB s c cs w (getF w OpWord.X) 0 i))) :=
  fun _ => rfl

theorem sfn_shaped (c : Nat) : ShapedOp false c 0x48 (.sfn c) (fun s cs w => gridOf w (fun i j =>
    sfn (getF w OpWord.SEL) (vecA s c cs w (getF w OpWord.Y) i j))) :=
  fun _ => rfl

/-- An op whose meaning is a reduction by `g`. -/
theorem shapedOp_of_redRun {c op : Nat} {i : Instr} {g : List Nat → Nat}
    (hi : ∀ s, exec i s = opRun s c op (fun _ cs w => redRun s c g cs w)) : ShapedOp false c op i (reducedRow c g) := by
  intro s
  simp only [hi, redRun_eq]

theorem rsum_shaped (c : Nat) : ShapedOp false c 0x40 (.rsum c) (reducedRow c treeSum) := shapedOp_of_redRun fun _ => rfl

theorem rmax_shaped (c : Nat) : ShapedOp false c 0x41 (.rmax c) (reducedRow c (fun l => treeFold f32max l.length l)) :=
  shapedOp_of_redRun fun _ => rfl

theorem rmin_shaped (c : Nat) : ShapedOp false c 0x42 (.rmin c) (reducedRow c (fun l => treeFold f32min l.length l)) :=
  shapedOp_of_redRun fun _ => rfl

theorem rssq_shaped (c : Nat) : ShapedOp false c 0x43 (.rssq c) (reducedRow c sumSquares) := shapedOp_of_redRun fun _ => rfl

/-- Settles O23: each op is a `ShapedOp`, and with formats and a shape allowed such an op stores its rows. -/
theorem vectorOpsComputeEveryElement : Obligations.VectorOpsComputeEveryElement := by
  intro s c f w cs x y p q A B grid hx hy
  refine ⟨fun hf => ⟨?_, ?_, ?_, ?_, ?_, ?_, ?_, ?_⟩, fun hf => ⟨?_, ?_, ?_, ?_, ?_, ?_⟩⟩ <;> intro hop
  · exact (vadd_shaped c).stores hop hf hx hy
  · exact (vsub_shaped c).stores hop hf hx hy
  · exact (vmul_shaped c).stores hop hf hx hy
  · exact (vfma_shaped c).stores hop hf hx hy
  · exact (vmax_shaped c).stores hop hf hx hy
  · exact (vmin_shaped c).stores hop hf hx hy
  · exact (vrowsub_shaped c).stores hop hf hx hy
  · exact (vrowmul_shaped c).stores hop hf hx hy
  · exact (vaff_shaped c).stores hop hf hx hy
  · exact (sfn_shaped c).stores hop hf hx hy
  · exact (rsum_shaped c).stores hop hf hx hy
  · exact (rmax_shaped c).stores hop hf hx hy
  · exact (rmin_shaped c).stores hop hf hx hy
  · exact (rssq_shaped c).stores hop hf hx hy

/-! ## Cells stored in a keyed store -/

/-- What cells stored leave: a word that no cell names is as it was. -/
theorem kget_foldl_kputD_of_ne {l : List (Nat × Nat × SFlags)} {x : Nat} (m : KMap Nat) (h : ∀ p ∈ l, p.1 ≠ x) :
    kget (l.foldl (fun t p => kputD t p.1 p.2.1 0) m) x 0 = kget m x 0 := by
  induction l generalizing m with
  | nil => rfl
  | cons q l ih =>
    rw [List.foldl_cons, ih _ fun p hp => h p (List.mem_cons_of_mem q hp), kget_kputD_ne _ _ _ _ _ _ (h q List.mem_cons_self).symm]

/-- A cell stored reads back where no other cell of its word holds another value. -/
theorem kget_foldl_kputD_of_mem {l : List (Nat × Nat × SFlags)} {p : Nat × Nat × SFlags} (m : KMap Nat) (hp : p ∈ l)
    (h : ∀ q ∈ l, q.1 = p.1 → q = p) : kget (l.foldl (fun t p => kputD t p.1 p.2.1 0) m) p.1 0 = p.2.1 := by
  induction l generalizing m with
  | nil => cases hp
  | cons q l ih =>
    rw [List.foldl_cons]
    by_cases hl : p ∈ l
    · exact ih _ hl fun r hr => h r (List.mem_cons_of_mem q hr)
    · obtain rfl : p = q := (List.mem_cons.1 hp).resolve_right hl
      rw [kget_foldl_kputD_of_ne _ fun r hr he => hl (h r (List.mem_cons_of_mem p hr) he ▸ hr), kget_kputD_same]

/-! ## Matrix ops (R57 to R61) -/

section
variable {s : State} {c w : Nat} {tr : Bool} {cs : CoreSt}

theorem mmaRun_badFormat (h : pairOk (getF w OpWord.FA) (getF w OpWord.FB) = false) : mmaRun s c tr cs w = opStop s c cs 1 := if_pos h

/-- The shapes and operands R58 does not allow, the formats being a pair. -/
def MmaShapeBad (cs : CoreSt) (w : Nat) : Prop :=
  getF w OpWord.X % 32 ≠ 0 ∨ getF w OpWord.X < 32 ∨ 16384 < getF w OpWord.X ∨ getF w OpWord.A_ACC = 1 ∨ getF w OpWord.B_ACC = 1
    ∨ (opndOf cs false (getF w OpWord.OPA)).unit % 4 ≠ 0 ∨ (opndOf cs false (getF w OpWord.OPB)).unit % 4 ≠ 0
    ∨ 128 < getF w OpWord.Y % 256 + 1 ∨ 128 < getF w OpWord.Y / 256 + 1

theorem mmaRun_badShape (h : pairOk (getF w OpWord.FA) (getF w OpWord.FB) = true) (hb : MmaShapeBad cs w) :
    mmaRun s c tr cs w = opStop s c cs 4 :=
  (if_neg (by simp [h])).trans (if_pos hb)

/-- The accumulator word that element (i, j) of a destination `d` of core `c` lies in (R72, R81). -/
def mmaWord (c : Nat) (d : Opnd) (i j : Nat) : Nat := c * 65536 + (d.unit * 4 + 128 * i + j) % 65536

theorem mmaWord_inj {d : Opnd} {i j i' j' : Nat} (hi : i < 128) (hj : j < 128) (hi' : i' < 128) (hj' : j' < 128)
    (h : mmaWord c d i j = mmaWord c d i' j') : i = i' ∧ j = j' := by
  unfold mmaWord at h
  omega

/-- The cells of an M × N result: each its word, its bits and its flags. -/
def mmaCells (m n : Nat) (word : Nat → Nat → Nat) (elem : Nat → Nat → Nat × SFlags) : List (Nat × Nat × SFlags) :=
  (List.range m).flatMap (fun i => (List.range n).map (fun j => (word i j, elem i j)))

theorem mem_mmaCells {m n : Nat} {word : Nat → Nat → Nat} {elem : Nat → Nat → Nat × SFlags} {p : Nat × Nat × SFlags} :
    p ∈ mmaCells m n word elem ↔ ∃ i < m, ∃ j < n, (word i j, elem i j) = p := by
  simp [mmaCells]

/-- The cells stored in the accumulator, and the op done with their flags. -/
def mmaStore (s : State) (c : Nat) (cs : CoreSt) (cells : List (Nat × Nat × SFlags)) : State :=
  opDone { s with acc := cells.foldl (fun t p => kputD t p.1 p.2.1 0) s.acc } c (orFlags cs (flagsOf (cells.map (fun p => p.2.2))))

/-- Operand B of the op word `w`: K × N, or N × K where it is transposed (R79). -/
def mmaOpndB (cs : CoreSt) (w : Nat) (tr : Bool) : MmaOpnd :=
  if tr then ⟨opndOf cs false (getF w OpWord.OPB), getF w OpWord.FB, getF w OpWord.Y / 256 + 1, getF w OpWord.X, true⟩
  else ⟨opndOf cs false (getF w OpWord.OPB), getF w OpWord.FB, getF w OpWord.X, getF w OpWord.Y / 256 + 1, false⟩

/-- Element (i, j) of the result of the op word `w`: its bits and its flags. -/
def mmaResult (s : State) (c : Nat) (tr : Bool) (cs : CoreSt) (w i j : Nat) : Nat × SFlags :=
  mmaElem s c ⟨opndOf cs false (getF w OpWord.OPA), getF w OpWord.FA, getF w OpWord.Y % 256 + 1, getF w OpWord.X, true⟩
    (mmaOpndB cs w tr) tr (getF w OpWord.X) (chunkLen (getF w OpWord.FA) (getF w OpWord.FB))
    (if getF w OpWord.FLAG = 1 then 0 else kget s.acc (mmaWord c (opndOf cs true (getF w OpWord.OPD)) i j) 0) i j

theorem mmaRun_stores (h : pairOk (getF w OpWord.FA) (getF w OpWord.FB) = true) (hb : ¬ MmaShapeBad cs w) :
    mmaRun s c tr cs w = mmaStore s c cs (mmaCells (getF w OpWord.Y % 256 + 1) (getF w OpWord.Y / 256 + 1)
      (mmaWord c (opndOf cs true (getF w OpWord.OPD))) (mmaResult s c tr cs w)) :=
  (if_neg (by simp [h])).trans (if_neg hb)

theorem mmaStore_acc (cells : List (Nat × Nat × SFlags)) :
    (mmaStore s c cs cells).acc = cells.foldl (fun t p => kputD t p.1 p.2.1 0) s.acc := rfl

theorem mmaStore_executed (cells : List (Nat × Nat × SFlags)) : (coreOf (mmaStore s c cs cells) c).executed = cs.executed + 1 := by
  rw [mmaStore, coreOf_opDone_same]
  rfl

/-- Cells stored change the accumulator and the core's registers. -/
theorem mmaStore_rest (cells : List (Nat × Nat × SFlags)) : { mmaStore s c cs cells with acc := s.acc, cores := s.cores } = s := rfl

end

/-- MMA and MMAT are `mmaRun`, at their opcodes. -/
theorem exec_matrixOp (c : Nat) (tr : Bool) (s : State) : exec (if tr then .mmat c else .mmaOp c) s
    = opRun s c (if tr then 0x21 else 0x20) (fun _ cs w => mmaRun s c tr cs w) := by
  cases tr <;> rfl

/-- Settles O24: the op stores its cells, each in a word of its own. -/
theorem matrixOpsWriteTheirElements : Obligations.MatrixOpsWriteTheirElements := by
  intro s c f w tr cs fa fb k n m oa ob a b word hop hpair hk32 hklo hkhi haacc hbacc hoa hob hm hn
  have hshape : ¬ MmaShapeBad cs w := by
    simp only [MmaShapeBad, not_or, not_lt, ne_eq, not_not]
    exact ⟨hk32, hklo, hkhi, by omega, by omega, hoa, hob, hm, hn⟩
  have hinj : ∀ {i j i' j'}, i < m → j < n → i' < m → j' < n → word i j = word i' j' → i = i' ∧ j = j' := by
    intro i j i' j' hi hj hi' hj' h
    exact mmaWord_inj (by omega) (by omega) (by omega) (by omega) h
  have hrun := opRun_completes (exec_matrixOp c tr s) hop
  rw [mmaRun_stores hpair hshape] at hrun
  refine ⟨_, hrun, fun i j hi hj => ?_, fun x hx => ?_, mmaStore_executed _, fun d hd => coreOf_opDone_ne _ _ hd, mmaStore_rest _⟩
  · rw [mmaStore_acc]
    refine kget_foldl_kputD_of_mem (p := (word i j, mmaResult s c tr cs w i j)) _ (mem_mmaCells.2 ⟨i, hi, j, hj, rfl⟩) fun q hq he => ?_
    obtain ⟨i', hi', j', hj', rfl⟩ := mem_mmaCells.1 hq
    obtain ⟨rfl, rfl⟩ := hinj hi' hj' hi hj he
    rfl
  · rw [mmaStore_acc]
    refine kget_foldl_kputD_of_ne _ fun p hp => ?_
    obtain ⟨i, hi, j, hj, rfl⟩ := mem_mmaCells.1 hp
    exact (hx i j hi hj).symm

/-! ## The routing ops (R88, R89, R91) -/

section
variable {s : State} {c w : Nat} {f : Flight}

theorem idxbuild_badOp (hop : opAt s c 0x50 = some (f, w)) (h : getF w OpWord.A_ACC = 1 ∨ getF w OpWord.B_ACC = 1 ∨ getF w OpWord.X = 0
      ∨ getF w OpWord.Y % 16 = 0 ∨ 8 < getF w OpWord.Y % 16 ∨ paramOf (coreOf s c) w 0 % 65536 = 0
      ∨ 256 < paramOf (coreOf s c) w 0 % 65536 ∨ paramOf (coreOf s c) w 0 / 65536 % 65536 % 2 = 1
      ∨ paramOf (coreOf s c) w 0 / 65536 % 65536 < 2 ∨ 65534 < paramOf (coreOf s c) w 0 / 65536 % 65536) :
    completes (.idxbuild c) s (opStop s c (coreOf s c) 4) :=
  opRun_stops (show exec _ s = execIdxbuild c s from rfl) hop (if_pos h)

theorem gather_badOp (hop : opAt s c 0x51 = some (f, w))
    (h : getF w OpWord.A_ACC = 1 ∨ getF w OpWord.B_ACC = 1 ∨ getF w OpWord.X = 0 ∨ 16 * getF w OpWord.Y = 0) :
    completes (.gather c) s (opStop s c (coreOf s c) 4) :=
  opRun_stops (show exec _ s = execGather c s from rfl) hop (if_pos h)

theorem gatherw_badOp (hop : opAt s c 0x52 = some (f, w))
    (h : getF w OpWord.A_ACC = 1 ∨ getF w OpWord.B_ACC = 1 ∨ getF w OpWord.X = 0 ∨ getF w OpWord.Y = 0) :
    completes (.gatherw c) s (opStop s c (coreOf s c) 4) :=
  opRun_stops (show exec _ s = execGatherw c s from rfl) hop (if_pos h)

/-- The formats TOPK does not take: A of FP32 or BF16, D of FP32, BF16 or FP16. -/
def TopkFmtBad (w : Nat) : Prop :=
  (getF w OpWord.A_ACC = 0 ∧ 1 < getF w OpWord.FA) ∨ (getF w OpWord.D_ACC ≠ 1 ∧ 2 < getF w OpWord.FD)

theorem topkFmtBad_iff : TopkFmtBad w ↔ (getF w OpWord.A_ACC = 0 ∧ 1 < getF w OpWord.FA)
    ∨ 2 < (if (getF w OpWord.D_ACC == 1) = true then 0 else getF w OpWord.FD) := by
  by_cases hd : getF w OpWord.D_ACC = 1 <;> simp [TopkFmtBad, hd]

theorem topk_badFormat (hop : opAt s c 0x58 = some (f, w)) (h : TopkFmtBad w) : completes (.topk c) s (opStop s c (coreOf s c) 1) :=
  opRun_stops (show exec _ s = execTopk c s from rfl) hop (if_pos (topkFmtBad_iff.1 h))

theorem topk_badOp (hop : opAt s c 0x58 = some (f, w)) (h : ¬ TopkFmtBad w) (hb : getF w OpWord.X = 0 ∨ getF w OpWord.Y = 0
      ∨ paramOf (coreOf s c) w 0 % 2048 = 0 ∨ 1024 < paramOf (coreOf s c) w 0 % 2048
      ∨ getF w OpWord.Y < paramOf (coreOf s c) w 0 % 2048) :
    completes (.topk c) s (opStop s c (coreOf s c) 4) :=
  opRun_stops (show exec _ s = execTopk c s from rfl) hop ((if_neg (topkFmtBad_iff.not.1 h)).trans (if_pos hb))

end

/-! ## A bad format or shape (R58, R81, R82) -/

/-- The vector ops that read B, by opcode. -/
def twoOperandOps (c : Nat) : List (Nat × Instr) :=
  [(0x30, .vadd c), (0x31, .vsub c), (0x32, .vmul c), (0x33, .vfma c), (0x34, .vmax c), (0x35, .vmin c), (0x37, .vrowsub c),
    (0x38, .vrowmul c)]

/-- The vector, reduction and special-function ops that do not, by opcode. -/
def oneOperandOps (c : Nat) : List (Nat × Instr) :=
  [(0x36, .vaff c), (0x40, .rsum c), (0x41, .rmax c), (0x42, .rmin c), (0x43, .rssq c), (0x48, .sfn c)]

/-- The ops of both kinds, in the order of the op table. -/
def shapedOps (c : Nat) : List (Nat × Instr) :=
  [(0x30, .vadd c), (0x31, .vsub c), (0x32, .vmul c), (0x33, .vfma c), (0x34, .vmax c), (0x35, .vmin c), (0x36, .vaff c),
    (0x37, .vrowsub c), (0x38, .vrowmul c), (0x40, .rsum c), (0x41, .rmax c), (0x42, .rmin c), (0x43, .rssq c), (0x48, .sfn c)]

theorem shapedOps_two_or_one (c : Nat) : ∀ p ∈ shapedOps c, p ∈ twoOperandOps c ∨ p ∈ oneOperandOps c := by
  simp [shapedOps, twoOperandOps, oneOperandOps]

theorem twoOperandOps_shaped (c : Nat) : ∀ p ∈ twoOperandOps c, ∃ rows, ShapedOp true c p.1 p.2 rows := by
  simp only [twoOperandOps, List.forall_mem_cons, List.not_mem_nil, false_imp_iff, implies_true, and_true]
  exact ⟨⟨_, vadd_shaped c⟩, ⟨_, vsub_shaped c⟩, ⟨_, vmul_shaped c⟩, ⟨_, vfma_shaped c⟩, ⟨_, vmax_shaped c⟩, ⟨_, vmin_shaped c⟩,
    ⟨_, vrowsub_shaped c⟩, ⟨_, vrowmul_shaped c⟩⟩

theorem oneOperandOps_shaped (c : Nat) : ∀ p ∈ oneOperandOps c, ∃ rows, ShapedOp false c p.1 p.2 rows := by
  simp only [oneOperandOps, List.forall_mem_cons, List.not_mem_nil, false_imp_iff, implies_true, and_true]
  exact ⟨⟨_, vaff_shaped c⟩, ⟨_, rsum_shaped c⟩, ⟨_, rmax_shaped c⟩, ⟨_, rmin_shaped c⟩, ⟨_, rssq_shaped c⟩, ⟨_, sfn_shaped c⟩⟩

theorem shapedOps_shaped {c : Nat} {p : Nat × Instr} (h : p ∈ shapedOps c) : ∃ useB rows, ShapedOp useB c p.1 p.2 rows :=
  (shapedOps_two_or_one c p h).elim (fun h => ⟨true, twoOperandOps_shaped c p h⟩) (fun h => ⟨false, oneOperandOps_shaped c p h⟩)

theorem matrixOp_of_mem {c op : Nat} {i : Instr} (h : (op, i) ∈ [(0x20, Instr.mmaOp c), (0x21, .mmat c)]) :
    ∃ tr, ∀ s, exec i s = opRun s c op (fun _ cs w => mmaRun s c tr cs w) := by
  simp only [List.mem_cons, List.not_mem_nil, or_false, Prod.mk.injEq] at h
  obtain ⟨rfl, rfl⟩ | ⟨rfl, rfl⟩ := h
  exacts [⟨false, exec_matrixOp c false⟩, ⟨true, exec_matrixOp c true⟩]

/-- Settles O26: each op judges its formats, then its shape and its operands, before it computes. -/
theorem badOpsEndTheStep : Obligations.BadOpsEndTheStep := by
  intro s c f w cs bad
  refine ⟨fun op i hi hop h => ?_, fun op i hi hop h => ?_, fun op i hi hop h he => ?_, fun op i hi hop h => ?_, fun op i hi hop h hb => ?_,
    fun op i hi hop h => ?_, fun hop h => idxbuild_badOp hop (.inr (.inr (.inr h))), topk_badFormat, fun hop ha hd hb => ?_⟩
  · obtain ⟨rows, hr⟩ := twoOperandOps_shaped c _ hi
    exact hr.badFormat hop h
  · obtain ⟨rows, hr⟩ := oneOperandOps_shaped c _ hi
    exact hr.badFormat hop h
  · obtain ⟨useB, rows, hr⟩ := shapedOps_shaped hi
    exact hr.emptyShape hop (vecFmtOk_of_two h useB) he
  · obtain ⟨tr, hr⟩ := matrixOp_of_mem hi
    exact opRun_stops (hr s) hop (mmaRun_badFormat h)
  · obtain ⟨tr, hr⟩ := matrixOp_of_mem hi
    exact opRun_stops (hr s) hop (mmaRun_badShape h hb)
  · simp only [List.mem_cons, List.not_mem_nil, or_false, Prod.mk.injEq] at hi
    obtain ⟨rfl, rfl⟩ | ⟨rfl, rfl⟩ | ⟨rfl, rfl⟩ := hi
    · exact idxbuild_badOp hop (h.imp_right (Or.imp_right .inl))
    · exact gather_badOp hop (h.imp_right (Or.imp_right .inl))
    · exact gatherw_badOp hop (h.imp_right (Or.imp_right .inl))
  · refine topk_badOp hop ?_ hb
    simp only [TopkFmtBad]
    omega

end Sys2Proof.Machine

/-! # Sequencing, control and events (chapter 04, R80, R81, R83, R86) -/

namespace Sys2Proof.Machine

/-! ## Sequencing (R80) -/

/-- Settles O20: the equations of `nextPc`. -/
theorem loopsRepeatTheirBody : Obligations.LoopsRepeatTheirBody := by
  refine ⟨fun a => rfl, fun l t a h => ?_, fun l t h => ?_, fun l t h => ?_⟩
  · exact if_neg h
  · exact (if_pos rfl).trans (if_pos h)
  · exact (if_pos rfl).trans (if_neg (by omega))

/-! ## Control ops (R80, R81, R83) -/

/-- An op completes with what its body comes to. -/
theorem opRun_completes_of_eq {i : Instr} {s t : State} {c op w : Nat} {f : Flight} {body : Flight → CoreSt → Nat → State}
    (hi : exec i s = opRun s c op body) (hop : opAt s c op = some (f, w)) (hb : body f (coreOf s c) w = t) : completes i s t :=
  hb ▸ opRun_completes hi hop

theorem ofInt_cast (n : Nat) (i : Int) : (ofInt n i : Int) = i % 2 ^ n :=
  Int.toNat_of_nonneg (Int.emod_nonneg i (by positivity))

/-- A number added in two's complement is added modulo the width. -/
theorem add_ofInt_mod (n a : Nat) (i : Int) : (((a + ofInt n i) % 2 ^ n : Nat) : Int) = (a + i) % 2 ^ n := by
  push_cast
  rw [ofInt_cast, Int.add_emod_emod]

/-- Settles O19: each op is its body at the op, END and LOOP by the branch taken. -/
theorem coreControlOps : Obligations.CoreControlOps := by
  refine ⟨fun s c f w hop => ?_, fun s c f w hop he => ?_, fun s c f w hop he => ?_, fun s c f w n hop hn h0 hy => ?_,
    fun s c f w n hop hn h => ?_, fun s c f w hop => ?_, fun s c f w hop => ?_, fun s c f w hop => ⟨_, ?_, add_ofInt_mod 64 _ _⟩,
    fun s c f w hop => ?_⟩
  · exact opRun_completes (show exec _ s = execNop c s from rfl) hop
  · exact opRun_completes_of_eq (show exec _ s = execEndOp c s from rfl) hop (if_pos (List.isEmpty_iff.2 he))
  · exact opRun_completes_of_eq (show exec _ s = execEndOp c s from rfl) hop (if_neg (mt List.isEmpty_iff.1 he))
  · subst hn
    exact opRun_completes_of_eq (show exec _ s = execLoop c s from rfl) hop (if_neg (not_or.2 ⟨h0, hy⟩))
  · subst hn
    exact opRun_completes_of_eq (show exec _ s = execLoop c s from rfl) hop (if_pos h)
  · exact opRun_completes (show exec _ s = execSetad c s from rfl) hop
  · exact opRun_completes (show exec _ s = execAddad c s from rfl) hop
  · exact opRun_completes (show exec _ s = execAddp c s from rfl) hop
  · exact opRun_completes (show exec _ s = execMovpa c s from rfl) hop

/-! ## Events (R86) -/

/-- A value stored twice at a key is the second. -/
theorem kput_kput_same {α : Type} (m : KMap α) (k : Nat) (u v : α) : kput (kput m k u) k v = kput m k v := by
  have hlow : (kput m k u).filter (fun p => p.1 < k) = m.filter (fun p => p.1 < k) := by
    simpa [kput, List.filter_append, List.filter_filter] using fun (a : Nat) (_ : α) _ (h : a < k) => h.le
  have hhigh : (kput m k u).filter (fun p => k < p.1) = m.filter (fun p => k < p.1) := by
    simpa [kput, List.filter_append, List.filter_filter] using fun (a : Nat) (_ : α) _ (h : k < a) => h.le
  rw [kput, hlow, hhigh, kput]

/-- A core set twice is set to the second. -/
theorem setCore_setCore_same (s : State) (c : Nat) (cs ct : CoreSt) : setCore (setCore s c cs) c ct = setCore s c ct := by
  rw [setCore, setCore, kput_kput_same]
  rfl

/-- R86: the clk at which the wait at `w` ends by itself. -/
def waitLimit (s : State) (cs : CoreSt) (w : Nat) : Nat := cs.waitFrom.getD s.clk + 64 * getF w OpWord.Y

/-- R86, R39: the event of the wait has come by now and by the limit, in a step that is not carried. -/
def WaitedFor (s : State) (f : Flight) (cs : CoreSt) (w : Nat) : Prop :=
  ∃ e, kfind s.frm.events (getF w OpWord.X % 4096) = some e ∧ f.carried = false ∧ e ≤ s.clk ∧ e ≤ waitLimit s cs w

section
variable {s : State} {f : Flight} {cs : CoreSt} {c w : Nat}

theorem waitEnds_of_waitedFor (h : WaitedFor s f cs w) : waitEnds s f cs w = some false := by
  obtain ⟨e, he, hf, hclk, hlim⟩ := h
  rw [waitLimit] at hlim
  simp [waitEnds, he, hf, hclk, hlim]

theorem waitEnds_of_not_waitedFor (h : ¬ WaitedFor s f cs w) :
    waitEnds s f cs w = if waitLimit s cs w ≤ s.clk then some true else none := by
  cases he : kfind s.frm.events (getF w OpWord.X % 4096) with
  | none =>
    simp only [waitEnds, he]
    rfl
  | some e =>
    have hposted : (!f.carried && decide (e ≤ s.clk) && decide (e ≤ waitLimit s cs w)) = false := by
      by_contra hp
      simp only [Bool.not_eq_false, Bool.and_eq_true, Bool.not_eq_true', decide_eq_true_eq] at hp
      obtain ⟨⟨hf, hclk⟩, hlim⟩ := hp
      exact h ⟨e, he, hf, hclk, hlim⟩
    rw [waitLimit] at hposted
    simp only [waitEnds, he, hposted]
    rfl

theorem not_waitedFor (h : ∀ e, kfind s.frm.events (getF w OpWord.X % 4096) = some e →
    f.carried = true ∨ s.clk < e ∨ waitLimit s cs w < e) : ¬ WaitedFor s f cs w := by
  rintro ⟨e, he, hf, hclk, hlim⟩
  rcases h e he with hc | hlt | hlt
  · simp [hf] at hc
  · omega
  · omega

/-- EVT_WAIT where the wait ends. -/
theorem evtWait_ends {x : Bool} (hop : opAt s c 0x09 = some (f, w)) (h : waitEnds s f (coreOf s c) w = some x) :
    completes (.evtWait c) s
      (setCore s c (stepPast { coreOf s c with waitExpired := (coreOf s c).waitExpired || x } (coreOf s c).pc)) := by
  refine opRun_completes_of_eq (show exec _ s = execEvtWait c s from rfl) hop ?_
  show waitDone (setCore s c _) c _ (waitEnds s f (coreOf s c) w) = _
  rw [h]
  exact setCore_setCore_same s c _ _

/-- EVT_WAIT where it does not: the wait has begun. -/
theorem evtWait_waits (hop : opAt s c 0x09 = some (f, w)) (h : waitEnds s f (coreOf s c) w = none) :
    completes (.evtWait c) s (setCore s c { coreOf s c with waitFrom := some ((coreOf s c).waitFrom.getD s.clk) }) := by
  refine opRun_completes_of_eq (show exec _ s = execEvtWait c s from rfl) hop ?_
  show waitDone (setCore s c _) c _ (waitEnds s f (coreOf s c) w) = _
  rw [h]
  rfl

theorem evtWaitExpire_ends {x : Bool} (hop : opAt s c 0x09 = some (f, w)) (h : waitEnds s f (coreOf s c) w = some x)
    (hfrom : (coreOf s c).waitFrom ≠ none) :
    completes (.evtWaitExpire c) s
      (setCore s c (stepPast { coreOf s c with waitExpired := (coreOf s c).waitExpired || x } (coreOf s c).pc)) := by
  refine opRun_completes_of_eq (show exec _ s = execEvtWaitExpire c s from rfl) hop ((if_neg (by simpa using hfrom)).trans ?_)
  rw [h]
  rfl

theorem evtWaitExpire_waits (hop : opAt s c 0x09 = some (f, w)) (h : waitEnds s f (coreOf s c) w = none) :
    completes (.evtWaitExpire c) s s := by
  refine opRun_completes_of_eq (show exec _ s = execEvtWaitExpire c s from rfl) hop ?_
  rw [h]
  exact ite_self s

end

/-- Settles O21: EVT_POST and FENCE by what is outstanding, the waits by whether what they wait for came and by their limit. -/
theorem coreEventOps : Obligations.CoreEventOps := by
  refine ⟨fun s c f w hop he hf => ?_, fun s c f w hop he hf => ?_, fun s c f w e hop hf he hclk hlim => ?_,
    fun s c f w hop hlim he => ?_, fun s c f w hop hlim he => ?_, fun s c f w hop he => ?_, fun s => rfl, fun s c f w hop he => ?_⟩
  · refine opRun_completes_of_eq (show exec _ s = execEvtPost c s from rfl) hop ((if_pos (List.isEmpty_iff.2 he)).trans ?_)
    rw [if_neg (by simp [hf])]
    rfl
  · refine opRun_completes_of_eq (show exec _ s = execEvtPost c s from rfl) hop ((if_pos (List.isEmpty_iff.2 he)).trans ?_)
    rw [if_pos hf]
    rfl
  · have hends := waitEnds_of_waitedFor ⟨e, he, hf, hclk, hlim⟩
    have hwait := evtWait_ends hop hends
    have hexpire := evtWaitExpire_ends hop hends
    rw [Bool.or_false] at hwait hexpire
    exact ⟨hwait, hexpire⟩
  · have hnot : ¬ WaitedFor s f (coreOf s c) w := not_waitedFor fun e hsome => (he e hsome).imp_right .inl
    have hends := (waitEnds_of_not_waitedFor hnot).trans (if_neg (Nat.not_le.2 hlim))
    exact ⟨evtWait_waits hop hends, evtWaitExpire_waits hop hends⟩
  · have hends := (waitEnds_of_not_waitedFor (not_waitedFor he)).trans (if_pos hlim)
    have hwait := evtWait_ends hop hends
    have hexpire := evtWaitExpire_ends hop hends
    rw [Bool.or_true] at hwait hexpire
    exact ⟨hwait, hexpire⟩
  · exact opRun_completes_of_eq (show exec _ s = execEvtPost c s from rfl) hop (if_neg (mt List.isEmpty_iff.1 he))
  · exact opRun_completes_of_eq (show exec _ s = execFenceOp c s from rfl) hop (if_pos (List.isEmpty_iff.2 he))

end Sys2Proof.Machine

/-! # Ops that stay on their core (chapter 04, R70 to R72, R80, R205)

`OnCore` says what an op may change. The shared operations of chapter 04 (an operand's byte, its bits, rows of results, a core set) each
have it, and it composes; an op's meaning is one `opRun` of such operations. -/

namespace Sys2Proof.Machine

/-- `t` is `s` but for core `c`'s registers, window memory and accumulator; memory keeps its canonical form. -/
structure OnCore (c : Nat) (s t : State) : Prop where
  rest : { t with cores := s.cores, mem := s.mem, acc := s.acc } = s
  cores : ∀ d, d ≠ c → coreOf t d = coreOf s d
  window : ∀ a, a < windowBase c ∨ windowBase c + 2 ^ 21 ≤ a → memByte t a = memByte s a
  accum : ∀ x, x / 65536 ≠ c → kget t.acc x 0 = kget s.acc x 0
  form : MemKeeps s t

section
variable {c : Nat} {s t u : State}

theorem OnCore.refl (c : Nat) (s : State) : OnCore c s s := ⟨rfl, fun _ _ => rfl, fun _ _ => rfl, fun _ _ => rfl, .refl s⟩

theorem OnCore.trans (h : OnCore c s t) (k : OnCore c t u) : OnCore c s u where
  rest :=
    calc { u with cores := s.cores, mem := s.mem, acc := s.acc }
        = { { u with cores := t.cores, mem := t.mem, acc := t.acc } with cores := s.cores, mem := s.mem, acc := s.acc } := rfl
      _ = { t with cores := s.cores, mem := s.mem, acc := s.acc } := by rw [k.rest]
      _ = s := h.rest
  cores d hd := (k.cores d hd).trans (h.cores d hd)
  window a ha := (k.window a ha).trans (h.window a ha)
  accum x hx := (k.accum x hx).trans (h.accum x hx)
  form := h.form.trans k.form

theorem OnCore.ite {p : Prop} [Decidable p] (h : OnCore c s t) (k : OnCore c s u) : OnCore c s (if p then t else u) := by
  split
  · exact h
  · exact k

/-- What each step of a fold keeps to the core, the fold does, whatever it carries beside the state. -/
theorem OnCore.foldl_fst {α β : Type} (f : State × β → α → State × β) (h : ∀ x a, OnCore c x.1 (f x a).1) (l : List α) (x : State × β) :
    OnCore c x.1 (l.foldl f x).1 := by
  induction l generalizing x with
  | nil => exact .refl c x.1
  | cons a l ih => exact (h x a).trans (ih _)

theorem OnCore.foldl {α : Type} (f : State → α → State) (h : ∀ s a, OnCore c s (f s a)) (l : List α) (s : State) :
    OnCore c s (l.foldl f s) := by
  induction l generalizing s with
  | nil => exact .refl c s
  | cons a l ih => exact (h s a).trans (ih _)

end

/-! ## The shared operations -/

theorem onCore_setCore (s : State) (c : Nat) (cs : CoreSt) : OnCore c s (setCore s c cs) where
  rest := rfl
  cores _ hd := coreOf_setCore_ne s cs hd
  window _ _ := rfl
  accum _ _ := rfl
  form := .refl s

theorem onCore_opDone (s : State) (c : Nat) (cs : CoreSt) : OnCore c s (opDone s c cs) := onCore_setCore s c _

theorem onCore_opStop (s : State) (c : Nat) (cs : CoreSt) (status : Nat) : OnCore c s (opStop s c cs status) := onCore_setCore s c _

/-- An op done after what keeps to its core. -/
theorem OnCore.opDone {c : Nat} {s t : State} (h : OnCore c s t) (cs : CoreSt) : OnCore c s (opDone t c cs) :=
  h.trans (onCore_opDone t c cs)

/-- An accumulator store that agrees outside the core's 65,536 words. -/
theorem onCore_acc {c : Nat} {s : State} {m : KMap Nat} (h : ∀ x, x / 65536 ≠ c → kget m x 0 = kget s.acc x 0) :
    OnCore c s { s with acc := m } where
  rest := rfl
  cores _ _ := rfl
  window _ _ := rfl
  accum := h
  form := .refl s

theorem onCore_memSet_window (s : State) (c k : Nat) (b : Byte) : OnCore c s (memSet s (windowBase c + k % 2 ^ 21) b) where
  rest := rfl
  cores _ _ := rfl
  window a ha := memByte_memSet_ne s _ a b (by have := Nat.mod_lt k (Nat.two_pow_pos 21); omega)
  accum _ _ := rfl
  form := wf_memSet s _ b

/-- R70, R72, R78: an operand's address wraps within the core's own window memory or accumulator. -/
theorem onCore_opSetByte (s : State) (c : Nat) (o : Opnd) (k : Nat) (v : Byte) : OnCore c s (opSetByte s c o k v) := by
  unfold opSetByte
  extract_lets w
  refine .ite (onCore_acc fun x hx => kget_kputD_ne _ _ _ _ _ _ ?_) (onCore_memSet_window s c _ v)
  omega

theorem onCore_opWrite (s : State) (c : Nat) (o : Opnd) (k : Nat) (bs : List Byte) : OnCore c s (opWrite s c o k bs) :=
  .foldl _ (fun t _ => onCore_opSetByte t c o _ _) _ s

theorem onCore_opSetBits (s : State) (c : Nat) (o : Opnd) (b n v : Nat) : OnCore c s (opSetBits s c o b n v) := onCore_opWrite s c o _ _

theorem onCore_storeRows (s : State) (c : Nat) (cs : CoreSt) (w : Nat) (o : Opnd) (f : Nat) (rows : List (List Nat)) :
    OnCore c s (storeRows s c cs w o f rows).1 :=
  OnCore.foldl_fst _ (fun x _ => onCore_opSetBits x.1 c o _ _ _) _ (s, SFlags.none)

theorem onCore_storeUnits (s : State) (c : Nat) (o : Opnd) (rows : List (List Byte)) : OnCore c s (storeUnits s c o rows) :=
  .foldl _ (fun t _ => onCore_opWrite t c o _ _) _ s

theorem onCore_vecStore (s : State) (c : Nat) (cs : CoreSt) (w : Nat) (rows : List (List Nat)) : OnCore c s (vecStore s c cs w rows) :=
  (onCore_storeRows s c cs w _ _ rows).opDone _

theorem onCore_shapedRun (s : State) (c : Nat) (useB : Bool) (cs : CoreSt) (w : Nat) (rows : List (List Nat)) :
    OnCore c s (shapedRun s c useB cs w rows) :=
  .ite (onCore_opStop s c cs 1) (.ite (onCore_opStop s c cs 4) (onCore_vecStore s c cs w rows))

theorem onCore_mmaStore (s : State) (c : Nat) (cs : CoreSt) (o : Opnd) (m n : Nat) (elem : Nat → Nat → Nat × SFlags) :
    OnCore c s (mmaStore s c cs (mmaCells m n (mmaWord c o) elem)) := by
  refine (onCore_acc fun x hx => kget_foldl_kputD_of_ne _ fun p hp => ?_).opDone _
  obtain ⟨i, -, j, -, rfl⟩ := mem_mmaCells.1 hp
  simp only [mmaWord]
  omega

theorem onCore_mmaRun (s : State) (c : Nat) (tr : Bool) (cs : CoreSt) (w : Nat) : OnCore c s (mmaRun s c tr cs w) := by
  by_cases hp : pairOk (getF w OpWord.FA) (getF w OpWord.FB) = true
  · by_cases hb : MmaShapeBad cs w
    · exact mmaRun_badShape hp hb ▸ onCore_opStop s c cs 4
    · exact mmaRun_stores hp hb ▸ onCore_mmaStore s c cs _ _ _ _
  · exact mmaRun_badFormat (Bool.eq_false_iff.2 hp) ▸ onCore_opStop s c cs 1

theorem onCore_quantMx (s : State) (c : Nat) (cs : CoreSt) (w : Nat) (o : Opnd) (f x y : Nat) :
    OnCore c s (quantMx s c cs w o f x y).1 :=
  (OnCore.foldl _ (fun t _ => onCore_opSetBits t c o _ _ _) _ s).trans (onCore_opWrite _ c o _ _)

theorem onCore_waitDone (s : State) (c : Nat) (cs : CoreSt) (ends : Option Bool) : OnCore c s (waitDone s c cs ends) :=
  match ends with
  | some _ => onCore_opDone s c _
  | none => .refl c s

/-! ## The ops -/

/-- What an answer to a command of core `c` leaves. -/
def AnswersOnCore (c : Nat) (s : State) (r : Res) : Prop := ∀ t, r = .next t → OnCore c s t

/-- Command `i` keeps to core `c`. -/
def KeepsToCore (c : Nat) (i : Instr) : Prop := ∀ s, AnswersOnCore c s (exec i s)

theorem OnCore.pending {c : Nat} {s t : State} (h : OnCore c s t) : t.pending = s.pending := by
  have hp := congrArg State.pending h.rest
  exact hp

theorem OnCore.od {c : Nat} {s t : State} (h : OnCore c s t) : t.od = s.od := by
  have ho := congrArg State.od h.rest
  exact ho

/-- The queue answered is that of `s`, which the state has already. -/
theorem OnCore.queued {c : Nat} {s x : State} (h : OnCore c s x) : OnCore c s { x with pending := s.pending } := by
  rw [← h.pending]
  exact h

/-- What an op leaves: nothing changed elsewhere than at the op, else what its body says. -/
theorem opRun_next {c op : Nat} {s t : State} {body : Flight → CoreSt → Nat → State} (h : opRun s c op body = .next t) :
    t = s ∨ ∃ f w, t = { body f (coreOf s c) w with pending := s.pending } := by
  unfold opRun at h
  cases hop : opAt s c op with
  | none =>
    rw [hop] at h
    cases h
    exact .inl rfl
  | some p =>
    rw [hop] at h
    cases h
    exact .inr ⟨p.1, p.2, rfl⟩

theorem opRun_onCore {c op : Nat} {s : State} {body : Flight → CoreSt → Nat → State}
    (h : ∀ f w, OnCore c s (body f (coreOf s c) w)) : AnswersOnCore c s (opRun s c op body) := by
  intro t ht
  obtain rfl | ⟨f, w, rfl⟩ := opRun_next ht
  · exact .refl c t
  · exact (h f w).queued

theorem ShapedOp.keepsToCore {useB : Bool} {c op : Nat} {i : Instr} {rows : State → CoreSt → Nat → List (List Nat)}
    (h : ShapedOp useB c op i rows) : KeepsToCore c i := by
  intro s
  rw [h s]
  exact opRun_onCore fun _ _ => onCore_shapedRun s c useB _ _ _

theorem matrixOp_keepsToCore (c : Nat) (tr : Bool) : KeepsToCore c (if tr then .mmat c else .mmaOp c) := by
  intro s
  rw [exec_matrixOp]
  exact opRun_onCore fun _ _ => onCore_mmaRun s c tr _ _

theorem execNop_onCore (c : Nat) (s : State) : AnswersOnCore c s (execNop c s) :=
  opRun_onCore fun _ _ => onCore_opDone s c _

theorem execEndOp_onCore (c : Nat) (s : State) : AnswersOnCore c s (execEndOp c s) :=
  opRun_onCore fun _ _ => .ite (onCore_setCore s c _) (.refl c s)

theorem execLoop_onCore (c : Nat) (s : State) : AnswersOnCore c s (execLoop c s) :=
  opRun_onCore fun _ _ => .ite (onCore_setCore s c _) (onCore_setCore s c _)

theorem execSetad_onCore (c : Nat) (s : State) : AnswersOnCore c s (execSetad c s) :=
  opRun_onCore fun _ _ => onCore_opDone s c _

theorem execAddad_onCore (c : Nat) (s : State) : AnswersOnCore c s (execAddad c s) :=
  opRun_onCore fun _ _ => onCore_opDone s c _

theorem execAddp_onCore (c : Nat) (s : State) : AnswersOnCore c s (execAddp c s) :=
  opRun_onCore fun _ _ => onCore_opDone s c _

theorem execMovpa_onCore (c : Nat) (s : State) : AnswersOnCore c s (execMovpa c s) :=
  opRun_onCore fun _ _ => onCore_opDone s c _

theorem execEvtWait_onCore (c : Nat) (s : State) : AnswersOnCore c s (execEvtWait c s) :=
  opRun_onCore fun _ _ => (onCore_setCore s c _).trans (onCore_waitDone _ c _ _)

theorem execEvtWaitExpire_onCore (c : Nat) (s : State) : AnswersOnCore c s (execEvtWaitExpire c s) :=
  opRun_onCore fun _ _ => .ite (.refl c s) (onCore_waitDone s c _ _)

theorem execFenceOp_onCore (c : Nat) (s : State) : AnswersOnCore c s (execFenceOp c s) :=
  opRun_onCore fun _ _ => .ite (onCore_opDone s c _) (.refl c s)

theorem execWcopy_onCore (c : Nat) (s : State) : AnswersOnCore c s (execWcopy c s) :=
  opRun_onCore fun _ _ => .ite (onCore_opStop s c _ 4) ((onCore_opWrite s c _ _ _).opDone _)

theorem execTransp_onCore (c : Nat) (s : State) : AnswersOnCore c s (execTransp c s) :=
  opRun_onCore fun _ _ => .ite (onCore_opStop s c _ 4)
    ((OnCore.foldl _ (fun t _ => onCore_opSetBits t c _ _ _ _) _ s).opDone _)

theorem execIdxbuild_onCore (c : Nat) (s : State) : AnswersOnCore c s (execIdxbuild c s) :=
  opRun_onCore fun _ _ => .ite (onCore_opStop s c _ 4) ((onCore_opWrite s c _ _ _).opDone _)

theorem execGatherw_onCore (c : Nat) (s : State) : AnswersOnCore c s (execGatherw c s) :=
  opRun_onCore fun _ _ => .ite (onCore_opStop s c _ 4) ((onCore_storeUnits s c _ _).opDone _)

/-- R90: a padding slot writes nothing, another writes its row at the destination. -/
theorem execScatter_onCore (c : Nat) (s : State) : AnswersOnCore c s (execScatter c s) := by
  refine opRun_onCore fun _ _ => .ite (onCore_opStop s c _ 4) ((OnCore.foldl_fst _ (fun x _ => ?_) _ (s, SFlags.none)).opDone _)
  extract_lets k dst row
  split
  · exact .refl c x.1
  · split
    · exact onCore_opWrite x.1 c dst 0 _
    · exact onCore_opWrite x.1 c dst 0 _

theorem execTopk_onCore (c : Nat) (s : State) : AnswersOnCore c s (execTopk c s) :=
  opRun_onCore fun _ _ => .ite (onCore_opStop s c _ 1) (.ite (onCore_opStop s c _ 4)
    ((OnCore.foldl_fst _ (fun x _ => onCore_opSetBits x.1 c _ _ _ _) _ (s, SFlags.none)).opDone _))

theorem execDequant_onCore (c : Nat) (s : State) : AnswersOnCore c s (execDequant c s) :=
  opRun_onCore fun _ _ => .ite (onCore_opStop s c _ 1) (.ite (onCore_opStop s c _ 4) (onCore_vecStore s c _ _ _))

/-- The ops of a core that reach no memory side and post no event, but QUANT. -/
theorem localOp_keepsToCore {c : Nat} {i : Instr} (h : localOp i = some c) (hq : i ≠ .quant c) : KeepsToCore c i := by
  unfold localOp at h
  split at h <;> cases h
  · exact execNop_onCore c
  · exact execEndOp_onCore c
  · exact execLoop_onCore c
  · exact execSetad_onCore c
  · exact execAddad_onCore c
  · exact execAddp_onCore c
  · exact execMovpa_onCore c
  · exact execEvtWait_onCore c
  · exact execEvtWaitExpire_onCore c
  · exact execFenceOp_onCore c
  · exact execWcopy_onCore c
  · exact execTransp_onCore c
  · exact matrixOp_keepsToCore c false
  · exact matrixOp_keepsToCore c true
  · exact (vadd_shaped c).keepsToCore
  · exact (vsub_shaped c).keepsToCore
  · exact (vmul_shaped c).keepsToCore
  · exact (vfma_shaped c).keepsToCore
  · exact (vmax_shaped c).keepsToCore
  · exact (vmin_shaped c).keepsToCore
  · exact (vaff_shaped c).keepsToCore
  · exact (vrowsub_shaped c).keepsToCore
  · exact (vrowmul_shaped c).keepsToCore
  · exact (rsum_shaped c).keepsToCore
  · exact (rmax_shaped c).keepsToCore
  · exact (rmin_shaped c).keepsToCore
  · exact (rssq_shaped c).keepsToCore
  · exact (sfn_shaped c).keepsToCore
  · exact execIdxbuild_onCore c
  · exact execGatherw_onCore c
  · exact execScatter_onCore c
  · exact execTopk_onCore c
  · exact absurd rfl hq
  · exact execDequant_onCore c

/-! ## QUANT (R51, R53, R55, R66) -/

/-- `t` is `s` but for what core `c` has of its own, and in the dictionary for KV_CLIPPED and KV_NONFINITE. -/
structure OnCoreCounted (c : Nat) (s t : State) : Prop where
  units : OnCore c s { t with od := s.od }
  entries : ∀ e k, e ≠ OD.KV_CLIPPED → e ≠ OD.KV_NONFINITE → k < 2 ^ 24 → odGet t e k = odGet s e k

section
variable {c : Nat} {s t u : State}

theorem OnCore.counted (h : OnCore c s t) : OnCoreCounted c s t where
  units := by
    rw [← h.od]
    exact h
  entries e k _ _ _ := by rw [odGet, odGet, h.od]

theorem OnCoreCounted.ite {p : Prop} [Decidable p] (h : OnCoreCounted c s t) (k : OnCoreCounted c s u) :
    OnCoreCounted c s (if p then t else u) := by
  split
  · exact h
  · exact k

/-- A choice of how to store, with the flags each way sets. -/
theorem OnCoreCounted.ite_fst {p : Prop} [Decidable p] {x y : State × SFlags} (h : OnCoreCounted c s x.1) (k : OnCoreCounted c s y.1) :
    OnCoreCounted c s (if p then x else y).1 := by
  split
  · exact h
  · exact k

theorem OnCoreCounted.opDone (h : OnCoreCounted c s t) (cs : CoreSt) : OnCoreCounted c s (opDone t c cs) := ⟨h.units.opDone cs, h.entries⟩

theorem OnCoreCounted.queued (h : OnCoreCounted c s t) : OnCoreCounted c s { t with pending := s.pending } := ⟨h.units.queued, h.entries⟩

theorem OnCore.kvCounts (h : OnCore c s t) (m n : Nat) : OnCoreCounted c s (odAdd (odAdd t OD.KV_CLIPPED 0 m) OD.KV_NONFINITE 0 n) where
  units := h.counted.units
  entries e k hc hn hk :=
    calc odGet (odAdd (odAdd t OD.KV_CLIPPED 0 m) OD.KV_NONFINITE 0 n) e k
        = odGet (odAdd t OD.KV_CLIPPED 0 m) e k := odGet_odAdd_entry _ _ _ _ _ _ hn (by decide) hk
      _ = odGet t e k := odGet_odAdd_entry _ _ _ _ _ _ hc (by decide) hk
      _ = odGet s e k := h.counted.entries e k hc hn hk

end

/-- R53, R55: elements, then scales stored, then the counts. -/
theorem onCoreCounted_quantBead (s : State) (c : Nat) (cs : CoreSt) (w : Nat) (o : Opnd) (x y : Nat) :
    OnCoreCounted c s (quantBead s c cs w o x y).1 :=
  ((OnCore.foldl _ (fun t _ => onCore_opSetBits t c o _ _ _) _ s).trans (onCore_opWrite _ c o _ _)).kvCounts _ _

theorem execQuant_onCoreCounted {c : Nat} {s t : State} (h : execQuant c s = .next t) : OnCoreCounted c s t := by
  unfold execQuant at h
  obtain rfl | ⟨f, w, rfl⟩ := opRun_next h
  · exact (OnCore.refl c t).counted
  · refine OnCoreCounted.queued (.ite (onCore_opStop s c _ 1).counted (.ite (onCore_opStop s c _ 4).counted (.opDone ?_ _)))
    exact .ite_fst (onCore_quantMx s c _ _ _ _ _ _).counted
      (.ite_fst (onCoreCounted_quantBead s c _ _ _ _ _) (onCore_storeRows s c _ _ _ _ _).counted)

/-- Settles O27: every op but QUANT keeps to its core, and QUANT does but for its two counts. -/
theorem coreOpsStayOnTheirCore : Obligations.CoreOpsStayOnTheirCore := by
  intro i c s t hi ht
  have hq : i ≠ .quant c → OnCore c s t := fun hne => localOp_keepsToCore hi hne s t ht
  have h : OnCoreCounted c s t := by
    by_cases he : i = .quant c
    · subst he
      exact execQuant_onCoreCounted ht
    · exact (hq he).counted
  exact ⟨h.units.rest, fun hne => (hq hne).od, h.entries, h.units.cores, h.units.window, h.units.accum, h.units.form⟩

end Sys2Proof.Machine

/-! # The pool manager's commands (chapter 06, R124, R125, R127, R128)

Each command is one `answer` of the operation it names, so a clause is the branch that operation takes. Two of them need more: what the
descriptor writes of ALLOC leave alone, and REF's count changed before its descriptor is read again. -/

namespace Sys2Proof.Machine

/-! ## What writes of sound lines leave -/

/-- Memory keeps its canonical form; where no line of `s` is in error, none of `t` is, and `t` is `s` but for the pool, memory, the
dictionary and the controllers. -/
structure KeepsToPool (s t : State) : Prop where
  form : MemKeeps s t
  sound : s.mc.lineErr = [] → t.mc.lineErr = []
  rest : s.mc.lineErr = [] → { t with pool := s.pool, mem := s.mem, od := s.od, mc := s.mc } = s

section
variable {s t u : State}

theorem KeepsToPool.refl (s : State) : KeepsToPool s s := ⟨.refl s, id, fun _ => rfl⟩

theorem KeepsToPool.trans (h : KeepsToPool s t) (k : KeepsToPool t u) : KeepsToPool s u where
  form := h.form.trans k.form
  sound hs := k.sound (h.sound hs)
  rest hs :=
    calc { u with pool := s.pool, mem := s.mem, od := s.od, mc := s.mc }
        = { { u with pool := t.pool, mem := t.mem, od := t.od, mc := t.mc } with
            pool := s.pool, mem := s.mem, od := s.od, mc := s.mc } := rfl
      _ = { t with pool := s.pool, mem := s.mem, od := s.od, mc := s.mc } := by rw [k.rest (h.sound hs)]
      _ = s := h.rest hs

/-- What each step of a fold keeps, the fold keeps, whatever it carries beside the state. -/
theorem KeepsToPool.foldl_fst {α β : Type} (f : State × β → α → State × β) (h : ∀ x a, KeepsToPool x.1 (f x a).1) (l : List α)
    (x : State × β) : KeepsToPool x.1 (l.foldl f x).1 := by
  induction l generalizing x with
  | nil => exact .refl x.1
  | cons a l ih => exact (h x a).trans (ih _)

theorem KeepsToPool.foldl {α : Type} (f : State → α → State) (h : ∀ s a, KeepsToPool s (f s a)) (l : List α) (s : State) :
    KeepsToPool s (l.foldl f s) := by
  induction l generalizing s with
  | nil => exact .refl s
  | cons a l ih => exact (h s a).trans (ih _)

end

theorem keepsToPool_odPut (s : State) (e i v : Nat) : KeepsToPool s (odPut s e i v) := ⟨.of_eq rfl, id, fun _ => rfl⟩

theorem keepsToPool_withPool (s : State) (p : PoolSt) : KeepsToPool s { s with pool := p } := ⟨.of_eq rfl, id, fun _ => rfl⟩

/-- R209: part or all of a sound line is written, and nothing is corrected or contained. -/
theorem storeLine_sound {s : State} (h : s.mc.lineErr = []) (rd : Reader) (a : Nat) (bs : List Byte) :
    (storeLine s rd a bs).1 = memWrite (if a < 2 ^ 40 then activate s a else s) a bs := by
  unfold storeLine
  generalize hs : (if a < 2 ^ 40 then activate s a else s) = t
  have ht : t.mc.lineErr = [] := by
    rw [← hs]
    split
    · exact h
    · exact h
  have hk : (if coded a then kget t.mc.lineErr (a / 64) 0 else 0) = 0 := by
    rw [ht]
    exact ite_self 0
  have hdel : kdel t.mc.lineErr (a / 64) = t.mc.lineErr := by
    rw [ht]
    rfl
  simp only [hk, gt_iff_lt, Nat.not_lt_zero, Nat.lt_irrefl, false_and, if_false, hdel]
  rfl

theorem keepsToPool_storeLine (s : State) (rd : Reader) (a : Nat) (bs : List Byte) : KeepsToPool s (storeLine s rd a bs).1 where
  form := keeps_storeLine s rd a bs
  sound hs := by
    rw [storeLine_sound hs]
    split
    · exact hs
    · exact hs
  rest hs := by
    rw [storeLine_sound hs]
    split
    · rfl
    · rfl

/-- The same bytes stored at lines of several homes. -/
theorem keepsToPool_storeLines (rd : Reader) (bs : List Byte) (home : Nat → Nat) (l : List Nat) (x : State × Nat) :
    KeepsToPool x.1 (l.foldl (fun (acc : State × Nat) k =>
      let w := storeLine acc.1 rd (home k) bs
      (w.1, if acc.2 = 0 then w.2 else acc.2)) x).1 := by
  refine KeepsToPool.foldl_fst _ (fun y k => ?_) l x
  exact keepsToPool_storeLine y.1 rd (home k) bs

theorem keepsToPool_writePiece (s : State) (map : Bool) (rd : Reader) (a : Nat) (bs : List Byte) :
    KeepsToPool s (writePiece s map rd a bs).1 := by
  unfold writePiece
  split
  · exact .refl s
  split
  · exact keepsToPool_odPut s _ _ _
  split
  · exact keepsToPool_storeLines rd bs (fun k => sramBase k + (a - sramBcast)) _ (s, 0)
  · exact keepsToPool_storeLine s rd _ bs

theorem keepsToPool_ctlPut (s : State) (a n v : Nat) : KeepsToPool s (ctlPut s a n v) := by
  unfold ctlPut writeMem
  refine KeepsToPool.foldl_fst _ (fun x p => ?_) _ (s, _)
  exact keepsToPool_writePiece x.1 _ _ _ _

/-! ## ALLOC (R124, R125) -/

theorem keepsToPool_countMove (s : State) (cls stack a b : Nat) : KeepsToPool s (countMove s cls stack a b) :=
  (keepsToPool_odPut s _ _ _).trans (keepsToPool_odPut _ _ _ _)

theorem keepsToPool_allocOne (s : State) (cls stack slot ordinal row ten : Nat) :
    KeepsToPool s (allocOne s cls stack slot ordinal row ten) := by
  unfold allocOne
  extract_lets b t
  have ht : KeepsToPool s t := (keepsToPool_withPool s _).trans (keepsToPool_ctlPut _ _ _ _)
  exact (ht.trans (keepsToPool_countMove t cls stack 0 1)).trans (keepsToPool_odPut _ _ _ _)

theorem beadAlloc_noBead {s : State} {cls stack n : Nat} (hn : n ≤ 4096) (hl : (kget s.pool.ready (listKey cls stack) []).length < n)
    (o0 row ten : Nat) : beadAlloc s cls stack n o0 row ten = poolAnswer s 1 [] :=
  (if_neg (Nat.not_lt.2 hn)).trans (if_pos hl)

/-- The state with the first `n` beads taken off the list and each of them made HELD. -/
def allocated (s : State) (cls stack n o0 row ten : Nat) : State :=
  ((kget s.pool.ready (listKey cls stack) []).take n).zipIdx.foldl (fun u p => allocOne u cls stack p.1 (o0 + 8 * p.2) row ten)
    { s with pool := { s.pool with ready := kput s.pool.ready (listKey cls stack) ((kget s.pool.ready (listKey cls stack) []).drop n) } }

theorem beadAlloc_takes {s : State} {cls stack n : Nat} (hn : n ≤ 4096) (hl : n ≤ (kget s.pool.ready (listKey cls stack) []).length)
    (o0 row ten : Nat) : beadAlloc s cls stack n o0 row ten = poolAnswer (allocated s cls stack n o0 row ten) 0
      (((kget s.pool.ready (listKey cls stack) []).take n).map (beadIdx stack)) :=
  (if_neg (Nat.not_lt.2 hn)).trans (if_neg (Nat.not_lt.2 hl))

theorem keepsToPool_allocated (s : State) (cls stack n o0 row ten : Nat) : KeepsToPool s (allocated s cls stack n o0 row ten) := by
  unfold allocated
  refine (keepsToPool_withPool s _).trans (KeepsToPool.foldl _ (fun u p => ?_) _ _)
  exact keepsToPool_allocOne u _ _ _ _ _ _

/-! ## REF (R124, R128) -/

/-- R142: a REF_SUM changed moves no descriptor. -/
theorem descGet_refSumAdd (s : State) {cls stack : Nat} (hc : cls < 8) (hs : stack < 8) (n b : Nat) :
    descGet (refSumAdd s cls stack n) b = descGet s b := by
  have hkey : listKey cls stack < 2 ^ 24 := by
    rw [listKey]
    omega
  have hbase : od (refSumAdd s cls stack n) OD.DESC_BASE = od s OD.DESC_BASE :=
    odGet_odPut_entry _ _ _ _ _ _ (by decide) hkey (by decide)
  rw [descGet, descGet, descAddr, descAddr, hbase]
  rfl

/-- The class a descriptor names and the stack of its index are in range. -/
theorem descGet_ownRefSum (s : State) (b n : Nat) : descGet (refSumAdd s (descF s b BeadDesc.CLASS) (beadStack b) n) b = descGet s b :=
  descGet_refSumAdd s (getF_lt _ BeadDesc.CLASS) (Nat.mod_lt _ (by decide)) n b

section
variable {s : State} {b gen : Nat}

theorem beadRef_adds (hst : descF s b BeadDesc.STATE = 1) (hgen : descF s b BeadDesc.GEN = gen) (hrefs : descF s b BeadDesc.REFS < 65535) :
    beadRef s b gen = poolAnswer (descSet (refSumAdd s (descF s b BeadDesc.CLASS) (beadStack b) 1) b
      [(BeadDesc.REFS, descF s b BeadDesc.REFS + 1)]) 0 [] := by
  rw [beadRef, if_pos ⟨hst, hgen⟩, if_pos hrefs]
  simp only [descF, descGet_ownRefSum]

theorem beadRef_limit (hst : descF s b BeadDesc.STATE = 1) (hgen : descF s b BeadDesc.GEN = gen) (hrefs : descF s b BeadDesc.REFS = 65535) :
    beadRef s b gen = poolAnswer (descTouch s b) 3 [] :=
  (if_pos ⟨hst, hgen⟩).trans (if_neg (by omega))

theorem beadRef_stale (h : descF s b BeadDesc.STATE ≠ 1 ∨ descF s b BeadDesc.GEN ≠ gen) : beadRef s b gen = poolStale (descTouch s b) :=
  if_neg (not_and_or.2 h)

end

/-! ## Clearing (R127) -/

section
variable {s : State} {cls stack slot : Nat} {rest : List Nat}

/-- A unit starts where no setting job runs on the stack. -/
theorem beadClearUnit_completes (hf : flightOn s (unitKey 2 stack) = none) :
    completes (.beadClearUnit cls stack) s (clearStep s cls stack) :=
  congrArg (answer s) (if_neg (by simp [hf]))

/-- The head's last unit: it leaves the queue for the READY list. -/
theorem clearStep_last (hq : kget s.pool.clearing (listKey cls stack) [] = slot :: rest)
    (hlast : classBeadBytes s cls ≤ kget s.pool.clearPos (beadIdx stack slot) 0 + 204800) :
    clearStep s cls stack =
      (let b := beadIdx stack slot
       let pos := kget s.pool.clearPos b 0
       let z := zeroLines s (beadAddr s cls b + pos) (classBeadBytes s cls - pos)
       let y := { z with pool := { z.pool with clearing := kput z.pool.clearing (listKey cls stack) rest, clearPos := kdel z.pool.clearPos b } }
       readyAppend (descSet (countMove y cls stack 3 0) b [(BeadDesc.STATE, 0)]) cls stack slot) := by
  simp only [clearStep, hq, clearUnit]
  rw [Nat.min_eq_right (by omega), if_neg (by omega)]

/-- A unit that leaves bytes to zero. -/
theorem clearStep_more (hq : kget s.pool.clearing (listKey cls stack) [] = slot :: rest)
    (hmore : kget s.pool.clearPos (beadIdx stack slot) 0 + 204800 < classBeadBytes s cls) :
    clearStep s cls stack =
      (let b := beadIdx stack slot
       let pos := kget s.pool.clearPos b 0
       let z := zeroLines s (beadAddr s cls b + pos) 204800
       { z with pool := { z.pool with clearPos := kput z.pool.clearPos b (pos + 204800) } }) := by
  simp only [clearStep, hq, clearUnit]
  rw [Nat.min_eq_left (by omega), if_pos hmore]

end

/-- Settles O30: each command by the branch its operation takes, ALLOC by what its writes of descriptors leave. -/
theorem beadCommands : Obligations.BeadCommands := by
  refine ⟨fun s cls stack n o0 row ten hn hl => ?_, fun s cls stack n o0 row ten hn hl => ?_, fun s b gen hst hgen hrefs => ?_,
    fun s b gen hst hgen hrefs => ?_, fun s b gen h => ?_, fun s b hst hrefs => ?_, fun s b hst hrefs => ?_, fun s b hst hrefs => ?_,
    fun s cls stack slot rest hf hq hlast => ?_, fun s cls stack slot rest hf hq hmore => ?_⟩
  · exact ⟨_, congrArg (answer s) (beadAlloc_noBead hn hl o0 row ten), rfl, rfl, rfl, rfl⟩
  · have hkeep := keepsToPool_allocated s cls stack n o0 row ten
    exact ⟨_, congrArg (answer s) (beadAlloc_takes hn hl o0 row ten), rfl, rfl, rfl, hkeep.rest, hkeep.form⟩
  · exact congrArg (answer s) (beadRef_adds hst hgen hrefs)
  · exact congrArg (answer s) (beadRef_limit hst hgen hrefs)
  · exact congrArg (answer s) (beadRef_stale h)
  · exact congrArg (answer s) (if_pos ⟨hst, hrefs⟩)
  · exact congrArg (answer s) ((if_neg (by omega)).trans (if_pos ⟨hst, hrefs⟩))
  · exact congrArg (answer s) (if_pos ⟨hst, hrefs⟩)
  · exact clearStep_last hq hlast ▸ beadClearUnit_completes hf
  · exact clearStep_more hq hmore ▸ beadClearUnit_completes hf

end Sys2Proof.Machine

/-! # Clasp messages where they are handled (chapter 09, R186, R191, R192, R196 to R200)

Each command enters its message in the inbox and then takes one branch by the record it meets. A lemma for each branch says what the
command completes with; what the inbox leaves as it was, and what a record freed leaves, come first. -/

namespace Sys2Proof.Machine

/-! ## The inbox -/

theorem freeFlits_eq (s : State) (l vc n : Nat) : freeFlits s l vc n = { s with net := (freeFlits s l vc n).net } := by
  unfold freeFlits
  extract_lets x v
  split <;> rfl

/-- A message leaving its buffers changes the links alone. -/
theorem takeRx_eq (s : State) (m : Msg) : takeRx s m = { s with net := (takeRx s m).net } := by
  unfold takeRx
  split
  · rfl
  · exact freeFlits_eq _ _ _ _

@[simp] theorem toInbox_rows (s : State) (m : Msg) : (toInbox s m).rows = s.rows := by
  rw [toInbox, ringPush_rows, takeRx_eq]

theorem claspAux_toInbox (s : State) (m : Msg) (c : Nat) : claspAux (toInbox s m) c = claspAux s c := by
  rw [claspAux, toInbox_rows, claspAux]

/-- A message that enters the inbox leaves every other entry. -/
theorem odGet_toInbox (s : State) (m : Msg) {e i : Nat} (he : e ≠ OD.CLASP_INBOX) (hi : i < 2 ^ 24) :
    odGet (toInbox s m) e i = odGet s e i := by
  have hslot : kget (takeRx s m).rings OD.CLASP_INBOX 0 % 4096 < 2 ^ 24 := by omega
  have hpush : odGet (toInbox s m) e i = odGet (takeRx s m) e i := odGet_odPut_entry _ _ _ _ _ _ he hslot hi
  rw [hpush, takeRx_eq]
  rfl

/-! ## Records that end -/

/-- A record freed changes the dictionary and leaves the list of open records without it, nothing else. -/
theorem recordFree_eq (s : State) (c : Nat) :
    recordFree s c = { s with od := (recordFree s c).od, rows := { s.rows with clasp := kdel s.rows.clasp c } } := by
  simp only [recordFree]
  split_ifs <;> rfl

/-- What a source record leaves to the planner's next build: its row, the row's state before the offer, and its keys. -/
def returnOf (s : State) (c : Nat) : Nat × Nat × List Nat :=
  (crF s c ClaspRec.ROW, crF s c ClaspRec.PRIOR_STATE, (claspAux s c).keys)

theorem sourceEnd_eq (s : State) (c : Nat) :
    sourceEnd s c = { s with
      od := (sourceEnd s c).od,
      rows := { s.rows with returns := s.rows.returns ++ [returnOf s c], clasp := kdel s.rows.clasp c } } :=
  recordFree_eq _ c

/-- A record whose pull a QUERY has ended, noted as such. -/
def queryNoted (x : State) (c : Nat) : State := { x with rows := { x.rows with queryEnded := x.rows.queryEnded ++ [c] } }

theorem mem_queryNoted (x : State) (c : Nat) : c ∈ (queryNoted x c).rows.queryEnded :=
  List.mem_append_right _ (List.mem_singleton_self c)

theorem queryNoted_frame (x : State) (c : Nat) : { queryNoted x c with rows := x.rows } = x := rfl

/-! ## A message where the clasp unit does not run -/

/-- It only leaves its buffers. -/
theorem claspMessage_stopped {s : State} {m : Msg} (hr : claspRuns s = false) (place : List Nat) (land : Nat) (pull : Nat × Nat) :
    ∀ i ∈ [Instr.offer m place land pull, .accept m, .refuse m, .take m, .released m, .query m, .abandoned m],
      completes i s (takeRx s m) := by
  have hoff : ¬ claspRuns s = true := by simp [hr]
  exact List.forall_iff_forall_mem.1 ⟨congrArg (answer s) (if_neg hoff), congrArg (answer s) (if_neg hoff),
    congrArg (answer s) (if_neg hoff), congrArg (answer s) (if_neg hoff), congrArg (answer s) (if_neg hoff),
    congrArg (answer s) (if_neg hoff), congrArg (answer s) (if_neg hoff)⟩

section
variable {s : State} {m : Msg} {c : Nat} (hr : claspRuns s = true)
include hr

/-! ## OFFER (R191, R192) -/

section
variable {place : List Nat} {land : Nat} {pull : Nat × Nat}

/-- A pull of the offer's epoch stands: the same ACCEPT again. -/
theorem offer_pulling (hrec : recordOf (toInbox s m) 1 (getF m.hdr ClaspMsg.REQUEST_ID) (getF m.hdr ClaspMsg.FROM_DEVICE) = some c)
    (hpull : crF (toInbox s m) c ClaspRec.STATE = 3 ∧ crF (toInbox s m) c ClaspRec.EPOCH = getF m.hdr ClaspMsg.EPOCH) :
    completes (.offer m place land pull) s (acceptMsg (toInbox s m) c) := by
  refine congrArg (answer s) ((if_pos hr).trans ?_)
  simp only [hrec]
  exact if_pos hpull

theorem offer_unanswered (hrec : recordOf (toInbox s m) 1 (getF m.hdr ClaspMsg.REQUEST_ID) (getF m.hdr ClaspMsg.FROM_DEVICE) = some c)
    (hpull : ¬ (crF (toInbox s m) c ClaspRec.STATE = 3 ∧ crF (toInbox s m) c ClaspRec.EPOCH = getF m.hdr ClaspMsg.EPOCH)) :
    completes (.offer m place land pull) s (toInbox s m) := by
  refine congrArg (answer s) ((if_pos hr).trans ?_)
  simp only [hrec]
  exact if_neg hpull

section
variable (hrec : recordOf (toInbox s m) 1 (getF m.hdr ClaspMsg.REQUEST_ID) (getF m.hdr ClaspMsg.FROM_DEVICE) = none)
include hrec

theorem offer_refused
    (ht : (offerTests (toInbox s m) m.hdr (leNat (m.data.take 128)) (leNat ((m.data.drop 128).take 64)) place).1 ≠ 0) :
    completes (.offer m place land pull) s (offerRefuse (claspCount (toInbox s m) 1) m.hdr
      (offerTests (toInbox s m) m.hdr (leNat (m.data.take 128)) (leNat ((m.data.drop 128).take 64)) place).1) := by
  refine congrArg (answer s) ((if_pos hr).trans ?_)
  simp only [hrec]
  exact if_pos ht

/-- Every test passes and the places named are free. -/
theorem offer_accepted
    (ht : (offerTests (toInbox s m) m.hdr (leNat (m.data.take 128)) (leNat ((m.data.drop 128).take 64)) place).1 = 0)
    (harea : areaFree (toInbox s m) land (192 + 16 * getF m.hdr ClaspMsg.BEAD_COUNT + 4 * getF m.hdr ClaspMsg.TOKENS) = true)
    (hplace : placeOk (toInbox s m) (2 ^ segLog2 (getF m.hdr ClaspMsg.BEAD_COUNT)) place = true) :
    completes (.offer m place land pull) s
      (let x := toInbox s m
       let t := offerTests x m.hdr (leNat (m.data.take 128)) (leNat ((m.data.drop 128).take 64)) place
       offerAccept (claspCount x 1) m.hdr (leNat (m.data.take 128)) (leNat ((m.data.drop 128).take 64)) t.2.1 t.2.2.1 t.2.2.2 place land
         (pullFrames x (pullBytes x m.hdr t.2.1) pull.1 pull.2)) := by
  refine congrArg (answer s) ((if_pos hr).trans ?_)
  simp only [hrec]
  exact (if_neg (not_not.2 ht)).trans (if_neg (by simp [harea, hplace]))

end

end

/-! ## ACCEPT, REFUSE and ABANDONED of a source record (R197) -/

/-- No source record of the message's epoch: R199 decides. -/
theorem sourceMessage_unmatched (hsrc : sourceRec (toInbox s m) m.hdr (getF m.hdr ClaspMsg.EPOCH) = none) :
    ∀ i ∈ [Instr.accept m, .refuse m, .abandoned m],
      completes i s (noRecord (toInbox s m) (getF m.hdr ClaspMsg.REQUEST_ID)) := by
  have hmatch {f : Nat → State} {u : State} :
      (match sourceRec (toInbox s m) m.hdr (getF m.hdr ClaspMsg.EPOCH) with | none => u | some c => f c) = u := by rw [hsrc]
  exact List.forall_iff_forall_mem.1 ⟨congrArg (answer s) ((if_pos hr).trans hmatch), congrArg (answer s) ((if_pos hr).trans hmatch),
    congrArg (answer s) ((if_pos hr).trans hmatch)⟩

/-- What an ACCEPT makes of an OFFERED record: the frames planned, the peer's row and the limit noted, the record counted. -/
def acceptTaken (x : State) (m : Msg) (c : Nat) : State :=
  let f := getF m.hdr ClaspMsg.FIRST_FRAME
  let p := getF m.hdr ClaspMsg.PULL_FRAMES
  let y := setAux x c { claspAux x c with firstFrame := f, pullFrames := p, peerRow := getF m.hdr ClaspMsg.FROM_ROW }
  claspCount (crSet y c [(ClaspRec.STATE, 2), (ClaspRec.LIMIT_FRAME, f + 2 * p + od x OD.CLASP_TAKE_SLACK)]) 3

section
variable (hsrc : sourceRec (toInbox s m) m.hdr (getF m.hdr ClaspMsg.EPOCH) = some c)
include hsrc

theorem accept_offered (hst : crF (toInbox s m) c ClaspRec.STATE = 1) : completes (.accept m) s (acceptTaken (toInbox s m) m c) := by
  refine congrArg (answer s) ((if_pos hr).trans ?_)
  simp only [hsrc]
  exact if_pos hst

theorem accept_notOffered (hst : crF (toInbox s m) c ClaspRec.STATE ≠ 1) : completes (.accept m) s (toInbox s m) := by
  refine congrArg (answer s) ((if_pos hr).trans ?_)
  simp only [hsrc]
  exact if_neg hst

/-- The refusal is counted and noted for the choice of the next destination (R188), then the record ends. -/
theorem refuse_offered (hst : crF (toInbox s m) c ClaspRec.STATE = 1) :
    completes (.refuse m) s
      (let x := claspCount (toInbox s m) 5
       sourceEnd { x with rows := { x.rows with refusedBy := x.rows.refusedBy
         ++ [(getF m.hdr ClaspMsg.REQUEST_ID, getF m.hdr ClaspMsg.FROM_DEVICE, frameNo x)] } } c) := by
  refine congrArg (answer s) ((if_pos hr).trans ?_)
  simp only [hsrc]
  exact if_pos hst

theorem refuse_notOffered (hst : crF (toInbox s m) c ClaspRec.STATE ≠ 1) : completes (.refuse m) s (toInbox s m) := by
  refine congrArg (answer s) ((if_pos hr).trans ?_)
  simp only [hsrc]
  exact if_neg hst

theorem abandoned_matched : completes (.abandoned m) s (sourceEnd (claspCount (toInbox s m) 9) c) := by
  refine congrArg (answer s) ((if_pos hr).trans ?_)
  simp only [hsrc]

end

/-! ## RELEASED (R196) -/

theorem released_unmatched (hdst : destRec (toInbox s m) m.hdr ((getF m.hdr ClaspMsg.EPOCH + 2 ^ 32 - 1) % 2 ^ 32) = none) :
    completes (.released m) s (noRecord (toInbox s m) (getF m.hdr ClaspMsg.REQUEST_ID)) := by
  refine congrArg (answer s) ((if_pos hr).trans ?_)
  simp only [hdst]

section
variable (hdst : destRec (toInbox s m) m.hdr ((getF m.hdr ClaspMsg.EPOCH + 2 ^ 32 - 1) % 2 ^ 32) = some c)
include hdst

theorem released_uncommitted (hst : crF (toInbox s m) c ClaspRec.STATE ≠ 4) : completes (.released m) s (toInbox s m) := by
  refine congrArg (answer s) ((if_pos hr).trans ?_)
  simp only [hdst]
  exact if_pos hst

/-- The row has ended before its source's release: the record alone is freed. -/
theorem released_rowFree (hst : crF (toInbox s m) c ClaspRec.STATE = 4)
    (hrow : rowState (recordFree (toInbox s m) c) (crF (toInbox s m) c ClaspRec.ROW) = 0) :
    completes (.released m) s (recordFree (toInbox s m) c) := by
  refine congrArg (answer s) ((if_pos hr).trans ?_)
  simp only [hdst]
  exact (if_neg (not_not.2 hst)).trans (if_pos (eq_true hrow))

theorem released_rowHeld (hst : crF (toInbox s m) c ClaspRec.STATE = 4)
    (hrow : rowState (recordFree (toInbox s m) c) (crF (toInbox s m) c ClaspRec.ROW) ≠ 0) :
    completes (.released m) s
      (let x := recordFree (toInbox s m) c
       let r := crF (toInbox s m) c ClaspRec.ROW
       ownerFlags (rowSet x r [(Row.FLAGS, rowGet x r Row.FLAGS ||| 4 * getF m.hdr ClaspMsg.FLAGS)]) r) := by
  refine congrArg (answer s) ((if_pos hr).trans ?_)
  simp only [hdst]
  exact (if_neg (not_not.2 hst)).trans (if_neg (by simpa using hrow))

end

/-! ## TAKE and QUERY (R184, R196, R198, R199) -/

theorem take_completes {t : State} (ht : learnEpoch (toInbox s m) m staleMessage = t) : completes (.take m) s t :=
  congrArg (answer s) ((if_pos hr).trans ht)

/-- R198: how a QUERY for which no release was due and no departure record is left is answered: not at all where the row is still here. -/
def queryNoRow (m : Msg) (t : State) : State :=
  if (requestRow t (getF m.hdr ClaspMsg.REQUEST_ID)).2.isSome then t
  else claspSend t (getF m.hdr ClaspMsg.FROM_DEVICE) (replyMsg t m.hdr 5 0x24 (getF m.hdr ClaspMsg.EPOCH)) []

theorem query_fromDestination {t : State} (hside : getF m.hdr ClaspMsg.FROM_SIDE = 1)
    (ht : learnEpoch (toInbox s m) m (queryNoRow m) = t) : completes (.query m) s t :=
  congrArg (answer s) ((if_pos hr).trans ((if_neg (by omega)).trans ht))

section
variable (hside : getF m.hdr ClaspMsg.FROM_SIDE = 0)
include hside

theorem query_committed (hdst : destRec (toInbox s m) m.hdr (getF m.hdr ClaspMsg.EPOCH) = some c)
    (hst : crF (toInbox s m) c ClaspRec.STATE = 4) : completes (.query m) s (takeMsg (toInbox s m) c) := by
  refine congrArg (answer s) ((if_pos hr).trans ((if_pos hside).trans ?_))
  simp only [hdst]
  exact if_pos hst

/-- A pull is given up with reason QUERY; the record is remembered for a COMMIT entry that reaches it later (R195). -/
theorem query_uncommitted (hdst : destRec (toInbox s m) m.hdr (getF m.hdr ClaspMsg.EPOCH) = some c)
    (hst : crF (toInbox s m) c ClaspRec.STATE ≠ 4) :
    completes (.query m) s (queryNoted (claspAbandon (toInbox s m) c 0x20) c) := by
  refine congrArg (answer s) ((if_pos hr).trans ((if_pos hside).trans ?_))
  simp only [hdst]
  exact if_neg hst

theorem query_noRecord (hdst : destRec (toInbox s m) m.hdr (getF m.hdr ClaspMsg.EPOCH) = none)
    (hrow : (requestRow (toInbox s m) (getF m.hdr ClaspMsg.REQUEST_ID)).2 = none) :
    completes (.query m) s
      (let x := (requestRow (toInbox s m) (getF m.hdr ClaspMsg.REQUEST_ID)).1
       claspSend x (getF m.hdr ClaspMsg.FROM_DEVICE) (replyMsg x m.hdr 7 0x24 (getF m.hdr ClaspMsg.EPOCH)) []) := by
  refine congrArg (answer s) ((if_pos hr).trans ((if_pos hside).trans ?_))
  simp only [hdst, hrow]

end

end

/-! ## What a committed epoch learnt does (R184, R196, R199) -/

section
variable {x : State} {m : Msg} {c : Nat} {other : State → State}

theorem queryNoRow_none (h : (requestRow x (getF m.hdr ClaspMsg.REQUEST_ID)).2 = none) :
    queryNoRow m x = claspSend x (getF m.hdr ClaspMsg.FROM_DEVICE) (replyMsg x m.hdr 5 0x24 (getF m.hdr ClaspMsg.EPOCH)) [] :=
  if_neg (by simp [h])

theorem learnEpoch_source (hsrc : sourceRec x m.hdr ((getF m.hdr ClaspMsg.EPOCH + 2 ^ 32 - 1) % 2 ^ 32) = some c) :
    learnEpoch x m other =
      claspRelease x (crF x c ClaspRec.ROW) (some c) (getF m.hdr ClaspMsg.FROM_DEVICE) (getF m.hdr ClaspMsg.EPOCH) m.hdr := by
  simp only [learnEpoch, hsrc]

section
variable (hsrc : sourceRec x m.hdr ((getF m.hdr ClaspMsg.EPOCH + 2 ^ 32 - 1) % 2 ^ 32) = none)
  (hrow : (requestRow x (getF m.hdr ClaspMsg.REQUEST_ID)).2 = none)
include hsrc hrow

theorem learnEpoch_departed
    (hd : (departed (requestRow x (getF m.hdr ClaspMsg.REQUEST_ID)).1 (getF m.hdr ClaspMsg.REQUEST_ID)).2 = true) :
    learnEpoch x m other =
      (let d := departed (requestRow x (getF m.hdr ClaspMsg.REQUEST_ID)).1 (getF m.hdr ClaspMsg.REQUEST_ID)
       claspSend d.1 (getF m.hdr ClaspMsg.FROM_DEVICE) (replyMsg d.1 m.hdr 5 0 (getF m.hdr ClaspMsg.EPOCH)) []) := by
  simp only [learnEpoch, hsrc, hrow]
  exact if_pos hd

theorem learnEpoch_unknown
    (hd : (departed (requestRow x (getF m.hdr ClaspMsg.REQUEST_ID)).1 (getF m.hdr ClaspMsg.REQUEST_ID)).2 = false) :
    learnEpoch x m other =
      other (departed (requestRow x (getF m.hdr ClaspMsg.REQUEST_ID)).1 (getF m.hdr ClaspMsg.REQUEST_ID)).1 := by
  simp only [learnEpoch, hsrc, hrow]
  exact if_neg (by simp [hd])

end

/-! ## The record an ACCEPT takes -/

theorem claspAux_setAux_same (x : State) (c : Nat) (a : ClaspAux) : claspAux (setAux x c a) c = a := by
  rw [claspAux, setAux, kfind_kput_same]
  rfl

/-- What is held beside a record replaced, its fields set and a counter advanced: the dictionary and the rows' part change, nothing else.
Stated for every entry, so that no table of entries is searched to check it. -/
theorem counted_recSet_setAux_frame (x : State) (c : Nat) (a : ClaspAux) (l : List (Fld × Nat)) (e f i n : Nat) (o : KMap Nat) :
    { odAdd (recSet (setAux x c a) e c l) f i n with od := o, rows := x.rows } = { x with od := o } := rfl

theorem acceptTaken_frame (x : State) (m : Msg) (c : Nat) (o : KMap Nat) :
    { acceptTaken x m c with od := o, rows := x.rows } = { x with od := o } := counted_recSet_setAux_frame x c _ _ _ _ _ _ o

theorem claspAux_acceptTaken : claspAux (acceptTaken x m c) c = { claspAux x c with
    firstFrame := getF m.hdr ClaspMsg.FIRST_FRAME, pullFrames := getF m.hdr ClaspMsg.PULL_FRAMES,
    peerRow := getF m.hdr ClaspMsg.FROM_ROW } := by
  rw [claspAux, acceptTaken, odAdd_rows, crSet, recSet_rows]
  exact claspAux_setAux_same x c _

variable (hc : c < 2048)
include hc

theorem odGet_acceptTaken_record :
    odGet (acceptTaken x m c) OD.CLASP_RECORDS c = setFs (odGet x OD.CLASP_RECORDS c) [(ClaspRec.STATE, 2),
      (ClaspRec.LIMIT_FRAME, getF m.hdr ClaspMsg.FIRST_FRAME + 2 * getF m.hdr ClaspMsg.PULL_FRAMES + od x OD.CLASP_TAKE_SLACK)] :=
  (odGet_odAdd_entry _ _ _ _ _ _ (by decide) (by decide) (by omega)).trans (odGet_recSet_same _ _ _ _)

theorem crF_acceptTaken_state : crF (acceptTaken x m c) c ClaspRec.STATE = 2 :=
  (congrArg (getF · ClaspRec.STATE) (odGet_acceptTaken_record hc)).trans (getF_setFs_append_cons _ 2 [] _ _ rfl)

theorem crF_acceptTaken_limit : crF (acceptTaken x m c) c ClaspRec.LIMIT_FRAME =
    (getF m.hdr ClaspMsg.FIRST_FRAME + 2 * getF m.hdr ClaspMsg.PULL_FRAMES + od x OD.CLASP_TAKE_SLACK) % 2 ^ 32 :=
  (congrArg (getF · ClaspRec.LIMIT_FRAME) (odGet_acceptTaken_record hc)).trans
    (getF_setFs_append_cons _ _ [(ClaspRec.STATE, 2)] [] _ rfl)

theorem odGet_acceptTaken_accepts :
    odGet (acceptTaken x m c) OD.CLASP_COUNTS 3 = (odGet x OD.CLASP_COUNTS 3 + 1) % 2 ^ 64 := by
  have hrec : ∀ y l, odGet (crSet y c l) OD.CLASP_COUNTS 3 = odGet y OD.CLASP_COUNTS 3 := fun y l =>
    odGet_recSet_entry y OD.CLASP_RECORDS c _ _ l (by decide) (by omega) (by decide)
  have hwidth : odWidth OD.CLASP_COUNTS = 64 := by decide
  rw [acceptTaken, claspCount, odGet_odAdd_same, hrec, hwidth]
  rfl

end

/-- Settles O34: each clause by the branch its command takes, the ACCEPT's by what the record it takes reads as. -/
theorem claspMessages : Obligations.ClaspMessages := by
  refine ⟨fun s m place land pull hr => claspMessage_stopped hr place land pull,
    fun s m place land c pull hr hrec => ⟨fun hst he => offer_pulling hr hrec ⟨hst, he⟩, offer_unanswered hr hrec⟩,
    fun s m place land pull hr hrec => ⟨offer_refused hr hrec, offer_accepted hr hrec⟩,
    fun s m c hr hsrc hc => ⟨fun hst => ⟨⟨_, accept_offered hr hsrc hst, crF_acceptTaken_state hc, ?_, ?_, ?_, ?_⟩,
      refuse_offered hr hsrc hst⟩, fun hst => ⟨accept_notOffered hr hsrc hst, refuse_notOffered hr hsrc hst⟩⟩,
    fun s m c hr hsrc => abandoned_matched hr hsrc, fun s c => ?_, fun s m c hr hsrc => ?_,
    fun s m c hr hdst => ⟨released_uncommitted hr hdst, released_rowFree hr hdst, released_rowHeld hr hdst⟩,
    fun s m c hr hside hdst => ⟨query_committed hr hside hdst, fun hst =>
      ⟨_, query_uncommitted hr hside hdst hst, mem_queryNoted _ _, queryNoted_frame _ _⟩⟩,
    fun s m hr hside hdst => query_noRecord hr hside hdst,
    fun s m hr => ⟨sourceMessage_unmatched hr, released_unmatched hr⟩, fun s m hr hsrc hrow => ?_⟩
  · rw [crF_acceptTaken_limit hc, od, od, odGet_toInbox s m (by decide) (by decide)]
  · rw [claspAux_acceptTaken, claspAux_toInbox]
  · rw [odGet_acceptTaken_accepts hc, odGet_toInbox s m (by decide) (by decide)]
  · exact acceptTaken_frame (toInbox s m) m c s.od
  · rw [sourceEnd_eq]
    exact ⟨rfl, rfl, rfl, rfl, rfl⟩
  · exact ⟨take_completes hr (learnEpoch_source hsrc), fun hside => query_fromDestination hr hside (learnEpoch_source hsrc)⟩
  · refine ⟨fun hd => ⟨take_completes hr (learnEpoch_unknown hsrc hrow hd), fun hside hnone =>
      query_fromDestination hr hside ((learnEpoch_unknown hsrc hrow hd).trans (queryNoRow_none hnone))⟩, fun hd => ?_⟩
    refine List.forall_mem_cons.2 ⟨take_completes hr (learnEpoch_departed hsrc hrow hd), ?_⟩
    split
    case isTrue hside => exact List.forall_mem_singleton.2 (query_fromDestination hr hside (learnEpoch_departed hsrc hrow hd))
    case isFalse => nofun

end Sys2Proof.Machine

/-! # MEMORY steps and refresh management (chapter 10, R210 to R213, R221, R225, R475)

A MEMORY step is `memOn`: its descriptor's read, then what its opcode runs. SCRUB, REMAP and MIGRATE are then judged by what they do with
one line, one row and one entry; the granule's move by where each byte stored in memory goes. -/

namespace Sys2Proof.Machine

/-! ## How a step is answered (R225, R227) -/

section
variable {i : Instr} {s : State} {k op : Nat} {f : Flight} {run : State → Flight → Nat → Res}

theorem memOn_unread (hf : flightOn s (memUnit k) = some f) (hop : getF f.step StepRec.OPCODE = op) (hd : (descRead s f).2.2.1 ≠ 0) :
    memOn s k (· == op) run = answer s
      (memEnd ((MemRun.start (descRead s f).1).readFailed (descRead s f).2.2.1 (descRead s f).2.2.2) k f 5 .unread) := by
  have hmine : ¬ (getF f.step StepRec.OPCODE == op) = false := by simp [hop]
  simp only [memOn, hf]
  rw [if_neg hmine, if_pos hd]

theorem memOn_read (hf : flightOn s (memUnit k) = some f) (hop : getF f.step StepRec.OPCODE = op) (hd : (descRead s f).2.2.1 = 0) :
    memOn s k (· == op) run = run (descRead s f).1 f (descRead s f).2.1 := by
  have hmine : ¬ (getF f.step StepRec.OPCODE == op) = false := by simp [hop]
  simp only [memOn, hf]
  rw [if_neg hmine, if_neg (not_not.2 hd)]

theorem execScrub_defined (hf : flightOn s (memUnit k) = some f) (hop : getF f.step StepRec.OPCODE = 1) :
    ∃ run, execScrub k s = memOn s k (· == 1) run ∧ ∀ t f d,
      let n := getF d MemDesc.SCRUB_LINES
      let l := getF d MemDesc.SCRUB_START_LINE
      let auto := getF d MemDesc.SCRUB_AUTO == 1
      (n = 0 ∨ (auto = false ∧ 2 ^ 31 < l + n) → run t f d = answer s (memEnd (MemRun.start t) k f 7 .untouched))
        ∧ (¬ (n = 0 ∨ (auto = false ∧ 2 ^ 31 < l + n)) →
          run t f d = answer s (memEnd (scrubRun n (MemRun.start t) (stepReader f) k auto l) k f 0 .done)) := by
  have hdef : ¬ (getF f.step StepRec.OPCODE = 0 ∨ 3 < getF f.step StepRec.OPCODE) := by omega
  simp only [execScrub, hf]
  rw [if_neg hdef]
  exact ⟨_, rfl, fun t f d => ⟨fun h => if_pos h, fun h => if_neg h⟩⟩

/-- The commands of the three opcodes (R225). -/
abbrev memoryCommands (k : Nat) : List (Nat × Instr) := [(1, .scrub k), (2, .remap k), (3, .migrate k)]

/-- Each of them is `memOn` over its opcode's run. -/
theorem exec_memoryCommand (hi : (op, i) ∈ memoryCommands k) (hf : flightOn s (memUnit k) = some f)
    (hop : getF f.step StepRec.OPCODE = op) : ∃ run, exec i s = memOn s k (· == op) run := by
  simp only [List.mem_cons, Prod.mk.injEq, List.not_mem_nil, or_false] at hi
  obtain ⟨rfl, rfl⟩ | ⟨rfl, rfl⟩ | ⟨rfl, rfl⟩ := hi
  · obtain ⟨run, he, -⟩ := execScrub_defined hf hop
    exact ⟨run, he⟩
  · exact ⟨_, (rfl : execRemap k s = _)⟩
  · exact ⟨_, (rfl : execMigrate k s = _)⟩

theorem memoryCommand_unread (hi : (op, i) ∈ memoryCommands k) (hf : flightOn s (memUnit k) = some f)
    (hop : getF f.step StepRec.OPCODE = op) (hd : (descRead s f).2.2.1 ≠ 0) :
    completes i s (memEnd ((MemRun.start (descRead s f).1).readFailed (descRead s f).2.2.1 (descRead s f).2.2.2) k f 5 .unread) := by
  obtain ⟨run, he⟩ := exec_memoryCommand hi hf hop
  exact he.trans (memOn_unread hf hop hd)

/-- A step of an opcode outside the table. -/
theorem scrub_undefined (hf : flightOn s (memUnit k) = some f)
    (hop : getF f.step StepRec.OPCODE = 0 ∨ 3 < getF f.step StepRec.OPCODE) :
    completes (.scrub k) s (memEnd (MemRun.start s) k f 4 .untouched) := by
  show execScrub k s = answer s _
  simp only [execScrub, hf]
  exact if_pos hop

/-- SCRUB (R210) with its descriptor read. -/
theorem scrub_read (hf : flightOn s (memUnit k) = some f) (hop : getF f.step StepRec.OPCODE = 1) (hd : (descRead s f).2.2.1 = 0) :
    let d := descRead s f
    let n := getF d.2.1 MemDesc.SCRUB_LINES
    let l := getF d.2.1 MemDesc.SCRUB_START_LINE
    let auto := getF d.2.1 MemDesc.SCRUB_AUTO == 1
    (n ≠ 0 → auto = true ∨ l + n ≤ 2 ^ 31 →
      completes (.scrub k) s (memEnd (scrubRun n (MemRun.start d.1) (stepReader f) k auto l) k f 0 .done))
      ∧ (n = 0 ∨ (auto = false ∧ 2 ^ 31 < l + n) → completes (.scrub k) s (memEnd (MemRun.start d.1) k f 7 .untouched)) := by
  intro d n l auto
  obtain ⟨run, he, hrun⟩ := execScrub_defined hf hop
  obtain ⟨hbad, hgood⟩ := hrun d.1 f d.2.1
  have hread : exec (.scrub k) s = run d.1 f d.2.1 := he.trans (memOn_read hf hop hd)
  refine ⟨fun hn hl => hread.trans (hgood ?_), fun h => hread.trans (hbad h)⟩
  rintro (h0 | ⟨hauto, hlong⟩)
  · exact hn h0
  · exact hl.elim (fun ht => Bool.noConfusion (ht.symm.trans hauto)) (Nat.not_le_of_lt hlong)

/-- REMAP (R213) with its descriptor read. -/
theorem remap_read (hf : flightOn s (memUnit k) = some f) (hop : getF f.step StepRec.OPCODE = 2) (hd : (descRead s f).2.2.1 = 0) :
    let d := descRead s f
    let q := kget d.1.mc.remapQueue k []
    let n := getF d.2.1 MemDesc.REMAP_ROWS
    let r := (q.take n).foldl (remapOne k) (MemRun.start { d.1 with mc := { d.1.mc with remapQueue := kput d.1.mc.remapQueue k (q.drop n) } })
    (n ≠ 0 → completes (.remap k) s (memEnd r k f (if r.skipped = 0 then 0 else 8) .done))
      ∧ (n = 0 → completes (.remap k) s (memEnd (MemRun.start d.1) k f 7 .untouched)) :=
  have hread : execRemap k s = _ := memOn_read hf hop hd
  ⟨fun h => hread.trans (if_neg h), fun h => hread.trans (if_pos h)⟩

/-- MIGRATE (R221, R475) with its descriptor read. -/
theorem migrate_read (hf : flightOn s (memUnit k) = some f) (hop : getF f.step StepRec.OPCODE = 3) (hd : (descRead s f).2.2.1 = 0) :
    let d := descRead s f
    let n := getF d.2.1 MemDesc.MIGRATE_ENTRIES
    let a := getF d.2.1 MemDesc.MIGRATE_ENTRY_ADDR
    let m := (List.range n).foldl (migrateOne f k a) (MemRun.start d.1, false)
    (n ≠ 0 → a % 64 = 0 → completes (.migrate k) s (memEnd m.1 k f (if m.2 then 5 else if m.1.skipped = 0 then 0 else 8) .done))
      ∧ (n = 0 ∨ a % 64 ≠ 0 → completes (.migrate k) s (memEnd (MemRun.start d.1) k f 7 .untouched)) :=
  have hread : execMigrate k s = _ := memOn_read hf hop hd
  ⟨fun hn ha => hread.trans (if_neg (not_or.2 ⟨hn, not_not.2 ha⟩)), fun h => hread.trans (if_pos h)⟩

end

/-- A MEMORY step leaves its stack's unit free, whatever it ends with. -/
@[simp] theorem flightOn_memEnd_same (r : MemRun) (k : Nat) (f : Flight) (status : Nat) (how : StepEnd) :
    flightOn (memEnd r k f status how) (memUnit k) = none := flightOn_finishStep_same _ _ _

/-! ## Bytes and line errors that an operation keeps -/

/-- Every byte and every line's errors are as they were. -/
def KeepsLines (s t : State) : Prop := t.mem = s.mem ∧ t.mc.lineErr = s.mc.lineErr

theorem KeepsLines.refl (s : State) : KeepsLines s s := ⟨rfl, rfl⟩

theorem KeepsLines.trans {s t u : State} (h : KeepsLines s t) (k : KeepsLines t u) : KeepsLines s u :=
  ⟨k.1.trans h.1, k.2.trans h.2⟩

theorem KeepsLines.ite {s t u : State} {c : Prop} [Decidable c] (h : KeepsLines s t) (k : KeepsLines s u) :
    KeepsLines s (if c then t else u) := by
  split
  · exact h
  · exact k

theorem KeepsLines.foldl {α : Type} (g : State → α → State) (h : ∀ s x, KeepsLines s (g s x)) (l : List α) (s : State) :
    KeepsLines s (l.foldl g s) := by
  induction l generalizing s with
  | nil => exact .refl s
  | cons x l ih => exact (h s x).trans (ih _)

/-- An activation counts on its bank, a correction in counters and the tracker. -/
theorem keepsLines_activate (s : State) (a : Nat) : KeepsLines s (activate s a) := ⟨rfl, rfl⟩

theorem keepsLines_odAdd (s : State) (e i n : Nat) : KeepsLines s (odAdd s e i n) := ⟨rfl, rfl⟩

theorem keepsLines_trackCorrection (s : State) (a : Nat) : KeepsLines s (trackCorrection s a) := by
  unfold trackCorrection
  exact .ite (.ite ⟨rfl, rfl⟩ ⟨rfl, rfl⟩) ⟨rfl, rfl⟩

theorem keepsLines_noteCorrected (s : State) (a : Nat) : KeepsLines s (noteCorrected s a) := by
  unfold noteCorrected
  cases lineStack s a with
  | none => exact .ite (keepsLines_trackCorrection ..) (.refl s)
  | some k => exact .ite ((keepsLines_odAdd ..).trans (keepsLines_trackCorrection ..)) (keepsLines_odAdd ..)

/-! ## One line scrubbed (R210) -/

section
variable {r : MemRun} {rd : Reader} {k line : Nat}

/-- The line of the device that a stack's line is. -/
abbrev deviceLine (k line : Nat) : Nat := stackOff k (64 * line) / 64

/-- How many symbols of it are in error. -/
abbrev symbolsInError (s : State) (k line : Nat) : Nat := kget s.mc.lineErr (deviceLine k line) 0

theorem scrubLine_clean (h : symbolsInError r.s k line = 0) :
    scrubLine r rd k line = { r with s := activate r.s (stackOff k (64 * line)), done := r.done + 1 } := if_pos h

/-- A corrected line is written back: its errors go, and only its. -/
theorem scrubLine_corrected (h1 : 1 ≤ symbolsInError r.s k line) (h4 : symbolsInError r.s k line ≤ 4) :
    ∃ t, scrubLine r rd k line = { r with s := t, done := r.done + 1, corr := r.corr + 1 }
      ∧ t.mc.lineErr = kdel r.s.mc.lineErr (deviceLine k line) := by
  have h0 : ¬ symbolsInError r.s k line = 0 := by omega
  refine ⟨_, (if_neg h0).trans (if_pos h4), ?_⟩
  exact congrArg (kdel · _) ((keepsLines_activate ..).trans (keepsLines_noteCorrected ..)).2

theorem scrubLine_uncorrectable (h : 4 < symbolsInError r.s k line) :
    ∃ t, scrubLine r rd k line = { r with s := t, done := r.done + 1, unc := r.unc + 1, fail := some (r.fail.getD (64 * line)) } := by
  have h0 : ¬ symbolsInError r.s k line = 0 := by omega
  have hfail : (if r.fail.isSome then r.fail else some (64 * line)) = some (r.fail.getD (64 * line)) := by
    cases r.fail <;> rfl
  rw [← hfail]
  exact ⟨_, (if_neg h0).trans (if_neg (Nat.not_le_of_lt h))⟩

end

/-! ## One row remapped (R213, R214) -/

/-- The entry of a stack's remap table that moves the row now. -/
abbrev rowEntry (s : State) (k row : Nat) : Option (Nat × Nat) :=
  (remapEntries s k).find? (fun p => getF p.2 RemapEnt.CHANNEL_PAIR == row / 2 ^ 23 && getF p.2 RemapEnt.BANK == row / 2 ^ 17 % 64
    && getF p.2 RemapEnt.ROW == row % 2 ^ 17)

/-- The entry that moves the row to a spare. -/
abbrev spareEntry (k row spare : Nat) : Nat :=
  mkRec [(RemapEnt.VALID, 1), (RemapEnt.STACK, k), (RemapEnt.CHANNEL_PAIR, row / 2 ^ 23), (RemapEnt.BANK, row / 2 ^ 17 % 64),
    (RemapEnt.ROW, row % 2 ^ 17), (RemapEnt.SPARE, spare)]

section
variable {s : State} {k row : Nat}

/-- No spare, or no place for a new entry: REMAP_FULL. -/
theorem remapRow_full (h : freeSpare s k (row / 2 ^ 23) (row / 2 ^ 17 % 64) = none
      ∨ (rowEntry s k row = none ∧ 65536 ≤ (remapEntries s k).length)) :
    remapRow s k row = (regionCandidate (odAdd s OD.REMAP_COUNTS (3 * k + 2) 1) k (row % 2 ^ 17 / 1024) 5, false) := by
  have hnone : (if (rowEntry s k row).isNone ∧ 65536 ≤ (remapEntries s k).length then none
      else freeSpare s k (row / 2 ^ 23) (row / 2 ^ 17 % 64)) = none := by
    split
    case isTrue => rfl
    case isFalse hroom => exact h.resolve_right fun ⟨he, hlen⟩ => hroom ⟨by simp [he], hlen⟩
  simp only [remapRow]
  rw [hnone]

variable {spare : Nat} (hspare : freeSpare s k (row / 2 ^ 23) (row / 2 ^ 17 % 64) = some spare)
include hspare

/-- A row not moved yet gets the next entry of the table. -/
theorem remapRow_first (hold : rowEntry s k row = none) (hlen : (remapEntries s k).length < 65536) :
    remapRow s k row = (odAdd (odPut (copyRow s (queuedLines k row)) OD.REMAP_TABLE (k * 65536 + (remapEntries s k).length)
      (spareEntry k row spare)) OD.REMAP_COUNTS (3 * k) 1, true) := by
  have hroom : ¬ ((rowEntry s k row).isNone ∧ 65536 ≤ (remapEntries s k).length) := fun h => by omega
  simp only [remapRow]
  rw [if_neg hroom, hspare]
  simp only [hold]
  rfl

/-- A row moved before has its spare retired and its entry names the new one. -/
theorem remapRow_again {p : Nat × Nat} (hold : rowEntry s k row = some p) :
    ∃ t, remapRow s k row = (odPut t OD.REMAP_TABLE (k * 65536 + p.1) (spareEntry k row spare), true)
      ∧ spareKey k (row / 2 ^ 23) (row / 2 ^ 17 % 64) (getF p.2 RemapEnt.SPARE) ∈ t.mc.retired := by
  have hroom : ¬ ((rowEntry s k row).isNone ∧ 65536 ≤ (remapEntries s k).length) := by simp [hold]
  simp only [remapRow]
  rw [if_neg hroom, hspare]
  simp only [hold]
  exact ⟨_, rfl, List.mem_append_right _ (List.mem_singleton_self _)⟩

end

/-! ## A granule moved (R221) -/

section
variable {α : Type}

/-- The part of a store at the `n` keys from `src` on, at the keys from `dst` on. -/
def shifted (m : KMap α) (src dst n : Nat) : KMap α :=
  (m.filter (fun c => decide (src ≤ c.1) && decide (c.1 < src + n))).map (fun c => (c.1 - src + dst, c.2))

/-- The part moved keeps the order of the keys. -/
theorem kwf_shifted {m : KMap α} (h : kwf m = true) (src dst n : Nat) : kwf (shifted m src dst n) = true := by
  have hw := kwf_filter m (fun c => decide (src ≤ c.1) && decide (c.1 < src + n)) h
  rw [kwf_iff] at hw ⊢
  refine List.pairwise_map.2 (hw.imp_of_mem fun ha hb hlt => ?_)
  simp only [List.mem_filter, Bool.and_eq_true, decide_eq_true_eq] at ha hb
  simp only
  omega

theorem kfind_shifted (m : KMap α) (src dst : Nat) {n i : Nat} (hi : i < n) :
    kfind (shifted m src dst n) (dst + i) = kfind m (src + i) := by
  unfold kfind shifted
  rw [List.find?_map, Option.map_map, List.find?_filter]
  refine congrArg (fun p => (m.find? p).map Prod.snd) (funext fun c => ?_)
  rw [Bool.eq_iff_iff]
  simp only [Function.comp_apply, Bool.and_eq_true, decide_eq_true_eq, beq_iff_eq]
  omega

theorem kfind_shifted_out (m : KMap α) (src : Nat) {dst n a : Nat} (ha : a < dst ∨ dst + n ≤ a) : kfind (shifted m src dst n) a = none := by
  rw [kfind, Option.map_eq_none_iff, List.find?_eq_none]
  intro c hc
  obtain ⟨b, hb, rfl⟩ := List.mem_map.1 hc
  simp only [List.mem_filter, Bool.and_eq_true, decide_eq_true_eq] at hb
  simp only [beq_iff_eq]
  omega

theorem kfind_kerase_in (m : KMap α) {a n j : Nat} (h : a ≤ j ∧ j < a + n) : kfind (kerase m a n) j = none := by
  unfold kfind kerase
  rw [kfind_filter_none m j (fun x => decide (x < a) || decide (a + n ≤ x)) (by simp; omega)]
  rfl

theorem kfind_kerase_out (m : KMap α) {a n j : Nat} (h : j < a ∨ a + n ≤ j) : kfind (kerase m a n) j = kfind m j := by
  unfold kfind kerase
  rw [kfind_filter m j (fun x => decide (x < a) || decide (a + n ≤ x)) (by simpa using h)]

end

/-- Cells of rising addresses stored one after another: each reads back, and the others are as they were. -/
theorem kget_foldl_cellsSet {l : List Host.Cell} (h : kwf l = true) (m : List Host.Cell) (a : Nat) :
    kget (l.foldl (fun m c => cellsSet m c.1 c.2) m) a memDefault = (kfind l a).getD (kget m a memDefault) := by
  induction l generalizing m with
  | nil => rfl
  | cons c l ih =>
    obtain ⟨hlt, hl⟩ := (kwf_cons c l).1 h
    rw [List.foldl_cons, ih hl]
    obtain rfl | hne := eq_or_ne a c.1
    · have hnone : kfind l c.1 = none :=
        Option.map_eq_none_iff.2 (List.find?_eq_none.2 fun q hq => by simpa using (hlt q hq).ne')
      have hhead : kfind (c :: l) c.1 = some c.2 := by simp [kfind]
      rw [hnone, hhead]
      exact kget_kputD_same ..
    · have hcons : kfind (c :: l) a = kfind l a := by simp [kfind, hne.symm]
      rw [hcons, cellsSet, kget_kputD_ne _ _ _ _ _ _ hne]

/-- A granule's cells moved. -/
def movedCells (m : List Host.Cell) (src dst : Nat) : List Host.Cell :=
  (shifted m src dst 65536).foldl (fun m c => cellsSet m c.1 c.2) (kerase m dst 65536)

/-- The errors of its lines that the outer code does not correct, moved raw. -/
def movedErrors (errs : KMap Nat) (src dst : Nat) : KMap Nat :=
  ((errs.filter (fun c => decide (src ≤ 64 * c.1) && decide (64 * c.1 < src + 65536) && decide (4 < c.2))).map
    (fun c => (c.1 - src / 64 + dst / 64, c.2))).foldl (fun m c => kput m c.1 c.2) (kerase errs (dst / 64) 1024)

/-- A move first activates rows and counts corrections, then stores the cells and the errors. -/
theorem moveGranule_stores (s : State) (src dst : Nat) : ∃ t, KeepsLines s t ∧ moveGranule s src dst =
    { t with mem := movedCells t.mem src dst, mc := { t.mc with lineErr := movedErrors t.mc.lineErr src dst } } :=
  ⟨_, (KeepsLines.foldl _ (fun t l => keepsLines_activate t (64 * l)) _ s).trans
    (KeepsLines.foldl _ (fun t l => .ite (keepsLines_noteCorrected t (64 * l)) (.refl t)) _ _), rfl⟩

theorem moveGranule_mem (s : State) (src dst : Nat) : (moveGranule s src dst).mem = movedCells s.mem src dst := by
  obtain ⟨t, ⟨hmem, -⟩, he⟩ := moveGranule_stores s src dst
  rw [he, ← hmem]

/-- Where no line is in error none is after a move. -/
theorem moveGranule_lineErr {s : State} (h : s.mc.lineErr = []) (src dst : Nat) : (moveGranule s src dst).mc.lineErr = [] := by
  obtain ⟨t, ⟨-, herr⟩, he⟩ := moveGranule_stores s src dst
  rw [he]
  show movedErrors t.mc.lineErr src dst = []
  rw [herr, h]
  rfl

theorem memByte_moveGranule {s : State} (hwf : Memory.wf s.mem = true) (src dst a : Nat) :
    memByte (moveGranule s src dst) a = (kfind (shifted s.mem src dst 65536) a).getD (kget (kerase s.mem dst 65536) a memDefault) := by
  rw [memByte, moveGranule_mem]
  exact kget_foldl_cellsSet (kwf_shifted (Bool.and_eq_true_iff.1 hwf).1 ..) ..

/-- The destination reads as the source did. -/
theorem memByte_moveGranule_in {s : State} (hwf : Memory.wf s.mem = true) (src dst : Nat) {i : Nat} (hi : i < 65536) :
    memByte (moveGranule s src dst) (dst + i) = memByte s (src + i) := by
  have herased : kfind (kerase s.mem dst 65536) (dst + i) = none := kfind_kerase_in _ (by omega)
  rw [memByte_moveGranule hwf, kfind_shifted _ _ _ hi, kget, herased]
  rfl

/-- Every other byte is as it was. -/
theorem memByte_moveGranule_out {s : State} (hwf : Memory.wf s.mem = true) (src : Nat) {dst a : Nat}
    (ha : a < dst ∨ dst + 65536 ≤ a) : memByte (moveGranule s src dst) a = memByte s a := by
  rw [memByte_moveGranule hwf, kfind_shifted_out _ _ ha, kget, kfind_kerase_out _ ha]
  rfl

/-! ## One migrate entry (R220, R221) -/

section
variable {s : State} {k e : Nat}

/-- The entry's frame is none of the tier, or its granule none of the stack. -/
theorem migrateEntry_outside (h : od s OD.TIER_FRAMES ≤ getF e MemDesc.E_FRAME ∨ getF e MemDesc.E_GRANULE / 2 ^ 21 ≠ k) :
    migrateEntry s k e = (s, 1) := if_pos h

variable (hframe : getF e MemDesc.E_FRAME < od s OD.TIER_FRAMES) (hstack : getF e MemDesc.E_GRANULE / 2 ^ 21 = k)
include hframe hstack

theorem migrateEntry_not_outside : ¬ (od s OD.TIER_FRAMES ≤ getF e MemDesc.E_FRAME ∨ getF e MemDesc.E_GRANULE / 2 ^ 21 ≠ k) := by
  omega

theorem migrateEntry_excluded (h : granuleExcluded s (getF e MemDesc.E_GRANULE) = true) : migrateEntry s k e = (s, 2) :=
  (if_neg (migrateEntry_not_outside hframe hstack)).trans (if_pos h)

variable (hfree : granuleExcluded s (getF e MemDesc.E_GRANULE) = false)
include hfree

/-- A granule taken into the tier, where it is not in it and its frame holds none. -/
theorem migrateEntry_in (hdir : getF e MemDesc.E_DIR = 0) :
    let f := getF e MemDesc.E_FRAME
    let g := getF e MemDesc.E_GRANULE
    let x := migrateEntry s k e
    ((tierFrame s g).isSome = true → x = (s, 4))
      ∧ (tierFrame s g = none → odGet s OD.GRANULE_MAP f / 2 ^ 31 = 1 → x = (s, 3))
      ∧ (tierFrame s g = none → odGet s OD.GRANULE_MAP f / 2 ^ 31 ≠ 1 →
        x = (odInc (odPut (moveGranule s (g * 65536) (commonsBase + f * 65536)) OD.GRANULE_MAP f (2 ^ 31 + g)) OD.MIGRATIONS, 0)) := by
  intro f g x
  have hx : x = _ := (if_neg (migrateEntry_not_outside hframe hstack)).trans ((if_neg (ne_true_of_eq_false hfree)).trans (if_pos hdir))
  have hout (h : tierFrame s g = none) : ¬ (tierFrame s g).isSome = true := by simp [h]
  exact ⟨fun h => hx.trans (if_pos h), fun h hheld => hx.trans ((if_neg (hout h)).trans (if_pos hheld)),
    fun h hheld => hx.trans ((if_neg (hout h)).trans (if_neg hheld))⟩

/-- A granule moved back to its home, where its frame holds it. -/
theorem migrateEntry_back (hdir : getF e MemDesc.E_DIR ≠ 0) :
    let f := getF e MemDesc.E_FRAME
    let g := getF e MemDesc.E_GRANULE
    let x := migrateEntry s k e
    (odGet s OD.GRANULE_MAP f ≠ 2 ^ 31 + g → x = (s, 5))
      ∧ (odGet s OD.GRANULE_MAP f = 2 ^ 31 + g →
        x = (odInc (odPut (moveGranule s (commonsBase + f * 65536) (g * 65536)) OD.GRANULE_MAP f 0) OD.MIGRATIONS, 0)) := by
  intro f g x
  have hx : x = _ := (if_neg (migrateEntry_not_outside hframe hstack)).trans ((if_neg (ne_true_of_eq_false hfree)).trans (if_neg hdir))
  exact ⟨fun h => hx.trans (if_pos h), fun h => hx.trans (if_neg (not_not.2 h))⟩

end

/-! ## Refresh management (R211) -/

/-- The state after a bank at the threshold is refreshed: it counts from 0 again, and the refresh is counted. -/
def refreshed (s : State) (k bank : Nat) : State :=
  odAdd { s with mc := { s.mc with acts := kput s.mc.acts (k * 512 + bank) 0 } } OD.RFM_ISSUED k 1

section
variable {s : State} {k bank : Nat}

theorem refreshManagement_due (h : od s OD.ACT_THRESHOLD ≤ kget s.mc.acts (k * 512 + bank) 0) :
    completes (.refreshManagement k bank) s (refreshed s k bank) := congrArg (answer s) (if_pos h)

theorem refreshManagement_early (h : kget s.mc.acts (k * 512 + bank) 0 < od s OD.ACT_THRESHOLD) :
    completes (.refreshManagement k bank) s s := congrArg (answer s) (if_neg (Nat.not_le_of_lt h))

end

/-- Settles O36: the steps by how each is answered, then what each does with one line, one row, one granule, one entry and one bank. -/
theorem memorySteps : Obligations.MemorySteps := by
  refine ⟨fun s k f hf hop => ⟨fun hd => (scrub_read hf hop hd).1, fun hd => (scrub_read hf hop hd).2⟩, ?_, ?_, flightOn_memEnd_same, ?_,
    fun s src dst hwf herr => ⟨fun i => memByte_moveGranule_in hwf src dst, fun a => memByte_moveGranule_out hwf src,
      moveGranule_lineErr herr src dst⟩,
    fun s k e => ⟨migrateEntry_outside, migrateEntry_excluded, migrateEntry_in, migrateEntry_back⟩, ?_,
    fun s k bank => refreshManagement_early⟩
  · intro r rd k line
    refine ⟨fun h => ?_, fun h1 h4 => ?_, fun h => ?_⟩
    · rw [scrubLine_clean h]
      exact ⟨rfl, (keepsLines_activate ..).2⟩
    · obtain ⟨t, he, herr⟩ := scrubLine_corrected (rd := rd) h1 h4
      rw [he]
      refine ⟨rfl, rfl, rfl, ?_, fun i hi => ?_⟩
      · rw [herr, kget, kfind_kdel_same]
        rfl
      · rw [herr, kget, kfind_kdel_ne _ _ _ hi]
        rfl
    · obtain ⟨t, he⟩ := scrubLine_uncorrectable (rd := rd) h
      rw [he]
      exact ⟨rfl, rfl, rfl, rfl⟩
  · intro s k f hf
    exact ⟨fun hop hd => (remap_read hf hop hd).1, fun hop hd => (migrate_read hf hop hd).1, fun hop hd => (remap_read hf hop hd).2,
      fun hop hd => (migrate_read hf hop hd).2, scrub_undefined hf, fun hd p hp hop => memoryCommand_unread hp hf hop hd⟩
  · intro s k row
    refine ⟨remapRow_full, fun x => remapRow_first, fun x p hspare hold => ?_⟩
    obtain ⟨t, he, hret⟩ := remapRow_again hspare hold
    exact ⟨_, he, by rwa [odPut_mc], odGet_odPut_same ..⟩
  · intro s k bank _ h
    exact ⟨_, refreshManagement_due h, kget_kput_same .., fun i hi => kget_kput_ne _ _ _ _ _ hi, odGet_odAdd_same .., rfl, rfl⟩

end Sys2Proof.Machine

/-! # How a link changes state (chapter 11, R231 to R233, R238, R247)

A link's command is a guard and then one of a few moves: the link trains, becomes ACTIVE, recovers, is fenced, or ends. Each move has its
rules: the state and the record of the link after it, and the entries of the dictionary it leaves. What a link discards as it leaves ACTIVE
can take the device out of the coherent domain; `linkDiscard_cases` says so once. -/

namespace Sys2Proof.Machine

/-! ## Entries that are left as they were -/

/-- Every entry of the dictionary outside `es` reads in `t` as it does in `s`. -/
def KeepsEntries (es : List Nat) (s t : State) : Prop := ∀ e ∉ es, ∀ i < 2 ^ 24, odGet t e i = odGet s e i

section
variable {es : List Nat} {s t u : State}

theorem odGet_of_od (h : t.od = s.od) (e i : Nat) : odGet t e i = odGet s e i := by rw [odGet, odGet, h]

theorem KeepsEntries.of_od (h : t.od = s.od) : KeepsEntries es s t := fun e _ i _ => odGet_of_od h e i

theorem KeepsEntries.trans (h : KeepsEntries es s t) (k : KeepsEntries es t u) : KeepsEntries es s u :=
  fun e he i hi => (k e he i hi).trans (h e he i hi)

theorem KeepsEntries.mono {fs : List Nat} (h : KeepsEntries es s t) (hs : es ⊆ fs) : KeepsEntries fs s t :=
  fun e he => h e fun hm => he (hs hm)

theorem KeepsEntries.ite {c : Prop} [Decidable c] (h : KeepsEntries es s t) (k : KeepsEntries es s u) :
    KeepsEntries es s (if c then t else u) := by
  split
  · exact h
  · exact k

theorem KeepsEntries.foldl {α : Type} (f : State → α → State) (h : ∀ s x, KeepsEntries es s (f s x)) (l : List α) (s : State) :
    KeepsEntries es s (l.foldl f s) := by
  induction l generalizing s with
  | nil => exact .of_od rfl
  | cons x l ih => exact (h s x).trans (ih _)

end

section
variable {es : List Nat} {e : Nat} (s : State) (he : e ∈ es)
include he

theorem keepsEntries_odPut {i : Nat} (hi : i < 2 ^ 24) (v : Nat) : KeepsEntries es s (odPut s e i v) :=
  fun _ he' _ hi' => odGet_odPut_entry s e i v _ _ (fun h => he' (h ▸ he)) hi hi'

theorem keepsEntries_odAdd {i : Nat} (hi : i < 2 ^ 24) (n : Nat) : KeepsEntries es s (odAdd s e i n) := keepsEntries_odPut s he hi _

theorem keepsEntries_odPuts {i : Nat} (vs : List Nat) (h : i + vs.length ≤ 2 ^ 24) : KeepsEntries es s (odPuts s e i vs) := by
  induction vs using List.reverseRecOn with
  | nil => exact .of_od rfl
  | append_singleton vs v ih =>
    rw [List.length_append, List.length_singleton] at h
    rw [odPuts_concat]
    exact (ih (by omega)).trans (keepsEntries_odPut _ he (by omega) v)

/-- A ring's places are elements of its entry. -/
theorem keepsEntries_ringPush {r : OdRow} (hr : odFind e = some r) (hpos : 0 < r.cnt) (hcnt : r.cnt ≤ 2 ^ 24) (w : Nat) :
    KeepsEntries es s (ringPush s e w) := by
  have hput : (ringPush s e w).od = (odPut s e (kget s.rings e 0 % r.cnt) w).od := by rw [ringPush, hr]
  exact (keepsEntries_odPut s he ((Nat.mod_lt _ hpos).trans_le hcnt) w).trans (.of_od hput)

end

theorem keepsEntries_alert {es : List Nat} (he : OD.ALERT_CAUSES ∈ es) (s : State) (b : Nat) : KeepsEntries es s (alert s b) :=
  fun _ he' _ hi => alert_od_ne s b _ _ (fun h => he' (h ▸ he)) hi

/-! ## The record of a link -/

@[simp] theorem lnk_setLnk_same (s : State) (l : Nat) (x : LinkSt) : lnk (setLnk s l x) l = x := kget_kput_same _ _ _ _

theorem lnk_setLnk_ne (s : State) {l k : Nat} (x : LinkSt) (h : k ≠ l) : lnk (setLnk s l x) k = lnk s k := kget_kput_ne _ _ _ _ _ h

theorem lnk_of_net {s t : State} (h : t.net = s.net) (l : Nat) : lnk t l = lnk s l := by rw [lnk, lnk, h]

/-! An element stored and a record replaced, seen beside the entries and the links. These are stated for every entry, so that no table of
entries is searched to check them. -/

theorem odPut_frame (s : State) (e i v : Nat) (o : KMap Nat) (net : NetSt) :
    { odPut s e i v with od := o, net := net } = { s with od := o, net := net } := rfl

theorem setLnk_frame (s : State) (l : Nat) (x : LinkSt) (o : KMap Nat) (net : NetSt) :
    { setLnk s l x with od := o, net := net } = { s with od := o, net := net } := rfl

theorem setLnk_odPut_frame (s : State) (e i v l : Nat) (x : LinkSt) (o : KMap Nat) :
    { setLnk (odPut s e i v) l x with od := o } = { setLnk s l x with od := o } := rfl

/-! ## A fence recorded (R428, R431) -/

/-- The entries a fence record is written in. -/
def fenceEntries : List Nat := [OD.FENCE_RING, OD.TELEMETRY_RING, OD.ALERT_CAUSES]

theorem keepsEntries_telemetryOf {es : List Nat} (he : OD.TELEMETRY_RING ∈ es) (s : State) (frame source : Nat) (words : List Nat) :
    KeepsEntries es s (telemetryOf s frame source words) := by
  have hring : odFind OD.TELEMETRY_RING = some ⟨OD.TELEMETRY_RING, 8, 0, 8, 524288, 0⟩ := by decide +kernel
  exact .ite (.foldl _ (fun t w => keepsEntries_ringPush t he hring (by decide) (by decide) w) _ _) (.of_od rfl)

theorem keepsEntries_fenceRecord (s : State) (kind index cause : Nat) : KeepsEntries fenceEntries s (fenceRecord s kind index cause) := by
  have hring : odFind OD.FENCE_RING = some ⟨OD.FENCE_RING, 8, 0, 16, 1024, 0⟩ := by decide +kernel
  exact ((keepsEntries_ringPush s (by decide) hring (by decide) (by decide) _).trans
    (keepsEntries_telemetryOf (by decide) _ _ _ _)).trans (keepsEntries_alert (by decide) _ _)

@[simp] theorem fenceRecord_net (s : State) (kind index cause : Nat) : (fenceRecord s kind index cause).net = s.net := by
  rw [fenceRecord, alert_eq, telemetry_ringPush_eq]

theorem lnk_fenceRecord (s : State) (kind index cause l : Nat) : lnk (fenceRecord s kind index cause) l = lnk s l :=
  lnk_of_net (fenceRecord_net ..) l

/-! ## Leaving the coherent domain (R297) -/

theorem sendMgmtSlot_changes (s : State) (mkind k frame : Nat) (payload : List Byte) :
    ∃ c q, sendMgmtSlot s mkind k frame payload = { s with freeCtr := c, txq := q } := by
  unfold sendMgmtSlot destDevice
  split <;> exact ⟨_, _, rfl⟩

/-- The members told that the domain is down: messages wait, nothing else changes. -/
theorem domainNotices_changes (s : State) (l : List Nat) :
    ∃ c q, l.foldl (fun t k => sendMgmtSlot t 6 k (frameNo t) (leBytes 8 (od t OD.COH_EPOCH))) s = { s with freeCtr := c, txq := q } := by
  refine List.foldlRecOn (motive := fun t => ∃ c q, t = { s with freeCtr := c, txq := q }) _ _ ?_ ?_
  · exact ⟨s.freeCtr, s.txq, rfl⟩
  · rintro t ⟨c, q, rfl⟩ k -
    exact sendMgmtSlot_changes { s with freeCtr := c, txq := q } ..

/-- The entries that leaving the coherent domain changes. -/
def domainEntries : List Nat := [OD.COH_STATE, OD.COH_COUNTS, OD.ALERT_CAUSES]

/-- A device that leaves the domain counts it and raises an alert; what else changes is no entry, no link and not the clock. -/
theorem cohDown_cases (s : State) : cohDown s = s ∨ ∃ u, cohDown s = alert u 1
    ∧ u.od = (odAdd (odSet s OD.COH_STATE 1) OD.COH_COUNTS 5 1).od ∧ u.net = s.net ∧ u.clk = s.clk := by
  unfold cohDown
  split
  · exact .inl rfl
  · extract_lets s1 s2 ended fab s3
    obtain ⟨c, q, h⟩ : ∃ c q, s2 = { s1 with freeCtr := c, txq := q } := domainNotices_changes s1 _
    exact .inr ⟨s3, rfl, (congrArg State.od h :), (congrArg State.net h :), (congrArg State.clk h :)⟩

theorem keepsEntries_cohDown (s : State) : KeepsEntries domainEntries s (cohDown s) := by
  obtain h | ⟨u, h, hod, -, -⟩ := cohDown_cases s
  · rw [h]
    exact .of_od rfl
  · rw [h]
    have hcount : KeepsEntries domainEntries s (odAdd (odSet s OD.COH_STATE 1) OD.COH_COUNTS 5 1) :=
      (keepsEntries_odPut s (by decide) (by decide) 1).trans (keepsEntries_odAdd _ (by decide) (by decide) 1)
    exact (hcount.trans (.of_od hod)).trans (keepsEntries_alert (by decide) u 1)

@[simp] theorem cohDown_net (s : State) : (cohDown s).net = s.net := by
  obtain h | ⟨u, h, -, hnet, -⟩ := cohDown_cases s
  · rw [h]
  · rw [h, alert_eq, hnet]

@[simp] theorem cohDown_clk (s : State) : (cohDown s).clk = s.clk := by
  obtain h | ⟨u, h, -, -, hclk⟩ := cohDown_cases s
  · rw [h]
  · rw [h, alert_eq, hclk]

/-! ## What a link discards as it leaves ACTIVE (R238, R246, R247) -/

/-- Buffers given up change the links alone. -/
theorem freeFlitsAll_changes (s : State) (l : Nat) (ps : List (Nat × List Flit)) :
    ∃ net, ps.foldl (fun t p => freeFlits t l p.1 p.2.length) s = { s with net := net } := by
  refine List.foldlRecOn (motive := fun t => ∃ net, t = { s with net := net }) _ _ ?_ ?_
  · exact ⟨s.net, rfl⟩
  · rintro t ⟨net, rfl⟩ p -
    exact ⟨_, freeFlits_eq _ _ _ _⟩

/-- The link's record is cleared and the incomplete encrypted chunks are counted; the device may then leave the coherent domain. -/
theorem linkDiscard_cases (s : State) (l : Nat) : ∃ n u,
    (linkDiscard s l = u ∨ linkDiscard s l = cohDown u)
    ∧ (lnk u l).replay = [] ∧ u.od = (odAdd s OD.DECRYPT_FAILS 2 n).od ∧ u.clk = s.clk := by
  unfold linkDiscard
  extract_lets x enc sent vc2 s1 net1 s2 s3 s4 x4 s5
  obtain ⟨net, h3⟩ : ∃ net, s3 = { s2 with net := net } := freeFlitsAll_changes s2 l x.asm
  have h4 : s4 = { s3 with net := s4.net } := freeFlits_eq _ _ _ _
  refine ⟨enc, s5, ?_, congrArg (·.replay) (lnk_setLnk_same s4 l _), ?_, ?_⟩
  · split
    · exact .inr rfl
    · exact .inl rfl
  · have hod : s4.od = s3.od := congrArg (·.od) h4
    have hod3 : s3.od = s2.od := congrArg (·.od) h3
    exact hod.trans hod3
  · have hclk : s4.clk = s3.clk := congrArg (·.clk) h4
    have hclk3 : s3.clk = s2.clk := congrArg (·.clk) h3
    exact hclk.trans hclk3

theorem linkDiscard_replay (s : State) (l : Nat) : (lnk (linkDiscard s l) l).replay = [] := by
  obtain ⟨n, u, hd | hd, hr, -⟩ := linkDiscard_cases s l
  · rwa [hd]
  · rwa [hd, lnk, cohDown_net]

@[simp] theorem linkDiscard_clk (s : State) (l : Nat) : (linkDiscard s l).clk = s.clk := by
  obtain ⟨n, u, hd | hd, -, -, hclk⟩ := linkDiscard_cases s l
  · rwa [hd]
  · rwa [hd, cohDown_clk]

/-- The entries that a link's discard can change. -/
def discardEntries : List Nat := OD.DECRYPT_FAILS :: domainEntries

theorem keepsEntries_linkDiscard (s : State) (l : Nat) : KeepsEntries discardEntries s (linkDiscard s l) := by
  obtain ⟨n, u, hd, -, hod, -⟩ := linkDiscard_cases s l
  have hcount : KeepsEntries discardEntries s u := (keepsEntries_odAdd s (by decide) (by decide) n).trans (.of_od hod)
  obtain hd | hd := hd
  · rwa [hd]
  · rw [hd]
    exact hcount.trans ((keepsEntries_cohDown u).mono (List.subset_cons_self _ _))

/-! ## The moves of a link -/

/-! A link recovers. -/

@[simp] theorem linkState_linkRecover (s : State) (l : Nat) : linkState (linkRecover s l) l = 3 :=
  odGet_odPut_same (linkDiscard s l) OD.LINK_STATE l 3

theorem lnk_linkRecover (s : State) (l : Nat) :
    lnk (linkRecover s l) l = { lnk (linkDiscard s l) l with since := s.clk } := by
  rw [linkRecover, lnk_setLnk_same, linkDiscard_clk]

/-! A link is fenced. -/

@[simp] theorem linkState_linkFence (s : State) {l : Nat} (hl : l < 64) : linkState (linkFence s l) l = 5 :=
  (keepsEntries_fenceRecord _ 3 l 8 _ (by decide) l (by omega)).trans (odGet_odPut_same _ _ _ _)

theorem linkFence_replay (s : State) (l : Nat) : (lnk (linkFence s l) l).replay = [] := by
  rw [linkFence, lnk_fenceRecord]
  exact linkDiscard_replay s l

/-- The entries that a link's fence can change. -/
def linkFenceEntries : List Nat := OD.LINK_STATE :: (discardEntries ++ fenceEntries)

theorem keepsEntries_linkFence (s : State) {l : Nat} (hl : l < 64) : KeepsEntries linkFenceEntries s (linkFence s l) :=
  (((keepsEntries_linkDiscard s l).mono (by decide)).trans (keepsEntries_odPut _ (by decide) (by omega) 5)).trans
    ((keepsEntries_fenceRecord _ _ _ _).mono (by decide))

/-! A training attempt starts. -/

@[simp] theorem linkState_linkTrain (s : State) (l n : Nat) : linkState (linkTrain s l n) l = 1 :=
  odGet_odPut_same _ OD.LINK_STATE l 1

@[simp] theorem lnk_linkTrain (s : State) (l n : Nat) :
    lnk (linkTrain s l n) l = { lnk s l with attempts := n, since := s.clk, tooLong := false } := lnk_setLnk_same _ _ _

theorem linkTrain_out (s : State) (l n : Nat) : (linkTrain s l n).out = s.out ++ [⟨17, l, trainingRecord s l⟩] := rfl

theorem linkTrain_frame (s : State) (l n : Nat) (o : KMap Nat) (out : List HostOut) :
    { linkTrain s l n with od := o, net := s.net, out := out } = { s with od := o, out := out } := rfl

theorem keepsEntries_linkTrain (s : State) {l : Nat} (hl : l < 64) (n : Nat) : KeepsEntries [OD.LINK_STATE] s (linkTrain s l n) :=
  (keepsEntries_odPut s (List.mem_singleton_self OD.LINK_STATE) (by omega : l < 2 ^ 24) 1).trans (.of_od rfl)

/-! A link becomes ACTIVE (R231, R235). -/

/-- Link `l` ACTIVE with record `x`, its credits shown and its buffers reported. -/
def linkActivated (s : State) (l : Nat) (x : LinkSt) : State := creditReport (creditView (setLnk (odPut s OD.LINK_STATE l 2) l x) l) l

/-- Groups of elements stored change the dictionary alone. -/
theorem odPutsAll_changes {α : Type} (s : State) (e : Nat) (i : α → Nat) (vs : α → List Nat) (l : List α) :
    ∃ o, l.foldl (fun t a => odPuts t e (i a) (vs a)) s = { s with od := o } := by
  refine List.foldlRecOn (motive := fun t => ∃ o, t = { s with od := o }) _ _ ?_ ?_
  · exact ⟨s.od, rfl⟩
  · rintro t ⟨o, rfl⟩ a -
    exact ⟨_, odPuts_eq _ _ _ _⟩

theorem creditReport_od (s : State) (l : Nat) : (creditReport s l).od = s.od := rfl

theorem creditView_changes (s : State) (l : Nat) : ∃ o, creditView s l = { s with od := o } := odPutsAll_changes s OD.CREDIT_STATE _ _ _

theorem keepsEntries_creditView (s : State) {l : Nat} (hl : l < 64) : KeepsEntries [OD.CREDIT_STATE] s (creditView s l) := by
  unfold creditView
  refine List.foldlRecOn (motive := KeepsEntries [OD.CREDIT_STATE] s) _ _ (.of_od rfl) fun t ht v hv => ht.trans ?_
  have hv3 : v < 3 := List.mem_range.1 hv
  exact keepsEntries_odPuts t (List.mem_singleton_self _) _ (by simp only [List.length_cons, List.length_nil]; omega)

section
variable (s : State) {l : Nat} (x : LinkSt)

theorem linkActivated_changes : ∃ o, linkActivated s l x = { setLnk s l x with
    od := o, out := s.out ++ [⟨18, l, (x.occ ++ x.freed).flatMap (leBytes 2)⟩] } := by
  obtain ⟨o, ho⟩ := creditView_changes (setLnk (odPut s OD.LINK_STATE l 2) l x) l
  have hlnk : lnk { setLnk s l x with od := o } l = x := lnk_setLnk_same s l x
  have hview : creditView (setLnk (odPut s OD.LINK_STATE l 2) l x) l = { setLnk s l x with od := o } := ho.trans (setLnk_odPut_frame ..)
  refine ⟨o, ?_⟩
  rw [linkActivated, hview, creditReport, hlnk]
  rfl

theorem linkActivated_out : (linkActivated s l x).out = s.out ++ [⟨18, l, (x.occ ++ x.freed).flatMap (leBytes 2)⟩] := by
  obtain ⟨o, ho⟩ := linkActivated_changes s (l := l) x
  rw [ho]

theorem linkActivated_frame (o : KMap Nat) (net : NetSt) (out : List HostOut) :
    { linkActivated s l x with od := o, net := net, out := out } = { s with od := o, net := net, out := out } := by
  obtain ⟨_, ho⟩ := linkActivated_changes s (l := l) x
  rw [ho]
  rfl

theorem lnk_linkActivated : lnk (linkActivated s l x) l = x := by
  obtain ⟨o, ho⟩ := linkActivated_changes s (l := l) x
  rw [ho]
  exact lnk_setLnk_same s l x

variable (hl : l < 64)
include hl

theorem linkState_linkActivated : linkState (linkActivated s l x) l = 2 := by
  have hview := keepsEntries_creditView (setLnk (odPut s OD.LINK_STATE l 2) l x) hl OD.LINK_STATE (by decide) l (by omega)
  rw [linkState, linkActivated, odGet_of_od (creditReport_od _ _), hview, odGet_of_od (setLnk_od _ _ _), odGet_odPut_same]

theorem keepsEntries_linkActivated : KeepsEntries [OD.LINK_STATE, OD.CREDIT_STATE] s (linkActivated s l x) := by
  have hput : KeepsEntries [OD.LINK_STATE, OD.CREDIT_STATE] s (odPut s OD.LINK_STATE l 2) :=
    keepsEntries_odPut s (List.mem_cons_self) (by omega) 2
  have hview := (keepsEntries_creditView (setLnk (odPut s OD.LINK_STATE l 2) l x) hl).mono (List.subset_cons_self OD.LINK_STATE _)
  exact ((hput.trans (.of_od (setLnk_od _ l x))).trans hview).trans (.of_od (creditReport_od _ _))

end

/-! ## LINK_ENABLE_SET and LINK_ENABLE_CLEAR (R231) -/

/-- The bit of link `l` in LINK_ENABLE set to `b`. -/
def linkBit (s : State) (l : Nat) (b : Bool) : State := odSet s OD.LINK_ENABLE (setBit (od s OD.LINK_ENABLE) l b)

theorem bitOf_linkBit (s : State) (l : Nat) (b : Bool) : bitOf (od (linkBit s l b) OD.LINK_ENABLE) l = b := by
  rw [linkBit, od, odGet_odPut_same, bitOf_setBit_same]

section
variable {s : State} {l : Nat} (hl : l < 64) (hst : inConfig s = true ∨ inRun s = true)
include hl hst

theorem linkEnableSet_disabled (h : linkState s l = 0) : completes (.linkEnableSet l) s (linkTrain (linkBit s l true) l 0) :=
  congrArg (answer s) ((if_pos ⟨hl, by simpa using hst⟩).trans (if_pos h))

theorem linkEnableSet_other (h : linkState s l ≠ 0) : completes (.linkEnableSet l) s (linkBit s l true) :=
  congrArg (answer s) ((if_pos ⟨hl, by simpa using hst⟩).trans (if_neg h))

end

theorem linkEnableSet_outside {s : State} (l : Nat) (hc : inConfig s = false) (hr : inRun s = false) : completes (.linkEnableSet l) s s :=
  congrArg (answer s) (if_neg (by simp [hc, hr]))

/-- The bit of a link that trains stands. -/
theorem bitOf_linkEnable_linkTrain (s : State) {l : Nat} (hl : l < 64) (n : Nat) :
    bitOf (od (linkTrain (linkBit s l true) l n) OD.LINK_ENABLE) l = true := by
  rw [od, keepsEntries_linkTrain _ hl n OD.LINK_ENABLE (by decide) 0 (by decide), bitOf_linkBit]

/-- Flits of VC0 lost are noted for the end of the frame, not in the dictionary. -/
theorem vc0_od (s : State) (l n : Nat) (fs : List Flit) : (vc0Report (vc0Lose s l n) fs).od = s.od := rfl

/-- What a link that ends keeps: what it delivered and no command has taken. -/
def linkEnded (x : LinkSt) : LinkSt := { LinkSt.reset with occ := x.occ, freed := x.freed, staging := x.staging }

@[simp] theorem linkState_linkDisable (s : State) (l : Nat) : linkState (linkDisable s l) l = 0 :=
  (odGet_of_od (setLnk_od _ _ _) _ _).trans (odGet_odPut_same _ _ _ _)

theorem lnk_linkDisable (s : State) (l : Nat) : lnk (linkDisable s l) l = linkEnded (lnk (linkDiscard (linkBit s l false) l) l) :=
  lnk_setLnk_same _ _ _

theorem bitOf_linkEnable_linkDisable (s : State) {l : Nat} (hl : l < 64) : bitOf (od (linkDisable s l) OD.LINK_ENABLE) l = false := by
  have hdiscard := keepsEntries_linkDiscard (linkBit s l false) l OD.LINK_ENABLE (by decide) 0 (by decide)
  rw [linkDisable, od, odGet_of_od (setLnk_od _ _ _), odGet_odPut_entry _ _ _ _ _ _ (by decide) (by omega) (by decide),
    odGet_of_od (vc0_od _ _ _ _)]
  exact (congrArg (bitOf · l) hdiscard).trans (bitOf_linkBit s l false)

/-! ## LINK_TRAINED (R231 to R233, R235) -/

section
variable (s : State) (l part device slot link : Nat) (delay : Nat)

/-- The peer's record and the delay measured, as LINK_PEER and LINK_DELAY show them. -/
def peerNoted : State :=
  odPut (odPut s OD.LINK_PEER l (mkRec [(fld 31 19, device), (fld 18 14, slot), (fld 13 8, link), (fld 7 0, part)]))
    OD.LINK_DELAY l (delay % 2 ^ 16)

theorem peerNoted_out : (peerNoted s l part device slot link delay).out = s.out := by
  rw [peerNoted, odPut_out, odPut_out]

theorem peerNoted_frame (o : KMap Nat) (net : NetSt) :
    { peerNoted s l part device slot link delay with od := o, net := net } = { s with od := o, net := net } :=
  (odPut_frame ..).trans (odPut_frame ..)

theorem lnk_peerNoted : lnk (peerNoted s l part device slot link delay) l = lnk s l := by
  rw [peerNoted, lnk_of_net (odPut_net ..), lnk_of_net (odPut_net ..)]

end

section
variable {s : State} {l part device slot link profile delay : Nat} {bufs occ freed : List Nat} (hl : l < 64) (hst : linkState s l = 1)

theorem odGet_linkDelay_peerNoted (hd : delay ≤ 2500) : odGet (peerNoted s l part device slot link delay) OD.LINK_DELAY l = delay := by
  rw [peerNoted, odGet_odPut_same, Nat.mod_eq_of_lt (by omega)]

include hl

theorem odGet_linkPeer_peerNoted : odGet (peerNoted s l part device slot link delay) OD.LINK_PEER l
    = mkRec [(fld 31 19, device), (fld 18 14, slot), (fld 13 8, link), (fld 7 0, part)] := by
  rw [peerNoted, odGet_odPut_entry _ _ _ _ _ _ (by decide) (by omega) (by omega), odGet_odPut_same]

/-- What noting the peer leaves: which peer is expected. -/
theorem peerExpected_peerNoted : peerExpected (peerNoted s l part device slot link delay) l part slot link profile
    = peerExpected s l part slot link profile := by
  have hkeep : KeepsEntries [OD.LINK_PEER, OD.LINK_DELAY] s (peerNoted s l part device slot link delay) :=
    (keepsEntries_odPut s (by decide) (by omega : l < 2 ^ 24) _).trans (keepsEntries_odPut _ (by decide) (by omega : l < 2 ^ 24) _)
  have hslot := hkeep OD.TRAY_SLOT (by decide) 0 (by decide)
  have hprofile := hkeep OD.LINK_PROFILE (by decide) 0 (by decide)
  unfold peerExpected
  rw [ownSlot, od, od, hslot, hprofile]

include hst

theorem linkTrained_active (hp : peerExpected s l part slot link profile = true) (hd : delay ≤ 2500) :
    completes (.linkTrained l part device slot link profile bufs occ freed delay) s
      (linkActivated (peerNoted s l part device slot link delay) l (setCredits (lnk s l) bufs occ freed)) := by
  rw [← lnk_peerNoted s l part device slot link delay]
  rw [← peerExpected_peerNoted (device := device) (delay := delay) hl] at hp
  have hne : ¬ peerExpected (peerNoted s l part device slot link delay) l part slot link profile = false := by simp [hp]
  exact congrArg (answer s) ((if_pos ⟨hl, hst⟩).trans ((if_neg hne).trans (if_neg (Nat.not_lt.2 hd))))

theorem linkTrained_unexpected (hp : peerExpected s l part slot link profile = false) :
    completes (.linkTrained l part device slot link profile bufs occ freed delay) s
      (odPut (peerNoted s l part device slot link delay) OD.LINK_STATE l 4) := by
  rw [← peerExpected_peerNoted (device := device) (delay := delay) hl] at hp
  exact congrArg (answer s) ((if_pos ⟨hl, hst⟩).trans (if_pos hp))

theorem linkTrained_tooLong (hp : peerExpected s l part slot link profile = true) (hd : 2500 < delay) :
    completes (.linkTrained l part device slot link profile bufs occ freed delay) s
      (setLnk (odPut (peerNoted s l part device slot link delay) OD.LINK_STATE l 4) l { lnk s l with tooLong := true }) := by
  rw [← lnk_peerNoted s l part device slot link delay]
  rw [← peerExpected_peerNoted (device := device) (delay := delay) hl] at hp
  have hne : ¬ peerExpected (peerNoted s l part device slot link delay) l part slot link profile = false := by simp [hp]
  exact congrArg (answer s) ((if_pos ⟨hl, hst⟩).trans ((if_neg hne).trans (if_pos hd)))

end

/-! ## TRAINING_TIMEOUT (R231) -/

section
variable {s : State} {l : Nat} (hl : l < 64) (hst : linkState s l = 1) (hclk : (lnk s l).since + 100000 * usClk ≤ s.clk)
include hl

theorem trainAttempts_odAdd : od (odAdd s OD.TRAIN_FAILS l 1) OD.TRAIN_ATTEMPTS = od s OD.TRAIN_ATTEMPTS :=
  odGet_odAdd_entry _ _ _ _ _ _ (by decide) (by omega) (by decide)

include hst hclk

theorem trainingTimeout_again (h : (lnk s l).attempts + 1 < od s OD.TRAIN_ATTEMPTS) :
    completes (.trainingTimeout l) s (linkTrain (odAdd s OD.TRAIN_FAILS l 1) l ((lnk s l).attempts + 1)) := by
  rw [← trainAttempts_odAdd hl] at h
  exact congrArg (answer s) ((if_pos ⟨hl, hst, hclk⟩).trans (if_neg (Nat.not_le.2 h)))

theorem trainingTimeout_last (h : od s OD.TRAIN_ATTEMPTS ≤ (lnk s l).attempts + 1) :
    completes (.trainingTimeout l) s (linkFence
      (setLnk (odAdd s OD.TRAIN_FAILS l 1) l { lnk s l with attempts := (lnk s l).attempts + 1 }) l) := by
  rw [← trainAttempts_odAdd hl] at h
  exact congrArg (answer s) ((if_pos ⟨hl, hst, hclk⟩).trans (if_pos h))

end

/-! ## Losses and recovery (R231, R235, R238) -/

section
variable {s : State} {l : Nat} (hl : l < 64) (ha : linkActive s l = true)
include hl ha

theorem groupAckTimeout_late (h : ∃ g ∈ (lnk s l).replay, g.first + 2500 ≤ s.clk) :
    completes (.groupAckTimeout l) s (linkExhaust s l) := by
  have hany : (lnk s l).replay.any (fun g => decide (g.first + 2500 ≤ s.clk)) = true := by simpa using h
  exact congrArg (answer s) (if_pos ⟨hl, ha, hany⟩)

theorem fecLockLost_active : completes (.fecLockLost l) s (linkRecover s l) := congrArg (answer s) (if_pos ⟨hl, ha⟩)

theorem peerTrainingRecord_active : completes (.peerTrainingRecord l) s (linkRecover s l) := congrArg (answer s) (if_pos ⟨hl, ha⟩)

end

/-- A recovery of link `l` counted, for the window and for the health report, and the delay measured again. -/
def recoveryCounted (s : State) (l delay : Nat) : State :=
  let t := odPut (odAdd s OD.RECOVERIES l 1) OD.LINK_DELAY l (delay % 2 ^ 16)
  { t with ft := { t.ft with winRecoveries := t.ft.winRecoveries + 1 } }

/-- A link's record with the recoveries of the window. -/
def recovering (s : State) (l : Nat) : LinkSt := { lnk s l with recoveries := recentRecoveries s l }

section
variable {s : State} {l : Nat} (hl : l < 64) (delay : Nat)
include hl

theorem odGet_recoveryCounted_same :
    odGet (recoveryCounted s l delay) OD.RECOVERIES l = (odGet s OD.RECOVERIES l + 1) % 2 ^ odWidth OD.RECOVERIES := by
  have hput := odGet_odPut_entry (odAdd s OD.RECOVERIES l 1) OD.LINK_DELAY l (delay % 2 ^ 16) OD.RECOVERIES l
    (by decide) (by omega) (by omega)
  exact hput.trans (odGet_odAdd_same _ _ _ _)

theorem recoveryLimit_recoveryCounted : od (recoveryCounted s l delay) OD.RECOVERY_LIMIT = od s OD.RECOVERY_LIMIT := by
  have hput := odGet_odPut_entry (odAdd s OD.RECOVERIES l 1) OD.LINK_DELAY l (delay % 2 ^ 16) OD.RECOVERY_LIMIT 0
    (by decide) (by omega) (by decide)
  exact hput.trans (odGet_odAdd_entry _ _ _ _ _ _ (by decide) (by omega) (by decide))

variable (hst : linkState s l = 3) (hclk : s.clk < (lnk s l).since + 20 * usClk) (occ freed : List Nat)
include hst hclk

theorem recoveryComplete_active (h : (recentRecoveries s l).length < od s OD.RECOVERY_LIMIT) :
    completes (.recoveryComplete l occ freed delay) s (linkActivated (recoveryCounted s l delay) l
      (setCredits (recovering s l) (lnk s l).buf occ freed)) := by
  rw [← recoveryLimit_recoveryCounted hl delay] at h
  exact congrArg (answer s) ((if_pos ⟨hl, hst, hclk⟩).trans (if_neg (Nat.not_le.2 h)))

theorem recoveryComplete_fenced (h : od s OD.RECOVERY_LIMIT ≤ (recentRecoveries s l).length) :
    completes (.recoveryComplete l occ freed delay) s (linkFence (setLnk (recoveryCounted s l delay) l (recovering s l)) l) := by
  rw [← recoveryLimit_recoveryCounted hl delay] at h
  exact congrArg (answer s) ((if_pos ⟨hl, hst, hclk⟩).trans (if_pos h))

end

theorem recoveryTimeout_late {s : State} {l : Nat} (hl : l < 64) (hst : linkState s l = 3)
    (hclk : (lnk s l).since + 20 * usClk ≤ s.clk) :
    completes (.recoveryTimeout l) s (linkTrain s l 0) :=
  congrArg (answer s) (if_pos ⟨hl, hst, hclk⟩)

/-! ## FENCE_LINK (R247), and commands that find a link in another state -/

theorem fenceLink_fences {s : State} {v : Nat} (h1 : 1 ≤ linkState s (v % 64)) (h3 : linkState s (v % 64) ≤ 3) :
    completes (.fenceLink v) s (linkFence s (v % 64)) :=
  congrArg (answer s) (if_pos (by omega))

theorem fenceLink_other {s : State} {v : Nat} (h : linkState s (v % 64) = 0 ∨ 3 < linkState s (v % 64)) : completes (.fenceLink v) s s :=
  congrArg (answer s) (if_neg (by omega))

/-- A link that is DISABLED, MISWIRED or FENCED neither times out nor recovers. -/
theorem linkEvents_other {s : State} {l : Nat} (h : linkState s l = 0 ∨ 4 ≤ linkState s l) :
    ∀ i ∈ [Instr.trainingTimeout l, .groupAckTimeout l, .fecLockLost l, .peerTrainingRecord l, .recoveryTimeout l],
      completes i s s := by
  have htrain : linkState s l ≠ 1 := by omega
  have hactive : ¬ linkActive s l = true := by
    rw [linkActive, beq_iff_eq]
    omega
  have hrecover : linkState s l ≠ 3 := by omega
  exact List.forall_iff_forall_mem.1 ⟨congrArg (answer s) (if_neg fun h => htrain h.2.1),
    congrArg (answer s) (if_neg fun h => hactive h.2.1), congrArg (answer s) (if_neg fun h => hactive h.2),
    congrArg (answer s) (if_neg fun h => hactive h.2), congrArg (answer s) (if_neg fun h => hrecover h.2.1)⟩

/-! ## What each command comes to -/

section
variable (s : State) {l : Nat} (hl : l < 64)
include hl

/-- A DISABLED link enabled (R231): it trains, its bit stands, the device's record is sent. -/
theorem linkEnableSet_trains (hst : inConfig s = true ∨ inRun s = true) (h : linkState s l = 0) :
    ∃ t, completes (.linkEnableSet l) s t ∧ linkState t l = 1 ∧ bitOf (od t OD.LINK_ENABLE) l = true ∧ (lnk t l).since = s.clk
      ∧ (lnk t l).attempts = 0 ∧ t.out = s.out ++ [⟨17, l, trainingRecord (linkBit s l true) l⟩]
      ∧ { t with od := s.od, net := s.net, out := s.out } = s := by
  refine ⟨_, linkEnableSet_disabled hl hst h, linkState_linkTrain .., bitOf_linkEnable_linkTrain s hl 0, ?_, ?_, linkTrain_out .., ?_⟩
  · rw [lnk_linkTrain, linkBit, odPut_clk]
  · rw [lnk_linkTrain]
  · exact linkTrain_frame (linkBit s l true) l 0 s.od s.out

theorem linkEnableClear_ends :
    ∃ t, completes (.linkEnableClear l) s t ∧ linkState t l = 0
      ∧ lnk t l = linkEnded (lnk t l) ∧ bitOf (od t OD.LINK_ENABLE) l = false := by
  refine ⟨_, congrArg (answer s) (if_pos hl), linkState_linkDisable s l, ?_, bitOf_linkEnable_linkDisable s hl⟩
  rw [lnk_linkDisable, linkEnded, linkEnded]

section
variable {part device slot link profile delay : Nat} {bufs occ freed : List Nat} (hst : linkState s l = 1)
include hst

theorem linkTrained_activates (hp : peerExpected s l part slot link profile = true) (hd : delay ≤ 2500) :
    ∃ t, completes (.linkTrained l part device slot link profile bufs occ freed delay) s t ∧ linkState t l = 2
      ∧ odGet t OD.LINK_DELAY l = delay ∧ lnk t l = setCredits (lnk s l) bufs occ freed
      ∧ odGet t OD.LINK_PEER l = mkRec [(fld 31 19, device), (fld 18 14, slot), (fld 13 8, link), (fld 7 0, part)]
      ∧ t.out = s.out ++ [⟨18, l, ((lnk s l).occ ++ (lnk s l).freed).flatMap (leBytes 2)⟩]
      ∧ { t with od := s.od, net := s.net, out := s.out } = s := by
  have hkeep := keepsEntries_linkActivated (peerNoted s l part device slot link delay) (setCredits (lnk s l) bufs occ freed) hl
  refine ⟨_, linkTrained_active hl hst hp hd, linkState_linkActivated _ _ hl, ?_, lnk_linkActivated _ _, ?_, ?_, ?_⟩
  · rw [hkeep OD.LINK_DELAY (by decide) l (by omega), odGet_linkDelay_peerNoted hd]
  · rw [hkeep OD.LINK_PEER (by decide) l (by omega), odGet_linkPeer_peerNoted hl]
  · rw [linkActivated_out, peerNoted_out, setCredits]
  · exact (linkActivated_frame _ _ s.od s.net s.out).trans
      (congrArg (fun t : State => { t with out := s.out }) (peerNoted_frame s l part device slot link delay s.od s.net))

theorem linkTrained_miswires (h : peerExpected s l part slot link profile = false ∨ 2500 < delay) :
    ∃ t, completes (.linkTrained l part device slot link profile bufs occ freed delay) s t ∧ linkState t l = 4
      ∧ (peerExpected s l part slot link profile = true → (lnk t l).tooLong = true) ∧ { t with od := s.od, net := s.net } = s := by
  cases hp : peerExpected s l part slot link profile with
  | false =>
    exact ⟨_, linkTrained_unexpected hl hst hp, odGet_odPut_same .., nofun,
      (odPut_frame ..).trans (peerNoted_frame s l part device slot link delay s.od s.net)⟩
  | true =>
    have hd : 2500 < delay := h.resolve_left (by simp [hp])
    refine ⟨_, linkTrained_tooLong hl hst hp hd, ?_, fun _ => ?_,
      ((setLnk_frame ..).trans (odPut_frame ..)).trans (peerNoted_frame s l part device slot link delay s.od s.net)⟩
    · exact (odGet_of_od (setLnk_od _ _ _) _ _).trans (odGet_odPut_same ..)
    · rw [lnk_setLnk_same]

theorem trainingTimeout_counts (hclk : (lnk s l).since + 100000 * usClk ≤ s.clk) :
    ∃ t n, completes (.trainingTimeout l) s t ∧ n = (lnk s l).attempts + 1
      ∧ odGet t OD.TRAIN_FAILS l = (odGet s OD.TRAIN_FAILS l + 1) % 2 ^ odWidth OD.TRAIN_FAILS
      ∧ (n < od s OD.TRAIN_ATTEMPTS → linkState t l = 1 ∧ (lnk t l).since = s.clk ∧ (lnk t l).attempts = n)
      ∧ (od s OD.TRAIN_ATTEMPTS ≤ n → linkState t l = 5) := by
  obtain h | h := lt_or_ge ((lnk s l).attempts + 1) (od s OD.TRAIN_ATTEMPTS)
  · refine ⟨_, _, trainingTimeout_again hl hst hclk h, rfl, ?_, fun _ => ⟨linkState_linkTrain .., ?_, ?_⟩,
      fun h' => absurd h (Nat.not_lt.2 h')⟩
    · rw [keepsEntries_linkTrain _ hl _ OD.TRAIN_FAILS (by decide) l (by omega), odGet_odAdd_same]
    · rw [lnk_linkTrain, odAdd_clk]
    · rw [lnk_linkTrain]
  · refine ⟨_, _, trainingTimeout_last hl hst hclk h, rfl, ?_, fun h' => absurd h' (Nat.not_lt.2 h), fun _ => linkState_linkFence _ hl⟩
    rw [keepsEntries_linkFence _ hl OD.TRAIN_FAILS (by decide) l (by omega), odGet_of_od (setLnk_od _ _ _), odGet_odAdd_same]

end

section
variable (hst : linkState s l = 3)
include hst

theorem recoveryComplete_counts (occ freed : List Nat) (delay : Nat) (hclk : s.clk < (lnk s l).since + 20 * usClk) :
    ∃ t, completes (.recoveryComplete l occ freed delay) s t
      ∧ odGet t OD.RECOVERIES l = (odGet s OD.RECOVERIES l + 1) % 2 ^ odWidth OD.RECOVERIES
      ∧ ((recentRecoveries s l).length < od s OD.RECOVERY_LIMIT → linkState t l = 2 ∧ (lnk t l).recoveries = recentRecoveries s l)
      ∧ (od s OD.RECOVERY_LIMIT ≤ (recentRecoveries s l).length → linkState t l = 5) := by
  obtain h | h := lt_or_ge (recentRecoveries s l).length (od s OD.RECOVERY_LIMIT)
  · refine ⟨_, recoveryComplete_active hl delay hst hclk occ freed h, ?_, fun _ => ⟨linkState_linkActivated _ _ hl, ?_⟩,
      fun h' => absurd h (Nat.not_lt.2 h')⟩
    · rw [keepsEntries_linkActivated _ _ hl OD.RECOVERIES (by decide) l (by omega), odGet_recoveryCounted_same hl]
    · rw [lnk_linkActivated, setCredits, recovering]
  · refine ⟨_, recoveryComplete_fenced hl delay hst hclk occ freed h, ?_, fun h' => absurd h' (Nat.not_lt.2 h),
      fun _ => linkState_linkFence _ hl⟩
    rw [keepsEntries_linkFence _ hl OD.RECOVERIES (by decide) l (by omega), odGet_of_od (setLnk_od _ _ _), odGet_recoveryCounted_same hl]

theorem recoveryTimeout_trains (hclk : (lnk s l).since + 20 * usClk ≤ s.clk) :
    ∃ t, completes (.recoveryTimeout l) s t ∧ linkState t l = 1 ∧ (lnk t l).since = s.clk ∧ (lnk t l).attempts = 0
      ∧ (∃ bs, t.out = s.out ++ [⟨17, l, bs⟩]) ∧ { t with od := s.od, net := s.net, out := s.out } = s := by
  refine ⟨_, recoveryTimeout_late hl hst hclk, linkState_linkTrain .., ?_, ?_, ⟨_, linkTrain_out ..⟩,
    linkTrain_frame s l 0 s.od s.out⟩
  · rw [lnk_linkTrain]
  · rw [lnk_linkTrain]

end

end

/-- Settles O37: each clause by the move its command makes, or by its guard where it makes none. -/
theorem linkStates : Obligations.LinkStates :=
  ⟨fun s _ hl => linkEnableSet_trains s hl, fun _ _ hl => linkEnableSet_other hl, fun _ l => linkEnableSet_outside l,
    fun s _ hl => linkEnableClear_ends s hl,
    fun s _ _ _ _ _ _ _ _ _ _ hl hst => ⟨linkTrained_activates s hl hst, linkTrained_miswires s hl hst⟩,
    fun s _ hl => trainingTimeout_counts s hl,
    fun _ _ hl ha => ⟨groupAckTimeout_late hl ha, fecLockLost_active hl ha, peerTrainingRecord_active hl ha⟩,
    fun s l => ⟨linkState_linkRecover s l, congrArg (·.since) (lnk_linkRecover s l),
      (congrArg (·.replay) (lnk_linkRecover s l)).trans (linkDiscard_replay s l)⟩,
    fun s _ occ freed delay hl hst => recoveryComplete_counts s hl hst occ freed delay,
    fun s _ hl hst => recoveryTimeout_trains s hl hst,
    fun s v h1 h3 => ⟨_, fenceLink_fences h1 h3, linkState_linkFence s (Nat.mod_lt _ (by decide)), linkFence_replay s (v % 64)⟩,
    fun _ _ => fenceLink_other, fun _ _ => linkEvents_other⟩

end Sys2Proof.Machine

/-! # Flit groups and forwarded chunks (chapter 11, R229, R230, R237, R241, R270)

A group is sent by `sendGroup`, whose idle case needs that nothing is taken from empty queues; a group received takes one of four ways by
its two CRCs, its payload flags and its number; a chunk forwarded passes from one link's buffers to another's queue. -/

namespace Sys2Proof.Machine

/-! ## FLIT_GROUP_SEND (R229, R237, R270) -/

section
variable {s : State} {l : Nat} (hl : l < 64) (ha : linkActive s l = true)
include hl ha

theorem flitGroupSend_sends (h : ∀ m ∈ s.txq, ordered m = true → qpF s m.stream QpCtx.QUANTUM ≠ 0) :
    completes (.flitGroupSend l) s (sendGroup (countHeld (scheduleTx s.txq.length s)) l) := by
  have hnone : ¬ (s.txq.filter ordered).any (fun m => qpF s m.stream QpCtx.QUANTUM == 0) = true := by simpa using h
  exact (if_pos ⟨hl, ha⟩).trans (if_neg hnone)

theorem flitGroupSend_undefined (h : ∃ m ∈ s.txq, ordered m = true ∧ qpF s m.stream QpCtx.QUANTUM = 0) :
    exec (.flitGroupSend l) s = .fault (.undefinedCase 7) := by
  have hsome : (s.txq.filter ordered).any (fun m => qpF s m.stream QpCtx.QUANTUM == 0) = true := by simpa [and_assoc] using h
  exact (if_pos ⟨hl, ha⟩).trans (if_pos hsome)

end

/-- A link has nothing queued on any channel. -/
def QueuesEmpty (x : LinkSt) : Prop := ∀ vc, kget x.queue vc [] = []

theorem takeFlits_empty {x : LinkSt} (h : QueuesEmpty x) (vc room cap : Nat) : takeFlits x vc room cap = [] := by
  rw [takeFlits, h vc, List.take_nil]

theorem queuesEmpty_spendFlits {x : LinkSt} (h : QueuesEmpty x) (vc n : Nat) : QueuesEmpty (spendFlits x vc n) := by
  have hqueue : (spendFlits x vc n).queue = kput x.queue vc [] := by
    unfold spendFlits
    rw [h vc, List.drop_nil]
    split <;> rfl
  intro v
  rw [hqueue]
  obtain rfl | hv := eq_or_ne v vc
  · exact kget_kput_same _ _ _ _
  · rw [kget_kput_ne _ _ _ _ _ hv, h v]

/-- Nothing is taken from empty queues. -/
theorem nextFlits_empty {x : LinkSt} (h : QueuesEmpty x) (cap3 : Nat) : (nextFlits x cap3).2 = [] := by
  refine (List.foldlRecOn (motive := fun acc : LinkSt × List Flit => QueuesEmpty acc.1 ∧ acc.2 = []) _ _ ⟨h, rfl⟩ ?_).2
  rintro acc ⟨hq, hfs⟩ p -
  exact ⟨queuesEmpty_spendFlits hq _ _, List.append_eq_nil_iff.2 ⟨hfs, takeFlits_empty hq _ _ _⟩⟩

/-- The 15 positions of a group: idle ones fill it up. -/
def filledGroup (flits : List Flit) : List Flit := flits ++ List.replicate (15 - flits.length) idleFlit

theorem length_filledGroup {flits : List Flit} (h : flits.length ≤ 15) : (filledGroup flits).length = 15 := by
  rw [filledGroup, List.length_append, List.length_replicate]
  omega

theorem data_filledGroup {flits : List Flit} (h : ∀ f ∈ flits, f.data.length ≤ 256) :
    ∀ f ∈ filledGroup flits, f.data.length ≤ 256 := by
  intro f hf
  obtain hf | hf := List.mem_append.1 hf
  · exact h f hf
  · rw [List.eq_of_mem_replicate hf]
    exact Nat.zero_le _

theorem length_flatMap_of_forall {α β : Type} {g : α → List β} {l : List α} {n : Nat} (h : ∀ a ∈ l, (g a).length = n) :
    (l.flatMap g).length = l.length * n := by
  rw [List.length_flatMap, List.map_congr_left h, List.map_const', List.sum_replicate, smul_eq_mul]

/-- A group on the wire is 4,096 bytes: the control flit's 16, and for each position its descriptor's 16 and a payload filled up to 256. -/
theorem emitGroup_out (s : State) (l gseq : Nat) (replay : Bool) {flits : List Flit} (hlen : flits.length ≤ 15)
    (hdata : ∀ f ∈ flits, f.data.length ≤ 256) :
    ∃ bs, (emitGroup s l gseq replay flits).out = s.out ++ [⟨16, l, bs⟩] ∧ bs.length = 4096 := by
  have hfill : ∀ f ∈ filledGroup flits, (f.data ++ List.replicate (256 - f.data.length) 0).length = 256 := by
    intro f hf
    have hle := data_filledGroup hdata f hf
    rw [List.length_append, List.length_replicate]
    omega
  have hdescs := length_flatMap_of_forall (l := filledGroup flits) fun f _ => leBytes_length 16 f.desc
  have hbytes := length_flatMap_of_forall hfill
  rw [length_filledGroup hlen] at hdescs hbytes
  refine ⟨_, rfl, ?_⟩
  rw [List.length_append, List.length_append, leBytes_length]
  exact congrArg₂ (16 + · + ·) hdescs hbytes

theorem lnk_emitGroup_txSeq (s : State) (l gseq : Nat) (replay : Bool) (flits : List Flit) :
    (lnk (emitGroup s l gseq replay flits) l).txSeq = (lnk s l).txSeq := by
  have hlnk : lnk (emitGroup s l gseq replay flits) l = { lnk s l with mark := if replay then (lnk s l).mark else none } :=
    lnk_setLnk_same s l _
  rw [hlnk]

theorem emitGroup_frame (s : State) (l gseq : Nat) (replay : Bool) (flits : List Flit) :
    { emitGroup s l gseq replay flits with net := s.net, out := s.out } = s := rfl

section
variable {s : State} {l : Nat}

/-- A link with nothing to send or to replay sends an idle group, under the number it last used. -/
theorem sendGroup_idle (hdue : (lnk s l).replayDue = []) (hlen : (lnk s l).replay.length < 64) (hq : QueuesEmpty (lnk s l)) :
    sendGroup s l = emitGroup s l (((lnk s l).txSeq + 1023) % 1024) false [] := by
  simp only [sendGroup, hdue]
  exact (if_neg (Nat.not_le.2 hlen)).trans (if_pos (nextFlits_empty hq _))

theorem countHeld_scheduleTx_nil (h : s.txq = []) : countHeld (scheduleTx s.txq.length s) = s := by
  rw [h]
  simp [scheduleTx, countHeld, h]

theorem flitGroupSend_idle (hl : l < 64) (ha : linkActive s l = true) (htx : s.txq = []) (hdue : (lnk s l).replayDue = [])
    (hlen : (lnk s l).replay.length < 64) (hq : QueuesEmpty (lnk s l)) :
    ∃ t bs, completes (.flitGroupSend l) s t ∧ t.out = s.out ++ [⟨16, l, bs⟩] ∧ bs.length = 4096
      ∧ (lnk t l).txSeq = (lnk s l).txSeq ∧ { t with net := s.net, out := s.out } = s := by
  obtain ⟨bs, hout, hbs⟩ := emitGroup_out s l (((lnk s l).txSeq + 1023) % 1024) false (flits := []) (by decide) nofun
  have hsend := flitGroupSend_sends hl ha (by simp [htx])
  rw [countHeld_scheduleTx_nil htx, sendGroup_idle hdue hlen hq] at hsend
  exact ⟨_, bs, hsend, hout, hbs, lnk_emitGroup_txSeq .., emitGroup_frame ..⟩

end

/-! ## FLIT_GROUP_RECEIVE (R230, R237) -/

/-- What the FEC corrected and could not, counted for the link. -/
def fecCounted (s : State) (l c u : Nat) : State :=
  let t := odAdd (odAdd s OD.FEC_CORRECTED l c) OD.FEC_UNCORRECTED l u
  setLnk t l { lnk t l with fec := (lnk t l).fec + c }

/-- Do all positions of a group carry the CRC of their payload? -/
def payloadOk (descs : List Nat) (data : List (List Byte)) : Bool :=
  (descs.zip data).all (fun p => flitCrc p.1 p.2 == getF p.1 PayDesc.FLIT_CRC)

/-- A group refused: counted, and NAK is sent from then on. -/
def groupRejected (s : State) (l : Nat) : State := setLnk (odAdd s OD.GROUPS_REJECTED l 1) l { lnk s l with nak := true }

/-- A group accepted: the next number is expected, and its flits arrive. -/
def groupAccepted (s : State) (l : Nat) (descs : List Nat) (data : List (List Byte)) : State :=
  (descs.zip data).foldl (fun t p => flitArrived t l (posFlit p.1 p.2))
    (setLnk s l { lnk s l with rxSeq := ((lnk s l).rxSeq + 1) % 1024, nak := false })

/-- What becomes of a group's payload at `s`, its control flit taken where that was good (`ctl`). -/
def payloadTaken (s : State) (l hdr : Nat) (descs : List Nat) (data : List (List Byte)) (ctl : Bool) : State :=
  if linkActive s l = false then s
  else if ctl && descs.all (fun d => getF d PayDesc.PAYLOAD == 0) then s
  else if ctl && payloadOk descs data && descs.length == 15 && data.length == 15 && getF hdr CtlFlit.GSEQ == (lnk s l).rxSeq then
    groupAccepted s l descs data
  else groupRejected s l

theorem flitGroupReceive_completes {s : State} {l : Nat} (hdr : Nat) (descs : List Nat) (data : List (List Byte)) (c u : Nat)
    (hl : l < 64) (ha : linkActive s l = true) :
    completes (.flitGroupReceive l hdr descs data c u) s
      (payloadTaken (if ctrlCrcOk hdr descs then takeControl (fecCounted s l c u) l hdr else fecCounted s l c u) l hdr descs data
        (ctrlCrcOk hdr descs)) :=
  congrArg (answer s) (if_pos ⟨hl, ha⟩)

section
variable {s : State} {l hdr : Nat} {descs : List Nat} {data : List (List Byte)}

theorem payloadTaken_notActive (ctl : Bool) (ha : linkActive s l = false) : payloadTaken s l hdr descs data ctl = s := if_pos ha

/-- Of an idle group nothing more is taken. -/
theorem payloadTaken_idle (hi : ∀ d ∈ descs, getF d PayDesc.PAYLOAD = 0) : payloadTaken s l hdr descs data true = s := by
  have hall : (true && descs.all (fun d => getF d PayDesc.PAYLOAD == 0)) = true := by simpa using hi
  rw [payloadTaken, if_pos hall, ite_self]

section
variable (ha : linkActive s l = true)
include ha

theorem payloadTaken_badHeader : payloadTaken s l hdr descs data false = groupRejected s l := by
  simp [payloadTaken, ha]

variable (hi : ∃ d ∈ descs, getF d PayDesc.PAYLOAD ≠ 0)
include hi

/-- A group with a payload is judged by the CRCs of its positions, by how many it has, and by its number. -/
theorem payloadTaken_judged : payloadTaken s l hdr descs data true =
    if payloadOk descs data = true ∧ descs.length = 15 ∧ data.length = 15 ∧ getF hdr CtlFlit.GSEQ = (lnk s l).rxSeq then
      groupAccepted s l descs data
    else groupRejected s l := by
  have hidle : ¬ (true && descs.all (fun d => getF d PayDesc.PAYLOAD == 0)) = true := by simpa using hi
  rw [payloadTaken, if_neg (by simp [ha]), if_neg hidle]
  simp only [Bool.true_and, Bool.and_eq_true, beq_iff_eq, and_assoc]

theorem payloadTaken_accepted (hok : payloadOk descs data = true) (hd : descs.length = 15) (hp : data.length = 15)
    (hn : getF hdr CtlFlit.GSEQ = (lnk s l).rxSeq) : payloadTaken s l hdr descs data true = groupAccepted s l descs data :=
  (payloadTaken_judged ha hi).trans (if_pos ⟨hok, hd, hp, hn⟩)

theorem payloadTaken_rejected (h : payloadOk descs data = false ∨ descs.length ≠ 15 ∨ data.length ≠ 15
    ∨ getF hdr CtlFlit.GSEQ ≠ (lnk s l).rxSeq) : payloadTaken s l hdr descs data true = groupRejected s l := by
  refine (payloadTaken_judged ha hi).trans (if_neg ?_)
  rintro ⟨hok, hd, hp, hn⟩
  obtain h | h | h | h := h
  · exact absurd hok (by simp [h])
  · exact h hd
  · exact h hp
  · exact h hn

end

end

section
variable {s : State} {l hdr : Nat} {descs : List Nat} (data : List (List Byte)) {c u : Nat} {t : State} (hl : l < 64)
  (ha : linkActive s l = true)
include hl ha

theorem flitGroupReceive_badHeader (hc : ctrlCrcOk hdr descs = false)
    (ht : payloadTaken (fecCounted s l c u) l hdr descs data false = t) :
    completes (.flitGroupReceive l hdr descs data c u) s t := by
  have h := flitGroupReceive_completes hdr descs data c u hl ha
  rwa [hc, if_neg Bool.false_ne_true, ht] at h

theorem flitGroupReceive_goodHeader (hc : ctrlCrcOk hdr descs = true)
    (ht : payloadTaken (takeControl (fecCounted s l c u) l hdr) l hdr descs data true = t) :
    completes (.flitGroupReceive l hdr descs data c u) s t := by
  have h := flitGroupReceive_completes hdr descs data c u hl ha
  rwa [hc, if_pos rfl, ht] at h

end

theorem flitGroups_notActive {s : State} {l hdr : Nat} {descs : List Nat} {data : List (List Byte)} {c u : Nat}
    (ha : linkActive s l = false) : ∀ i ∈ [Instr.flitGroupSend l, .flitGroupReceive l hdr descs data c u], completes i s s := by
  have hoff : ¬ (l < 64 ∧ linkActive s l = true) := by simp [ha]
  exact List.forall_iff_forall_mem.1 ⟨if_neg hoff, congrArg (answer s) (if_neg hoff)⟩

/-! ## CHUNK_FORWARD (R241) -/

/-- A flit as it is forwarded: it makes no further hop, and its CRC is of what it then carries. -/
def forwardedFlit (f : Flit) : Flit :=
  let d := setF (setF f.desc PayDesc.HOP 0) PayDesc.FLIT_CRC 0
  { f with desc := setF d PayDesc.FLIT_CRC (flitCrc d f.data) }

theorem hop_forwardedFlit (f : Flit) : getF (forwardedFlit f).desc PayDesc.HOP = 0 := by
  rw [forwardedFlit, getF_setF_ne _ _ _ _ (.inr (by decide)), getF_setF_ne _ _ _ _ (.inr (by decide)), getF_setF_same, Nat.zero_mod]

theorem chunkForward_none {s : State} {l : Nat} (h : (lnk s l).hopping = []) : completes (.chunkForward l) s s := by
  refine congrArg (answer s) ?_
  simp only [h]

/-- Buffers given up leave what a link has to send and to forward. -/
theorem lnk_freeFlits (s : State) (l vc n k : Nat) :
    (lnk (freeFlits s l vc n) k).queue = (lnk s k).queue ∧ (lnk (freeFlits s l vc n) k).hopping = (lnk s k).hopping := by
  unfold freeFlits
  extract_lets x v
  obtain rfl | hk := eq_or_ne k l
  · split <;> rw [lnk_setLnk_same] <;> exact ⟨rfl, rfl⟩
  · split <;> rw [lnk_setLnk_ne _ _ hk] <;> exact ⟨rfl, rfl⟩

/-- The chunk gone from link `l`, its buffers free, counted for link `o`. -/
def chunkLeft (s : State) (l o n : Nat) (rest : List (List Flit)) : State :=
  odAdd (freeFlits (setLnk s l { lnk s l with hopping := rest }) l 1 n) OD.FORWARDED o 1

section
variable {s : State} {l o : Nat} {fs : List Flit} {rest : List (List Flit)}

theorem queue_chunkLeft (n k : Nat) : (lnk (chunkLeft s l o n rest) k).queue = (lnk s k).queue := by
  rw [chunkLeft, lnk_of_net (odAdd_net ..), (lnk_freeFlits ..).1]
  obtain rfl | hk := eq_or_ne k l
  · rw [lnk_setLnk_same]
  · rw [lnk_setLnk_ne _ _ hk]

theorem hopping_chunkLeft (n : Nat) : (lnk (chunkLeft s l o n rest) l).hopping = rest := by
  rw [chunkLeft, lnk_of_net (odAdd_net ..), (lnk_freeFlits ..).2, lnk_setLnk_same]

theorem forwarded_chunkLeft (n : Nat) :
    odGet (chunkLeft s l o n rest) OD.FORWARDED o = (odGet s OD.FORWARDED o + 1) % 2 ^ odWidth OD.FORWARDED := by
  have hod : (freeFlits (setLnk s l { lnk s l with hopping := rest }) l 1 n).od = s.od := by rw [freeFlits_eq, setLnk_od]
  rw [chunkLeft, odGet_odAdd_same, odGet_of_od hod]

theorem chunkForward_leaves {f : Flit} (hh : (lnk s l).hopping = (f :: fs) :: rest)
    (ho : (directLinks s (getF f.desc PayDesc.DEST)).head? = some o) (hc : (f :: fs).length ≤ freeCredits s o 1) :
    completes (.chunkForward l) s (enqueue (chunkLeft s l o (f :: fs).length rest) o 1 ((f :: fs).map forwardedFlit)) := by
  refine congrArg (answer s) ?_
  simp only [hh, ho]
  exact if_pos hc

theorem chunkForward_moves {f : Flit} (hh : (lnk s l).hopping = (f :: fs) :: rest)
    (ho : (directLinks s (getF f.desc PayDesc.DEST)).head? = some o) (hc : (f :: fs).length ≤ freeCredits s o 1) :
    ∃ t, completes (.chunkForward l) s t ∧ (o ≠ l → (lnk t l).hopping = rest)
      ∧ (o < 64 → l < 64 → odGet t OD.FORWARDED o = (odGet s OD.FORWARDED o + 1) % 2 ^ odWidth OD.FORWARDED)
      ∧ ∃ out, kget (lnk t o).queue 1 [] = kget (lnk s o).queue 1 [] ++ out ∧ out.length = fs.length + 1
        ∧ ∀ x ∈ out, getF x.desc PayDesc.HOP = 0 := by
  refine ⟨_, chunkForward_leaves hh ho hc, fun hne => ?_, fun _ _ => ?_, (f :: fs).map forwardedFlit, ?_, ?_, ?_⟩
  · rw [enqueue, lnk_setLnk_ne _ _ hne.symm, hopping_chunkLeft]
  · rw [enqueue, odGet_of_od (setLnk_od _ _ _), forwarded_chunkLeft]
  · rw [enqueue, lnk_setLnk_same, kget_kput_same, queue_chunkLeft]
  · rw [List.length_map, List.length_cons]
  · exact List.forall_mem_map.2 fun x _ => hop_forwardedFlit x

end

/-- Settles O38: sending by what waits, receiving by how the payload is taken, forwarding by the chunk's move. -/
theorem flitGroups : Obligations.FlitGroups :=
  ⟨fun _ _ hl ha => ⟨flitGroupSend_sends hl ha, flitGroupSend_undefined hl ha⟩,
    fun _ _ hl ha htx hdue hlen hq => flitGroupSend_idle hl ha htx hdue hlen hq,
    fun _ _ _ _ data _ _ hl ha =>
      ⟨fun hc h2 => flitGroupReceive_badHeader data hl ha hc (payloadTaken_badHeader h2),
        fun hc h3 hi => ⟨fun hok hd hp hn => flitGroupReceive_goodHeader data hl ha hc (payloadTaken_accepted h3 hi hok hd hp hn),
          fun h => flitGroupReceive_goodHeader data hl ha hc (payloadTaken_rejected h3 hi h)⟩,
        fun hc h => flitGroupReceive_goodHeader data hl ha hc (h.elim payloadTaken_idle (payloadTaken_notActive true))⟩,
    fun _ _ _ _ _ _ _ => flitGroups_notActive, fun _ _ => chunkForward_none, fun _ _ _ _ _ _ => chunkForward_moves⟩

end Sys2Proof.Machine

/-! # Queue pairs: the requester's commands (chapter 12, R250 to R254, R258, R260, R264, R265)

How the commands of queue pairs are answered: the ones a packet carries take it from its buffer first, and the ones in which a read of a
clasp pull can end take the pulls that ended. -/

namespace Sys2Proof.Machine

/-! ## The answers of queue-pair commands -/

/-- R251: a queue pair takes packets in READY and in DRAINING. -/
abbrev TakesPackets (s : State) (q : Nat) : Prop := qpState s q = 2 ∨ qpState s q = 3

theorem not_takesPackets_iff {s : State} {q : Nat} : ¬ TakesPackets s q ↔ qpState s q ≠ 2 ∧ qpState s q ≠ 3 := not_or

theorem TakesPackets.not_refused {s : State} {q : Nat} (hq : TakesPackets s q) : ¬ (qpState s q ≠ 2 ∧ qpState s q ≠ 3) :=
  mt not_takesPackets_iff.2 (not_not.2 hq)

theorem answer_takeRx (s : State) (m : Msg) (t : State) : answer (takeRx s m) t = answer s t := by
  rw [answer, takeRx_pending]
  rfl

section
variable {i : Instr} {s x t : State} {m : Msg}

/-- A packet's command completes in what its meaning computes from the state without the packet. -/
theorem completes_of_takeRx (hi : exec i s = answer (takeRx s m) x) (hx : x = t) : completes i s t :=
  hi.trans ((answer_takeRx s m x).trans (congrArg (answer s) hx))

/-- A command that takes the pulls that ended (R193, R194). -/
theorem completes_of_withPulls (hi : exec i s = withPulls s (answer s x)) (hx : x = t) :
    completes i s (claspPulls { t with pending := s.pending }) := by
  subst hx
  exact hi

theorem completes_of_withPulls_takeRx (hi : exec i s = withPulls s (answer (takeRx s m) x)) (hx : x = t) :
    completes i s (claspPulls { t with pending := s.pending }) :=
  completes_of_withPulls (hi.trans (congrArg (withPulls s) (answer_takeRx s m x))) hx

end

@[simp] theorem qpSt_setQpSt_same (s : State) (q : Nat) (x : QpSt) : qpSt (setQpSt s q x) q = x := kget_kput_same _ _ _ _

/-! ## POST (R254, R475) -/

theorem net_ite {s t u : State} {c : Prop} [Decidable c] (ht : t.net = s.net) (hu : u.net = s.net) :
    (if c then t else u : State).net = s.net := by
  split
  · exact ht
  · exact hu

theorem net_creditClocks (s : State) (f : Flight) (n : Nat) : (creditClocks s f n).net = s.net := by
  have hf (t : State) (a c : Nat) : (frameCredit t f a c).net = t.net := net_ite rfl rfl
  exact net_ite rfl (net_ite (hf ..) (hf ..))

theorem net_rowEnergy (s : State) (r p : Nat) : (rowEnergy s r p).net = s.net := by
  have hi (t : State) : (imageSync t r).net = t.net := by unfold imageSync; split <;> rfl
  exact net_ite rfl ((hi _).trans (recSet_net ..))

theorem net_ledgerSums (s : State) (g p r : Int) : (ledgerSums s g p r).net = s.net := by
  unfold ledgerSums
  rw [odPuts_eq]

theorem net_chargePrice (s : State) (f : Flight) : (chargePrice s f).net = s.net := by
  unfold chargePrice
  extract_lets p s1 e s2 s3
  have h1 : s1.net = s.net := net_ledgerSums ..
  have h2 : s2.net = s1.net := by
    unfold s2
    split <;> rfl
  have h3 : s3.net = s.net := (net_ite (odAdd_net ..) (odAdd_net ..)).trans (h2.trans h1)
  clear_value s3
  exact net_ite ((net_rowEnergy ..).trans h3) h3

/-- A step that ends leaves the network as it was. -/
theorem net_finishStep (s : State) (u : Nat) (how : StepEnd) : (finishStep s u how).net = s.net := by
  unfold finishStep
  split
  · rfl
  · extract_lets e s1 s2 s3 r s4
    have h2 : s2.net = s1.net := net_ite (by unfold postEvent; split <;> rfl) rfl
    have h3 : s3.net = s2.net := net_ite rfl (net_creditClocks ..)
    have h4 : s4.net = s.net := (net_ite rfl rfl : s4.net = s3.net).trans (h3.trans h2)
    clear_value s4
    exact net_ite h4 ((net_chargePrice ..).trans h4)

/-- A PASS step that ends leaves its port free and its status kept for the port. -/
theorem passEnd_spec (s : State) (port st : Nat) (how : StepEnd) :
    flightOn (passEnd s port st how) (unitKey 5 port) = none ∧ kfind (passEnd s port st how).net.passEnds port = some st := by
  refine ⟨flightOn_finishStep_same .., ?_⟩
  rw [passEnd, net_finishStep]
  exact kfind_kput_same ..

section
variable {s : State} {port : Nat} {f : Flight} (hf : flightOn s (unitKey 5 port) = some f)
include hf

theorem postStep_other (h1 : getF f.step StepRec.OPCODE ≠ 1) (hr : getF f.step StepRec.OPCODE ≠ 0x0F01)
    (hg : getF f.step StepRec.OPCODE ≠ 0x0F02) : postStep port s = answer s (passEnd s port 4 .untouched) := by
  simp only [postStep, hf, if_neg (not_or.2 ⟨hr, hg⟩), if_pos h1]

variable (hop : getF f.step StepRec.OPCODE = 1)
include hop

theorem postStep_working (hw : unitWork s (unitKey 5 port) = true) : postStep port s = answer s s := by
  simp [postStep, hf, hop, hw]

variable (hw : unitWork s (unitKey 5 port) = false)
include hw

theorem postStep_unread (hd : (readRec s (stepReader f) (getF f.step StepRec.DESC_ADDR) 64).2.2.1 ≠ 0) :
    postStep port s = answer s (passEnd (readRec s (stepReader f) (getF f.step StepRec.DESC_ADDR) 64).1 port 5 .unread) := by
  simp [postStep, hf, hop, hw, hd]

/-- A POST whose descriptor is read: what its records place, which it waits for where it is to. -/
theorem postStep_read (hd : (readRec s (stepReader f) (getF f.step StepRec.DESC_ADDR) 64).2.2.1 = 0) : postStep port s =
    let d := readRec s (stepReader f) (getF f.step StepRec.DESC_ADDR) 64
    let r := (List.range (getF d.2.1 PassDesc.ENTRIES)).foldl (postOne f (unitKey 5 port) (getF d.2.1 PassDesc.ENTRY_ADDR)) (d.1, false)
    answer s (if getF d.2.1 PassDesc.WAIT_DONE = 1 ∧ unitWork r.1 (unitKey 5 port) = true then r.1
      else passEnd r.1 port (if r.2 then 5 else 0) .done) := by
  simp [postStep, hf, hop, hw, hd]

end

/-- R254: an entry that serves no pull, by its function and its queue pair's state. -/
theorem postEntry_of_no_pull {s : State} {q sqe : Nat} (u ten : Nat) (hp : pullOf s q sqe = none) : postEntry s u ten q sqe =
    if funcOpen s (qpF s q QpCtx.FUNCTION) = false then refuseWqe s q sqe 14
    else if qpState s q = 2 then postWqe s q sqe ten none (.unit u)
    else if qpState s q = 5 then refuseWqe (qpCount s 7 1) q sqe 1
    else refuseWqe s q sqe 14 := by
  simp only [postEntry, hp, Option.filter_none]

/-! ## The next work request (R253) -/

theorem startNext_none {s : State} {q : Nat} (op : Nat) (h : ¬ TakesPackets s q ∨ nextIdx s q = none) : startNext s q op = s := by
  unfold startNext
  split
  · rfl
  · next hq => rw [h.resolve_left (mt not_takesPackets_iff.1 hq)]

section
variable {s : State} {q n : Nat} (op : Nat) (hq : TakesPackets s q) (hn : nextIdx s q = some n)
include hq hn

theorem startNext_read (hr : (readRec s ownReader (sqAddr s q n) 64).2.2.1 = 0) : startNext s q op =
    let r := readRec s ownReader (sqAddr s q n) 64
    if getF r.2.1 Sqe.OP = op ∧ mayStart r.1 q r.2.1 = true then startWqe r.1 q n r.2.1 else s := by
  rw [startNext, if_neg hq.not_refused, hn]
  exact if_neg (not_not.2 hr)

theorem startNext_unread {w : Wqe} (hr : (readRec s ownReader (sqAddr s q n) 64).2.2.1 ≠ 0)
    (hw : wqeAt (startWqe (readRec s ownReader (sqAddr s q n) 64).1 q n 0) q n = some w) :
    startNext s q op = popWqes (endWqe (startWqe (readRec s ownReader (sqAddr s q n) 64).1 q n 0) q w 12) q := by
  rw [startNext, if_neg hq.not_refused, hn]
  simp only [if_pos hr, hw]

end

/-! ## Acknowledgements and timers (R258, R260, R264, R265) -/

section
variable {s x : State} {m : Msg} {q c : Nat} (hx : takeRx s m = x) (hd : getF m.hdr Pkt.DEST_QP = q)
include hx hd

theorem ack_refused (hq : ¬ TakesPackets x q) : completes (.ack m) s (sendNak x q m (getF m.hdr Pkt.PSN) 0x21 0) := by
  subst hx hd
  exact completes_of_takeRx rfl (if_neg hq)

variable (hc : psnAdd (getF m.hdr Pkt.PSN) 1 = c) (hq : TakesPackets x q)
include hc hq

theorem ack_fresh (hn : psnBefore (qpSt x q).acked c = true
      ∧ psnDiff (qpSt x q).acked c ≤ psnDiff (qpSt x q).acked (qpF x q QpCtx.SEND_PSN)) :
    completes (.ack m) s (ackAdvance (setQpSt x q { qpSt x q with acked := c }) q) := by
  subst hx hd hc
  exact completes_of_takeRx rfl ((if_pos hq).trans (congrArg (ackAdvance · _) (if_pos hn)))

theorem ack_stale (hn : ¬ (psnBefore (qpSt x q).acked c = true
      ∧ psnDiff (qpSt x q).acked c ≤ psnDiff (qpSt x q).acked (qpF x q QpCtx.SEND_PSN))) :
    completes (.ack m) s (ackAdvance x q) := by
  subst hx hd hc
  exact completes_of_takeRx rfl ((if_pos hq).trans (congrArg (ackAdvance · _) (if_neg hn)))

end

/-- R260: what an ACK sent leaves: nothing owed, one message more, and no change outside the network. -/
theorem sendAck_spec (s : State) (q : Nat) : (qpSt (sendAck s q) q).ackDue = none
    ∧ (qpSt (sendAck s q) q).ackSent = qpF s q QpCtx.RECV_PSN ∧ (sendAck s q).txq.length = s.txq.length + 1
    ∧ { sendAck s q with txq := s.txq, net := s.net } = s := by
  refine ⟨?_, ?_, ?_, rfl⟩
  · rw [sendAck, qpSt_setQpSt_same]
  · rw [sendAck, qpSt_setQpSt_same]
  · rw [sendAck, setQpSt_txq]
    exact List.length_append

theorem ackTimer_due {s : State} {q c : Nat} (hd : (qpSt s q).ackDue = some c) (hc : c + usClk ≤ s.clk) (hq : TakesPackets s q) :
    completes (.ackTimer q) s (sendAck s q) := by
  refine congrArg (answer s) ?_
  simp only [hd]
  exact if_pos ⟨hc, hq⟩

theorem retryAfterResend_noted {s : State} {q psn c : Nat} {p : SentPkt} (hp : (qpSt s q).sent.find? (fun p => p.psn == psn) = some p)
    (hd : p.due = some c) :
    completes (.retryAfterResend q psn) s (if c ≤ s.clk ∧ TakesPackets s q then resend s q p false else s) := by
  refine congrArg (answer s) ?_
  simp only [hp, hd]

section
variable {s x : State} {q c : Nat} (ht : (qpSt s q).timer = some c) (hc : c + usClk * qpF s q QpCtx.TIMEOUT ≤ s.clk)
  (hq : TakesPackets s q) (hx : dropRevoked (qpCount s 2 1) q = x)
include ht hc hq hx

theorem qpTimeout_nothingLeft (ha : qpF x q QpCtx.ACK_PSN = qpF x q QpCtx.SEND_PSN) :
    completes (.qpTimeout q) s (claspPulls { x with pending := s.pending }) := by
  subst hx
  refine completes_of_withPulls rfl ?_
  simp only [ht]
  exact (if_pos ⟨hc, hq⟩).trans (if_pos ha)

variable (ha : qpF x q QpCtx.ACK_PSN ≠ qpF x q QpCtx.SEND_PSN)
include ha

theorem qpTimeout_again {y : State} (hy : (qpSt x q).sent.foldl (fun t p => resend t q p true) x = y)
    (hr : (qpSt x q).retries + 1 < qpF x q QpCtx.RETRY_MAX) :
    completes (.qpTimeout q) s (claspPulls
      { setQpSt y q { qpSt y q with retries := (qpSt x q).retries + 1, timer := some y.clk } with pending := s.pending }) := by
  subst hx hy
  refine completes_of_withPulls rfl ?_
  simp only [ht]
  exact (if_pos ⟨hc, hq⟩).trans ((if_neg ha).trans (if_neg (Nat.not_le.2 hr)))

theorem qpTimeout_last {w : Wqe} (hr : qpF x q QpCtx.RETRY_MAX ≤ (qpSt x q).retries + 1)
    (hw : (qpSt x q).wqes.find? (fun w => !w.finished) = some w) :
    completes (.qpTimeout q) s (claspPulls { qpError (endWqe x q w 10) q with pending := s.pending }) := by
  subst hx
  refine completes_of_withPulls rfl ?_
  simp only [ht]
  refine (if_pos ⟨hc, hq⟩).trans ((if_neg ha).trans ((if_pos hr).trans ?_))
  simp only [hw]

end

/-- Settles O39: POST by how its step is read, the entries and the next work request by their cases, the ACK and the timers by their
conditions. -/
theorem queuePairRequests : Obligations.QueuePairRequests := by
  refine ⟨fun s port f hf => ⟨fun hop hw hd => ⟨fun hn => ?_, fun hn => ?_⟩, fun hop hw hd => ?_,
      fun hop hw => ?_, fun h1 hr hg => ?_⟩,
    passEnd_spec, fun s u ten q sqe hp => ?_, fun s q => ⟨?_, completes_of_withPulls rfl rfl⟩,
    fun s q op n hq hn => ⟨fun hr hop hm => ?_, fun hr h => ?_, fun w hr hw => startNext_unread op hq hn hr hw⟩,
    fun s q op h => startNext_none op (h.imp_left not_takesPackets_iff.2), fun s q h3 hw ha hi => ?_,
    fun s m => ⟨fun h2 h3 => ack_refused rfl rfl (not_or.2 ⟨h2, h3⟩),
      fun hq => ⟨ack_fresh rfl rfl rfl hq, ack_stale rfl rfl rfl hq⟩⟩,
    fun s q c hd hc hq => ⟨_, ackTimer_due hd hc hq, sendAck_spec s q⟩,
    fun s q psn c p hp hd hq => ⟨fun hc => ?_, fun hc => ?_⟩,
    fun s q c ht hc hq => ⟨qpTimeout_nothingLeft ht hc hq rfl, fun ha => qpTimeout_again ht hc hq rfl ha rfl,
      fun w ha => qpTimeout_last ht hc hq rfl ha⟩⟩
  · exact completes_of_withPulls (congrArg (withPulls s) (postStep_read hf hop hw hd)) (if_neg hn)
  · exact completes_of_withPulls (congrArg (withPulls s) (postStep_read hf hop hw hd)) (if_pos hn)
  · exact completes_of_withPulls (congrArg (withPulls s) (postStep_unread hf hop hw hd)) rfl
  · exact completes_of_withPulls (congrArg (withPulls s) (postStep_working hf hop hw)) rfl
  · exact completes_of_withPulls (congrArg (withPulls s) (postStep_other hf h1 hr hg)) rfl
  · rw [postEntry_of_no_pull u ten hp]
    exact ⟨fun hc => if_pos hc, fun ho => by
      rw [if_neg (by simp [ho])]
      exact ⟨fun h2 => if_pos h2, fun h5 => (if_neg (by simp [h5])).trans (if_pos h5),
        fun h2 h5 => (if_neg h2).trans (if_neg h5)⟩⟩
  · intro p hp
    simp only [List.mem_cons, List.not_mem_nil, or_false] at hp
    rcases hp with rfl | rfl | rfl | rfl <;> rfl
  · exact (startNext_read op hq hn hr).trans (if_pos ⟨hop, hm⟩)
  · exact (startNext_read op hq hn hr).trans (if_neg (by rcases h with h | h <;> simp [h]))
  · exact congrArg (answer s) (if_pos ⟨h3, List.all_eq_true.2 hw, ha, hi⟩)
  · have h := retryAfterResend_noted hp hd
    rwa [if_pos ⟨hc, hq⟩] at h
  · have h := retryAfterResend_noted hp hd
    rwa [if_neg fun h => Nat.not_le.2 hc h.1] at h

end Sys2Proof.Machine

/-! # Queue pairs: what a received packet does (chapter 12, R257 to R259, R262, R263, R266, R267) -/

namespace Sys2Proof.Machine

/-! ## What a request meets before it is executed (R251, R257, R263) -/

section
variable {s z : State} {q p : Nat} {m : Msg} (hz : mapTouch s (qpAddr s q) 128 = z) (hp : getF m.hdr Pkt.PSN = p)
include hz hp

theorem requestGate_refused (hq : ¬ TakesPackets z q) : requestGate s q m = (sendNak z q m p 0x21 0, 3) := by
  subst hz hp
  exact if_pos (not_takesPackets_iff.1 hq)

variable (hq : TakesPackets z q)
include hq

theorem requestGate_new (hc : classify z q p = 0) (he : (qpSt z q).early = []) : requestGate s q m = (keyTouch z m, 0) := by
  subst hz hp
  refine (if_neg hq.not_refused).trans ?_
  rw [hc, he]
  rfl

theorem requestGate_ahead (hc : classify z q p = 2) : requestGate s q m = (qpCount z 1 1, 3) := by
  subst hz hp
  refine (if_neg hq.not_refused).trans ?_
  rw [hc]
  rfl

/-- A duplicate, by whether its first is held and whether it is the re-send that an owed number waits for. -/
theorem requestGate_seen (hc : classify z q p = 1) : requestGate s q m =
    if isHeld z q p = true then (z, 3)
    else if owedResend z q m.hdr = true then (keyTouch (unowe z q p) m, 0) else (qpCount z 0 1, 1) := by
  subst hz hp
  refine (if_neg hq.not_refused).trans ?_
  rw [hc]
  rfl

end

/-! ## Request packets past the gate -/

/-- A READ_REQ's answer, the source's FLAGS noted where it is of a row image (R196). -/
theorem completes_readReq {s t : State} {m : Msg} (h : readReq m s = answer (takeRx s m) t) :
    completes (.readReq m) s (imageRead { t with pending := s.pending } m) := by
  show execReadReq m s = _
  rw [execReadReq, h, answer_takeRx]
  rfl

section
variable {s x y c : State} {m : Msg} {q p k : Nat} {g : State × Nat} {d : RxData} {b : Bool}
  (hx : takeRx s m = x) (hd : getF m.hdr Pkt.DEST_QP = q) (hg : requestGate x q m = g)
include hx hd hg

theorem requests_stopped (h3 : g.2 = 3) : (∀ i ∈ [Instr.sendPacket m, .writePacket m, .atomic m], completes i s g.1)
    ∧ completes (.readReq m) s (imageRead { g.1 with pending := s.pending } m) := by
  subst hx hd hg
  refine ⟨fun i hi => ?_, completes_readReq (congrArg (answer _) (if_pos (by omega)))⟩
  simp only [List.mem_cons, List.not_mem_nil, or_false] at hi
  rcases hi with rfl | rfl | rfl <;> exact completes_of_takeRx rfl ((if_neg (by omega)).trans (if_pos (by omega)))

theorem dataPackets_duplicate (h1 : g.2 = 1) : ∀ i ∈ [Instr.sendPacket m, .writePacket m], completes i s (dupAck g.1 q) := by
  subst hx hd hg
  intro i hi
  simp only [List.mem_cons, List.not_mem_nil, or_false] at hi
  rcases hi with rfl | rfl <;> exact completes_of_takeRx rfl (if_pos h1)

theorem atomic_kept {v : Nat × Nat} (h1 : g.2 = 1) (hv : (qpSt g.1 q).atomics.find? (fun y => y.1 == getF m.hdr Pkt.PSN) = some v) :
    completes (.atomic m) s (atomicResp g.1 q m v.2) := by
  subst hx hd hg
  refine completes_of_takeRx rfl ((if_pos h1).trans ?_)
  simp only [hv]

theorem atomic_forgotten (h1 : g.2 = 1) (hv : (qpSt g.1 q).atomics.find? (fun y => y.1 == getF m.hdr Pkt.PSN) = none) :
    completes (.atomic m) s (dupAck g.1 q) := by
  subst hx hd hg
  refine completes_of_takeRx rfl ((if_pos h1).trans ?_)
  simp only [hv]

/-- A READ_REQ, new or a duplicate: a page fault, or the bytes read. -/
theorem readReq_reads (h1 : g.2 ≤ 1) : completes (.readReq m) s (imageRead { (
      if keyCheck g.1 q m 3 (touched m.hdr).1 (min 4032 (touched m.hdr).2) = 0 ∧ pageAbsent g.1 m = true then pageFault g.1 q m m false
      else if g.2 = 1 then runRead (coverage m.hdr) g.1 q m 0
      else earlySends (rxDone (runRead (coverage m.hdr) (markRecv g.1 q (getF m.hdr Pkt.PSN) (coverage m.hdr)) q m 0) q m) q : State)
    with pending := s.pending } m) := by
  subst hx hd hg
  exact completes_readReq (congrArg (answer _) (if_neg (by omega)))

variable (h0 : g.2 = 0)
include h0

/-- Data that is not decoded: of a table not held it is dropped, malformed it makes the queue pair ERROR (R324). -/
theorem dataPackets_undecoded (hp : pktData g.1 m = (y, none, b)) :
    ∀ i ∈ [Instr.sendPacket m, .writePacket m], completes i s (bif b then y else qpError y q) := by
  subst hx hd hg
  intro i hi
  simp only [List.mem_cons, List.not_mem_nil, or_false] at hi
  rcases hi with rfl | rfl <;>
    exact completes_of_takeRx rfl ((if_neg (by omega)).trans ((if_neg (by omega)).trans
      (by cases b <;> simp only [hp, cond_true, cond_false])))

theorem sendPacket_decoded (hp : pktData g.1 m = (y, some d, b)) : completes (.sendPacket m) s (earlySends (sendArrived y q m d) q) := by
  subst hx hd hg
  refine completes_of_takeRx rfl ((if_neg (by omega)).trans ((if_neg (by omega)).trans ?_))
  simp only [hp]

/-- A WRITE's data by what has become of its message, its key and its pages. -/
theorem writePacket_decoded (hp : pktData g.1 m = (y, some d, b)) (hc : countIn y q d.raw = c) (hn : getF m.hdr Pkt.PSN = p)
    (hk : keyCheck c q m 2 (touched m.hdr).1 d.raw = k) : completes (.writePacket m) s (earlySends (
      if (msgOf c q m.hdr).status ≠ 0 then rxCount (markRecv c q p 1) q (msgOf c q m.hdr) d.raw 0
      else if k ≠ 0 then rxCount (markRecv (keyFail c q m p k) q p 1) q (msgOf c q m.hdr) d.raw k
      else if pageAbsent c m = true then pageFault c q m { m with data := d.bytes } d.short
      else runWrite c q m d) q) := by
  subst hx hd hg hc hn hk
  refine completes_of_takeRx rfl ((if_neg (by omega)).trans ((if_neg (by omega)).trans ?_))
  simp only [hp]

/-- A new atomic by its key and its page. -/
theorem atomic_new (hc : countIn g.1 q 16 = c) (hn : getF m.hdr Pkt.PSN = p)
    (hk : keyCheck c q m 1 (getF m.hdr Pkt.REMOTE_OFFSET) 8 = k) : completes (.atomic m) s (earlySends (
      if k ≠ 0 then rxDone (keyFail (markRecv c q p 1) q m p k) q m
      else if pageAbsent c m = true then pageFault c q m m false
      else rxDone (runAtomic (markRecv c q p 1) q m) q m) q) := by
  subst hx hd hg hc hn hk
  exact completes_of_takeRx rfl ((if_neg (by omega)).trans (if_neg (by omega)))

end

/-! ## A SEND's data (R259) -/

theorem sendArrived_past {y : State} {q : Nat} {m : Msg} (d : RxData) (h : psnBefore (getF m.hdr Pkt.MSN) (qpF y q QpCtx.RECV_MSN) = true) :
    sendArrived y q m d = markRecv y q (getF m.hdr Pkt.PSN) 1 := if_pos h

section
variable {y : State} {q msn : Nat} {m : Msg} {d : RxData} (hm : getF m.hdr Pkt.MSN = msn)
  (hb : psnBefore msn (qpF y q QpCtx.RECV_MSN) = false) (hr : (qpSt y q).rx.find? (fun r => r.msn == msn) = none)
include hm hb hr

theorem sendArrived_noBuffer (hn : rxBuffer y q msn = none) :
    sendArrived y q m d = sendNak y q m (getF m.hdr Pkt.PSN) 0x20 (od y OD.RECV_RETRY_US) := by
  subst hm
  refine (if_neg (ne_true_of_eq_false hb)).trans ((if_pos (.inr (.inr hn))).trans ?_)
  simp only [runSend, hr, hn]

variable {idx : Nat} (hi : rxBuffer y q msn = some idx)
include hi

theorem sendArrived_early (hk : rxKnown y q msn = false) : sendArrived y q m d =
    setQpSt y q { qpSt y q with early := (qpSt y q).early ++ [({ m with data := d.bytes }, d.short)] } := by
  subst hm
  have hany : (qpSt y q).rx.any (fun r => r.msn == getF m.hdr Pkt.MSN) = false := by
    simpa only [List.any_eq_false, List.find?_eq_none] using hr
  exact (if_neg (ne_true_of_eq_false hb)).trans (if_neg (by simp [hany, hk, hi]))

/-- The first packet of a SEND takes its buffer: its data placed, a failure answered before its number is marked. -/
theorem sendArrived_placed {nr : State × RxMsg} {w : State × Nat} (hk : rxKnown y q msn = true) (hs : d.short = false)
    (hnr : newSend y q m.hdr idx = nr) (h0 : nr.2.status = 0)
    (hw : placeData (rxSet (countIn nr.1 q d.raw) q nr.2) m false (nr.2.addr + getF m.hdr Pkt.OFFSET) d = w) :
    sendArrived y q m d = rxCount (markRecv (if w.2 ≠ 0 then sendNak w.1 q m (getF m.hdr Pkt.PSN) w.2 0 else w.1) q
      (getF m.hdr Pkt.PSN) 1) q nr.2 d.raw w.2 := by
  subst hm hnr hw
  refine (if_neg (ne_true_of_eq_false hb)).trans ((if_pos (.inr (.inl hk))).trans ?_)
  simp only [runSend, hr, hi, Option.getD_some]
  rw [if_neg (not_not.2 h0)]
  have hst (n : Nat) : (if n ≠ 0 then n else 0) = n := by split <;> omega
  simp only [hs, Bool.false_eq_true, if_false, hst]

end

/-! ## Responses (R258) -/

section
variable {s x y z : State} {m : Msg} {q p : Nat} {w : Wqe} {d : RxData} {b : Bool}
  (hx : takeRx s m = x) (hd : getF m.hdr Pkt.DEST_QP = q) (hp : getF m.hdr Pkt.PSN = p)
include hx hd hp

theorem responses_refused (hq : ¬ TakesPackets x q) :
    completes (.readResp m) s (claspPulls { sendNak x q m p 0x21 0 with pending := s.pending })
      ∧ completes (.atomicResp m) s (sendNak x q m p 0x21 0) := by
  subst hx hd hp
  exact ⟨completes_of_withPulls_takeRx rfl (if_pos (not_takesPackets_iff.1 hq)),
    completes_of_takeRx rfl (if_pos (not_takesPackets_iff.1 hq))⟩

variable (hq : TakesPackets x q)
include hq

theorem readResp_unexpected (hw : respWqe x q p true = none) : completes (.readResp m) s (claspPulls { x with pending := s.pending }) := by
  subst hx hd hp
  refine completes_of_withPulls_takeRx rfl ((if_neg hq.not_refused).trans ?_)
  simp only [hw]

theorem atomicResp_unexpected (hw : respWqe x q p false = none) : completes (.atomicResp m) s x := by
  subst hx hd hp
  refine completes_of_takeRx rfl ((if_neg hq.not_refused).trans ?_)
  simp only [hw]

theorem readResp_malformed (hw : respWqe x q p true = some w) (hb : pktData x m = (y, none, false)) :
    completes (.readResp m) s (claspPulls { qpError y q with pending := s.pending }) := by
  subst hx hd hp
  refine completes_of_withPulls_takeRx rfl ((if_neg hq.not_refused).trans ?_)
  simp only [hw, hb]

theorem readResp_lands (hw : respWqe x q p true = some w) (hb : pktData x m = (y, some d, b))
    (hz : placeResp (countIn y q d.raw) w m (getF m.hdr Pkt.OFFSET) d = (z, 0)) :
    completes (.readResp m) s (claspPulls { landed z q w p d.bytes.length (if d.short then 9 else 0) with pending := s.pending }) := by
  subst hx hd hp
  refine completes_of_withPulls_takeRx rfl ((if_neg hq.not_refused).trans ?_)
  simp only [hw, hb, hz]
  exact (if_neg (by simp)).trans (if_neg (by simp))

theorem atomicResp_lands (hw : respWqe x q p false = some w) (hz : placeResp (countIn x q 8) w m 0 ⟨m.data.take 8, 8, false⟩ = (z, 0)) :
    completes (.atomicResp m) s (landed z q w p 8 0) := by
  subst hx hd hp
  refine completes_of_takeRx rfl ((if_neg hq.not_refused).trans ?_)
  simp only [hw, hz]
  exact (if_neg (by simp)).trans (if_neg (by simp))

end

/-! ## NAK (R262, R264, R266, R267, R326) -/

section
variable {s x : State} {m : Msg} {q p st : Nat} {w : Wqe} (hx : takeRx s m = x) (hd : getF m.hdr Pkt.DEST_QP = q)
include hx hd

theorem nak_refused (hq : ¬ TakesPackets x q) :
    completes (.nak m) s (claspPulls { sendNak x q m (getF m.hdr Pkt.PSN) 0x21 0 with pending := s.pending }) := by
  subst hx hd
  exact completes_of_withPulls_takeRx rfl (if_neg hq)

variable (hp : getF m.hdr Pkt.PSN = p) (hst : getF m.hdr Pkt.STATUS = st) (hq : TakesPackets x q)
include hp hst hq

theorem nak_retryAfter (h : st = 0x20) :
    completes (.nak m) s (claspPulls { retryAfter x q p (getF m.hdr Pkt.HINT) with pending := s.pending }) := by
  subst hx hd hp hst
  exact completes_of_withPulls_takeRx rfl ((if_pos hq).trans (if_pos h))

theorem nak_remoteError (h : st = 0x21) : completes (.nak m) s (claspPulls { remoteError x q p with pending := s.pending }) := by
  subst hx hd hp hst
  exact completes_of_withPulls_takeRx rfl ((if_pos hq).trans ((if_neg (by omega)).trans (if_pos h)))

omit hp in
theorem nak_keyRevoked (h : st = 13) : completes (.nak m) s (claspPulls { keyRevoked x q with pending := s.pending }) := by
  subst hx hd hst
  exact completes_of_withPulls_takeRx rfl ((if_pos hq).trans ((if_neg (by omega)).trans ((if_neg (by omega)).trans (if_pos h))))

variable (h20 : st ≠ 0x20) (h21 : st ≠ 0x21) (h13 : st ≠ 13)
include h20 h21 h13

theorem nak_of_none (hw : wqeOf x q p = none) : completes (.nak m) s (claspPulls { x with pending := s.pending }) := by
  subst hx hd hp hst
  refine completes_of_withPulls_takeRx rfl ((if_pos hq).trans ((if_neg h20).trans ((if_neg h21).trans ((if_neg h13).trans ?_))))
  simp only [hw]

/-- A NAK of a work request: LENGTH_ERROR is kept until all of it is acknowledged, another failure ends it at once. -/
theorem nak_of_some (hw : wqeOf x q p = some w) : completes (.nak m) s (claspPulls { (
      if w.finished = true then x
      else if st = 9 then wqeSet x q { w with status := 9 }
      else ackAdvance (endWqe x q w st) q : State) with pending := s.pending }) := by
  subst hx hd hp hst
  refine completes_of_withPulls_takeRx rfl ((if_pos hq).trans ((if_neg h20).trans ((if_neg h21).trans ((if_neg h13).trans ?_))))
  simp only [hw]

end

/-- Settles O40: the gate by its cases, each request by what passes it, responses by the work request they are for, a NAK by its status. -/
theorem queuePairPackets : Obligations.QueuePairPackets := by
  refine ⟨fun s q m => ⟨requestGate_refused rfl rfl, fun hq => requestGate_ahead rfl rfl hq, fun hq hc hh => ?_, fun hq hc hh ho => ?_,
      fun hq hc hh ho => ?_, fun hq => requestGate_new rfl rfl hq⟩,
    fun s m => ⟨requests_stopped rfl rfl rfl, fun h1 => ⟨dataPackets_duplicate rfl rfl rfl h1, fun v => atomic_kept rfl rfl rfl h1,
        atomic_forgotten rfl rfl rfl h1, fun hn => ?_⟩, fun h1 hf => ?_, fun h0 hn => ?_⟩,
    fun s y m d b h0 => ⟨dataPackets_undecoded rfl rfl rfl h0, dataPackets_undecoded rfl rfl rfl h0, fun hp =>
      ⟨sendPacket_decoded rfl rfl rfl h0 hp, fun hr => ?_, fun hr => ⟨fun hk => ?_, fun hk ha => ?_, fun hk ha => ?_⟩⟩⟩,
    fun y q m d => ⟨sendArrived_past d, fun hb hr => ⟨sendArrived_noBuffer rfl hb hr, fun idx hi => sendArrived_early rfl hb hr hi,
      fun idx hi hk hs => ⟨fun h0 hw => ?_, fun h0 hw => ?_⟩⟩⟩,
    fun s m h0 => ⟨fun hk => ?_, fun hk ha => ?_, fun hk ha => ?_⟩,
    fun s y z m w d b => ⟨readResp_unexpected rfl rfl rfl, responses_refused rfl rfl rfl, atomicResp_unexpected rfl rfl rfl,
      readResp_malformed rfl rfl rfl, readResp_lands rfl rfl rfl, atomicResp_lands rfl rfl rfl⟩,
    fun s m => ⟨nak_refused rfl rfl, nak_retryAfter rfl rfl rfl rfl, nak_remoteError rfl rfl rfl rfl, nak_keyRevoked rfl rfl rfl,
      fun hq h20 h21 h13 => ⟨nak_of_none rfl rfl rfl rfl hq h20 h21 h13,
        fun w hw => ⟨fun hf => ?_, fun hf h9 => ?_, fun hf h9 => ?_⟩⟩⟩,
    fun op prior a b => ⟨fun h => if_pos h, fun h he => (if_neg h).trans (if_pos he), fun h he => (if_neg h).trans (if_neg he)⟩⟩
  · exact (requestGate_seen rfl rfl hq hc).trans (if_pos hh)
  · exact (requestGate_seen rfl rfl hq hc).trans ((if_neg (ne_true_of_eq_false hh)).trans (if_neg (ne_true_of_eq_false ho)))
  · exact (requestGate_seen rfl rfl hq hc).trans ((if_neg (ne_true_of_eq_false hh)).trans (if_pos ho))
  · have h := readReq_reads rfl rfl rfl h1.le
    rwa [if_neg hn, if_pos h1] at h
  · have h := readReq_reads rfl rfl rfl h1
    rwa [if_pos hf] at h
  · have h := readReq_reads rfl rfl rfl (h0.le.trans zero_le_one)
    rwa [if_neg hn, if_neg (by omega)] at h
  · have h := writePacket_decoded rfl rfl rfl h0 hp rfl rfl rfl
    rwa [if_pos hr] at h
  · have h := writePacket_decoded rfl rfl rfl h0 hp rfl rfl rfl
    rwa [if_neg (not_not.2 hr), if_pos hk] at h
  · have h := writePacket_decoded rfl rfl rfl h0 hp rfl rfl rfl
    rwa [if_neg (not_not.2 hr), if_neg (not_not.2 hk), if_pos ha] at h
  · have h := writePacket_decoded rfl rfl rfl h0 hp rfl rfl rfl
    rwa [if_neg (not_not.2 hr), if_neg (not_not.2 hk), if_neg (ne_true_of_eq_false ha)] at h
  · rw [sendArrived_placed rfl hb hr hi hk hs rfl h0 rfl, if_neg (not_not.2 hw), hw]
  · rw [sendArrived_placed rfl hb hr hi hk hs rfl h0 rfl, if_pos hw]
  · have h := atomic_new rfl rfl rfl h0 rfl rfl rfl
    rwa [if_pos hk] at h
  · have h := atomic_new rfl rfl rfl h0 rfl rfl rfl
    rwa [if_neg (not_not.2 hk), if_pos ha] at h
  · have h := atomic_new rfl rfl rfl h0 rfl rfl rfl
    rwa [if_neg (not_not.2 hk), if_neg (ne_true_of_eq_false ha)] at h
  · have h := nak_of_some rfl rfl rfl rfl hq h20 h21 h13 hw
    rwa [if_pos hf] at h
  · have h := nak_of_some rfl rfl rfl rfl hq h20 h21 h13 hw
    rwa [if_neg (ne_true_of_eq_false hf), if_pos h9] at h
  · have h := nak_of_some rfl rfl rfl rfl hq h20 h21 h13 hw
    rwa [if_neg (ne_true_of_eq_false hf), if_neg h9] at h

end Sys2Proof.Machine

/-! # Held packets, completion entries and the wickets' fill (chapter 12, R255, R263, R271) -/

namespace Sys2Proof.Machine

/-! ## Held packets (R263) -/

section
variable {s : State} {q psn : Nat} {h : HeldPkt} (hf : s.net.faults.find? (fun h => h.qp == q && getF h.msg.hdr Pkt.PSN == psn) = some h)
include hf

theorem pageResident_held : completes (.pageResident q psn) s (if pageAbsent s h.msg = true then s else runHeld s h) := by
  refine congrArg (answer s) ?_
  simp only [hf]

theorem stallLimit_held : completes (.stallLimit q psn) s
    (if h.clk + usClk * getF (mrOf s h.msg) Mr.STALL_LIMIT ≤ s.clk
      then pageRetry { s with net := { s.net with faults := s.net.faults.erase h } } q h.msg 0 else s) := by
  refine congrArg (answer s) ?_
  simp only [hf]

end

section
variable {s x : State} {h : HeldPkt} {q op : Nat} (hx : { s with net := { s.net with faults := s.net.faults.erase h } } = x) (hq : h.qp = q)
  (ho : getF h.msg.hdr Pkt.OPCODE = op)
include hx hq ho

theorem runHeld_write (h2 : op = 2) :
    runHeld s h = earlySends (recvAdvance (runWrite x q h.msg ⟨h.msg.data, pktLen h.msg.hdr, h.short⟩) q) q := by
  subst hx hq ho
  rw [runHeld, if_pos h2]

theorem runHeld_read (h3 : op = 3) :
    runHeld s h = earlySends (recvAdvance (rxDone (runRead (coverage h.msg.hdr) x q h.msg 0) q h.msg) q) q := by
  subst hx hq ho
  rw [runHeld, if_neg (by omega), if_pos h3]

theorem runHeld_atomic (h5 : op = 5) : runHeld s h = earlySends (recvAdvance (rxDone (runAtomic x q h.msg) q h.msg) q) q := by
  subst hx hq ho
  rw [runHeld, if_neg (by omega), if_neg (by omega)]

end

/-! ## Completion queues (R255) -/

theorem cqEntry_none {s : State} {cq : Nat} (h : s.net.cqWait.find? (fun p => p.1 == cq) = none) : completes (.cqEntry cq) s s := by
  refine congrArg (answer s) ?_
  simp only [h]

section
variable {s : State} {cq : Nat} {p : Nat × Nat} (hw : s.net.cqWait.find? (fun p => p.1 == cq) = some p)
include hw

theorem cqEntry_room (hr : cqFull s cq = false) : completes (.cqEntry cq) s (cqWrite s cq p) := by
  refine congrArg (answer s) ?_
  simp only [hw, hr, Bool.false_eq_true, if_false]

/-- Where every entry is unread, what the reader has taken decides. -/
theorem cqEntry_unread (hr : cqFull s cq = true) :
    completes (.cqEntry cq) s (if cqFull (cqTaken s cq) cq = true then cqTaken s cq else cqWrite (cqTaken s cq) cq p) := by
  refine congrArg (answer s) ?_
  simp only [hw, hr, if_true]

end

theorem cqCi_cqTaken (s : State) (cq : Nat) : kget (cqTaken s cq).net.cqCi cq 0 = kget s.net.cqCi cq 0
    + (takeFree s).1 % (kget s.net.cqPi cq 0 - kget s.net.cqCi cq 0 + 1) := kget_kput_same _ _ _ _

/-- The reader's number never falls and never passes what has been written (log 43). -/
theorem cqTaken_spec (s : State) (cq : Nat) : kget s.net.cqCi cq 0 ≤ kget (cqTaken s cq).net.cqCi cq 0
    ∧ (kget s.net.cqCi cq 0 ≤ kget s.net.cqPi cq 0 → kget (cqTaken s cq).net.cqCi cq 0 ≤ kget (cqTaken s cq).net.cqPi cq 0)
    ∧ (cqTaken s cq).net.cqPi = s.net.cqPi ∧ (cqTaken s cq).mem = s.mem := by
  refine ⟨?_, fun hle => ?_, rfl, rfl⟩
  · rw [cqCi_cqTaken]
    exact Nat.le_add_right ..
  · have hpi : kget (cqTaken s cq).net.cqPi cq 0 = kget s.net.cqPi cq 0 := rfl
    rw [cqCi_cqTaken, hpi]
    exact Nat.add_le_of_le_sub' hle (Nat.le_of_lt_succ (Nat.mod_lt _ (Nat.succ_pos _)))

/-! ## The wickets' fill (R271) -/

/-- A wicket's buckets after one fill step: a sixteenth of CIR and PIR more, up to the bursts. -/
def filledBuckets (s : State) (w : Nat) : Nat × Nat :=
  let b := buckets s w
  let r := odGet s OD.WICKETS w
  (min (b.1 + getF r Wicket.CIR) (16 * getF r Wicket.CBS), min (b.2 + getF r Wicket.PIR) (16 * getF r Wicket.PBS))

/-- The buckets alone, and their elements of WICKET_STATE, change. -/
theorem setBuckets_eq (s : State) (w c p : Nat) : setBuckets s w c p =
    { s with net := { s.net with wicket := kput s.net.wicket w (c, p) }, od := (setBuckets s w c p).od } := odPuts_eq _ _ _ _

theorem wicketFill_eq (s : State) (w : Nat) : wicketFill s w =
    { s with net := { s.net with wicket := kput s.net.wicket w (filledBuckets s w) }, od := (wicketFill s w).od } :=
  setBuckets_eq s w _ _

theorem buckets_wicketFill_same (s : State) (w : Nat) : buckets (wicketFill s w) w = filledBuckets s w := by
  rw [wicketFill_eq]
  exact kget_kput_same _ _ _ _

theorem buckets_wicketFill_ne (s : State) {w v : Nat} (h : v ≠ w) : buckets (wicketFill s w) v = buckets s v := by
  rw [wicketFill_eq]
  exact kget_kput_ne _ _ _ _ _ h

theorem keepsEntries_wicketFill (s : State) {w : Nat} (h : w < 4096) : KeepsEntries [OD.WICKET_STATE] s (wicketFill s w) :=
  (KeepsEntries.of_od rfl).trans (keepsEntries_odPuts _ (List.mem_singleton_self _) _
    (by simp only [List.length_cons, List.length_nil]; omega))

/-- The wickets below `n` filled once. -/
def wicketsFilled (s : State) (n : Nat) : State := (List.range n).foldl wicketFill s

theorem wicketsFilled_succ (s : State) (n : Nat) : wicketsFilled s (n + 1) = wicketFill (wicketsFilled s n) n := by
  rw [wicketsFilled, List.range_succ, List.foldl_append]
  rfl

theorem wicketsFilled_eq (s : State) (n : Nat) : wicketsFilled s n =
    { s with net := { s.net with wicket := (wicketsFilled s n).net.wicket }, od := (wicketsFilled s n).od } := by
  induction n with
  | zero => rfl
  | succ n ih =>
    rw [wicketsFilled_succ, wicketFill_eq]
    generalize wicketFill (wicketsFilled s n) n = u
    rw [ih]

theorem keepsEntries_wicketsFilled (s : State) {n : Nat} (h : n ≤ 4096) : KeepsEntries [OD.WICKET_STATE] s (wicketsFilled s n) := by
  induction n with
  | zero => exact .of_od rfl
  | succ n ih =>
    rw [wicketsFilled_succ]
    exact (ih (by omega)).trans (keepsEntries_wicketFill _ h)

theorem buckets_wicketsFilled_above (s : State) {n v : Nat} (h : n ≤ v) : buckets (wicketsFilled s n) v = buckets s v := by
  induction n with
  | zero => rfl
  | succ n ih =>
    rw [wicketsFilled_succ, buckets_wicketFill_ne _ (by omega), ih (by omega)]

/-- Each wicket is filled from its own buckets and record, which the others' fill leaves. -/
theorem buckets_wicketsFilled (s : State) {n v : Nat} (hn : n ≤ 4096) (h : v < n) :
    buckets (wicketsFilled s n) v = filledBuckets s v := by
  induction n with
  | zero => omega
  | succ n ih =>
    rw [wicketsFilled_succ]
    obtain rfl | hne := eq_or_ne v n
    · have hrec : odGet (wicketsFilled s v) OD.WICKETS v = odGet s OD.WICKETS v :=
        keepsEntries_wicketsFilled s (by omega) _ (by decide) _ (by omega)
      rw [buckets_wicketFill_same, filledBuckets, filledBuckets, hrec, buckets_wicketsFilled_above s le_rfl]
    · rw [buckets_wicketFill_ne _ hne, ih (by omega) (by omega)]

/-- The state in which a fill is done: the next is due 64 clk later. -/
def fillCounted (s : State) : State := { s with net := { s.net with wicketClk := s.net.wicketClk + 64 } }

theorem wicketFill_due {s : State} (hr : inRun s = true) (hc : s.net.wicketClk + 64 ≤ s.clk) :
    completes .wicketFill s (wicketsFilled (fillCounted s) 4096) := congrArg (answer s) (if_pos ⟨hr, hc⟩)

/-- Settles O41: a held packet by its pages and its limit, a completion by the room of its queue, the fill wicket by wicket. -/
theorem heldPacketsCompletionsAndWickets : Obligations.HeldPacketsCompletionsAndWickets := by
  refine ⟨fun s q psn h hf => ⟨fun ha => ?_, fun ha => ?_, fun hc => ?_, fun hc => ?_⟩,
    fun s h => ⟨runHeld_write rfl rfl rfl, runHeld_read rfl rfl rfl, runHeld_atomic rfl rfl rfl⟩, fun s cq => cqEntry_none,
    fun s cq p hw => ⟨cqEntry_room hw, fun hr ht => ?_, fun hr ht => ?_⟩, cqTaken_spec,
    fun s hr hc => ⟨_, wicketFill_due hr hc, ?_, fun w hw => ?_, ?_⟩, fun s h => congrArg (answer s) (if_neg ?_)⟩
  · have hp := pageResident_held hf
    rwa [if_neg (ne_true_of_eq_false ha)] at hp
  · have hp := pageResident_held hf
    rwa [if_pos ha] at hp
  · have hp := stallLimit_held hf
    rwa [if_pos hc] at hp
  · have hp := stallLimit_held hf
    rwa [if_neg (Nat.not_le.2 hc)] at hp
  · have hp := cqEntry_unread hw hr
    rwa [if_pos ht] at hp
  · have hp := cqEntry_unread hw hr
    rwa [if_neg (ne_true_of_eq_false ht)] at hp
  · rw [wicketsFilled_eq]
    rfl
  · exact buckets_wicketsFilled (fillCounted s) le_rfl hw
  · rw [wicketsFilled_eq]
    rfl
  · rintro ⟨hr, hc⟩
    rcases h with h | h
    · simp [h] at hr
    · omega

end Sys2Proof.Machine

/-! # Tray requests and their responses (chapter 13, R276, R277, R280, R281, R283, R284, R287, R301)

A request is served where its response has room, a response is matched with the access it answers; a lemma for each branch of a command
says what it completes with, and the statement takes them one by one. -/

namespace Sys2Proof.Machine

/-! ## Tray requests (R276, R277, R280, R283) -/

section
variable {i : Instr} {s x t : State} {m : Msg}

/-- A request whose response has room completes in what its meaning computes from the state without the request. -/
theorem completes_of_whenRoom (hr : respRoom s (respBytes m) = true) (hi : exec i s = whenRoom s m (answer (takeRx s m) x)) (hx : x = t) :
    completes i s t :=
  completes_of_takeRx (hi.trans (if_pos hr)) hx

/-- R280: a request whose response has no room stays in its buffer. -/
theorem trayRequests_noRoom (hr : respRoom s (respBytes m) = false) :
    ∀ i ∈ [Instr.trayRead m, .trayWrite m, .trayAtomic m], completes i s s := by
  have hr' := ne_true_of_eq_false hr
  intro i hi
  simp only [List.mem_cons, List.not_mem_nil, or_false] at hi
  rcases hi with rfl | rfl | rfl <;> exact if_neg hr'

end

section
variable {s : State} {m : Msg} {c : State × Nat × Nat} (hr : respRoom s (respBytes m) = true) (hc : trayCheck (takeRx s m) m.hdr 0 = c)
include hr hc

theorem trayRead_barred (h : c.2.1 ≠ 0) : completes (.trayRead m) s (trayAnswer c.1 m c.2.1 0 []) := by
  subst hc
  exact completes_of_whenRoom hr rfl (if_pos h)

variable {r : State × List Byte × Nat × Nat}
  (hm : readMem c.1 true (trayReader m.hdr) (getF m.hdr TrayHdr.OFFSET) (getF m.hdr TrayHdr.LENGTH_M1 + 1) = r) (h : c.2.1 = 0)
include hm h

theorem trayRead_bytes (h0 : r.2.2.1 = 0) : completes (.trayRead m) s (trayAnswer r.1 m 0 (getF c.2.2 ExportRec.CACHEABLE) r.2.1) := by
  subst hc hm
  refine completes_of_whenRoom hr rfl ((if_neg (not_not.2 h)).trans ?_)
  simp only [h0, if_true, wireStatus]

theorem trayRead_unreadable (h0 : r.2.2.1 ≠ 0) : completes (.trayRead m) s (trayAnswer r.1 m (wireStatus r.2.2.1) 0 []) := by
  subst hc hm
  refine completes_of_whenRoom hr rfl ((if_neg (not_not.2 h)).trans ?_)
  simp only [if_neg h0]

end

section
variable {s y : State} {m : Msg} {bs : List Byte} {c : State × Nat × Nat} (hr : respRoom s (respBytes m) = true)
include hr

/-- R324, R326: a WRITE whose data is not decoded is discarded. -/
theorem trayWrite_discarded (hc : trayCheck (takeRx s m) m.hdr 1 = c) (hd : trayData c.1 m (getF m.hdr TrayHdr.LENGTH_M1 + 1) = (y, none)) :
    completes (.trayWrite m) s y := by
  subst hc
  refine completes_of_whenRoom hr rfl ?_
  simp only [hd]

theorem trayWrite_decoded {r : State × Nat × Nat} (hc : trayCheck (takeRx s m) m.hdr 1 = c)
    (hd : trayData c.1 m (getF m.hdr TrayHdr.LENGTH_M1 + 1) = (y, some bs))
    (ha : agentWrite y true (trayReader m.hdr) (getF m.hdr TrayHdr.OFFSET) bs = r) : completes (.trayWrite m) s (
      if c.2.1 ≠ 0 then trayAnswer y m c.2.1 0 [] else trayAnswer r.1 m (wireStatus r.2.1) 0 []) := by
  subst hc ha
  refine completes_of_whenRoom hr rfl ?_
  simp only [hd]

theorem trayAtomic_discarded (hc : trayCheck (takeRx s m) m.hdr 2 = c) (hd : trayData c.1 m 16 = (y, none)) :
    completes (.trayAtomic m) s y := by
  subst hc
  refine completes_of_whenRoom hr rfl ?_
  simp only [hd]

theorem trayAtomic_decoded {r : State × Nat × Nat} (hc : trayCheck (takeRx s m) m.hdr 2 = c) (hd : trayData c.1 m 16 = (y, some bs))
    (ha : localAtomic y (trayReader m.hdr) (getF m.hdr TrayHdr.OFFSET) (getF m.hdr TrayHdr.ATOMIC_OP) (leNat (bs.take 8))
      (leNat (bs.drop 8)) = r) : completes (.trayAtomic m) s (
      if c.2.1 ≠ 0 then trayAnswer y m c.2.1 0 []
      else trayAnswer r.1 m (wireStatus r.2.2) 0 (if r.2.2 = 0 then leBytes 8 r.2.1 else [])) := by
  subst hc ha
  refine completes_of_whenRoom hr rfl ?_
  simp only [hd]

end

/-! ## Responses (R281, R283, R284, R287) -/

/-- R281: a response that answers no outstanding request is counted as late. -/
theorem responses_late {s : State} {m : Msg} {k : Nat} {i : Instr}
    (hi : (k, i) ∈ [(0, Instr.trayReadResp m), (1, .trayWriteResp m), (2, .trayAtomicResp m)]) (h : respAccess (takeRx s m) m k = none) :
    completes i s (trayCount (takeRx s m) 3) := by
  simp only [List.mem_cons, Prod.mk.injEq, List.not_mem_nil, or_false] at hi
  rcases hi with ⟨rfl, rfl⟩ | ⟨rfl, rfl⟩ | ⟨rfl, rfl⟩ <;> exact completes_of_takeRx rfl (by simp only [h])

section
variable {s x y : State} {m : Msg} {a : Access} {bs : List Byte} {r : State × Nat} (hx : takeRx s m = x)
include hx

theorem trayWriteResp_matched (h : respAccess x m 1 = some a) (hs : respStatus x m = r) :
    completes (.trayWriteResp m) s (portsGo (freeTagOf (endAccess r.1 a.id r.2 []) (a.tag.getD 0))) := by
  subst hx hs
  refine completes_of_takeRx rfl ?_
  simp only [h]

variable (hs : respStatus y m = r)
include hs

theorem trayReadResp_matched (h : respAccess x m 0 = some a)
    (hd : trayData x m (if getF m.hdr TrayHdr.STATUS ≠ 0 then 0 else a.len) = (y, some bs)) :
    completes (.trayReadResp m) s (portsGo (freeTagOf (endAccess
      (if r.2 = 0 ∧ getF m.hdr TrayHdr.CACHEABLE = 1 then (if a.noFill then trcCount r.1 2 1 else trcFill r.1 a.addr bs) else r.1)
      a.id r.2 (if r.2 = 0 then bs else failBytes a)) (a.tag.getD 0))) := by
  subst hx hs
  refine completes_of_takeRx rfl ?_
  simp only [h, hd]

theorem trayAtomicResp_matched (h : respAccess x m 2 = some a)
    (hd : trayData x m (if getF m.hdr TrayHdr.STATUS ≠ 0 then 0 else 8) = (y, some bs)) :
    completes (.trayAtomicResp m) s (portsGo (freeTagOf (endAccess r.1 a.id r.2 bs) (a.tag.getD 0))) := by
  subst hx hs
  refine completes_of_takeRx rfl ?_
  simp only [h, hd]

end

section
variable (s : State) {m : Msg} {st : Nat} (hst : getF m.hdr TrayHdr.STATUS = st)
include hst

theorem respStatus_ok (h : st = 0) : respStatus s m = (trayCount s 1, 0) := by
  subst hst
  exact if_pos h

theorem respStatus_notExported (h : st = 1) : respStatus s m = (trayCount (trayCount s 1) 4, 2) := by
  subst hst
  exact (if_neg (by omega)).trans (if_pos h)

theorem respStatus_uncorrectable (h : st = 3) : respStatus s m = (trayCount (trayCount s 1) 6, 1) := by
  subst hst
  exact (if_neg (by omega)).trans ((if_neg (by omega)).trans (if_pos h))

end

/-! ## Accesses that end, and timeouts (R281, R301) -/

theorem results_endAccess_same (s : State) (id status : Nat) (bs : List Byte) :
    kfind (endAccess s id status bs).fab.results id = some (status, bs) := kfind_kput_same _ _ _

theorem liveAccess_endAccess_same (s : State) (id status : Nat) (bs : List Byte) : liveAccess (endAccess s id status bs) id = none := by
  simp [liveAccess, endAccess, List.find?_eq_none]

@[simp] theorem fabricFault_fab (s : State) (status addr : Nat) : (fabricFault s status addr).fab = s.fab := ringPush_fab _ _ _

/-- R281: the generation of a tag whose request timed out advances. -/
def advanceTagGen (s : State) (tag : Nat) : State :=
  { s with fab := { s.fab with tagGen := kput s.fab.tagGen tag ((kget s.fab.tagGen tag 0 + 1) % 16) } }

theorem tagGen_advanceTagGen_same (s : State) (tag : Nat) :
    kget (advanceTagGen s tag).fab.tagGen tag 0 = (kget s.fab.tagGen tag 0 + 1) % 16 := kget_kput_same _ _ _ _

/-- The advance of a generation leaves all but the tray fabric agent. -/
theorem advanceTagGen_rest {s t : State} (tag : Nat) (h : t.fab = s.fab) : { advanceTagGen t tag with fab := s.fab } = t := by
  rw [← h]
  rfl

section
variable {s : State} {tag : Nat} {a : Access}

theorem trayTimeout_outstanding (h : (kfind s.fab.tags tag).bind (liveAccess s) = some a) : completes (.trayTimeout tag) s (
    if a.issued + od s OD.TRAY_TIMEOUT_CLK ≤ s.clk then
      portsGo (freeTagOf (endAccess (advanceTagGen (fabricFault (trayCount s 2) 4 a.addr) tag) a.id 4 (failBytes a)) tag)
    else s) := by
  refine congrArg (answer s) ?_
  simp only [h]
  rfl

theorem apertureTimeout_live {id : Nat} (h : liveAccess s id = some a) (ha : a.aperture.isSome = true) : completes (.apertureTimeout id) s (
    if a.issued + od s OD.APERTURE_TIMEOUT_CLK ≤ s.clk then
      endAccess (fabricFault (odAdd s OD.APERTURE_COUNTS 2 1) 4 a.addr) id 4 (failBytes a)
    else s) := by
  refine congrArg (answer s) ?_
  simp only [h, ha, true_and]

end

/-! ## Atomics (R287) -/

section
variable (p a b : Nat)

theorem atomicWord_fetchAdd : atomicWord 0 p a b = (p + a) % 2 ^ 64 := rfl

theorem atomicWord_cmpSwap : atomicWord 1 p a b = if p = a then b else p := rfl

theorem atomicWord_swap {op : Nat} (h : 2 ≤ op) : atomicWord op p a b = a := (if_neg (by omega)).trans (if_neg (by omega))

end

/-- Settles O42: each request and response by the branch its command takes, the timeouts by the clk, the atomics by their operation. -/
theorem trayMessages : Obligations.TrayMessages := by
  refine ⟨fun s m hr => ⟨trayRead_barred hr rfl, trayRead_bytes hr rfl rfl, trayRead_unreadable hr rfl rfl⟩,
    fun s y m bs hr => ⟨fun hd => ⟨fun hw => ?_, fun hw => ?_⟩, fun hd => ⟨fun ha => ?_, fun ha => ?_⟩,
      trayWrite_discarded hr rfl, trayAtomic_discarded hr rfl⟩,
    fun s m => trayRequests_noRoom, fun s m k i => responses_late,
    fun s y m a bs => ⟨fun h => trayWriteResp_matched rfl h rfl, fun h hd => trayReadResp_matched rfl rfl h hd,
      fun h hd => trayAtomicResp_matched rfl rfl h hd⟩,
    fun s m => ⟨respStatus_ok s rfl, respStatus_notExported s rfl, respStatus_uncorrectable s rfl⟩,
    fun s tag a h => ⟨fun hc => ⟨advanceTagGen (fabricFault (trayCount s 2) 4 a.addr) tag, ?_, ?_,
      advanceTagGen_rest tag (fabricFault_fab _ _ _)⟩, fun hc => ?_⟩,
    fun s id st bs => ⟨results_endAccess_same s id st bs, liveAccess_endAccess_same s id st bs⟩,
    fun s id a h ha => ⟨fun hc => ?_, fun hc => ?_⟩,
    fun op p a b => ⟨?_, ?_, ?_, atomicWord_swap p a b⟩⟩
  · have h := trayWrite_decoded hr rfl hd rfl
    rwa [if_pos hw] at h
  · have h := trayWrite_decoded hr rfl hd rfl
    rwa [if_neg (not_not.2 hw)] at h
  · have h := trayAtomic_decoded hr rfl hd rfl
    rwa [if_pos ha] at h
  · have h := trayAtomic_decoded hr rfl hd rfl
    rwa [if_neg (not_not.2 ha)] at h
  · have ht := trayTimeout_outstanding h
    rwa [if_pos hc] at ht
  · rw [tagGen_advanceTagGen_same, fabricFault_fab, odAdd_fab]
  · have ht := trayTimeout_outstanding h
    rwa [if_neg (Nat.not_le.2 hc)] at ht
  · have ht := apertureTimeout_live h ha
    rwa [if_pos hc] at ht
  · have ht := apertureTimeout_live h ha
    rwa [if_neg (Nat.not_le.2 hc)] at ht
  · rintro rfl
    exact atomicWord_fetchAdd p a b
  · rintro rfl hpa
    rw [atomicWord_cmpSwap, if_pos hpa]
  · rintro rfl hpa
    rw [atomicWord_cmpSwap, if_neg hpa]

end Sys2Proof.Machine

/-! # The step, the state at reset, and values of the dictionary (chapters 01, 18 and 22) -/

namespace Sys2Proof.Machine

/-- Settles O1: the queue of the state stepped has the command at its front. -/
theorem stepRunsFrontCommand : Obligations.StepRunsFrontCommand := fun _ _ => step_cons rfl

/-- No value is stored at reset, so each reads its default. -/
theorem odGet_reset (e i : Nat) : odGet State.reset e i = odDefault e i := rfl

/-- Nor is any byte. -/
theorem memByte_reset (a : Nat) : memByte State.reset a = 0 := rfl

/-- Settles O6: the stores of the reset state are empty. -/
theorem resetState : Obligations.ResetState := by
  refine ⟨odGet_reset, ?_, ?_, ?_, rfl, rfl, rfl, rfl, rfl, rfl, wf_reset, fun c hc => absurd hc List.not_mem_nil, memByte_reset⟩
  · decide +kernel
  · decide +kernel
  · decide +kernel

/-- Settles O8: the element read is the one put, another element of its entry, or one of another entry. -/
theorem dictionaryValuesReadBack : Obligations.DictionaryValuesReadBack := by
  intro s e i v e' i' hi hi'
  refine ⟨?_, rfl⟩
  by_cases he : e' = e
  · subst he
    by_cases hii : i' = i
    · subst hii
      rw [if_pos ⟨rfl, rfl⟩, odGet_odPut_same]
    · rw [if_neg fun h => hii h.2, odGet_odPut_elem s e' i v i' hii]
  · rw [if_neg fun h => he h.1, odGet_odPut_entry s e i v e' i' he hi hi']

end Sys2Proof.Machine

/-! # Coded blocks decode (chapter 15, R317, R325)

A canonical code gives each value an interval of the 2^15 words of 15 bits: those that begin with its word. The intervals follow each other
in the order in which the codes are given out, so they are disjoint, and a bit stream begins with one word of the table at most. What was
coded is then read back symbol by symbol; bytes only pad the bits, and the low plane of a SPLIT block stands behind the padding. -/

namespace Sys2Proof.Machine

/-! ## The order in which codes are given out -/

/-- The values of a table with their lengths, in the order in which they get their codes. -/
def canonOrder (lens : List Nat) : List (Nat × Nat) :=
  (span 1 15).flatMap (fun n => (lens.zipIdx.filter (fun p => p.1 = n)).map (fun p => (p.2, n)))

theorem mem_canonOrder {lens : List Nat} {p : Nat × Nat} (h : ∀ n ∈ lens, 0 < n ∧ n < 16) :
    p ∈ canonOrder lens ↔ p.swap ∈ lens.zipIdx := by
  obtain ⟨v, n⟩ := p
  simp only [canonOrder, span, List.mem_flatMap, List.mem_map, List.mem_range, List.mem_filter, decide_eq_true_eq, Prod.exists, Prod.mk.injEq,
    Prod.swap_prod_mk]
  constructor
  · rintro ⟨k, -, m, i, ⟨hm, rfl⟩, rfl, rfl⟩
    exact hm
  · intro hm
    obtain ⟨h0, h16⟩ := h n (List.fst_mem_of_mem_zipIdx hm)
    exact ⟨n, ⟨n - 1, by omega, by omega⟩, n, v, ⟨hm, rfl⟩, rfl, rfl⟩

theorem nodup_zipIdx (lens : List Nat) : lens.zipIdx.Nodup := by
  refine List.Nodup.of_map Prod.snd ?_
  rw [List.zipIdx_map_snd]
  exact List.nodup_range' ..

theorem nodup_canonOrder (lens : List Nat) : (canonOrder lens).Nodup := by
  refine List.nodup_flatMap.2 ⟨fun n _ => ?_, ?_⟩
  · refine List.Nodup.map_on ?_ ((nodup_zipIdx lens).filter _)
    rintro ⟨a, i⟩ ha ⟨b, j⟩ hb h
    simp only [List.mem_filter, decide_eq_true_eq] at ha hb
    simp only [Prod.mk.injEq, and_true] at h
    rw [ha.2, hb.2, h]
  · have hspan : (span 1 15).Nodup := by decide
    refine hspan.imp fun {m n} hne p hm hn => hne ?_
    obtain ⟨_, -, rfl⟩ := List.mem_map.1 hm
    obtain ⟨_, -, he⟩ := List.mem_map.1 hn
    exact (congrArg Prod.snd he).symm

/-- Shorter codes are given out first. -/
theorem sorted_canonOrder (lens : List Nat) : (canonOrder lens).Pairwise (fun p q => p.2 ≤ q.2) := by
  refine List.pairwise_flatMap.2 ⟨fun n _ => ?_, ?_⟩
  · refine List.pairwise_map.2 (List.pairwise_of_forall fun _ _ => Nat.le_refl n)
  · have hspan : (span 1 15).Pairwise (· ≤ ·) := by decide
    refine hspan.imp fun {m n} hle p hp q hq => ?_
    obtain ⟨_, -, rfl⟩ := List.mem_map.1 hp
    obtain ⟨_, -, rfl⟩ := List.mem_map.1 hq
    exact hle

/-- Of the 2^15 words of 15 bits, those that a list of codes takes. -/
def kraft (order : List (Nat × Nat)) : Nat := (order.map (fun p => 2 ^ (15 - p.2))).sum

/-- A table that is not over-subscribed takes no more words than there are. -/
theorem kraft_canonOrder_le {lens : List Nat} (h : ∀ n ∈ lens, 0 < n ∧ n < 16) (hs : overSubscribed lens = false) :
    kraft (canonOrder lens) ≤ 2 ^ 15 := by
  have hperm : (canonOrder lens).Perm (lens.zipIdx.map Prod.swap) := by
    refine (List.perm_ext_iff_of_nodup (nodup_canonOrder lens) ((nodup_zipIdx lens).map Prod.swap_injective)).2 fun p => ?_
    rw [mem_canonOrder h, List.mem_map]
    exact ⟨fun hp => ⟨_, hp, p.swap_swap⟩, by rintro ⟨q, hq, rfl⟩; rwa [Prod.swap_swap]⟩
  have hall : lens.filter (· != 0) = lens := List.filter_eq_self.2 fun n hn => by simpa using (h n hn).1.ne'
  have hsum : kraft (canonOrder lens) = (lens.map (fun n => 2 ^ (15 - n))).sum := by
    rw [kraft, (hperm.map _).sum_eq, List.map_map]
    conv_rhs => rw [← List.zipIdx_map_fst 0 lens, List.map_map]
    rfl
  rw [hsum]
  rw [overSubscribed, hall] at hs
  simpa using hs

/-! ## The codes -/

/-- The next code given out, after the last one. -/
def canonStep (acc : List Code × Option Code) (p : Nat × Nat) : List Code × Option Code :=
  let c : Code := match acc.2 with
    | none => ⟨p.1, p.2, 0⟩
    | some q => ⟨p.1, p.2, (q.word + 1) * 2 ^ (p.2 - q.len)⟩
  (acc.1 ++ [c], some c)

theorem canonCodes_eq (lens : List Nat) : canonCodes lens = ((canonOrder lens).foldl canonStep ([], none)).1 := rfl

/-- The first word of 15 bits that begins with a code's word. -/
def Code.first (c : Code) : Nat := c.word * 2 ^ (15 - c.len)

/-- The word behind the last one. -/
def Code.past (c : Code) : Nat := (c.word + 1) * 2 ^ (15 - c.len)

/-- The codes given out so far, `r`, are those of `order`: they take the words from 0 on, one interval after the other. -/
structure CanonUpTo (order : List (Nat × Nat)) (r : List Code × Option Code) : Prop where
  codes : r.1.map (fun c => (c.sym, c.len)) = order
  last : (order = [] ∧ r.2 = none) ∨ ∃ q, r.2 = some q ∧ (q.sym, q.len) ∈ order ∧ q.past = kraft order
  past : ∀ c ∈ r.1, c.past ≤ kraft order
  apart : r.1.Pairwise (fun c d => c.past ≤ d.first)

theorem canonUpTo_nil : CanonUpTo [] ([], none) := ⟨rfl, .inl ⟨rfl, rfl⟩, fun _ h => absurd h List.not_mem_nil, .nil⟩

/-- The next code takes the next words. -/
theorem canonStep_code {order : List (Nat × Nat)} {r : List Code × Option Code} (h : CanonUpTo order r) {p : Nat × Nat}
    (hp : ∀ q ∈ order, q.2 ≤ p.2) (h15 : p.2 ≤ 15) :
    ∃ c, canonStep r p = (r.1 ++ [c], some c) ∧ (c.sym, c.len) = p ∧ c.first = kraft order := by
  obtain ⟨rfl, hr⟩ | ⟨q, hr, hq, hpast⟩ := h.last
  · exact ⟨⟨p.1, p.2, 0⟩, by rw [canonStep, hr], rfl, Nat.zero_mul _⟩
  · refine ⟨⟨p.1, p.2, (q.word + 1) * 2 ^ (p.2 - q.len)⟩, by rw [canonStep, hr], rfl, ?_⟩
    have hle : q.len ≤ p.2 := hp _ hq
    have hexp : p.2 - q.len + (15 - p.2) = 15 - q.len := by omega
    rw [← hpast, Code.first, Code.past, Nat.mul_assoc, ← Nat.pow_add, hexp]

theorem Code.past_eq (c : Code) : c.past = c.first + 2 ^ (15 - c.len) := by rw [past, first, Nat.add_mul, Nat.one_mul]

theorem canonUpTo_step {order : List (Nat × Nat)} {r : List Code × Option Code} (h : CanonUpTo order r) {p : Nat × Nat}
    (hp : ∀ q ∈ order, q.2 ≤ p.2) (h15 : p.2 ≤ 15) : CanonUpTo (order ++ [p]) (canonStep r p) := by
  obtain ⟨c, hc, hcp, hfirst⟩ := canonStep_code h hp h15
  have hk : kraft (order ++ [p]) = c.past := by
    rw [Code.past_eq, hfirst, ← hcp]
    simp [kraft]
  rw [hc]
  refine ⟨?_, .inr ⟨c, rfl, by simp [hcp], hk.symm⟩, ?_, ?_⟩
  · simp [h.codes, hcp]
  · rw [hk]
    intro d hd
    obtain hd | hd := List.mem_append.1 hd
    · exact (h.past d hd).trans (by rw [Code.past_eq, hfirst]; exact Nat.le_add_right _ _)
    · rw [List.mem_singleton.1 hd]
  · refine List.pairwise_append.2 ⟨h.apart, List.pairwise_singleton _ _, fun d hd x hx => ?_⟩
    rw [List.mem_singleton.1 hx, hfirst]
    exact h.past d hd

theorem canonUpTo_foldl {order : List (Nat × Nat)} (hs : order.Pairwise (fun p q => p.2 ≤ q.2)) (h15 : ∀ p ∈ order, p.2 ≤ 15) :
    CanonUpTo order (order.foldl canonStep ([], none)) := by
  induction order using List.reverseRecOn with
  | nil => exact canonUpTo_nil
  | append_singleton order p ih =>
    obtain ⟨hs, -, hlast⟩ := List.pairwise_append.1 hs
    rw [List.foldl_append]
    exact canonUpTo_step (ih hs fun q hq => h15 q (by simp [hq])) (fun q hq => hlast q hq p (by simp)) (h15 p (by simp))

/-- A code in which no word begins with another's, each within its length, and every byte has one. -/
structure PrefixFree (codes : List Code) : Prop where
  len : ∀ c ∈ codes, c.len ≤ 15
  fits : ∀ c ∈ codes, c.past ≤ 2 ^ 15
  apart : ∀ c ∈ codes, ∀ d ∈ codes, c ≠ d → c.past ≤ d.first ∨ d.past ≤ c.first
  total : ∀ v < 256, ∃ c ∈ codes, c.sym = v

/-- R317: the canonical codes of a table that is not over-subscribed. -/
theorem prefixFree_canonCodes {lens : List Nat} (hlen : lens.length = 256) (h : ∀ n ∈ lens, 0 < n ∧ n < 16)
    (hs : overSubscribed lens = false) : PrefixFree (canonCodes lens) := by
  have hmem : ∀ p ∈ canonOrder lens, p.2 ≤ 15 := fun p hp => by
    have := (h p.2 (List.fst_mem_of_mem_zipIdx ((mem_canonOrder h).1 hp))).2
    omega
  have hc := canonUpTo_foldl (sorted_canonOrder lens) hmem
  have hin : ∀ c ∈ canonCodes lens, (c.sym, c.len) ∈ canonOrder lens := fun c hm => by
    rw [← hc.codes]
    exact List.mem_map_of_mem (canonCodes_eq lens ▸ hm)
  refine ⟨fun c hm => hmem _ (hin c hm), fun c hm => (hc.past c hm).trans (kraft_canonOrder_le h hs), ?_, fun v hv => ?_⟩
  · have : Std.Symm fun c d : Code => c.past ≤ d.first ∨ d.past ≤ c.first := ⟨fun _ _ => Or.symm⟩
    have hor := hc.apart.imp (S := fun c d : Code => c.past ≤ d.first ∨ d.past ≤ c.first) Or.inl
    exact fun c hm d hd hne => hor.forall hm hd hne
  · have hv' : v < lens.length := by omega
    have hz : (v, lens[v]) ∈ canonOrder lens := (mem_canonOrder h).2 (by simp [List.mem_zipIdx_iff_getElem?, hv'])
    rw [← hc.codes] at hz
    obtain ⟨c, hm, he⟩ := List.mem_map.1 hz
    exact ⟨c, hm, congrArg Prod.fst he⟩

/-! ## Words read from a bit stream -/

@[simp] theorem wordBits_length (len w : Nat) : (wordBits len w).length = len := by simp [wordBits]

/-- The first bits of a word are those of its upper part. -/
theorem wordBits_take {k len : Nat} (w : Nat) (h : k ≤ len) : (wordBits len w).take k = wordBits k (w / 2 ^ (len - k)) := by
  refine List.ext_getElem (by simp [h]) fun i hi _ => ?_
  have hik : i < k := by simpa [h] using hi
  simp only [wordBits, List.getElem_take, List.getElem_map, List.getElem_range, bitOf_eq_testBit, Nat.testBit_div_two_pow]
  congr 1
  omega

theorem wordBits_inj {len v w : Nat} (hv : v < 2 ^ len) (hw : w < 2 ^ len) (h : wordBits len v = wordBits len w) : v = w := by
  refine Nat.eq_of_testBit_eq fun i => ?_
  by_cases hi : i < len
  · have hget : (wordBits len v)[len - 1 - i]? = (wordBits len w)[len - 1 - i]? := by rw [h]
    have hlt : len - 1 - i < len := by omega
    have hback : len - 1 - (len - 1 - i) = i := by omega
    simpa [wordBits, hlt, hback, bitOf_eq_testBit] using hget
  · have hpow : 2 ^ len ≤ 2 ^ i := Nat.pow_le_pow_right (by decide) (by omega)
    rw [Nat.testBit_lt_two_pow (by omega), Nat.testBit_lt_two_pow (by omega)]

/-- A word is below 2 to its length. -/
theorem PrefixFree.word_lt {codes : List Code} (hp : PrefixFree codes) {c : Code} (hc : c ∈ codes) : c.word < 2 ^ c.len := by
  have hfits := hp.fits c hc
  have hpow : 2 ^ 15 = 2 ^ c.len * 2 ^ (15 - c.len) := by
    rw [← Nat.pow_add]
    congr 1
    have := hp.len c hc
    omega
  rw [Code.past, hpow] at hfits
  exact Nat.le_of_mul_le_mul_right hfits (Nat.two_pow_pos _)

/-- Words of which one begins the other take common words of 15 bits, so they are the same code. -/
theorem eq_of_wordBits_take {codes : List Code} (hp : PrefixFree codes) {c d : Code} (hc : c ∈ codes) (hd : d ∈ codes) (hle : c.len ≤ d.len)
    (h : wordBits c.len c.word = (wordBits d.len d.word).take c.len) : c = d := by
  by_contra hne
  rw [wordBits_take _ hle] at h
  have hdlt := hp.word_lt hd
  have hsplit : 2 ^ d.len = 2 ^ c.len * 2 ^ (d.len - c.len) := by
    rw [← Nat.pow_add]
    congr 1
    omega
  have hup : d.word / 2 ^ (d.len - c.len) < 2 ^ c.len := Nat.div_lt_of_lt_mul (by rwa [Nat.mul_comm, ← hsplit])
  have hw := wordBits_inj (hp.word_lt hc) hup h
  have hlen := hp.len d hd
  have hpow : 2 ^ (15 - c.len) = 2 ^ (d.len - c.len) * 2 ^ (15 - d.len) := by
    rw [← Nat.pow_add]
    congr 1
    omega
  have hlow : c.word * 2 ^ (d.len - c.len) ≤ d.word := by rw [hw]; exact Nat.div_mul_le_self _ _
  have hhigh : d.word < (c.word + 1) * 2 ^ (d.len - c.len) := by
    rw [hw]
    exact Nat.lt_mul_of_div_lt (Nat.lt_succ_self _) (Nat.two_pow_pos _)
  have hfirst : c.first ≤ d.first := by
    rw [Code.first, Code.first, hpow, ← Nat.mul_assoc]
    exact Nat.mul_le_mul_right _ hlow
  have hpast : d.past ≤ c.past := by
    rw [Code.past, Code.past, hpow, ← Nat.mul_assoc]
    exact Nat.mul_le_mul_right _ hhigh
  have hpos : ∀ x : Code, x.first < x.past := fun x => by
    rw [Code.past_eq]
    exact Nat.lt_add_of_pos_right (Nat.two_pow_pos _)
  have hc1 := hpos c
  have hd1 := hpos d
  have hor := hp.apart c hc d hd hne
  omega

/-- A bit stream that begins with a code's word is read as that code. -/
theorem readSym_wordBits {codes : List Code} (hp : PrefixFree codes) {c : Code} (hc : c ∈ codes) (rest : List Bool) :
    readSym codes (wordBits c.len c.word ++ rest) = some (c.sym, rest) := by
  have hfind : codes.find? (fun d => wordBits d.len d.word == (wordBits c.len c.word ++ rest).take d.len
      && decide (d.len ≤ (wordBits c.len c.word ++ rest).length)) = some c := by
    cases hf : codes.find? (fun d => wordBits d.len d.word == (wordBits c.len c.word ++ rest).take d.len
        && decide (d.len ≤ (wordBits c.len c.word ++ rest).length)) with
    | none => simpa using List.find?_eq_none.1 hf c hc
    | some d =>
      have hd := List.mem_of_find?_eq_some hf
      have hm := List.find?_some hf
      simp only [Bool.and_eq_true, beq_iff_eq, decide_eq_true_eq] at hm
      obtain hle | hle := Nat.le_total d.len c.len
      · rw [List.take_append_of_le_length (by simpa using hle)] at hm
        rw [eq_of_wordBits_take hp hd hc hle hm.1]
      · have ht := congrArg (List.take c.len) hm.1
        rw [List.take_take, Nat.min_eq_left hle, List.take_left' (wordBits_length _ _)] at ht
        rw [eq_of_wordBits_take hp hc hd hle ht.symm]
  rw [readSym, hfind]
  simp

/-- Every stream of bytes is coded, and the symbols read back are its bytes, whatever stands behind them. -/
theorem entropyBits_readSyms {codes : List Code} (hp : PrefixFree codes) (raw : List Byte) :
    ∃ bits, entropyBits codes raw = some bits ∧ ∀ rest, readSyms codes raw.length (bits ++ rest) = (raw, rest) := by
  induction raw with
  | nil => exact ⟨[], rfl, fun _ => rfl⟩
  | cons b raw ih =>
    obtain ⟨bits, hbits, hread⟩ := ih
    obtain ⟨x, hx, hxb⟩ := hp.total b.toNat b.isLt
    obtain ⟨c, hc⟩ : ∃ c, codes.find? (fun c => c.sym == b.toNat) = some c :=
      Option.isSome_iff_exists.1 (List.find?_isSome.2 ⟨x, hx, by simpa using hxb⟩)
    have hsym : c.sym = b.toNat := by simpa using List.find?_some hc
    refine ⟨wordBits c.len c.word ++ bits, by simp [entropyBits, hc, hbits], fun rest => ?_⟩
    rw [List.append_assoc, List.length_cons, readSyms, readSym_wordBits hp (List.mem_of_find?_eq_some hc), hsym]
    simp only [hread, BitVec.ofNat_toNat, BitVec.setWidth_eq]

/-! ## Bits in bytes -/

/-- The bits of the byte that eight bits fill. -/
theorem byteBits (f : Nat → Bool) :
    (List.range 8).map (bitOf (BitVec.ofNat 8 (((List.range 8).map (fun k => b2n (f k) * 2 ^ k)).sum)).toNat) = (List.range 8).map f := by
  have h : ∀ a b c d e f g h : Bool,
      (List.range 8).map (bitOf (BitVec.ofNat 8 (b2n a * 2 ^ 0 + (b2n b * 2 ^ 1 + (b2n c * 2 ^ 2 + (b2n d * 2 ^ 3 + (b2n e * 2 ^ 4
        + (b2n f * 2 ^ 5 + (b2n g * 2 ^ 6 + (b2n h * 2 ^ 7 + 0))))))))).toNat) = [a, b, c, d, e, f, g, h] := by
    decide
  exact h (f 0) (f 1) (f 2) (f 3) (f 4) (f 5) (f 6) (f 7)

/-- Eights from 0 on, one after the other. -/
theorem flatMap_range_eight (f : Nat → Bool) (n : Nat) :
    (List.range n).flatMap (fun i => (List.range 8).map (fun k => f (8 * i + k))) = (List.range (8 * n)).map f := by
  induction n with
  | zero => rfl
  | succ n ih =>
    rw [List.range_succ (n := n), List.flatMap_append, ih, Nat.mul_succ, List.range_add, List.map_append, List.flatMap_singleton, List.map_map]
    rfl

/-- The zero bits that pad a bit stream to whole bytes. -/
def padBits (bits : List Bool) : List Bool := List.replicate (8 * cdiv bits.length 8 - bits.length) false

theorem padBits_length_lt (bits : List Bool) : (padBits bits).length < 8 := by
  rw [padBits, List.length_replicate, cdiv]
  omega

theorem padBits_clear (bits : List Bool) {b : Bool} (h : b ∈ padBits bits) : b = false := List.eq_of_mem_replicate h

theorem unpackBits_packBits (bits : List Bool) : unpackBits (packBits bits) = bits ++ padBits bits := by
  have h : unpackBits (packBits bits) = (List.range (8 * cdiv bits.length 8)).map (fun i => bits.getD i false) := by
    rw [← flatMap_range_eight, packBits, unpackBits, List.flatMap_map]
    exact List.flatMap_congr fun i _ => byteBits fun k => bits.getD (8 * i + k) false
  have hle : bits.length ≤ 8 * cdiv bits.length 8 := by
    unfold cdiv
    omega
  rw [h]
  refine List.ext_getElem (by simp [padBits, hle]) fun i h1 _ => ?_
  by_cases hi : i < bits.length
  · simp [hi, List.getElem_append_left]
  · simp [hi, List.getElem_append_right (Nat.le_of_not_lt hi), padBits]

theorem unpackBits_append (a b : List Byte) : unpackBits (a ++ b) = unpackBits a ++ unpackBits b := List.flatMap_append ..

theorem unpackBits_length (bs : List Byte) : (unpackBits bs).length = 8 * bs.length := by
  simp [unpackBits, List.length_flatMap, Nat.mul_comm]

/-! ## The planes of SPLIT mode -/

theorem highPlane_length (e : Nat) (raw : List Byte) : (highPlane e raw).length = raw.length / e := by simp [highPlane]

/-- The place of a byte among those of the low plane, where `q` elements have a high byte. -/
def lowIndex (e q i : Nat) : Nat := i - min (i / e) q

/-- The bytes of the first part of the stream that are in the low plane. -/
def lowOf (e q : Nat) (raw : List Byte) : List Byte :=
  (raw.zipIdx.filter (fun p => !(p.2 % e = e - 1 ∧ p.2 / e < q))).map Prod.fst

theorem lowPlane_eq (e : Nat) (raw : List Byte) : lowPlane e raw = lowOf e (raw.length / e) raw := rfl

theorem lowOf_concat (e q : Nat) (raw : List Byte) (b : Byte) :
    lowOf e q (raw ++ [b]) = lowOf e q raw ++ if raw.length % e = e - 1 ∧ raw.length / e < q then [] else [b] := by
  simp only [lowOf, List.zipIdx_append, List.filter_append, List.map_append, Nat.zero_add, List.zipIdx_singleton, List.filter_singleton]
  congr 1
  by_cases h : raw.length % e = e - 1 ∧ raw.length / e < q
  · simp only [h, and_self, decide_true, Bool.not_true]
    rfl
  · simp only [h, decide_false, Bool.not_false]
    rfl

section
variable {e : Nat} (he : e = 2 ∨ e = 4) (q : Nat) (raw : List Byte)
include he

/-- The low plane has every byte but the elements' high ones. -/
theorem lowOf_length : (lowOf e q raw).length = lowIndex e q raw.length := by
  induction raw using List.reverseRecOn with
  | nil => simp [lowOf, lowIndex]
  | append_singleton raw b ih =>
    rw [lowOf_concat, List.length_append, ih, List.length_append, List.length_singleton]
    unfold lowIndex
    split
    · rw [List.length_nil]
      obtain rfl | rfl := he <;> omega
    · rw [List.length_singleton]
      obtain rfl | rfl := he <;> omega

/-- A byte that is no element's high one stands at its place in the low plane. -/
theorem lowOf_getElem? {i : Nat} (hi : i < raw.length) (h : ¬ (i % e = e - 1 ∧ i / e < q)) :
    (lowOf e q raw)[lowIndex e q i]? = some raw[i] := by
  induction raw using List.reverseRecOn with
  | nil => exact absurd hi (Nat.not_lt_zero i)
  | append_singleton raw b ih =>
    rw [lowOf_concat]
    by_cases hlt : i < raw.length
    · rw [List.getElem_append_left hlt, List.getElem?_append_left, ih hlt]
      exact (List.getElem?_eq_some_iff.1 (ih hlt)).1
    · obtain rfl : i = raw.length := by
        rw [List.length_append, List.length_singleton] at hi
        omega
      rw [if_neg h, ← lowOf_length he q raw]
      simp

end

theorem lowPlane_length {e : Nat} (he : e = 2 ∨ e = 4) (raw : List Byte) : (lowPlane e raw).length = raw.length - raw.length / e := by
  rw [lowPlane_eq, lowOf_length he, lowIndex, Nat.min_self]

theorem elemBytes_cases (elem : Nat) : elemBytes elem = 2 ∨ elemBytes elem = 4 := by
  unfold elemBytes
  split
  · exact .inl rfl
  · exact .inr rfl

/-- An element's high byte, in the high plane. -/
theorem highPlane_getD {e : Nat} (he : e = 2 ∨ e = 4) (raw : List Byte) {i : Nat} (hi : i < raw.length)
    (h : i % e = e - 1 ∧ i / e < raw.length / e) : (highPlane e raw).getD (i / e) 0 = raw[i] := by
  have hplace : e * (i / e) + e - 1 = i := by obtain rfl | rfl := he <;> omega
  simp [highPlane, h.2, hplace, hi]

/-- What the decoder of a SPLIT block writes for byte `i`, from the two planes: its place, the byte, and whether the block has it. -/
def splitByte (e q : Nat) (high low : List Byte) (i : Nat) : Nat × Byte × Bool :=
  if i % e = e - 1 ∧ i / e < q then (i, high.getD (i / e) 0, true)
  else (i, low.getD (i - min (i / e) q) 0, decide (i - min (i / e) q < low.length))

theorem splitByte_planes {e : Nat} (he : e = 2 ∨ e = 4) (raw : List Byte) {i : Nat} (hi : i < raw.length) :
    splitByte e (raw.length / e) (highPlane e raw) (lowPlane e raw) i = (i, raw[i], true) := by
  unfold splitByte
  split
  · next h => rw [highPlane_getD he raw hi h]
  · next h =>
    have hlow : (lowPlane e raw)[i - min (i / e) (raw.length / e)]? = some raw[i] := lowOf_getElem? he _ raw hi h
    rw [List.getD_eq_getElem?_getD, hlow, decide_eq_true (List.getElem?_eq_some_iff.1 hlow).1]
    rfl

/-- All the bytes it writes are the stream's. -/
theorem splitBytes_planes {e : Nat} (he : e = 2 ∨ e = 4) (raw : List Byte) :
    (((List.range raw.length).map (splitByte e (raw.length / e) (highPlane e raw) (lowPlane e raw))).takeWhile (fun p => p.2.2)).map
      (fun p => p.2.1) = raw := by
  have hall : (List.range raw.length).map (splitByte e (raw.length / e) (highPlane e raw) (lowPlane e raw))
      = raw.zipIdx.map (fun p => (p.2, p.1, true)) := by
    refine List.ext_getElem (by simp) fun i hi _ => ?_
    rw [List.getElem_map, List.getElem_range, splitByte_planes he raw (by simpa using hi)]
    simp
  rw [hall, List.takeWhile_eq_self_iff.2 (by simp), List.map_map]
  exact List.zipIdx_map_fst 0 raw

/-! ## Blocks -/

section
variable {codes : List Code} {raw : List Byte} {bits : List Bool}

/-- R317: an ENTROPY block. -/
theorem blockDecode_entropy (h : ∀ rest, readSyms codes raw.length (bits ++ rest) = (raw, rest)) :
    blockDecode codes 1 0 raw.length (packBits bits) = ⟨raw, false⟩ := by
  have htail : longTail (padBits bits) = false := by
    have hpad := padBits_length_lt bits
    simp only [longTail, Bool.or_eq_false_iff, decide_eq_false_iff_not, List.any_eq_false, id_eq, Bool.not_eq_true]
    exact ⟨by omega, fun b => padBits_clear bits⟩
  simp only [blockDecode, unpackBits_packBits, h, Nat.lt_irrefl, if_false, htail]
  rfl

/-- Behind the symbols of a SPLIT block stand less than 8 padding bits and the low plane. -/
theorem splitRest_length (bits : List Bool) (low : List Byte) :
    (padBits bits ++ unpackBits low).length % 8 = (padBits bits).length ∧ (padBits bits ++ unpackBits low).length / 8 = low.length := by
  have hpad := padBits_length_lt bits
  rw [List.length_append, unpackBits_length]
  omega

/-- R317: a SPLIT block. -/
theorem blockDecode_split {elem e : Nat} (hee : elemBytes elem = e)
    (h : ∀ rest, readSyms codes (highPlane e raw).length (bits ++ rest) = (highPlane e raw, rest)) :
    blockDecode codes 2 elem raw.length (packBits bits ++ lowPlane e raw) = ⟨raw, false⟩ := by
  have he : e = 2 ∨ e = 4 := hee ▸ elemBytes_cases elem
  have hbits : unpackBits (packBits bits ++ lowPlane e raw) = bits ++ (padBits bits ++ unpackBits (lowPlane e raw)) := by
    rw [unpackBits_append, unpackBits_packBits, List.append_assoc]
  have hread := h (padBits bits ++ unpackBits (lowPlane e raw))
  rw [highPlane_length] at hread
  obtain ⟨hmod, hdiv⟩ := splitRest_length bits (lowPlane e raw)
  have hlow : (packBits bits ++ lowPlane e raw).drop ((packBits bits ++ lowPlane e raw).length - (lowPlane e raw).length) = lowPlane e raw := by
    rw [List.length_append, Nat.add_sub_cancel]
    exact List.drop_left
  have hzero : (padBits bits).any id = false := List.any_eq_false.2 fun b hb => by simp [padBits_clear bits hb]
  have hbytes := splitBytes_planes he raw
  unfold splitByte at hbytes
  simp only [blockDecode, hee, hbits, hread, highPlane_length, Nat.lt_irrefl, hmod, hdiv, hlow, List.take_left, hzero, hbytes,
    Nat.succ_ne_zero, Nat.reduceEqDiff, if_false]
  rw [lowPlane_length he, bne_self_eq_false, Bool.or_false]

end

/-- Settles O47: the canonical codes are free of prefixes, so the symbols read are those coded, and a SPLIT block's low plane is found behind
the padding. -/
theorem codedBlocksDecode : Obligations.CodedBlocksDecode := by
  intro lens raw hlen hpos hs
  have hp := prefixFree_canonCodes hlen hpos hs
  refine ⟨?_, fun elem => ?_⟩
  · obtain ⟨bits, hbits, hread⟩ := entropyBits_readSyms hp raw
    exact ⟨bits, hbits, blockDecode_entropy hread⟩
  · obtain ⟨bits, hbits, hread⟩ := entropyBits_readSyms hp (highPlane (elemBytes elem) raw)
    exact ⟨bits, hbits, blockDecode_split rfl hread⟩

end Sys2Proof.Machine

/-! # INSERT into a bank of Locket (chapter 16, R331, R332, R335)

An insert searches, takes a place and writes the units of the entry there. `UnitsWritten` says what units written leave: each has its
record and fails no parity, every other unit is as it was. The entries of a bank do not overlap, so after an insert into a bank without a
match the entry written is the only one of the bank that matches the key. -/

namespace Sys2Proof.Machine

/-! ## Units written (R332) -/

/-- `n` units from `u` on have been written with the records `f`: what the dictionary and Locket's parity are in `t` against `s`. -/
structure UnitsWritten (s t : State) (u n : Nat) (f : Nat → Nat) : Prop where
  inside : ∀ i < n, unitRec t (u + i) = f i
  outside : ∀ v, v < u ∨ u + n ≤ v → unitRec t v = unitRec s v
  entries : u + n ≤ 2 ^ 24 → KeepsEntries [OD.LOCKET_VIEW] s t
  badUnits : ∀ x, x ∈ t.lk.badUnits ↔ x ∈ s.lk.badUnits ∧ (x < u ∨ u + n ≤ x)
  badValues : ∀ x, x ∈ t.lk.badValues ↔ x ∈ s.lk.badValues ∧ (x < u ∨ u + n ≤ x)

theorem unitsWritten_zero (s : State) (u : Nat) (f : Nat → Nat) : UnitsWritten s s u 0 f :=
  ⟨fun _ h => absurd h (Nat.not_lt_zero _), fun _ _ => rfl, fun _ => .of_od rfl, fun x => by simp [Nat.lt_or_ge],
    fun x => by simp [Nat.lt_or_ge]⟩

theorem mem_badUnits_unitWrite {s : State} {u r x : Nat} : x ∈ (unitWrite s u r).lk.badUnits ↔ x ∈ s.lk.badUnits ∧ x ≠ u := by
  show x ∈ s.lk.badUnits.filter (· != u) ↔ _
  simp

theorem mem_badValues_unitWrite {s : State} {u r x : Nat} : x ∈ (unitWrite s u r).lk.badValues ↔ x ∈ s.lk.badValues ∧ x ≠ u := by
  show x ∈ s.lk.badValues.filter (· != u) ↔ _
  simp

theorem unitsWritten_succ {s t : State} {u n : Nat} {f : Nat → Nat} (h : UnitsWritten s t u n f) :
    UnitsWritten s (unitWrite t (u + n) (f n)) u (n + 1) f where
  inside i hi := by
    obtain rfl | hne := eq_or_ne i n
    · exact unitRec_unitWrite_same _ _ _
    · rw [unitRec_unitWrite_ne _ _ (by omega), h.inside i (by omega)]
  outside v hv := by rw [unitRec_unitWrite_ne _ _ (by omega), h.outside v (by omega)]
  entries hle := (h.entries (by omega)).trans ((keepsEntries_odPut t (by decide) (by omega) (f n)).trans (.of_od (unitWrite_od t (u + n) (f n))))
  badUnits x := by
    rw [mem_badUnits_unitWrite, h.badUnits, and_assoc]
    exact and_congr_right fun _ => by omega
  badValues x := by
    rw [mem_badValues_unitWrite, h.badValues, and_assoc]
    exact and_congr_right fun _ => by omega

theorem unitsWritten_foldl (s : State) (u n : Nat) (f : Nat → Nat) :
    UnitsWritten s ((List.range n).foldl (fun t i => unitWrite t (u + i) (f i)) s) u n f := by
  induction n with
  | zero => exact unitsWritten_zero s u f
  | succ n ih =>
    rw [List.range_succ, List.foldl_append, List.foldl_cons, List.foldl_nil]
    exact unitsWritten_succ ih

/-- An entry written: its units have their records. -/
theorem unitsWritten_entryWrite (s : State) (k w u key val : Nat) :
    UnitsWritten s (entryWrite s k w u key val) u w (fun i => unitOf k w u i key val) :=
  unitsWritten_foldl s u w _

/-! ## The record of a unit (R478) -/

section
variable (k w u i key val : Nat)

theorem validBit_unitOf : getF (unitOf k w u i key val) LkUnit.VALID = 1 := by
  have h := getF_setFs_append_cons LkUnit.VALID 1 [(LkUnit.KEY_WORD, key / 2 ^ (64 * i)), (LkUnit.VALUE, if i = 0 then val else 0)]
    [(LkUnit.KIND, k), (LkUnit.WIDTH, if w = 1 then 0 else if w = 2 then 1 else 2), (LkUnit.ENTRY, u)] 0 (by simp)
  exact h

theorem value_unitOf : getF (unitOf k w u i key val) LkUnit.VALUE = (if i = 0 then val else 0) % 2 ^ 128 := by
  have h := getF_setFs_append_cons LkUnit.VALUE (if i = 0 then val else 0) [(LkUnit.KEY_WORD, key / 2 ^ (64 * i))]
    [(LkUnit.VALID, 1), (LkUnit.KIND, k), (LkUnit.WIDTH, if w = 1 then 0 else if w = 2 then 1 else 2), (LkUnit.ENTRY, u)] 0 (by simp)
  exact h

theorem keyWord_unitOf : getF (unitOf k w u i key val) LkUnit.KEY_WORD = key / 2 ^ (64 * i) % 2 ^ 64 := by
  have h := getF_setFs_append_cons LkUnit.KEY_WORD (key / 2 ^ (64 * i)) [] [(LkUnit.VALUE, if i = 0 then val else 0), (LkUnit.VALID, 1),
    (LkUnit.KIND, k), (LkUnit.WIDTH, if w = 1 then 0 else if w = 2 then 1 else 2), (LkUnit.ENTRY, u)] 0 (by simp)
  exact h

end

/-! ## The key of an entry (R328) -/

theorem entryKey_succ (s : State) (u n : Nat) :
    entryKey s u (n + 1) = entryKey s u n + getF (unitRec s (u + n)) LkUnit.KEY_WORD * 2 ^ (64 * n) := by
  rw [entryKey, List.range_succ, List.foldl_append]
  rfl

/-- Units of which each has its word of a number are its key, cut to their width. -/
theorem entryKey_of_words {s : State} {u n key : Nat} (h : ∀ i < n, getF (unitRec s (u + i)) LkUnit.KEY_WORD = key / 2 ^ (64 * i) % 2 ^ 64) :
    entryKey s u n = key % 2 ^ (64 * n) := by
  induction n with
  | zero => simp [entryKey, Nat.mod_one]
  | succ n ih =>
    have hpow : 2 ^ (64 * (n + 1)) = 2 ^ (64 * n) * 2 ^ 64 := by rw [← Nat.pow_add, Nat.mul_succ]
    rw [entryKey_succ, ih fun i hi => h i (by omega), h n (by omega), hpow, Nat.mod_mul, Nat.mul_comm (key / _ % _)]

theorem entryKey_congr {s t : State} {u n : Nat} (h : ∀ i < n, unitRec t (u + i) = unitRec s (u + i)) : entryKey t u n = entryKey s u n := by
  induction n with
  | zero => rfl
  | succ n ih => rw [entryKey_succ, entryKey_succ, ih fun i hi => h i (by omega), h n (by omega)]

/-! ## The entries of a bank (R328) -/

theorem bankWidth_pos (s : State) (b : Nat) : 0 < bankWidth s b := Nat.two_pow_pos _

theorem mem_bankEntries {s : State} {b u : Nat} : u ∈ bankEntries s b ↔ ∃ i < 2048 / bankWidth s b, u = b * 2048 + i * bankWidth s b := by
  simp [bankEntries, eq_comm]

/-- An entry lies in its bank. -/
theorem bankEntries_bounds {s : State} {b u : Nat} (h : u ∈ bankEntries s b) : b * 2048 ≤ u ∧ u + bankWidth s b ≤ b * 2048 + 2048 := by
  obtain ⟨i, hi, rfl⟩ := mem_bankEntries.1 h
  have hle : (i + 1) * bankWidth s b ≤ 2048 := (Nat.le_div_iff_mul_le (bankWidth_pos s b)).1 hi
  rw [Nat.add_mul, Nat.one_mul] at hle
  omega

/-- Two entries of a bank do not overlap. -/
theorem bankEntries_apart {s : State} {b u v : Nat} (hu : u ∈ bankEntries s b) (hv : v ∈ bankEntries s b) (h : v ≠ u) :
    v + bankWidth s b ≤ u ∨ u + bankWidth s b ≤ v := by
  obtain ⟨i, -, rfl⟩ := mem_bankEntries.1 hu
  obtain ⟨j, -, rfl⟩ := mem_bankEntries.1 hv
  have hij : j ≠ i := fun e => h (e ▸ rfl)
  obtain hlt | hlt := Nat.lt_or_gt_of_ne hij
  · have := Nat.mul_le_mul_right (bankWidth s b) (show j + 1 ≤ i from hlt)
    rw [Nat.add_mul, Nat.one_mul] at this
    omega
  · have := Nat.mul_le_mul_right (bankWidth s b) (show i + 1 ≤ j from hlt)
    rw [Nat.add_mul, Nat.one_mul] at this
    omega

/-- A bank's entries rise. -/
theorem bankEntries_sorted (s : State) (b : Nat) : (bankEntries s b).Pairwise (· < ·) := by
  refine List.pairwise_map.2 (List.pairwise_lt_range.imp fun {i j} h => ?_)
  have := Nat.mul_lt_mul_of_pos_right h (bankWidth_pos s b)
  omega

/-- In a list that rises, the first element of a kind is the lowest. -/
theorem find?_eq_some_of_lowest {l : List Nat} (hl : l.Pairwise (· < ·)) {p : Nat → Bool} {u : Nat} (hu : u ∈ l) (hp : p u = true)
    (hle : ∀ v ∈ l, p v = true → u ≤ v) : l.find? p = some u := by
  induction l with
  | nil => cases hu
  | cons x l ih =>
    obtain ⟨hx, hl⟩ := List.pairwise_cons.1 hl
    obtain rfl | hu := List.mem_cons.1 hu
    · exact List.find?_cons_of_pos hp
    · have hpx : ¬ p x = true := fun h => absurd (hx u hu) (Nat.not_lt.2 (hle x List.mem_cons_self h))
      rw [List.find?_cons_of_neg hpx]
      exact ih hl hu fun v hv => hle v (List.mem_cons_of_mem x hv)

/-! ## What a search and an insert depend on -/

section
variable {s t : State} {b : Nat}

/-- Two states agree on a bank: its configuration, the frame, and Locket's parity. -/
structure SameBank (s t : State) (b : Nat) : Prop where
  config : odGet t OD.BANK_CONFIG b = odGet s OD.BANK_CONFIG b
  frame : frameNo t = frameNo s

theorem SameBank.of_keeps {es : List Nat} (h : KeepsEntries es s t) (hb : b < 32) (hc : OD.BANK_CONFIG ∉ es) (hf : OD.FRAME_NUMBER ∉ es) :
    SameBank s t b := ⟨h _ hc b (by omega), h _ hf 0 (by decide)⟩

theorem SameBank.kind (h : SameBank s t b) : bankKind t b = bankKind s b := congrArg (getF · BankCfg.KIND) h.config

theorem SameBank.width (h : SameBank s t b) : bankWidth t b = bankWidth s b := congrArg (fun r => 2 ^ getF r BankCfg.WIDTH) h.config

theorem SameBank.bankEntries (h : SameBank s t b) : bankEntries t b = bankEntries s b := by
  rw [Machine.bankEntries, Machine.bankEntries, h.width]

theorem SameBank.dedupeLive (h : SameBank s t b) (v : Nat) : dedupeLive t v = dedupeLive s v := by
  rw [Machine.dedupeLive, Machine.dedupeLive, h.frame]

end

/-- A search of a bank only counts. -/
theorem keepsEntries_lkCount (s : State) {i : Nat} (hi : i < 2 ^ 24) : KeepsEntries [OD.LOCKET_COUNTS] s (lkCount s i) :=
  keepsEntries_odAdd s (by decide) hi 1

/-- The place an insert takes is that of the state before the search was counted. -/
theorem insertSlot_lkCount (s : State) {b : Nat} (hb : b < 32) : insertSlot (lkCount s 0) b = insertSlot s b := by
  have hbank : SameBank s (lkCount s 0) b := .of_keeps (keepsEntries_lkCount s (by decide)) hb (by decide) (by decide)
  have hunit : ∀ u ∈ bankEntries s b, unitRec (lkCount s 0) u = unitRec s u := fun u hu => by
    have := (bankEntries_bounds hu).2
    exact unitRec_lkCount s (by decide) (by omega)
  have hfree : (bankEntries s b).find? (fun u => getF (unitRec (lkCount s 0) u) LkUnit.VALID == 0)
      = (bankEntries s b).find? (fun u => getF (unitRec s u) LkUnit.VALID == 0) :=
    List.find?_congr fun u hu => by rw [hunit u hu]
  have hold : (bankEntries s b).find? (fun u => !dedupeLive (lkCount s 0) (lkValue (lkCount s 0) u))
      = (bankEntries s b).find? (fun u => !dedupeLive s (lkValue s u)) :=
    List.find?_congr fun u hu => by rw [hbank.dedupeLive, lkValue, lkValue, hunit u hu]
  rw [insertSlot, insertSlot, hbank.bankEntries, hbank.kind, hfree, hold]

section
variable {s : State} {b key val u : Nat}

theorem lkInsertBank_exists (h : bankFind s b key = some u) : lkInsertBank s b key val = (lkCount (lkCount (lkCount s 0) 1) 3, 2, u) := by
  simp [lkInsertBank, lkSearchBank, h]

theorem lkInsertBank_full (hb : b < 32) (h : bankFind s b key = none) (hi : insertSlot s b = none) :
    lkInsertBank s b key val = (lkCount (lkCount s 0) 4, 3, 0) := by
  simp [lkInsertBank, lkSearchBank, h, insertSlot_lkCount s hb, hi]

/-- The entry written by an insert that takes `u`. -/
theorem lkInsertBank_takes (hb : b < 32) (h : bankFind s b key = none) (hi : insertSlot s b = some u) :
    let x := entryWrite (lkCount s 0) (bankKind s b) (bankWidth s b) u key val
    lkInsertBank s b key val = (lkCount (if getF (unitRec (lkCount s 0) u) LkUnit.VALID = 0 then odAdd x OD.ENTRY_COUNTS b 1 else x) 2, 0, u) := by
  have hbank : SameBank s (lkCount s 0) b := .of_keeps (keepsEntries_lkCount s (by decide)) hb (by decide) (by decide)
  simp [lkInsertBank, lkSearchBank, h, insertSlot_lkCount s hb, hi, hbank.kind, hbank.width]

/-- A free place, the lowest. -/
theorem insertSlot_free (hu : u ∈ bankEntries s b) (h0 : getF (unitRec s u) LkUnit.VALID = 0)
    (hle : ∀ v ∈ bankEntries s b, getF (unitRec s v) LkUnit.VALID = 0 → u ≤ v) : insertSlot s b = some u := by
  have hf : (bankEntries s b).find? (fun u => getF (unitRec s u) LkUnit.VALID == 0) = some u :=
    find?_eq_some_of_lowest (bankEntries_sorted s b) hu (by simp [h0]) fun v hv hv0 => hle v hv (by simpa using hv0)
  rw [insertSlot, hf]

theorem noneFree (h : ∀ v ∈ bankEntries s b, getF (unitRec s v) LkUnit.VALID ≠ 0) :
    (bankEntries s b).find? (fun u => getF (unitRec s u) LkUnit.VALID == 0) = none :=
  List.find?_eq_none.2 fun v hv => by simpa using h v hv

/-- None free: the lowest expired entry of a DEDUPE bank. -/
theorem insertSlot_expired (h : ∀ v ∈ bankEntries s b, getF (unitRec s v) LkUnit.VALID ≠ 0) (hk : bankKind s b = 1) (hu : u ∈ bankEntries s b)
    (hexp : dedupeLive s (lkValue s u) = false) (hle : ∀ v ∈ bankEntries s b, dedupeLive s (lkValue s v) = false → u ≤ v) :
    insertSlot s b = some u := by
  have hf : (bankEntries s b).find? (fun u => !dedupeLive s (lkValue s u)) = some u :=
    find?_eq_some_of_lowest (bankEntries_sorted s b) hu (by simp [hexp]) fun v hv hv0 => hle v hv (by simpa using hv0)
  rw [insertSlot, noneFree h]
  simp only [hk, if_true, hf]

/-- None free and none expired. -/
theorem insertSlot_none (h : ∀ v ∈ bankEntries s b, getF (unitRec s v) LkUnit.VALID ≠ 0)
    (hk : bankKind s b ≠ 1 ∨ ∀ v ∈ bankEntries s b, dedupeLive s (lkValue s v) = true) : insertSlot s b = none := by
  rw [insertSlot, noneFree h]
  simp only
  split
  · next h1 =>
    have hlive := hk.resolve_left fun hne => hne h1
    exact List.find?_eq_none.2 fun v hv => by simp [hlive v hv]
  · rfl

theorem insertSlot_mem (h : insertSlot s b = some u) : u ∈ bankEntries s b := by
  unfold insertSlot at h
  split at h
  · next v hv =>
    cases h
    exact List.mem_of_find?_eq_some hv
  · split at h
    · exact List.mem_of_find?_eq_some h
    · cases h

end

/-! ## An entry inserted (R335) -/

/-- What an insert that takes `u` leaves of the bank. -/
structure Inserted (s t : State) (b u key val : Nat) : Prop where
  bank : SameBank s t b
  here : ∀ i < bankWidth s b, unitRec t (u + i) = unitOf (bankKind s b) (bankWidth s b) u i key val
  elsewhere : ∀ v < 65536, v < u ∨ u + bankWidth s b ≤ v → unitRec t v = unitRec s v
  badUnits : ∀ x, x ∈ t.lk.badUnits ↔ x ∈ s.lk.badUnits ∧ (x < u ∨ u + bankWidth s b ≤ x)
  badValues : ∀ x, x ∈ t.lk.badValues ↔ x ∈ s.lk.badValues ∧ (x < u ∨ u + bankWidth s b ≤ x)

section
variable {s t : State} {b key val u : Nat}

/-- An insert that answers OK found no match and took a place of the bank. -/
theorem lkInsertBank_ok (hb : b < 32) (h : lkInsertBank s b key val = (t, 0, u)) :
    bankFind s b key = none ∧ u ∈ bankEntries s b ∧ Inserted s t b u key val := by
  cases hf : bankFind s b key with
  | some v =>
    rw [lkInsertBank_exists hf] at h
    simp at h
  | none =>
    cases hi : insertSlot s b with
    | none =>
      rw [lkInsertBank_full hb hf hi] at h
      simp at h
    | some v =>
      rw [lkInsertBank_takes hb hf hi] at h
      simp only [Prod.mk.injEq, true_and] at h
      obtain ⟨ht, rfl⟩ := h
      have hv := insertSlot_mem hi
      have hbound := (bankEntries_bounds hv).2
      refine ⟨rfl, hv, ?_⟩
      have hw := unitsWritten_entryWrite (lkCount s 0) (bankKind s b) (bankWidth s b) v key val
      generalize entryWrite (lkCount s 0) (bankKind s b) (bankWidth s b) v key val = x at ht hw
      have hcounts : KeepsEntries [OD.LOCKET_COUNTS, OD.ENTRY_COUNTS] x t := by
        rw [← ht]
        have hentry : KeepsEntries [OD.LOCKET_COUNTS, OD.ENTRY_COUNTS] x (odAdd x OD.ENTRY_COUNTS b 1) :=
          keepsEntries_odAdd x (by decide) (by omega) 1
        exact .trans (.ite hentry (.of_od rfl)) ((keepsEntries_lkCount _ (by decide)).mono (by decide))
      have hlk : t.lk = x.lk := by
        rw [← ht]
        split <;> rfl
      have hunits : ∀ v < 65536, unitRec t v = unitRec x v := fun v hv => hcounts _ (by decide) v (by omega)
      have hall : KeepsEntries [OD.LOCKET_VIEW, OD.LOCKET_COUNTS, OD.ENTRY_COUNTS] s t :=
        (((keepsEntries_lkCount s (by decide)).mono (by decide)).trans ((hw.entries (by omega)).mono (by decide))).trans
          (hcounts.mono (by decide))
      refine ⟨.of_keeps hall hb (by decide) (by decide), fun i hi => ?_, fun y hy hout => ?_, fun y => ?_, fun y => ?_⟩
      · rw [hunits _ (by omega), hw.inside i hi]
      · rw [hunits y hy, hw.outside y hout, unitRec_lkCount s (by decide) (by omega)]
      · rw [hlk, hw.badUnits]
        rfl
      · rw [hlk, hw.badValues]
        rfl

theorem Inserted.value (h : Inserted s t b u key val) (hval : val < 2 ^ 128) : lkValue t u = val := by
  have h0 := h.here 0 (bankWidth_pos s b)
  rw [Nat.add_zero] at h0
  rw [lkValue, h0, value_unitOf, if_pos rfl, Nat.mod_eq_of_lt hval]

/-- The entry inserted matches its key. -/
theorem Inserted.matches (h : Inserted s t b u key val) (hkey : key < 2 ^ (64 * bankWidth s b)) (hval : val < 2 ^ 128)
    (hlive : bankKind s b ≠ 1 ∨ dedupeLive s val = true) : entryMatches t (bankKind t b) (bankWidth t b) u key = true := by
  have h0 := h.here 0 (bankWidth_pos s b)
  rw [Nat.add_zero] at h0
  have hk : entryKey t u (bankWidth s b) = key :=
    (entryKey_of_words fun i hi => by rw [h.here i hi, keyWord_unitOf]).trans (Nat.mod_eq_of_lt hkey)
  have hpos := bankWidth_pos s b
  have hbad : entryBad t u (bankWidth s b) = false := by
    simp only [entryBad, Bool.or_eq_false_iff, List.any_eq_false, decide_eq_true_eq, List.contains_eq_mem, decide_eq_false_iff_not]
    refine ⟨fun x hx => ?_, fun hx => ?_⟩
    · have := ((h.badUnits x).1 hx).2
      omega
    · have := ((h.badValues u).1 hx).2
      omega
  have hv := h.value hval
  rw [lkValue, h0] at hv
  have hdl : (bankKind s b != 1 || dedupeLive s val) = true := by simpa using hlive
  simp only [entryMatches, h.bank.kind, h.bank.width, hk, hbad, hv, h.bank.dedupeLive, hdl, h0, validBit_unitOf]
  simp

/-- Another entry of the bank matches what it matched. -/
theorem Inserted.matches_ne (h : Inserted s t b u key val) (hb : b < 32) (hu : u ∈ bankEntries s b) {v : Nat} (hv : v ∈ bankEntries s b) (hne : v ≠ u)
    (key' : Nat) : entryMatches t (bankKind t b) (bankWidth t b) v key' = entryMatches s (bankKind s b) (bankWidth s b) v key' := by
  have hpos := bankWidth_pos s b
  have hvb := (bankEntries_bounds hv).2
  have hap := bankEntries_apart hu hv hne
  have hunit : ∀ i < bankWidth s b, unitRec t (v + i) = unitRec s (v + i) := fun i hi => h.elsewhere _ (by omega) (by omega)
  have h0 : unitRec t v = unitRec s v := hunit 0 hpos
  have hbad : entryBad t v (bankWidth s b) = entryBad s v (bankWidth s b) := by
    rw [Bool.eq_iff_iff]
    simp only [entryBad, Bool.or_eq_true, List.any_eq_true, decide_eq_true_eq, List.contains_eq_mem]
    refine or_congr (exists_congr fun x => and_congr_left fun hx => ?_) ?_
    · rw [h.badUnits, and_iff_left]
      omega
    · rw [h.badValues, and_iff_left]
      omega
  rw [entryMatches, entryMatches, h.bank.kind, h.bank.width, entryKey_congr hunit, hbad, h.bank.dedupeLive, h0]

/-- A search for the key finds the entry inserted. -/
theorem Inserted.bankFind (h : Inserted s t b u key val) (hb : b < 32) (hu : u ∈ bankEntries s b) (hnone : bankFind s b key = none)
    (hkey : key < 2 ^ (64 * bankWidth s b)) (hval : val < 2 ^ 128) (hlive : bankKind s b ≠ 1 ∨ dedupeLive s val = true) :
    bankFind t b key = some u := by
  rw [Machine.bankFind, h.bank.bankEntries]
  refine find?_eq_some_of_lowest (bankEntries_sorted s b) hu (h.matches hkey hval hlive) fun v hv hm => ?_
  by_contra hlt
  have hne : v ≠ u := by omega
  rw [h.matches_ne hb hu hv hne] at hm
  exact List.find?_eq_none.1 hnone v hv hm

end

/-- A count advanced changes the dictionary alone. -/
theorem odAdd_frame (s : State) (e i n : Nat) (o : KMap Nat) : { odAdd s e i n with od := o } = { s with od := o } := rfl

/-- Settles O49: the place taken is `insertSlot`'s, and the entry written there is the bank's only match. -/
theorem locketInsertIsFound : Obligations.LocketInsertIsFound := by
  refine ⟨fun s b key val u h => ?_, fun s b key val u hb hn hu h0 hle => ?_, fun s b key val u hb hn hv hk hu hexp hle => ?_,
    fun s b key val hb hn hv hk => ?_, fun s t b key val u hb hkey hval hlive h => ?_⟩
  · refine ⟨_, lkInsertBank_exists h, by simp only [odAdd_frame], fun e i he hi => ?_⟩
    rw [odGet_odAdd_entry _ _ _ _ _ _ he (by decide) hi, odGet_odAdd_entry _ _ _ _ _ _ he (by decide) hi,
      odGet_odAdd_entry _ _ _ _ _ _ he (by decide) hi]
  · rw [lkInsertBank_takes hb hn (insertSlot_free hu h0 hle)]
  · rw [lkInsertBank_takes hb hn (insertSlot_expired hv hk hu hexp hle)]
  · refine ⟨_, lkInsertBank_full hb hn (insertSlot_none hv hk), by simp only [odAdd_frame], fun e i he hi => ?_⟩
    rw [odGet_odAdd_entry _ _ _ _ _ _ he (by decide) hi, odGet_odAdd_entry _ _ _ _ _ _ he (by decide) hi]
  · obtain ⟨hnone, hu, hin⟩ := lkInsertBank_ok hb h
    have hfind := hin.bankFind hb hu hnone hkey hval hlive
    have hbound := bankEntries_bounds hu
    have hpos := bankWidth_pos s b
    refine ⟨hfind, hin.value hval, by omega, hin.elsewhere, fun val' => ?_⟩
    rw [lkInsertBank_exists hfind]

end Sys2Proof.Machine

/-! # Which operation the write of a command entry is (chapters 17 to 21) -/

namespace Sys2Proof.Machine

section
variable (s : State) (off : Nat) (data : List Byte)

theorem commandWrite_powerStateReq : commandWrite s OD.POWER_STATE_REQ off data = powerWrite s (leNat data) := rfl
theorem commandWrite_svnCommit : commandWrite s OD.SVN_COMMIT off data = svnCommit s (leNat data) := rfl
theorem commandWrite_bootLoad : commandWrite s OD.BOOT_LOAD off data = bootLoadWrite s off data := rfl
theorem commandWrite_bootCommit : commandWrite s OD.BOOT_COMMIT off data = bootCommit s (leNat data) := rfl
theorem commandWrite_debugUnlock : commandWrite s OD.DEBUG_UNLOCK off data = debugUnlock s data := rfl
theorem commandWrite_keyInstall : commandWrite s OD.KEY_INSTALL off data = keyInstall s data := rfl
theorem commandWrite_keyRevoke : commandWrite s OD.KEY_REVOKE off data = keyRevoke s (leNat data) := rfl
theorem commandWrite_attestRequest : commandWrite s OD.ATTEST_REQUEST off data = attestRequest s data := rfl
theorem commandWrite_partitionCreate : commandWrite s OD.PARTITION_CREATE off data = partCreate s data := rfl
theorem commandWrite_partitionRelease : commandWrite s OD.PARTITION_RELEASE off data = partRelease s (leNat data) := rfl
theorem commandWrite_auditRequest : commandWrite s OD.AUDIT_REQUEST off data = auditRequest s (leNat data) := rfl
theorem commandWrite_fenceRegion : commandWrite s OD.FENCE_REGION off data = fenceRegionWrite s (leNat data) := rfl
theorem commandWrite_derate : commandWrite s OD.DERATE off data = derate s (leNat data) := rfl
theorem commandWrite_fenceCommand : commandWrite s OD.FENCE_COMMAND off data = fenceCommand s data := rfl

end

/-! ## Scalar entries -/

theorem od_odSet_same (s : State) (e v : Nat) : od (odSet s e v) e = v := odGet_odPut_same s e 0 v

theorem od_odSet_ne (s : State) {e e' : Nat} (v : Nat) (h : e' ≠ e) : od (odSet s e v) e' = od s e' :=
  odGet_odPut_entry s e 0 v e' 0 h (by decide) (by decide)

/-- A count advanced changes no other entry's first element. -/
theorem od_odAdd_ne (s : State) {e e' i : Nat} (n : Nat) (h : e' ≠ e) (hi : i < 2 ^ 24) : od (odAdd s e i n) e' = od s e' :=
  odGet_odAdd_entry s e i n e' 0 h hi (by decide)

theorem od_of_od {s t : State} (h : t.od = s.od) (e : Nat) : od t e = od s e := odGet_of_od h e 0

/-- A write that leaves an entry alone. -/
theorem KeepsEntries.od {es : List Nat} {s t : State} (h : KeepsEntries es s t) {e : Nat} (he : e ∉ es) : od t e = od s e :=
  h e he 0 (by decide)

end Sys2Proof.Machine

/-! # The saved state a channel is left with (chapter 14, R314)

`dmaEnd` stores the saved state it is given as it is. A value wider than CHANNEL_SAVED's 256 bits then reads back whole, where the statement
has it cut to the entry's width. -/

namespace Sys2Proof.Machine

theorem finishStep_none {s : State} {u : Nat} (h : flightOn s u = none) (how : StepEnd) : finishStep s u how = s := by
  unfold finishStep
  rw [h]

theorem flightOn_setDma (s : State) (ch : Nat) (d : DmaCh) (u : Nat) : flightOn (setDma s ch d) u = flightOn s u := rfl

theorem odGet_setDma (s : State) (ch : Nat) (d : DmaCh) (e i : Nat) : odGet (setDma s ch d) e i = odGet s e i := rfl

/-- With no step in flight on the channel, `dmaEnd` leaves the saved state it was given. -/
theorem channelSaved_dmaEnd {s : State} {ch : Nat} (h : flightOn s (dmaUnit ch) = none) (f : Flight) (d : DmaCh) (status state saved : Nat)
    (how : StepEnd) : odGet (dmaEnd s ch f d status state saved how) OD.CHANNEL_SAVED ch = saved := by
  have hfree : ∀ r x, flightOn (setDma (odPut (odPut (ringPush s OD.DMA_COMPLETION_RING r) OD.CHANNEL_STATE ch state) OD.CHANNEL_SAVED ch saved)
      ch x) (dmaUnit ch) = none := fun r x => by
    rw [flightOn_setDma, flightOn_odPut, flightOn_odPut, flightOn_ringPush, h]
  unfold dmaEnd
  rw [finishStep_none (hfree _ _), odGet_setDma, odGet_odPut_same]

theorem odWidth_channelSaved : odWidth OD.CHANNEL_SAVED = 256 := by decide +kernel

/-- A flight of an all-zero step. -/
def idleFlight : Flight := ⟨0, 0, 0, 0, false⟩

/-- Refutes O45: channel 0 of the reset state, ended with the saved state 2^256, reads 2^256 and not 0. -/
theorem not_dmaChannels : ¬ Obligations.DmaChannels := by
  intro h
  obtain ⟨-, hend, -⟩ := h
  obtain ⟨-, hsaved, -⟩ := hend State.reset 0 idleFlight DmaCh.reset 0 0 (2 ^ 256) .done (by decide) (by decide)
  rw [channelSaved_dmaEnd rfl, odWidth_channelSaved, Nat.mod_self] at hsaved
  exact absurd hsaved (Nat.two_pow_pos 256).ne'

end Sys2Proof.Machine

/-! # Built tables and their exchange (chapter 15, R319 to R323)

Each command is one `answer` of a choice, so a clause is the branch its hypotheses select. What a generation acknowledged, refused or
dropped leaves in the sender's list, and what a table installed leaves in the receiver's store, are said first. -/

namespace Sys2Proof.Machine

/-! ## Building (R319, R320) -/

section
variable {s : State} {id f : Nat}

theorem tableBuild_first (hid : id < 16) (hb : profileBuilt s id = true) (hl : kfind s.net.codec.lastBuild id = none)
    (hc : od s OD.BUILD_BYTES ≤ kget s.net.codec.counted id 0) :
    completes (.tableBuild id) s (proposeTable (withCodec s { s.net.codec with lastBuild := kput s.net.codec.lastBuild id (frameNo s) }) id
      (formTable (kget s.net.codec.recent id []))) :=
  congrArg (answer s) (if_pos ⟨hid, hb, by rw [hl]; rfl, hc⟩)

/-- The state in which a rebuild has been noted. -/
abbrev rebuildNoted (s : State) (id : Nat) : State :=
  withCodec s { s.net.codec with lastBuild := kput s.net.codec.lastBuild id (frameNo s) }

/-- A later table gains enough over the lengths in use (R319). -/
abbrev RebuildGains (s : State) (id : Nat) (lengths : List Nat) : Prop :=
  let recent := kget s.net.codec.recent id []
  let counts := (List.range 256).map (fun v => (recent.filter (fun x => x.toNat = v)).length)
  codedSize counts (formTable recent) * 1000 + codedSize counts lengths * od s OD.REBUILD_GAIN_PM ≤ codedSize counts lengths * 1000

variable (hid : id < 16) (hb : profileBuilt s id = true) (hl : kfind s.net.codec.lastBuild id = some f)
  (hf : od s OD.REBUILD_FRAMES ≤ frameDiff f (frameNo s))
include hid hb hl hf

theorem tableRebuild_none (ht : s.net.codec.tables.filter (fun t => t.id == id) = []) :
    completes (.tableRebuild id) s (proposeTable (rebuildNoted s id) id (formTable (kget s.net.codec.recent id []))) := by
  refine congrArg (answer s) ?_
  simp only [hl, ht]
  exact if_pos ⟨hid, hb, hf, rfl⟩

theorem tableRebuild_some {b : BuiltTable} {rest : List BuiltTable} (ht : s.net.codec.tables.filter (fun t => t.id == id) = b :: rest)
    (hst : ∀ x ∈ b :: rest, x.state = 1) :
    completes (.tableRebuild id) s (if RebuildGains s id b.lengths then
      proposeTable (rebuildNoted s id) id (formTable (kget s.net.codec.recent id [])) else rebuildNoted s id) := by
  refine congrArg (answer s) ?_
  simp only [hl, ht]
  exact if_pos ⟨hid, hb, hf, by simpa using hst⟩

end

/-! ## Acknowledgements and refusals of a generation (R320, R321) -/

/-- The sender's tables once a peer has acknowledged generation `gen`; `first` is whether it was the first to. -/
def ackTable (dev id gen : Nat) (first : Prop) [Decidable first] (x : BuiltTable) : BuiltTable :=
  if x.id = id ∧ x.gen = gen then
    { x with acked := if x.acked.contains dev then x.acked else x.acked ++ [dev], defs := x.defs.filter (fun p => p.1 != dev), state := 1 }
  else if x.id = id ∧ first ∧ x.state = 1 then { x with state := 2 } else x

/-- The state after an acknowledgement of a generation not yet replaced. -/
def tableAcked (s : State) (dev id gen : Nat) (first : Prop) [Decidable first] : State :=
  withCodec s { s.net.codec with
    tables := s.net.codec.tables.map (ackTable dev id gen first)
    peerAcked := kput s.net.codec.peerAcked (dev * 16 + id) gen }

section
variable {s : State} {dev id gen : Nat} {b : BuiltTable}

theorem tableAck_completes (h : ownTable s id gen = some b) (h2 : b.state ≠ 2) :
    completes (.tableAck dev id gen) s (tableAcked s dev id gen (b.state = 0)) := by
  refine congrArg (answer s) ?_
  simp only [h]
  exact if_neg h2

theorem tableAck_replaced (h : ownTable s id gen = some b) (h2 : b.state = 2) : completes (.tableAck dev id gen) s s := by
  refine congrArg (answer s) ?_
  simp only [h]
  exact if_pos h2

theorem tableAck_unknown (h : ownTable s id gen = none) : completes (.tableAck dev id gen) s s := by
  refine congrArg (answer s) ?_
  simp only [h]

theorem tableRefused_known (h : ownTable s id gen = some b) :
    completes (.tableRefused dev id gen) s (codecCount (tableRefused s dev id gen) 9) :=
  congrArg (answer s) (if_pos (by rw [h]; rfl))

theorem tableRefused_unknown (h : ownTable s id gen = none) : completes (.tableRefused dev id gen) s s :=
  congrArg (answer s) (if_neg (by rw [h]; exact Bool.false_ne_true))

end

theorem ackTable_id (dev id gen : Nat) (first : Prop) [Decidable first] (x : BuiltTable) :
    (ackTable dev id gen first x).id = x.id ∧ (ackTable dev id gen first x).gen = x.gen := by
  unfold ackTable
  split_ifs <;> exact ⟨rfl, rfl⟩

/-- The generation acknowledged is in use and lists the peer. -/
theorem ownTable_tableAcked {s : State} {dev id gen : Nat} {first : Prop} [Decidable first] {x : BuiltTable}
    (h : ownTable (tableAcked s dev id gen first) id gen = some x) : x.state = 1 ∧ dev ∈ x.acked := by
  have hm := List.mem_of_find?_eq_some h
  have hp := List.find?_some h
  obtain ⟨y, -, rfl⟩ := List.mem_map.1 hm
  obtain ⟨hid, hgen⟩ := ackTable_id dev id gen first y
  simp only [hid, hgen, Bool.and_eq_true, beq_iff_eq] at hp
  rw [ackTable, if_pos hp]
  refine ⟨rfl, ?_⟩
  show dev ∈ if y.acked.contains dev then y.acked else y.acked ++ [dev]
  split
  · next hc => simpa using hc
  · simp

/-- A peer that refused is coded for with fixed table 0. -/
theorem builtFor_tableRefused (s : State) (dev id gen : Nat) : builtFor (tableRefused s dev id gen) id dev = none := by
  have h : kfind (tableRefused s dev id gen).net.codec.peerAcked (dev * 16 + id) = none := kfind_kdel_same _ _
  rw [builtFor, h]

/-! ## Definitions and drops received (R321 to R323) -/

section
variable (s : State) (dev id gen lengths : Nat)

theorem tableDef_bad (h : ((unpackLengths lengths).all (· == 0) || overSubscribed (unpackLengths lengths)) = true) :
    completes (.tableDef dev id gen lengths) s (codecCount (sendTable s 3 dev id gen 0) 8) :=
  congrArg (answer s) (if_pos h)

theorem tableDef_good (h : ((unpackLengths lengths).all (· == 0) || overSubscribed (unpackLengths lengths)) = false) :
    completes (.tableDef dev id gen lengths) s (match storeTable s.net.codec.store ⟨dev, id, gen, unpackLengths lengths⟩ with
      | none => codecCount (sendTable s 3 dev id gen 0) 8
      | some st => sendTable (withCodec s { s.net.codec with store := st }) 2 dev id gen 0) :=
  congrArg (answer s) (if_neg (by rw [h]; exact Bool.false_ne_true))

/-- A table kept by `pruneTables` was there. -/
theorem mem_of_mem_pruneTables {ts : List BuiltTable} {t : BuiltTable} (h : t ∈ pruneTables ts) : t ∈ ts := List.mem_of_mem_filter h

/-- A generation being dropped no longer waits for the peer that acknowledged it. -/
theorem dropAcked_drops {t : BuiltTable} (h : t ∈ (dropAcked s dev id gen).net.codec.tables) (hid : t.id = id) (hgen : t.gen = gen)
    (hd : t.dropping = true) : dev ∉ t.drops := by
  obtain ⟨y, -, rfl⟩ := List.mem_map.1 (mem_of_mem_pruneTables h)
  by_cases hc : y.id = id ∧ y.gen = gen ∧ y.dropping = true
  · rw [if_pos hc]
    simp
  · rw [if_neg hc] at hid hgen hd
    exact absurd ⟨hid, hgen, hd⟩ hc

end

/-! ## Messages sent again (R321, R322) -/

section
variable {s : State} {dev id : Nat} {b : BuiltTable}

/-- How often a DEF has been sent to a peer. -/
abbrev defsSent (b : BuiltTable) (dev : Nat) : Nat := ((b.defs.find? (fun p => p.1 == dev)).getD (dev, 0)).2

theorem tableDefResend_refused
    (h : s.net.codec.tables.find? (fun t => t.id == id && t.state != 2 && t.defs.any (fun p => p.1 == dev)) = some b)
    (hf : kfind b.lastSend dev ≠ some (frameNo s)) (hn : 16 ≤ defsSent b dev) :
    completes (.tableDefResend dev id) s (codecCount (tableRefused s dev id b.gen) 9) := by
  refine congrArg (answer s) ?_
  simp only [h]
  rw [if_neg hf]
  exact if_pos hn

theorem tableDefResend_again
    (h : s.net.codec.tables.find? (fun t => t.id == id && t.state != 2 && t.defs.any (fun p => p.1 == dev)) = some b)
    (hf : kfind b.lastSend dev ≠ some (frameNo s)) (hn : defsSent b dev < 16) :
    ∃ g, completes (.tableDefResend dev id) s (sendTable (mapTables s g) 1 dev id b.gen (packLengths b.lengths)) := by
  refine ⟨?g, congrArg (answer s) ?_⟩
  rotate_left
  simp only [h]
  rw [if_neg hf]
  exact if_neg (Nat.not_le.2 hn)

theorem tableDropResend_completes
    (h : s.net.codec.tables.find? (fun t => t.id == id && t.dropping && t.drops.contains dev) = some b) :
    ∃ g, completes (.tableDropResend dev id) s (if kfind b.lastSend dev = some (frameNo s) then s
      else sendTable (mapTables s g) 4 dev id b.gen 0) := by
  refine ⟨?g, congrArg (answer s) ?_⟩
  rotate_left
  simp only [h]
  rfl

/-- A message to each of several peers waits in the send queue. -/
theorem sendTables_txq_length (s : State) (kind id gen lengths : Nat) (peers : List Nat) :
    (peers.foldl (fun t d => sendTable t kind d id gen lengths) s).txq.length = s.txq.length + peers.length := by
  induction peers generalizing s with
  | nil => rfl
  | cons d peers ih =>
    rw [List.foldl_cons, ih, List.length_cons]
    have hsend : (sendTable s kind d id gen lengths).txq.length = s.txq.length + 1 := by simp [sendTable, sendMgmt, send]
    omega

theorem tableRetire_completes (h : s.net.codec.tables.find? (fun t => t.id == id && t.state == 2 && !t.dropping) = some b) :
    ∃ g, completes (.tableRetire id) s (if (noNewPackets s b && b.refs.isEmpty) = true then
      mapTables (b.acked.foldl (fun s d => sendTable s 4 d id b.gen 0) s) g else s) := by
  refine ⟨?g, congrArg (answer s) ?_⟩
  rotate_left
  simp only [h]
  rfl

end

/-! ## The receiver's store (R323) -/

/-- A stored table is of the sender and profile of `n`. -/
abbrev sameTable (n t : StoredTable) : Bool := t.dev == n.dev && t.id == n.id

/-- The ways a table is installed: in the place of its generation, in that of the older one, or behind the others. -/
theorem storeTable_cases {st st' : List StoredTable} {n : StoredTable} (h : storeTable st n = some st') :
    (st.any (fun t => sameTable n t && t.gen == n.gen) = true ∧ st' = st.map (fun t => if sameTable n t && t.gen == n.gen then n else t))
    ∨ (∃ old ∈ st, sameTable n old = true ∧ st' = st.filter (fun t => t != old) ++ [n])
    ∨ ((st.filter (sameTable n)).length < 2 ∧ st' = st ++ [n]) := by
  unfold storeTable at h
  extract_lets same at h
  split at h
  · next hany => exact .inl ⟨hany, (Option.some.inj h).symm⟩
  · split at h
    · next h2 =>
      split at h
      · next old hold =>
        exact .inr (.inl ⟨old, List.mem_of_find?_eq_some hold, List.find?_some hold, (Option.some.inj h).symm⟩)
      · next hnone =>
        have hnil : st.filter same = [] := List.filter_eq_nil_iff.2 (List.find?_eq_none.1 hnone)
        rw [hnil] at h2
        exact absurd h2 (by decide)
    · next h2 =>
      split at h
      · cases h
      · exact .inr (.inr ⟨Nat.not_le.1 h2, (Option.some.inj h).symm⟩)

theorem sameTable_self (n : StoredTable) : sameTable n n = true := by simp

/-- A table that takes its generation's place is of the same sender and profile. -/
theorem sameTable_replace (n t : StoredTable) : sameTable n (if sameTable n t && t.gen == n.gen then n else t) = sameTable n t := by
  split
  · next h =>
    rw [Bool.and_eq_true] at h
    rw [sameTable_self, h.1]
  · rfl

theorem mem_storeTable {st st' : List StoredTable} {n : StoredTable} (h : storeTable st n = some st') : n ∈ st' := by
  obtain ⟨hany, rfl⟩ | ⟨old, -, -, rfl⟩ | ⟨-, rfl⟩ := storeTable_cases h
  · obtain ⟨t, ht, hc⟩ := List.any_eq_true.1 hany
    exact List.mem_map.2 ⟨t, ht, if_pos hc⟩
  · simp
  · simp

/-- At most two generations of one peer's profile are kept. -/
theorem storeTable_atMostTwo {st st' : List StoredTable} {n : StoredTable} (h : storeTable st n = some st')
    (h2 : (st.filter (sameTable n)).length ≤ 2) : (st'.filter (sameTable n)).length ≤ 2 := by
  obtain ⟨-, rfl⟩ | ⟨old, hold, hs, rfl⟩ | ⟨hlt, rfl⟩ := storeTable_cases h
  · have hsame : sameTable n ∘ (fun t => if sameTable n t && t.gen == n.gen then n else t) = sameTable n := funext (sameTable_replace n)
    rwa [List.filter_map, hsame, List.length_map]
  · have hmem : old ∈ st.filter (sameTable n) := List.mem_filter.2 ⟨hold, hs⟩
    have hlt : ((st.filter (sameTable n)).filter (fun t => t != old)).length < (st.filter (sameTable n)).length :=
      List.length_filter_lt_length_iff_exists.2 ⟨old, hmem, by simp⟩
    rw [List.filter_append, List.length_append, List.filter_filter]
    rw [List.filter_filter] at hlt
    have hcomm : st.filter (fun t => sameTable n t && t != old) = st.filter (fun t => t != old && sameTable n t) :=
      List.filter_congr fun t _ => Bool.and_comm _ _
    have hone : ([n].filter (sameTable n)).length ≤ 1 := List.length_filter_le _ _
    rw [hcomm]
    omega
  · have hone : ([n].filter (sameTable n)).length ≤ 1 := List.length_filter_le _ _
    rw [List.filter_append, List.length_append]
    omega

/-- Tables of another sender or profile stay as they were. -/
theorem storeTable_others {st st' : List StoredTable} {n : StoredTable} (h : storeTable st n = some st') :
    st'.filter (fun t => !sameTable n t) = st.filter (fun t => !sameTable n t) := by
  have hn : [n].filter (fun t => !sameTable n t) = [] := by simp
  obtain ⟨-, rfl⟩ | ⟨old, -, hs, rfl⟩ | ⟨-, rfl⟩ := storeTable_cases h
  · have hsame : (fun t => !sameTable n t) ∘ (fun t => if sameTable n t && t.gen == n.gen then n else t) = fun t => !sameTable n t :=
      funext fun t => congrArg (!·) (sameTable_replace n t)
    rw [List.filter_map, hsame]
    refine (List.map_congr_left fun t ht => if_neg ?_).trans (List.map_id _)
    have ht := (List.mem_filter.1 ht).2
    rw [Bool.not_eq_true'] at ht
    simp [ht]
  · rw [List.filter_append, hn, List.append_nil, List.filter_filter]
    refine List.filter_congr fun t _ => ?_
    by_cases ht : t = old
    · simp [ht, hs]
    · simp [ht]
  · rw [List.filter_append, hn, List.append_nil]

/-- Settles O46: each clause is the branch of its command, and the store's by the ways a table is installed. -/
theorem codecTables : Obligations.CodecTables := by
  refine ⟨fun s id => tableBuild_first, fun s id f => tableRebuild_none, fun s id f b rest hid hb hl hf ht hst => ?_,
    fun s dev id gen h => ⟨tableAck_unknown h, tableRefused_unknown h⟩, fun s dev id gen b h => ⟨fun h2 => ?_, tableAck_replaced h,
      tableRefused_known h, builtFor_tableRefused s dev id gen⟩, fun s dev id gen lengths => ⟨tableDef_bad s dev id gen lengths, fun hg => ?_⟩,
    fun s dev id gen => ⟨rfl, rfl, fun t => dropAcked_drops s dev id gen⟩,
    fun s dev id b h hf => ⟨tableDefResend_refused h hf, fun hn => ?_⟩, fun s id b h => ?_, fun s dev id b h => ?_,
    fun st st' n h => ⟨mem_storeTable h, storeTable_atMostTwo h, storeTable_others h⟩⟩
  · have hc := tableRebuild_some hid hb hl hf ht hst
    exact ⟨fun hg => (if_pos hg).subst (motive := completes _ s) hc, fun hg => (if_neg hg).subst (motive := completes _ s) hc⟩
  · exact ⟨_, tableAck_completes h h2, kfind_kput_same _ _ _, rfl, fun x => ownTable_tableAcked⟩
  · have hc := tableDef_good s dev id gen lengths hg
    refine ⟨fun hn => ?_, fun st hst => ?_⟩
    · rwa [hn] at hc
    · rwa [hst] at hc
  · obtain ⟨g, hc⟩ := tableDefResend_again h hf hn
    exact ⟨_, hc, rfl, rfl⟩
  · obtain ⟨g, hc⟩ := tableRetire_completes h
    refine ⟨fun hn hr => ⟨mapTables (b.acked.foldl (fun s d => sendTable s 4 d id b.gen 0) s) g, ?_, sendTables_txq_length s 4 id b.gen 0 b.acked⟩, fun hn => ?_⟩
    · rwa [if_pos (by rw [hn, hr]; rfl)] at hc
    · have hno : ¬ (noNewPackets s b && b.refs.isEmpty) = true := by
        rw [Bool.and_eq_true, List.isEmpty_iff]
        rintro ⟨h1, h2⟩
        exact hn.elim (fun h0 => Bool.noConfusion (h0.symm.trans h1)) (fun h0 => h0 h2)
      rwa [if_neg hno] at hc
  · obtain ⟨g, hc⟩ := tableDropResend_completes h
    refine ⟨fun hf => ?_, fun hf => ⟨mapTables s g, ?_, rfl, rfl⟩⟩
    · rwa [if_pos hf] at hc
    · rwa [if_neg hf] at hc

end Sys2Proof.Machine

/-! # The lease, the power states, wake and the temperatures (chapters 17 and 22, R345, R357, R359 to R363, R410, R465) -/

namespace Sys2Proof.Machine

/-! ## The lease (R345) -/

/-- R345: the lease has run out: this many frames in RUN without a write. -/
abbrev LeaseOver (s : State) : Prop :=
  inRun s = true ∧ s.en.lapsed = false ∧ od s OD.ALLOWANCE_LEASE_FRAMES ≠ 0
    ∧ od s OD.ALLOWANCE_LEASE_FRAMES ≤ frameDiff s.en.leaseFrame (frameNo s)

theorem execLeaseExpiry_eq (s : State) [Decidable (LeaseOver s)] : execLeaseExpiry s = answer s (if LeaseOver s then
    alert (odAdd { s with en := { s.en with lapsed := true } } OD.ENERGY_COUNTS 0 1) 2 else s) := by
  refine congrArg (answer s) ?_
  simp only [Bool.and_eq_true, Bool.not_eq_true', bne_iff_ne, decide_eq_true_eq, and_assoc, LeaseOver]

/-- The allowance in force once the lease has lapsed. -/
theorem allowance_lapsed {s t : State} (h : t.en.lapsed = true) (ha : od t OD.ALLOWANCE_UJ = od s OD.ALLOWANCE_UJ)
    (hf : od t OD.ALLOWANCE_FLOOR_UJ = od s OD.ALLOWANCE_FLOOR_UJ) (mn : Nat) :
    allowance t mn = min (od s OD.ALLOWANCE_UJ) (max (od s OD.ALLOWANCE_FLOOR_UJ) mn) := by rw [allowance, if_pos h, ha, hf]

theorem allowance_le (s : State) (mn : Nat) : allowance s mn ≤ od s OD.ALLOWANCE_UJ := by
  unfold allowance
  split
  · exact Nat.min_le_left _ _
  · exact Nat.le_refl _

theorem allowance_leaseRenew (s : State) (mn : Nat) : allowance (leaseRenew s) mn = od s OD.ALLOWANCE_UJ := rfl

/-- What the expiry of the lease leaves: the count, the alert, the allowance in force. -/
theorem leaseLapsed (s : State) : let t := alert (odAdd { s with en := { s.en with lapsed := true } } OD.ENERGY_COUNTS 0 1) 2
    (∀ mn, allowance t mn = min (od s OD.ALLOWANCE_UJ) (max (od s OD.ALLOWANCE_FLOOR_UJ) mn))
      ∧ bitOf (od t OD.ALERT_CAUSES) 2 = true
      ∧ odGet t OD.ENERGY_COUNTS 0 = (odGet s OD.ENERGY_COUNTS 0 + 1) % 2 ^ odWidth OD.ENERGY_COUNTS := by
  have hkeep : ∀ x : State, KeepsEntries [OD.ENERGY_COUNTS, OD.ALERT_CAUSES] x (alert (odAdd x OD.ENERGY_COUNTS 0 1) 2) := fun x =>
    (keepsEntries_odAdd x (by decide) (by decide) 1).trans (keepsEntries_alert (by decide) _ _)
  have hk := hkeep { s with en := { s.en with lapsed := true } }
  refine ⟨allowance_lapsed ?_ (hk.od (by decide)) (hk.od (by decide)), alert_bit _ _, ?_⟩
  · rw [alert_eq]
    rfl
  · rw [alert_od_ne _ _ _ _ (by decide) (by decide), odGet_odAdd_same]
    rfl

/-! ## Power states (R359 to R361) -/

theorem keepsEntries_linkTrains (s : State) (p : Nat → Bool) :
    KeepsEntries [OD.LINK_STATE] s (((List.range 64).filter p).foldl (fun t l => linkTrain t l 0) s) := by
  refine List.foldlRecOn (motive := KeepsEntries [OD.LINK_STATE] s) _ _ (.of_od rfl) fun t ht l hl => ht.trans ?_
  exact keepsEntries_linkTrain t (List.mem_range.1 (List.mem_of_mem_filter hl)) 0

theorem keepsEntries_tickOpen (s : State) : KeepsEntries [OD.TICK_STATE] s (tickOpen s) :=
  (keepsEntries_odPut s (List.mem_singleton_self OD.TICK_STATE) (by decide : 0 < 2 ^ 24) 1).trans (.of_od rfl)

theorem powerRequest_idle {s : State} (h : od s OD.POWER_STATE = 0) : od (powerRequest s 1) OD.POWER_STATE = 1
    ∧ (powerRequest s 1).en.idleSince = frameNo s ∧ (powerRequest s 1).mem = s.mem := by
  have he : powerRequest s 1 = { odSet (odSet s OD.POWER_STATE 1) OD.POWER_REQ_STATUS 0 with
      en := { s.en with idleSince := frameNo (odSet (odSet s OD.POWER_STATE 1) OD.POWER_REQ_STATUS 0) } } := if_pos ⟨rfl, h⟩
  rw [he]
  refine ⟨?_, ?_, rfl⟩
  · exact (od_odSet_ne (odSet s OD.POWER_STATE 1) (e := OD.POWER_REQ_STATUS) 0 (by decide)).trans (od_odSet_same _ _ _)
  · exact (od_odSet_ne (odSet s OD.POWER_STATE 1) (e := OD.POWER_REQ_STATUS) 0 (by decide)).trans (od_odSet_ne s 1 (by decide))

/-- EXITING_IDLE, before the links that were enabled begin to train. -/
abbrev idleLeft (s : State) : State :=
  odSet { odSet (odSet s OD.POWER_STATE 3) OD.POWER_REQ_STATUS 0 with en := { s.en with exitSealed := false } } OD.LINK_ENABLE s.en.savedEnable

theorem powerRequest_active_eq {s : State} (h : od s OD.POWER_STATE = 2) : powerRequest s 2 =
    tickOpen (((List.range 64).filter (bitOf s.en.savedEnable)).foldl (fun t l => linkTrain t l 0) (idleLeft s)) := by
  unfold powerRequest
  rw [if_neg (by simp), if_pos (by simp [h])]

/-- A wake from IDLE: the state, and the links that were enabled. -/
theorem powerRequest_active {s : State} (h : od s OD.POWER_STATE = 2) :
    od (powerRequest s 2) OD.POWER_STATE = 3 ∧ od (powerRequest s 2) OD.LINK_ENABLE = s.en.savedEnable := by
  rw [powerRequest_active_eq h]
  have hk := ((keepsEntries_linkTrains (idleLeft s) (bitOf s.en.savedEnable)).mono (List.cons_subset_cons _ (List.nil_subset [OD.TICK_STATE]))).trans
      ((keepsEntries_tickOpen _).mono (List.subset_cons_self OD.LINK_STATE _))
  rw [hk.od (by decide), hk.od (by decide)]
  refine ⟨?_, od_odSet_same _ _ _⟩
  have hput : od (odSet (odSet s OD.POWER_STATE 3) OD.POWER_REQ_STATUS 0) OD.POWER_STATE = 3 :=
    (od_odSet_ne (odSet s OD.POWER_STATE 3) 0 (by decide)).trans (od_odSet_same _ _ _)
  exact (od_odSet_ne { odSet (odSet s OD.POWER_STATE 3) OD.POWER_REQ_STATUS 0 with en := { s.en with exitSealed := false } } _
    (by decide)).trans hput

theorem powerRequest_active_ignored {s : State} (h : od s OD.POWER_STATE ≠ 2) : powerRequest s 2 = s := by
  unfold powerRequest
  simp [h]

theorem powerRequest_dormant_refused {s : State} (h : od s OD.POWER_STATE ≠ 2) : powerRequest s 3 = odSet s OD.POWER_REQ_STATUS 2 := by
  unfold powerRequest
  simp [h]

/-- The metered energy added changes one entry. -/
theorem od_idleMetered {s : State} {e : Nat} (h : e ≠ OD.IDLE_ENERGY) : od (idleMetered s) e = od s e := od_odAdd_ne _ _ h (by decide)

theorem leNat_leBytes_one {v : Nat} (h : v < 256) : leNat (leBytes 1 v) = v := by
  rw [leNat_leBytes]
  exact Nat.mod_eq_of_lt h

/-! ## A cold boot, and power off (R463, R467, R470) -/

/-- The part as power comes up, before the fuses are stored. -/
abbrev bootBlank (s : State) : State := { State.reset with freeCtr := s.freeCtr, out := s.out, pending := s.pending }

theorem odSets_changes (s t : State) (l : List Nat) : ∃ o, l.foldl (fun t e => odSet t e (od s e)) t = { t with od := o } := by
  refine List.foldlRecOn (motive := fun x : State => ∃ o, x = { t with od := o }) _ _ ⟨t.od, rfl⟩ ?_
  rintro x ⟨o, rfl⟩ e -
  exact ⟨_, rfl⟩

/-- A cold boot leaves of what was but the fuses, what has been sent, and the queue. -/
theorem coldBoot_changes (s : State) : ∃ o, coldBoot s = { bootBlank s with od := o } := odSets_changes s _ _

theorem powerOff_host (s : State) (why : Nat) : (powerOff s why).host.power = why := rfl

theorem powerOff_mem (s : State) (why : Nat) : (powerOff s why).mem = [] := by
  obtain ⟨o, ho⟩ := coldBoot_changes s
  rw [powerOff, ho]
  rfl

/-! ## The write of POWER_STATE_REQ (R359, R361, R363) -/

section
variable (s : State)

theorem powerWrite_idle : powerWrite s 1 = wOk (powerRequest s 1) := rfl

theorem powerWrite_active : powerWrite s 2 = wOk (if od s OD.POWER_STATE = 2 then idleMetered (powerRequest s 2) else s) := by
  refine congrArg wOk ?_
  split
  · rfl
  · next h => exact powerRequest_active_ignored h

theorem powerWrite_dormant : powerWrite s 3 = if od s OD.POWER_STATE = 2 then wOk (powerOff s 2) else wRefuse (odSet s OD.POWER_REQ_STATUS 2) 0 := by
  show dormantWrite s = _
  unfold dormantWrite
  split
  · rfl
  · next h => rw [powerRequest_dormant_refused h]

end

theorem idleDrainTimeout_completes (s : State) : completes .idleDrainTimeout s
    (if od s OD.POWER_STATE = 1 ∧ od s OD.IDLE_DRAIN_FRAMES ≤ frameDiff s.en.idleSince (frameNo s) then
      odSet (odSet s OD.POWER_STATE 0) OD.POWER_REQ_STATUS 1 else s) := rfl

theorem wakeN_completes (s : State) : completes .wakeN s (if s.host.power = 2 then coldBoot s
    else if s.host.power = 0 ∧ od s OD.POWER_STATE = 2 then idleMetered (powerRequest s 2) else s) := rfl

/-! ## Temperatures (R357, R410, R465) -/

/-- A sample shown, and the largest of the frame kept. -/
abbrev sampled (s : State) (k : Nat) (v : Int) : State :=
  let x := odPut s OD.TEMPERATURES k (ofInt 32 v)
  { x with en := { x.en with tempMax := max s.en.tempMax v } }

theorem temperatureSample_completes (s : State) (k : Nat) (v : Int) : completes (.temperatureSample k v) s
    (if k < 14 ∧ s.host.power = 0 then (if 10500 < v then breach (sampled s k v) 2 else sampled s k v) else s) := rfl

theorem odGet_sampled (s : State) (k : Nat) (v : Int) : odGet (sampled s k v) OD.TEMPERATURES k = ofInt 32 v :=
  odGet_odPut_same s OD.TEMPERATURES k _

theorem od_sampled (s : State) {k e : Nat} (v : Int) (hk : k < 14) (he : e ≠ OD.TEMPERATURES) : od (sampled s k v) e = od s e :=
  odGet_odPut_entry s OD.TEMPERATURES k _ e 0 he (by omega) (by decide)

theorem throttleNext_range {f : Nat} (limit : Nat) (t : Int) (h1 : 1 ≤ f) (h8 : f ≤ 8) : 1 ≤ throttleNext f limit t ∧ throttleNext f limit t ≤ 8 := by
  unfold throttleNext
  split_ifs <;> omega

/-- The expiry of a drain, of the state it may meet. -/
theorem idleDrainTimeout_early {s : State} (h : frameDiff s.en.idleSince (frameNo s) < od s OD.IDLE_DRAIN_FRAMES ∨ od s OD.POWER_STATE ≠ 1) :
    completes .idleDrainTimeout s s := by
  have hc := idleDrainTimeout_completes s
  rwa [if_neg (by omega)] at hc

/-- Settles O53: the lease by `LeaseOver`, the requests by the power state, a sample by its sensor and its value. -/
theorem powerStatesAndWake : Obligations.PowerStatesAndWake := by
  refine ⟨fun s => ⟨fun hr hl hn hf => ⟨?_, leaseLapsed s⟩, fun hno => ?_, fun mn => ⟨allowance_leaseRenew s mn, allowance_le s mn⟩⟩,
    fun s => ⟨powerRequest_idle, powerRequest_active, fun h => ⟨powerRequest_dormant_refused h, powerRequest_active_ignored h⟩, ?_, fun h hd => ?_,
      idleDrainTimeout_early⟩,
    fun s => ⟨fun hp h => ?_, fun hp h => ⟨?_, ?_⟩, fun h0 h2 => ?_, fun h2 => ?_⟩, fun s k v => ⟨fun hno => ?_, fun hk hp => ?_⟩,
    fun f limit t h1 h8 => ⟨(throttleNext_range limit t h1 h8).1, (throttleNext_range limit t h1 h8).2, fun h => if_pos h, fun h1 h2 => ?_⟩⟩
  · have hc : completes .leaseExpiry s _ := execLeaseExpiry_eq s
    rwa [if_pos ⟨hr, hl, hn, hf⟩] at hc
  · have hc : completes .leaseExpiry s _ := execLeaseExpiry_eq s
    have hno' : ¬ LeaseOver s := by
      rintro ⟨hr, hl, hn, hf⟩
      simp only [hr, hl, hn, Bool.true_eq_false, Bool.false_eq_true, false_or] at hno
      omega
    rwa [if_neg hno'] at hc
  · simp only [commandWrite_powerStateReq, leNat_leBytes_one (show 1 < 256 by decide), leNat_leBytes_one (show 2 < 256 by decide),
      leNat_leBytes_one (show 3 < 256 by decide), powerWrite_idle, powerWrite_active, powerWrite_dormant]
    refine ⟨trivial, trivial, trivial, trivial, fun h => ?_, fun h => ?_⟩
    · rw [if_pos h]
      exact ⟨rfl, rfl, powerOff_host s 2, powerOff_mem s 2⟩
    · rw [if_neg h]
      exact ⟨rfl, rfl, rfl⟩
  · have hc := idleDrainTimeout_completes s
    rwa [if_pos ⟨h, hd⟩] at hc
  · have hc := wakeN_completes s
    rwa [if_neg (by omega), if_neg fun hn => h hn.2] at hc
  · have hc := wakeN_completes s
    rwa [if_neg (by omega), if_pos ⟨hp, h⟩] at hc
  · rw [od_idleMetered (by decide)]
    exact (powerRequest_active h).1
  · have hc := wakeN_completes s
    rwa [if_neg h2, if_neg fun hn => h0 hn.1] at hc
  · have hc := wakeN_completes s
    rwa [if_pos h2] at hc
  · have hc := temperatureSample_completes s k v
    rwa [if_neg (by omega)] at hc
  · have hc := temperatureSample_completes s k v
    rw [if_pos ⟨hk, hp⟩] at hc
    refine ⟨hc, ?_, ?_, fun hv => ?_, fun hv => ?_⟩
    · split
      · exact (odGet_odPut_entry _ _ _ _ _ _ (by decide) (by decide) (by omega)).trans (odGet_sampled s k v)
      · exact odGet_sampled s k v
    · split <;> rfl
    · rw [if_pos hv, od_odSet_same, bitOf_setBit_same]
    · rw [if_neg (not_lt.2 hv)]
      exact ⟨rfl, od_sampled s v hk (by decide)⟩
  · rw [throttleNext, if_neg (not_le.2 h2), if_neg (not_lt.2 h1)]

end Sys2Proof.Machine

/-! # The management bus (chapter 18, R374) -/

namespace Sys2Proof.Machine

/-- The bus answers: the interface is powered and has its dynamic address. -/
abbrev BusAnswers (s : State) : Prop := (busOn s && s.dct.dynAddr.isSome) = true

theorem busAnswers {s : State} (hb : busOn s = true) (ha : s.dct.dynAddr.isSome = true) : BusAnswers s := by
  rw [BusAnswers, hb, ha]
  rfl

theorem not_busAnswers {s : State} (h : s.dct.dynAddr = none ∨ busOn s = false) : ¬ BusAnswers s := by
  obtain h | h := h
  · rw [BusAnswers, h, Option.isSome_none, Bool.and_false]
    exact Bool.false_ne_true
  · rw [BusAnswers, h, Bool.false_and]
    exact Bool.false_ne_true

section
variable {s : State}

theorem mctpOut_answers (h : BusAnswers s) (code : Nat) (data : List Byte) :
    mctpOut s code data = { s with out := s.out ++ [⟨33, code, data⟩] } := if_pos h

theorem mctpOut_silent (h : ¬ BusAnswers s) (code : Nat) (data : List Byte) : mctpOut s code data = s := if_neg h

theorem entdaa_completes (a : Nat) :
    completes (.entdaa a) s (if busOn s = true then { s with dct := { s.dct with dynAddr := some (a % 128) } } else s) := rfl

theorem setEndpointId_taken (h : BusAnswers s) {eid : Nat} (h0 : 0 < eid) (h255 : eid < 255) : completes (.setEndpointId eid) s
    { s with dct := { s.dct with eid := eid }, out := s.out ++ [⟨33, 1, [0, 0, BitVec.ofNat 8 eid, 0]⟩] } := by
  refine congrArg (answer s) ?_
  rw [h, Bool.not_true, if_neg Bool.false_ne_true, if_neg (by omega)]
  exact mctpOut_answers (s := { s with dct := { s.dct with eid := eid } }) h 1 _

theorem setEndpointId_refused (h : BusAnswers s) {eid : Nat} (he : eid = 0 ∨ 255 ≤ eid) :
    completes (.setEndpointId eid) s { s with out := s.out ++ [⟨33, 1, [2]⟩] } := by
  refine congrArg (answer s) ?_
  rw [h, Bool.not_true, if_neg Bool.false_ne_true, if_pos he, mctpOut_answers h]

theorem getEndpointId_answers (h : BusAnswers s) :
    completes .getEndpointId s { s with out := s.out ++ [⟨33, 2, [0, BitVec.ofNat 8 s.dct.eid, 0, 0]⟩] } :=
  congrArg (answer s) (mctpOut_answers h 2 _)

theorem getMctpVersionSupport_answers (h : BusAnswers s) :
    completes .getMctpVersionSupport s { (takeBytes s 4).2 with out := s.out ++ [⟨33, 4, [0, 1] ++ (takeBytes s 4).1⟩] } :=
  congrArg (answer s) ((if_pos h).trans (mctpOut_answers (s := (takeBytes s 4).2) h 4 _))

theorem getMessageTypeSupport_answers (h : BusAnswers s) :
    completes .getMessageTypeSupport s { s with out := s.out ++ [⟨33, 5, [0, 1, 0x7E]⟩] } :=
  congrArg (answer s) (mctpOut_answers h 5 _)

/-- Without power or an address the part answers none of the commands that want one. -/
theorem busCommand_silent (h : ¬ BusAnswers s) {i : Instr} {eid : Nat}
    (hi : i ∈ [Instr.setEndpointId eid, .getEndpointId, .getMctpVersionSupport, .getMessageTypeSupport]) : completes i s s := by
  have hfalse : (busOn s && s.dct.dynAddr.isSome) = false := Bool.eq_false_iff.2 h
  simp only [List.mem_cons, List.not_mem_nil, or_false] at hi
  obtain rfl | rfl | rfl | rfl := hi
  · exact congrArg (answer s) (if_pos (by rw [hfalse, Bool.not_false]))
  · exact congrArg (answer s) (mctpOut_silent h 2 _)
  · exact congrArg (answer s) (if_neg h)
  · exact congrArg (answer s) (mctpOut_silent h 5 _)

end

theorem takeBytes_length (s : State) (n : Nat) : (takeBytes s n).1.length = n := by simp [takeBytes]

/-- Settles O54: the bus answers where it is powered and has its address, and nowhere else. -/
theorem managementBus : Obligations.ManagementBus := by
  refine ⟨fun s a hb => ?_, fun s hb ha => ?_, fun s a hb => ?_, fun s i eid h hi => busCommand_silent (not_busAnswers h) hi⟩
  · have hc := entdaa_completes (s := s) a
    rwa [if_pos hb] at hc
  · have h := busAnswers hb ha
    exact ⟨fun eid => setEndpointId_taken h, fun eid => setEndpointId_refused h, getEndpointId_answers h,
      ⟨getMctpVersionSupport_answers h, takeBytes_length s 4, rfl⟩, getMessageTypeSupport_answers h⟩
  · have hc := entdaa_completes (s := s) a
    rwa [if_neg (by rw [hb]; exact Bool.false_ne_true)] at hc

end Sys2Proof.Machine

/-! # The SPDM responder (chapter 19, R392, R396)

Each request is `spdmOn` at a phase: silent where the responder does not serve, UnexpectedRequest before the phase, and from it on the
request's own answer. An answer of at most 4,096 bytes is given whole. -/

namespace Sys2Proof.Machine

/-! ## How a request is answered -/

section
variable {s t : State} {p : Nat}

theorem spdmOn_silent (h : spdmServes s = false) : spdmOn s p t = answer s s := congrArg (answer s) (if_pos h)

theorem spdmOn_early (h : spdmServes s = true) (hp : s.sec.spdm < p) : spdmOn s p t = answer s (spdmError s 4) :=
  congrArg (answer s) ((if_neg (by simp [h])).trans (if_pos hp))

theorem spdmOn_served (h : spdmServes s = true) (hp : p ≤ s.sec.spdm) : spdmOn s p t = answer s t :=
  congrArg (answer s) ((if_neg (by simp [h])).trans (if_neg (Nat.not_lt.2 hp)))

theorem spdmOut_whole (s : State) (code : Nat) {bs : List Byte} (h : bs.length ≤ 4096) :
    spdmOut s code bs = { s with out := s.out ++ [⟨8, code, bs⟩] } := if_neg (Nat.not_lt.2 h)

theorem spdmOut_large (s : State) (code : Nat) {bs : List Byte} (h : 4096 < bs.length) :
    spdmOut s code bs = { s with out := s.out ++ [⟨8, 0x7F, [0x0F]⟩], sec := { s.sec with large := some (0, bs) } } := if_pos h

end

/-- Every request is `spdmOn` at the phase it needs. -/
theorem exec_spdmRequest {p a b c : Nat} {x y : List Byte} {i : Instr}
    (h : (p, i) ∈ [(0, Instr.getVersion), (1, .getCapabilities), (2, .negotiateAlgorithms a b), (3, .getDigests x y), (3, .getCertificate a b c x),
      (3, .challenge a x y), (3, .getMeasurements a x), (3, .chunkGet), (0, .spdmUnsupportedRequest)]) (s : State) :
    ∃ t, exec i s = spdmOn s p t := by
  simp only [List.mem_cons, Prod.mk.injEq, List.not_mem_nil, or_false] at h
  obtain ⟨rfl, rfl⟩ | ⟨rfl, rfl⟩ | ⟨rfl, rfl⟩ | ⟨rfl, rfl⟩ | ⟨rfl, rfl⟩ | ⟨rfl, rfl⟩ | ⟨rfl, rfl⟩ | ⟨rfl, rfl⟩ | ⟨rfl, rfl⟩ := h
  all_goals exact ⟨_, rfl⟩

/-! ## The lengths of what is answered -/

@[simp] theorem fitBytes_length (n : Nat) (bs : List Byte) : (fitBytes n bs).length = n := by simp [fitBytes]

@[simp] theorem odBytes_length (s : State) (e n : Nat) : (odBytes s e n).length = n := by simp [odBytes]

theorem measureBlock_length (s : State) (i : Nat) : (measureBlock s i).length = 48 := by
  unfold measureBlock
  split_ifs <;> simp

/-! ## The requests once the connection is set up -/

section
variable {s : State} (hs : spdmServes s = true)
include hs

theorem getVersion_answers : completes .getVersion s { s with sec := { s.sec with spdm := 1, large := none }, out := s.out ++ [⟨8, 0x04, [0x13]⟩] } :=
  (spdmOn_served hs (Nat.zero_le _)).trans (congrArg (answer s) (spdmOut_whole _ _ (by decide)))

theorem getCapabilities_answers (hp : 1 ≤ s.sec.spdm) : completes .getCapabilities s { s with
    sec := { s.sec with spdm := max s.sec.spdm 2 }, out := s.out ++ [⟨8, 0x61, leBytes 4 (2 + 4 + 16 + 2 ^ 17) ++ leBytes 4 4096⟩] } :=
  (spdmOn_served hs hp).trans (congrArg (answer s) (spdmOut_whole _ _ (by decide)))

theorem negotiateAlgorithms_answers (hp : 2 ≤ s.sec.spdm) (asym hash : Nat) :
    completes (.negotiateAlgorithms asym hash) s (if (bitOf asym 4 && bitOf hash 1) = true then
      { s with sec := { s.sec with spdm := 3 }, out := s.out ++ [⟨8, 0x63, leBytes 4 16 ++ leBytes 4 2⟩] } else spdmError s 1) := by
  refine (spdmOn_served hs hp).trans (congrArg (answer s) ?_)
  rw [spdmOut_whole _ _ (by decide)]

variable (hp : 3 ≤ s.sec.spdm)
include hp

theorem getDigests_answers (c0 c1 : List Byte) : completes (.getDigests c0 c1) s { s with out := s.out ++ [⟨8, 0x01,
    leBytes 1 (b2n (chainServed s 0 c0) + 2 * b2n (chainServed s 1 c1)) ++ (if chainServed s 0 c0 then sha384 c0 else [])
      ++ (if chainServed s 1 c1 then sha384 c1 else [])⟩] } := by
  refine (spdmOn_served hs hp).trans (congrArg (answer s) (spdmOut_whole _ _ ?_))
  have hpart : ∀ (c : Bool) (bs : List Byte), (if c then sha384 bs else []).length ≤ 48 := fun c bs => by
    split
    · exact sha384_length_le bs
    · exact Nat.zero_le _
  have h0 := hpart (chainServed s 0 c0) c0
  have h1 := hpart (chainServed s 1 c1) c1
  rw [List.length_append, List.length_append, leBytes_length]
  omega

theorem getCertificate_answers (slot off len : Nat) (chain : List Byte) : completes (.getCertificate slot off len chain) s
    (if chainServed s slot chain = true then spdmOut s 0x02 (leBytes 2 ((chain.drop off).take len).length
      ++ leBytes 2 (chain.length - off - ((chain.drop off).take len).length) ++ (chain.drop off).take len) else spdmError s 1) :=
  spdmOn_served hs hp

theorem challenge_answers (slot : Nat) (nonce chain : List Byte) : completes (.challenge slot nonce chain) s
    (if slot = 0 ∧ chainServed s 0 chain = true then { (takeBytes s 32).2 with out := s.out ++ [⟨8, 0x03, sha384 chain ++ (takeBytes s 32).1
      ++ fitBytes rsaBytes (Config.signature 0 (sha384 chain ++ (takeBytes s 32).1 ++ nonce))⟩] } else spdmError s 1) := by
  refine (spdmOn_served hs hp).trans (congrArg (answer s) ?_)
  rw [spdmOut_whole]
  · rfl
  · have hsha := sha384_length_le chain
    rw [List.length_append, List.length_append, takeBytes_length, fitBytes_length, rsaBytes]
    omega

theorem getMeasurements_count (nonce : List Byte) : completes (.getMeasurements 0 nonce) s { s with out := s.out ++ [⟨8, 0x60, [7]⟩] } :=
  (spdmOn_served hs hp).trans (congrArg (answer s) ((if_pos rfl).trans (spdmOut_whole _ _ (by decide))))

theorem getMeasurements_block (hc : canSign s = true) (nonce : List Byte) {i : Nat} (h1 : 1 ≤ i) (h6 : i ≤ 6) :
    completes (.getMeasurements i nonce) s { s with out := s.out ++ [⟨8, 0x60,
      measureBlock s i ++ fitBytes rsaBytes (Config.signature 0 (measureBlock s i ++ nonce))⟩] } := by
  refine (spdmOn_served hs hp).trans (congrArg (answer s) ?_)
  rw [if_neg (by omega), if_pos ⟨h6, hc⟩, spdmOut_whole]
  rw [List.length_append, measureBlock_length, fitBytes_length]
  decide

theorem getMeasurements_report (hc : canSign s = true) (nonce : List Byte) : completes (.getMeasurements 7 nonce) s (attestAsk s nonce true) := by
  refine (spdmOn_served hs hp).trans (congrArg (answer s) ?_)
  rw [if_neg (by decide), if_neg (by omega), if_pos ⟨rfl, hc⟩]

theorem getMeasurements_refused (nonce : List Byte) {i : Nat} (h0 : i ≠ 0) (h : canSign s = false ∨ 7 < i) :
    completes (.getMeasurements i nonce) s (spdmError s 1) := by
  refine (spdmOn_served hs hp).trans (congrArg (answer s) ?_)
  have hno : ∀ c : Prop, (c → i ≤ 7) → ¬ (c ∧ canSign s = true) := fun c hc hand =>
    h.elim (fun hf => Bool.noConfusion (hf.symm.trans hand.2)) (fun hgt => absurd (hc hand.1) (Nat.not_le.2 hgt))
  rw [if_neg h0, if_neg (hno _ (by omega)), if_neg (hno _ (by omega))]

theorem chunkGet_next {p : Nat} {bs : List Byte} (h : s.sec.large = some (p, bs)) : completes .chunkGet s { s with
    out := s.out ++ [⟨8, 0x06, (bs.drop p).take 4096⟩],
    sec := { s.sec with large := if bs.length ≤ p + 4096 then none else some (p + 4096, bs) } } := by
  refine (spdmOn_served hs hp).trans (congrArg (answer s) ?_)
  have hlen : ((bs.drop p).take 4096).length = min 4096 (bs.length - p) := by rw [List.length_take, List.length_drop]
  have hlarge : (if bs.length ≤ p + ((bs.drop p).take 4096).length then none else some (p + ((bs.drop p).take 4096).length, bs))
      = if bs.length ≤ p + 4096 then none else some (p + 4096, bs) := by
    rw [hlen]
    by_cases hle : bs.length ≤ p + 4096
    · rw [if_pos hle, if_pos (by omega)]
    · rw [if_neg hle, if_neg (by omega), Nat.min_eq_left (by omega)]
  simp only [h, hlarge]

theorem chunkGet_none (h : s.sec.large = none) : completes .chunkGet s (spdmError s 4) := by
  refine (spdmOn_served hs hp).trans (congrArg (answer s) ?_)
  simp only [h]

end

/-- Settles O56: a request is silent, unexpected or answered by `spdmOn`. -/
theorem spdmResponder : Obligations.SpdmResponder := by
  refine ⟨fun s hs => ⟨getVersion_answers hs, getCapabilities_answers hs, fun hp asym hash => ⟨fun h4 h1 => ?_, fun h => ?_⟩,
    fun hp => ⟨getDigests_answers hs hp, getCertificate_answers hs hp,
      fun slot nonce chain => ⟨challenge_answers hs hp slot nonce chain, takeBytes_length s 32, rfl⟩,
      fun nonce => ⟨getMeasurements_count hs hp nonce,
        fun hc => ⟨fun i => getMeasurements_block hs hp hc nonce, getMeasurements_report hs hp hc nonce⟩,
        fun i => getMeasurements_refused hs hp nonce⟩,
      fun p bs => chunkGet_next hs hp, chunkGet_none hs hp⟩, spdmOn_served hs (Nat.zero_le _)⟩,
    fun s p i a b c x y hi => ?_, fun s code bs => ⟨spdmOut_whole s code, spdmOut_large s code⟩⟩
  · have hc := negotiateAlgorithms_answers hs hp asym hash
    rwa [if_pos (by rw [h4, h1]; rfl)] at hc
  · have hc := negotiateAlgorithms_answers hs hp asym hash
    rwa [if_neg (by obtain h | h := h <;> simp [h])] at hc
  · obtain ⟨t, ht⟩ := exec_spdmRequest hi s
    exact ⟨fun hs hp => ht.trans (spdmOn_early hs hp), fun hs => ht.trans (spdmOn_silent hs)⟩

end Sys2Proof.Machine

/-! # Power, resets and the host link (chapter 22, R410, R447, R451, R453, R454, R459, R463, R467, R469, R470) -/

namespace Sys2Proof.Machine

/-! ## A cold boot (R470) -/

section
variable (s : State) (f : Nat → Nat) (l : List Nat)

theorem od_odSets_mem {e : Nat} (h : e ∈ l) : od (l.foldl (fun t e => odSet t e (f e)) s) e = f e := by
  induction l using List.reverseRecOn with
  | nil => cases h
  | append_singleton l x ih =>
    rw [List.foldl_append, List.foldl_cons, List.foldl_nil]
    obtain rfl | hne := eq_or_ne e x
    · exact od_odSet_same _ _ _
    · rw [od_odSet_ne _ _ hne]
      exact ih (by simpa [hne] using h)

theorem keepsEntries_odSets : KeepsEntries l s (l.foldl (fun t e => odSet t e (f e)) s) :=
  List.foldlRecOn (motive := KeepsEntries l s) _ _ (.of_od rfl) fun t ht _ he => ht.trans (keepsEntries_odPut t he (by decide) _)

end

theorem od_coldBoot_fuse (s : State) {e : Nat} (h : e ∈ fuses) : od (coldBoot s) e = od s e := od_odSets_mem _ (od s) fuses h

theorem odGet_coldBoot (s : State) {e i : Nat} (h : e ∉ fuses) (hi : i < 2 ^ 24) : odGet (coldBoot s) e i = odGet State.reset e i :=
  (keepsEntries_odSets (bootBlank s) (od s) fuses e h i hi).trans rfl

theorem coldBoot_blank (s : State) :
    { coldBoot s with od := [], freeCtr := 0, out := [], pending := [] } = { State.reset with od := [], freeCtr := 0 } := by
  obtain ⟨o, ho⟩ := coldBoot_changes s
  rw [ho]
  rfl

theorem powerOff_pwrGood (s : State) (why : Nat) : (powerOff s why).host.pwrGood = State.reset.host.pwrGood := by
  obtain ⟨o, ho⟩ := coldBoot_changes s
  rw [powerOff, ho]

/-! ## Power commands (R410, R459, R463, R467, R469) -/

theorem coldBoot_completes (s : State) :
    completes .coldBoot s (if s.host.power = 2 ∨ s.host.thermtrip = true then s else coldBoot s) := rfl

theorem pwrGoodRelease_completes (s : State) (straps : Nat) : completes (.pwrGoodRelease straps) s
    (if s.host.power = 0 ∧ s.host.pwrGood = false then
      let x := odSet (odSet (odSet s OD.STRAPS (straps % 64)) OD.TRAY_SLOT (straps % 32)) OD.BARRIER_GROUP (2 ^ (straps % 32))
      { x with host := { x.host with pwrGood := true }, sec := { x.sec with boot := 1 } } else s) := rfl

theorem p48vOutOfRange_completes (s : State) : completes .p48vOutOfRange s (if s.host.thermtrip = true then s else powerOff s 1) := rfl

theorem thermtrip_completes (s : State) : completes .thermtrip s (if s.host.power = 0 then powerOff s 3 else s) := rfl

theorem thermtripNRelease_completes (s : State) : completes .thermtripNRelease s
    (if s.host.thermtrip = true then { s with host := { s.host with power := 1, thermtrip := false } } else s) := rfl

theorem p48vOutsideOperatingRange_completes (s : State) :
    completes .p48vOutsideOperatingRange s (if s.host.power = 0 then breach s 3 else s) := rfl

/-! ## The resets of the host link (R454) -/

section
variable (s : State)

theorem od_linkReset_hostLink : od (linkReset s) OD.HOST_LINK = setF (od s OD.HOST_LINK) (fld 14 13) 0 := od_odSet_same s OD.HOST_LINK _

theorem odGet_linkReset {e i : Nat} (h : e ≠ OD.HOST_LINK) (hi : i < 2 ^ 24) : odGet (linkReset s) e i = odGet s e i :=
  odGet_odPut_entry s OD.HOST_LINK 0 _ e i h (by decide) hi

/-- No mailbox is BUSY or DONE after a reset. -/
theorem linkReset_mailbox (m : Nat) : (kget (linkReset s).dct.mailboxes m ⟨0, 0, 0, []⟩).state = 0 := by
  have h : ∀ l : KMap Mailbox, (kget (l.map fun p : Nat × Mailbox => (p.1, { p.2 with state := 0 })) m ⟨0, 0, 0, []⟩).state = 0 := by
    intro l
    induction l with
    | nil => rfl
    | cons p l ih =>
      by_cases hp : p.1 = m
      · simp [kget, kfind, hp]
      · have hb : (p.1 == m) = false := by simpa using hp
        simpa [kget, kfind, hb] using ih
  exact h s.dct.mailboxes

theorem linkGone_state : inConfig (linkGone (linkReset s)) = inConfig s ∧ inRun (linkGone (linkReset s)) = inRun s := by
  have h : od (linkGone (linkReset s)) OD.DEVICE_STATE = od s OD.DEVICE_STATE :=
    (od_odSet_ne (linkReset s) (e := OD.HOST_LINK) 0 (by decide)).trans (odGet_linkReset s (by decide) (by decide))
  simp only [inConfig, inRun, h, and_self]

theorem hostLinkDown_completes : completes .hostLinkDown s (if bitOf (od s OD.HOST_LINK) 0 = true then
    if (inConfig s || inRun s) = true then alert (odInc (linkGone (linkReset s)) OD.HOST_LINK_DOWNS) 15 else linkGone (linkReset s) else s) := by
  refine congrArg (answer s) ?_
  simp only [(linkGone_state s).1, (linkGone_state s).2]

/-- What the loss of the link leaves: HOST_LINK 0, the count, the alert. -/
theorem linkDowned : let t := alert (odInc (linkGone (linkReset s)) OD.HOST_LINK_DOWNS) 15
    od t OD.HOST_LINK = 0 ∧ odGet t OD.HOST_LINK_DOWNS 0 = (odGet s OD.HOST_LINK_DOWNS 0 + 1) % 2 ^ odWidth OD.HOST_LINK_DOWNS
      ∧ bitOf (od t OD.ALERT_CAUSES) 15 = true := by
  refine ⟨?_, ?_, alert_bit _ _⟩
  · rw [od, alert_od_ne _ _ _ _ (by decide) (by decide), odGet_odAdd_entry _ _ _ _ _ _ (by decide) (by decide) (by decide)]
    exact od_odSet_same _ _ _
  · rw [alert_od_ne _ _ _ _ (by decide) (by decide), odGet_odAdd_same]
    congr 2
    exact (od_odSet_ne (linkReset s) (e := OD.HOST_LINK) 0 (by decide)).trans (odGet_linkReset s (by decide) (by decide))

theorem hostLinkUp_completes (rate width : Nat) (flit : Bool) : completes (.hostLinkUp rate width flit) s (if linkOut s = true then
    odSet s OD.HOST_LINK (mkRec [(fld 31 24, rate), (fld 23 16, width), (fld 15 15, b2n flit), (fld 14 13, s.host.pm), (fld 0 0, 1)]) else s) := rfl

/-- HOST_LINK as the link comes up. -/
theorem hostLinkRecord (rate width flit pm : Nat) :
    let r := mkRec [(fld 31 24, rate), (fld 23 16, width), (fld 15 15, flit), (fld 14 13, pm), (fld 0 0, 1)]
    bitOf r 0 = true ∧ getF r (fld 31 24) = rate % 256 ∧ getF r (fld 23 16) = width % 256 := by
  have h0 := getF_setFs_append_cons (fld 0 0) 1 [(fld 31 24, rate), (fld 23 16, width), (fld 15 15, flit), (fld 14 13, pm)] [] 0 (by simp)
  have h1 := getF_setFs_append_cons (fld 31 24) rate [] [(fld 23 16, width), (fld 15 15, flit), (fld 14 13, pm), (fld 0 0, 1)] 0 (by simp)
  have h2 := getF_setFs_append_cons (fld 23 16) width [(fld 31 24, rate)] [(fld 15 15, flit), (fld 14 13, pm), (fld 0 0, 1)] 0 (by simp)
  refine ⟨?_, h1, h2⟩
  have hbit : ∀ w, bitOf w 0 = (getF w (fld 0 0) == 1) := fun w => rfl
  rw [hbit]
  exact beq_iff_eq.2 h0

end

/-! ## MSI-X (R453) -/

theorem msixSends_host (s : State) (l : List Nat) : (l.foldl msixSend s).host = s.host :=
  List.foldlRecOn (motive := fun t => t.host = s.host) _ _ rfl fun t ht v _ => (msixSend_host t v).trans ht

/-- Vectors sent change which are pending, of the host link's state, and nothing else of it. -/
theorem msixFlush_host (s : State) : ∃ p, (msixFlush s).host = { s.host with msixPending := p } := by
  unfold msixFlush
  split
  · exact ⟨s.host.msixPending, rfl⟩
  · exact ⟨_, msixSends_host _ _⟩

theorem msixFlush_msixCtl (s : State) : (msixFlush s).host.msixCtl = s.host.msixCtl := by
  obtain ⟨p, hp⟩ := msixFlush_host s
  rw [hp]

theorem msixFlush_command (s : State) : (msixFlush s).host.command = s.host.command := by
  obtain ⟨p, hp⟩ := msixFlush_host s
  rw [hp]

theorem msixFlush_msixTable (s : State) : (msixFlush s).host.msixTable = s.host.msixTable := by
  obtain ⟨p, hp⟩ := msixFlush_host s
  rw [hp]

/-- Nothing is sent while MSI-X is off or masked, or the function is no bus master. -/
theorem msixFlush_masked {s : State} (h : bitOf s.host.msixCtl 15 = false ∨ bitOf s.host.msixCtl 14 = true ∨ bitOf s.host.command 2 = false) :
    msixFlush s = s := by
  refine if_pos ?_
  obtain h | h | h := h <;> simp [h]

/-- The MSI-X control register as written: its two writable bits, and the table size. -/
theorem msixCtlRecord (v : Nat) : let r := setFs 2047 [(fld 15 15, v / 2 ^ 15), (fld 14 14, v / 2 ^ 14)]
    bitOf r 15 = bitOf v 15 ∧ bitOf r 14 = bitOf v 14 ∧ getF r (fld 10 0) = 2047 := by
  have h15 := getF_setFs_append_cons (fld 15 15) (v / 2 ^ 15) [] [(fld 14 14, v / 2 ^ 14)] 2047 (by simp)
  have h14 := getF_setFs_append_cons (fld 14 14) (v / 2 ^ 14) [(fld 15 15, v / 2 ^ 15)] [] 2047 (by simp)
  refine ⟨congrArg (· == 1) h15, congrArg (· == 1) h14, ?_⟩
  exact getF_setFs_disjoint (fld 10 0) [(fld 15 15, v / 2 ^ 15), (fld 14 14, v / 2 ^ 14)] 2047 (by simp)

/-! ## Configuration writes and the vector table (R447, R453) -/

section
variable {s : State}

theorem configurationWrite_reset (h : linkOut s = false) (reg v : Nat) : completes (.configurationWrite reg v) s s :=
  congrArg (answer s) (if_pos h)

theorem configurationWrite_unmapped (h : linkOut s = true) {reg : Nat} (hr : 4 < reg) (v : Nat) : completes (.configurationWrite reg v) s s := by
  obtain ⟨k, rfl⟩ : ∃ k, reg = k + 5 := ⟨reg - 5, by omega⟩
  exact congrArg (answer s) (if_neg (by simp [h]))

theorem configurationWrite_bar0 (h : linkOut s = true) (v : Nat) :
    completes (.configurationWrite 0 v) s { s with host := { s.host with bar0 := v % 2 ^ 64 / 2 ^ 26 * 2 ^ 26 } } :=
  congrArg (answer s) (if_neg (by simp [h]))

theorem configurationWrite_bar2 (h : linkOut s = true) (v : Nat) :
    completes (.configurationWrite 1 v) s { s with host := { s.host with bar2 := v % 2 ^ 64 / 2 ^ 32 * 2 ^ 32 } } :=
  congrArg (answer s) (if_neg (by simp [h]))

theorem configurationWrite_msixCtl (h : linkOut s = true) (v : Nat) : completes (.configurationWrite 2 v) s
    (msixFlush { s with host := { s.host with msixCtl := setFs 2047 [(fld 15 15, v / 2 ^ 15), (fld 14 14, v / 2 ^ 14)] } }) :=
  congrArg (answer s) (if_neg (by simp [h]))

theorem configurationWrite_powerState (h : linkOut s = true) (v : Nat) : completes (.configurationWrite 3 v) s
    (if v % 4 = 0 ∨ v % 4 = 3 then
      let t := odSet s OD.HOST_LINK (setF (od s OD.HOST_LINK) (fld 14 13) v)
      { t with host := { t.host with pm := v % 4 } }
    else s) :=
  congrArg (answer s) (if_neg (by simp [h]))

theorem configurationWrite_command (h : linkOut s = true) (v : Nat) :
    completes (.configurationWrite 4 v) s (msixFlush { s with host := { s.host with command := v % 8 / 2 * 2 } }) :=
  congrArg (answer s) (if_neg (by simp [h]))

theorem msiXTableWrite_completes (s : State) (vector v : Nat) : completes (.msiXTableWrite vector v) s
    (if barsOpen s = true ∧ vector < 2048 then
      msixFlush { s with host := { s.host with msixTable := kputD s.host.msixTable vector (v % 2 ^ 97) (2 ^ 96) } } else s) := rfl

theorem unsupportedRequest_completes (s : State) (v : Nat) :
    completes (.unsupportedRequest v) s (if linkOut s = true then hostError s 5 v 3 else s) := rfl

end

/-! ## BAR2 (R451) -/

section
variable {s : State} {tag x n : Nat} {read : Bool} {data : List Byte}

theorem bar2Access_outside (h : barsOpen s = false ∨ 2 ^ 32 < x + n) :
    bar2Access s tag x read n data = if linkOut s = true ∧ read = true then hostError s 5 tag 3 else s := by
  refine (if_pos h).trans ?_
  cases linkOut s <;> cases read <;> rfl

variable (hb : barsOpen s = true) (hx : x + n ≤ 2 ^ 32)
include hb hx

theorem bar2Access_inside : bar2Access s tag x read n data =
    if (inConfig s = false ∧ inRun s = false) ∨ bar2Barred (bar2Addr s x) read = true ∨ 2 ^ 42 < bar2Addr s x + n then bar2Fail s tag read
    else if bar2Closed s (bar2Addr s x) n = true then
      (if read = true then { odAdd s OD.PARTITION_DENIALS 0 1 with out := s.out ++ [⟨2, tag, List.replicate n 0⟩] }
      else odAdd s OD.PARTITION_DENIALS 0 1)
    else bar2Start s tag (bar2Addr s x) read n data := by
  have hno : ¬ (barsOpen s = false ∨ 2 ^ 32 < x + n) := fun h => h.elim (by simp [hb]) (Nat.not_lt.2 hx)
  refine (if_neg hno).trans ?_
  simp only [Bool.or_eq_true, Bool.not_eq_true', Bool.or_eq_false_iff, decide_eq_true_eq, or_assoc]
  rfl

end

section
variable (s : State) (tag x n : Nat) (read : Bool) (data : List Byte)

theorem bar2Read_completes : completes (.bar2Read tag x n) s (bar2Access s tag x true n []) := rfl

theorem bar2Write_completes : completes (.bar2Write x data) s (bar2Access s 0 x false data.length data) := rfl

theorem barsOpen_linkOut {s : State} (h : linkOut s = false) : barsOpen s = false := by simp [barsOpen, h]

end

/-! ## The statement, a clause each -/

section
variable (s : State)

theorem coldBoot_clauses : (s.host.power = 2 ∨ s.host.thermtrip = true → completes .coldBoot s s)
    ∧ (s.host.power ≠ 2 → s.host.thermtrip = false → completes .coldBoot s (coldBoot s))
    ∧ (∀ e ∈ fuses, od (coldBoot s) e = od s e) ∧ (∀ e i, e ∉ fuses → i < 2 ^ 24 → odGet (coldBoot s) e i = odGet State.reset e i)
    ∧ { coldBoot s with od := [], freeCtr := 0, out := [], pending := [] } = { State.reset with od := [], freeCtr := 0 } := by
  refine ⟨fun h => ?_, fun h2 ht => ?_, fun e => od_coldBoot_fuse s, fun e i => odGet_coldBoot s, coldBoot_blank s⟩
  · have hc := coldBoot_completes s
    rwa [if_pos h] at hc
  · have hc := coldBoot_completes s
    rwa [if_neg (by simp [h2, ht])] at hc

theorem pwrGoodRelease_clauses (straps : Nat) : (s.host.power = 0 → s.host.pwrGood = false →
      let x := odSet (odSet (odSet s OD.STRAPS (straps % 64)) OD.TRAY_SLOT (straps % 32)) OD.BARRIER_GROUP (2 ^ (straps % 32))
      let t := { x with host := { x.host with pwrGood := true }, sec := { x.sec with boot := 1 } }
      completes (.pwrGoodRelease straps) s t ∧ od t OD.STRAPS = straps % 64 ∧ od t OD.TRAY_SLOT = straps % 32 ∧ t.host.pwrGood = true
        ∧ t.sec.boot = 1 ∧ t.mem = s.mem)
    ∧ (s.host.pwrGood = true ∨ s.host.power ≠ 0 → completes (.pwrGoodRelease straps) s s) := by
  have hc := pwrGoodRelease_completes s straps
  refine ⟨fun hp hg => ⟨?_, ?_, ?_, rfl, rfl, rfl⟩, fun h => ?_⟩
  · rwa [if_pos ⟨hp, hg⟩] at hc
  · exact ((od_odSet_ne _ (e := OD.BARRIER_GROUP) (e' := OD.STRAPS) _ (by decide)).trans (od_odSet_ne _ (e := OD.TRAY_SLOT) (e' := OD.STRAPS) _ (by decide))).trans (od_odSet_same _ _ _)
  · exact (od_odSet_ne _ (e := OD.BARRIER_GROUP) (e' := OD.TRAY_SLOT) _ (by decide)).trans (od_odSet_same _ _ _)
  · rwa [if_neg (by rintro ⟨h0, hg⟩; simp [h0, hg] at h)] at hc

theorem powerLoss_clauses : (s.host.thermtrip = false → completes .p48vOutOfRange s (powerOff s 1)) ∧ (powerOff s 1).host.power = 1
    ∧ (s.host.thermtrip = true → completes .p48vOutOfRange s s)
    ∧ (s.host.power = 0 → completes .thermtrip s (powerOff s 3)) ∧ (s.host.power ≠ 0 → completes .thermtrip s s)
    ∧ (powerOff s 3).host.power = 3 ∧ (powerOff s 3).host.thermtrip = true
    ∧ (powerOff s 3).mem = [] ∧ (powerOff s 3).host.pwrGood = State.reset.host.pwrGood
    ∧ (s.host.thermtrip = true → completes .thermtripNRelease s { s with host := { s.host with power := 1, thermtrip := false } })
    ∧ (s.host.thermtrip = false → completes .thermtripNRelease s s)
    ∧ (s.host.power = 0 → completes .p48vOutsideOperatingRange s
        (odSet s OD.GUARANTEE_CONDITIONS (setBit (od s OD.GUARANTEE_CONDITIONS) 3 true)))
    ∧ (s.host.power ≠ 0 → completes .p48vOutsideOperatingRange s s) := by
  have hr := p48vOutOfRange_completes s
  have ht := thermtrip_completes s
  have hn := thermtripNRelease_completes s
  have ho := p48vOutsideOperatingRange_completes s
  refine ⟨fun h => ?_, rfl, fun h => ?_, fun h => ?_, fun h => ?_, rfl, rfl, powerOff_mem s 3, powerOff_pwrGood s 3, fun h => ?_, fun h => ?_,
    fun h => ?_, fun h => ?_⟩
  · rwa [if_neg (by simp [h])] at hr
  · rwa [if_pos h] at hr
  · rwa [if_pos h] at ht
  · rwa [if_neg h] at ht
  · rwa [if_pos h] at hn
  · rwa [if_neg (by simp [h])] at hn
  · rwa [if_pos h] at ho
  · rwa [if_neg h] at ho

/-- The reset of the PCIe interface, and what asks for it. -/
theorem linkReset_clauses : let r := linkReset s
    completes .perstN s (let t := odSet r OD.HOST_LINK 0; { t with host := { t.host with perst := true } })
    ∧ (s.host.pwrGood = false → completes .perstNRise s s) ∧ (s.host.pwrGood = true → completes .perstNRise s { s with host := { s.host with perst := false } })
    ∧ (linkOut s = true → completes .hotReset s r ∧ completes .functionLevelReset s r)
    ∧ (linkOut s = false → completes .hotReset s s ∧ completes .functionLevelReset s s ∧ ∀ rate width flit, completes (.hostLinkUp rate width flit) s s)
    ∧ { r with host := s.host, dct := s.dct, sec := s.sec, od := s.od } = s
    ∧ od r OD.HOST_LINK = setF (od s OD.HOST_LINK) (fld 14 13) 0 ∧ (∀ e i, e ≠ OD.HOST_LINK → i < 2 ^ 24 → odGet r e i = odGet s e i)
    ∧ r.host.bar0 = 0 ∧ r.host.bar2 = 0 ∧ r.host.command = 0 ∧ r.host.msixTable = []
    ∧ (∀ m, (kget r.dct.mailboxes m ⟨0, 0, 0, []⟩).state = 0) ∧ r.sec.spdm = 0 := by
  refine ⟨rfl, fun h => ?_, fun h => ?_, fun h => ⟨?_, ?_⟩, fun h => ⟨?_, ?_, fun rate width flit => ?_⟩, rfl, od_linkReset_hostLink s,
    fun e i => odGet_linkReset s, rfl, rfl, rfl, rfl, linkReset_mailbox s, rfl⟩
  · exact congrArg (answer s) (if_neg (by simp [h]))
  · exact congrArg (answer s) (if_pos h)
  · exact congrArg (answer s) (if_pos h)
  · exact congrArg (answer s) (if_pos h)
  · exact congrArg (answer s) (if_neg (by simp [h]))
  · exact congrArg (answer s) (if_neg (by simp [h]))
  · exact congrArg (answer s) (if_neg (by simp [h]))

/-- The link going down and coming up. -/
theorem hostLink_clauses : let r := linkReset s
    (bitOf (od s OD.HOST_LINK) 0 = true → inConfig s = true ∨ inRun s = true →
      let t := alert (odInc (odSet r OD.HOST_LINK 0) OD.HOST_LINK_DOWNS) 15
      completes .hostLinkDown s t ∧ od t OD.HOST_LINK = 0
      ∧ odGet t OD.HOST_LINK_DOWNS 0 = (odGet s OD.HOST_LINK_DOWNS 0 + 1) % 2 ^ odWidth OD.HOST_LINK_DOWNS
      ∧ bitOf (od t OD.ALERT_CAUSES) 15 = true)
    ∧ (bitOf (od s OD.HOST_LINK) 0 = true → inConfig s = false → inRun s = false → completes .hostLinkDown s (odSet r OD.HOST_LINK 0))
    ∧ (bitOf (od s OD.HOST_LINK) 0 = false → completes .hostLinkDown s s)
    ∧ (linkOut s = true → ∀ rate width flit, let t := odSet s OD.HOST_LINK (mkRec [(fld 31 24, rate), (fld 23 16, width), (fld 15 15, b2n flit),
        (fld 14 13, s.host.pm), (fld 0 0, 1)])
      completes (.hostLinkUp rate width flit) s t ∧ bitOf (od t OD.HOST_LINK) 0 = true ∧ getF (od t OD.HOST_LINK) (fld 31 24) = rate % 256
        ∧ getF (od t OD.HOST_LINK) (fld 23 16) = width % 256) := by
  have hd := hostLinkDown_completes s
  refine ⟨fun hl hs => ⟨?_, linkDowned s⟩, fun hl hc hr => ?_, fun hl => ?_, fun ho rate width flit => ⟨?_, ?_⟩⟩
  · rwa [if_pos hl, if_pos (by simpa using hs)] at hd
  · rwa [if_pos hl, if_neg (by simp [hc, hr])] at hd
  · rwa [if_neg (by simp [hl])] at hd
  · have hu := hostLinkUp_completes s rate width flit
    rwa [if_pos ho] at hu
  · have hrec := hostLinkRecord rate width (b2n flit) s.host.pm
    rwa [← od_odSet_same s OD.HOST_LINK (mkRec _)] at hrec

end

/-- The configuration registers, the vector table and a request outside the BARs, the link out of reset. -/
theorem configuration_clauses (s : State) (v : Nat) (h : linkOut s = true) :
    completes (.configurationWrite 0 v) s { s with host := { s.host with bar0 := v % 2 ^ 64 / 2 ^ 26 * 2 ^ 26 } }
    ∧ completes (.configurationWrite 1 v) s { s with host := { s.host with bar2 := v % 2 ^ 64 / 2 ^ 32 * 2 ^ 32 } }
    ∧ (let t := msixFlush { s with host := { s.host with msixCtl := setFs 2047 [(fld 15 15, v / 2 ^ 15), (fld 14 14, v / 2 ^ 14)] } }
      completes (.configurationWrite 2 v) s t ∧ bitOf t.host.msixCtl 15 = bitOf v 15 ∧ bitOf t.host.msixCtl 14 = bitOf v 14
      ∧ getF t.host.msixCtl (fld 10 0) = 2047)
    ∧ (v % 4 = 0 ∨ v % 4 = 3 → let t := odSet s OD.HOST_LINK (setF (od s OD.HOST_LINK) (fld 14 13) v)
      completes (.configurationWrite 3 v) s { t with host := { t.host with pm := v % 4 } })
    ∧ (v % 4 = 1 ∨ v % 4 = 2 → completes (.configurationWrite 3 v) s s)
    ∧ (let t := msixFlush { s with host := { s.host with command := v % 8 / 2 * 2 } }
      completes (.configurationWrite 4 v) s t ∧ t.host.command = v % 8 / 2 * 2)
    ∧ (∀ reg, 4 < reg → completes (.configurationWrite reg v) s s)
    ∧ (∀ vector, vector < 2048 → barsOpen s = true →
      let t := msixFlush { s with host := { s.host with msixTable := kputD s.host.msixTable vector (v % 2 ^ 97) (2 ^ 96) } }
      completes (.msiXTableWrite vector v) s t ∧ kget t.host.msixTable vector (2 ^ 96) = v % 2 ^ 97
      ∧ ∀ w, w ≠ vector → kget t.host.msixTable w (2 ^ 96) = kget s.host.msixTable w (2 ^ 96))
    ∧ completes (.unsupportedRequest v) s (hostError s 5 v 3) := by
  have hp := configurationWrite_powerState h v
  have hu := unsupportedRequest_completes s v
  refine ⟨configurationWrite_bar0 h v, configurationWrite_bar2 h v, ⟨configurationWrite_msixCtl h v, ?_⟩, fun hv => ?_, fun hv => ?_,
    ⟨configurationWrite_command h v, ?_⟩, fun reg hr => configurationWrite_unmapped h hr v, fun vector hv hb => ⟨?_, ?_, fun w hw => ?_⟩, ?_⟩
  · rw [msixFlush_msixCtl]
    exact msixCtlRecord v
  · rwa [if_pos hv] at hp
  · rwa [if_neg (by omega)] at hp
  · rw [msixFlush_command]
  · have ht := msiXTableWrite_completes s vector v
    rwa [if_pos ⟨hb, hv⟩] at ht
  · rw [msixFlush_msixTable]
    exact kget_kputD_same _ _ _ _
  · rw [msixFlush_msixTable]
    exact kget_kputD_ne _ _ _ _ _ _ hw
  · rwa [if_pos h] at hu

/-- With the link in reset no access has an effect; nor has a write of a vector with the BARs closed, or of one that is not there. -/
theorem closed_clauses (s : State) (v k x n : Nat) (data : List Byte) :
    (linkOut s = false → completes (.configurationWrite k v) s s ∧ completes (.unsupportedRequest v) s s
      ∧ completes (.bar2Read v x n) s s ∧ completes (.bar2Write x data) s s)
    ∧ (barsOpen s = false ∨ 2048 ≤ k → completes (.msiXTableWrite k v) s s) := by
  refine ⟨fun h => ⟨configurationWrite_reset h k v, ?_, ?_, ?_⟩, fun h => ?_⟩
  · have hu := unsupportedRequest_completes s v
    rwa [if_neg (by simp [h])] at hu
  · have hr := bar2Read_completes s v x n
    rwa [bar2Access_outside (.inl (barsOpen_linkOut h)), if_neg (by simp [h])] at hr
  · have hw := bar2Write_completes s x data
    rwa [bar2Access_outside (.inl (barsOpen_linkOut h)), if_neg (by simp)] at hw
  · have ht := msiXTableWrite_completes s k v
    refine (congrArg (completes (.msiXTableWrite k v) s) (if_neg fun hk => ?_)).mp ht
    obtain h | h := h
    · simp [h] at hk
    · exact absurd hk.2 (Nat.not_lt.2 h)

section
variable {s : State} {tag x n : Nat} {read : Bool} {data : List Byte} (hb : barsOpen s = true)
include hb

/-- A BAR2 access outside CONFIG and RUN, or past the device's last byte. -/
theorem bar2Access_fails (h : (inConfig s = false ∧ inRun s = false) ∨ 2 ^ 42 < bar2Addr s x + n) (hx : x + n ≤ 2 ^ 32) :
    bar2Access s tag x read n data = bar2Fail s tag read := by
  rw [bar2Access_inside hb hx, if_pos]
  exact h.imp id .inr

variable (hs : inConfig s = true ∨ inRun s = true) (hx : x + n ≤ 2 ^ 32) (ha : bar2Addr s x + n ≤ 2 ^ 42)
include hs hx ha

/-- A BAR2 access of CONFIG or RUN to bytes of the device: the place barred, the partition closed, the access begun. -/
theorem bar2Access_reaches : (bar2Barred (bar2Addr s x) read = true → bar2Access s tag x read n data = bar2Fail s tag read)
    ∧ (bar2Barred (bar2Addr s x) read = false → bar2Closed s (bar2Addr s x) n = true → bar2Access s tag x read n data =
      if read = true then { odAdd s OD.PARTITION_DENIALS 0 1 with out := s.out ++ [⟨2, tag, List.replicate n 0⟩] }
      else odAdd s OD.PARTITION_DENIALS 0 1)
    ∧ (bar2Barred (bar2Addr s x) read = false → bar2Closed s (bar2Addr s x) n = false →
      bar2Access s tag x read n data = bar2Start s tag (bar2Addr s x) read n data) := by
  have hno : bar2Barred (bar2Addr s x) read = false →
      ¬ ((inConfig s = false ∧ inRun s = false) ∨ bar2Barred (bar2Addr s x) read = true ∨ 2 ^ 42 < bar2Addr s x + n) := by
    rintro h0 (⟨hc, hr⟩ | h | h)
    · simp [hc, hr] at hs
    · simp [h0] at h
    · exact absurd ha (Nat.not_le.2 h)
  refine ⟨fun h => ?_, fun h hc => ?_, fun h hc => ?_⟩
  · rw [bar2Access_inside hb hx, if_pos (.inr (.inl h))]
  · rw [bar2Access_inside hb hx, if_neg (hno h), if_pos hc]
  · rw [bar2Access_inside hb hx, if_neg (hno h), if_neg (by simp [hc])]

end

/-- BAR2: the accesses that fail, those a partition closes, and those that are begun. -/
theorem bar2_clauses (s : State) (tag x n : Nat) (data : List Byte) : let a := bar2Addr s x
    (linkOut s = true → (barsOpen s = false ∨ 2 ^ 32 < x + n → completes (.bar2Read tag x n) s (hostError s 5 tag 3))
      ∧ (barsOpen s = false ∨ 2 ^ 32 < x + data.length → completes (.bar2Write x data) s s))
    ∧ (barsOpen s = true → (inConfig s = false ∧ inRun s = false) ∨ 2 ^ 42 < a + n → x + n ≤ 2 ^ 32 →
      completes (.bar2Read tag x n) s (bar2Fail s tag true))
    ∧ (barsOpen s = true → (inConfig s = false ∧ inRun s = false) ∨ 2 ^ 42 < a + data.length → x + data.length ≤ 2 ^ 32 →
      completes (.bar2Write x data) s (bar2Fail s 0 false))
    ∧ (barsOpen s = true → inConfig s = true ∨ inRun s = true → (x + n ≤ 2 ^ 32 → a + n ≤ 2 ^ 42 →
        (bar2Barred a true = true → completes (.bar2Read tag x n) s (bar2Fail s tag true))
        ∧ (bar2Barred a true = false → bar2Closed s a n = true → let t := odAdd s OD.PARTITION_DENIALS 0 1
          completes (.bar2Read tag x n) s { t with out := t.out ++ [⟨2, tag, List.replicate n 0⟩] })
        ∧ (bar2Barred a true = false → bar2Closed s a n = false → completes (.bar2Read tag x n) s (bar2Start s tag a true n [])))
      ∧ (x + data.length ≤ 2 ^ 32 → a + data.length ≤ 2 ^ 42 →
        (bar2Barred a false = true → completes (.bar2Write x data) s (bar2Fail s 0 false))
        ∧ (bar2Barred a false = false → bar2Closed s a data.length = true →
          completes (.bar2Write x data) s (odAdd s OD.PARTITION_DENIALS 0 1))
        ∧ (bar2Barred a false = false → bar2Closed s a data.length = false →
          completes (.bar2Write x data) s (bar2Start s 0 a false data.length data)))) := by
  refine ⟨fun h => ⟨fun ho => ?_, fun ho => ?_⟩, fun hb hf hx => ?_, fun hb hf hx => ?_, fun hb hs => ⟨fun hx ha => ?_, fun hx ha => ?_⟩⟩
  · exact congrArg (answer s) ((bar2Access_outside ho).trans (if_pos ⟨h, rfl⟩))
  · exact congrArg (answer s) ((bar2Access_outside ho).trans (if_neg (by simp)))
  · exact congrArg (answer s) (bar2Access_fails hb hf hx)
  · exact congrArg (answer s) (bar2Access_fails hb hf hx)
  · obtain ⟨hbar, hclosed, hstart⟩ := bar2Access_reaches (tag := tag) (read := true) (data := []) hb hs hx ha
    exact ⟨fun h => congrArg (answer s) (hbar h), fun h hc => congrArg (answer s) (hclosed h hc), fun h hc => congrArg (answer s) (hstart h hc)⟩
  · obtain ⟨hbar, hclosed, hstart⟩ := bar2Access_reaches (tag := 0) (read := false) (data := data) hb hs hx ha
    exact ⟨fun h => congrArg (answer s) (hbar h), fun h hc => congrArg (answer s) (hclosed h hc), fun h hc => congrArg (answer s) (hstart h hc)⟩

/-- Settles O60: the clauses of power, of the resets, of configuration writes and of BAR2, one after another. -/
theorem hostInterface : Obligations.HostInterface := by
  refine ⟨coldBoot_clauses, pwrGoodRelease_clauses, powerLoss_clauses, fun s => ?_, configuration_clauses, closed_clauses,
    fun s => msixFlush_masked, bar2_clauses⟩
  obtain ⟨hperst, hrise, hrise', hout, hin, hkeep, hlink, hod, h0, h2, hcmd, htab, hbox, hspdm⟩ := linkReset_clauses s
  exact ⟨hperst, hrise, hrise', hout, hin, hkeep, hlink, hod, h0, h2, hcmd, htab, hbox, hspdm, hostLink_clauses s⟩

end Sys2Proof.Machine

/-! # What the memory's machinery leaves alone (R208, R209, R216, R428 to R431, R445)

A read or write of memory may count, track, contain, fence and, at the worst, end in a fatal error. `MachineKeeps` says what it never
touches: the shards, the security state, the tenant keys, suspect mode, an expulsion that drains, and the entries of keys, partitions and
expulsion; DEVICE_STATE it can only set to FATAL. -/

namespace Sys2Proof.Machine

/-- The parts of the state outside the dictionary that no access to memory touches. -/
structure Aside where
  sh : ShardSt
  sec : SecSt
  keys : KMap (List Byte)
  segCtr : KMap Nat
  suspect : Bool
  expelFrame : Option Nat

/-- Those parts of a state. -/
def asideOf (s : State) : Aside := ⟨s.sh, s.sec, s.net.keys, s.net.segCtr, s.ft.suspect, s.ft.expelFrame⟩

/-- The entries that no access to memory changes, of those that proofs ask for. -/
def lockedEntries : List Nat := [OD.KEY_SLOTS, OD.PARTITIONS, OD.EXPEL_STATE]

/-- What an access to memory leaves alone. -/
structure MachineKeeps (s t : State) : Prop where
  locked : ∀ e ∈ lockedEntries, ∀ i < 2 ^ 24, odGet t e i = odGet s e i
  device : od t OD.DEVICE_STATE = od s OD.DEVICE_STATE ∨ od t OD.DEVICE_STATE = 3
  aside : asideOf t = asideOf s

section
variable {s t u : State}

theorem MachineKeeps.of_od (h : t.od = s.od) (ha : asideOf t = asideOf s) : MachineKeeps s t :=
  ⟨fun e _ i _ => odGet_of_od h e i, .inl (odGet_of_od h _ _), ha⟩

theorem MachineKeeps.refl (s : State) : MachineKeeps s s := .of_od rfl rfl

theorem MachineKeeps.trans (h : MachineKeeps s t) (k : MachineKeeps t u) : MachineKeeps s u where
  locked e he i hi := (k.locked e he i hi).trans (h.locked e he i hi)
  device := by
    obtain hk | hk := k.device
    · exact h.device.imp hk.trans hk.trans
    · exact .inr hk
  aside := k.aside.trans h.aside

theorem MachineKeeps.ite {c : Prop} [Decidable c] (h : MachineKeeps s t) (k : MachineKeeps s u) : MachineKeeps s (if c then t else u) := by
  split
  · exact h
  · exact k

theorem MachineKeeps.foldl {α : Type} (f : State → α → State) (l : List α) (h : ∀ t, ∀ x ∈ l, MachineKeeps t (f t x)) (s : State) :
    MachineKeeps s (l.foldl f s) :=
  List.foldlRecOn (motive := MachineKeeps s) l f (.refl s) fun _ ht x hx => ht.trans (h _ x hx)

theorem MachineKeeps.foldl_fst {α β : Type} (f : State × β → α → State × β) (l : List α) (h : ∀ x a, MachineKeeps x.1 (f x a).1)
    (x : State × β) : MachineKeeps x.1 (l.foldl f x).1 :=
  List.foldlRecOn (motive := fun y => MachineKeeps x.1 y.1) l f (.refl x.1) fun y hy a _ => hy.trans (h y a)

/-- Entries that do not hold a locked value or DEVICE_STATE. -/
theorem MachineKeeps.of_entries {es : List Nat} (h : KeepsEntries es s t) (hl : ∀ e ∈ OD.DEVICE_STATE :: lockedEntries, e ∉ es)
    (ha : asideOf t = asideOf s) : MachineKeeps s t :=
  ⟨fun e he i hi => h e (hl e (List.mem_cons_of_mem _ he)) i hi, .inl (h.od (hl _ List.mem_cons_self)), ha⟩

end

section
variable (s : State)

theorem machineKeeps_odPut {e i : Nat} (he : e ∉ OD.DEVICE_STATE :: lockedEntries) (hi : i < 2 ^ 24) (v : Nat) :
    MachineKeeps s (odPut s e i v) :=
  .of_entries (keepsEntries_odPut s (List.mem_singleton_self e) hi v) (fun _ h hm => he (List.mem_singleton.1 hm ▸ h)) rfl

theorem machineKeeps_odAdd {e i : Nat} (he : e ∉ OD.DEVICE_STATE :: lockedEntries) (hi : i < 2 ^ 24) (n : Nat) :
    MachineKeeps s (odAdd s e i n) := machineKeeps_odPut s he hi _

theorem asideOf_alert (b : Nat) : asideOf (alert s b) = asideOf s := by
  rw [alert_eq]
  rfl

theorem asideOf_telemetry_ringPush (e r source : Nat) (words : List Nat) :
    asideOf (telemetry (ringPush s e r) source words) = asideOf s := by
  rw [telemetry_ringPush_eq]
  rfl

theorem asideOf_ringPush (e r : Nat) : asideOf (ringPush s e r) = asideOf s := rfl

theorem machineKeeps_alert (b : Nat) : MachineKeeps s (alert s b) :=
  .of_entries (keepsEntries_alert (List.mem_singleton_self _) s b) (by decide) (asideOf_alert s b)

theorem machineKeeps_fenceRecord (kind index cause : Nat) : MachineKeeps s (fenceRecord s kind index cause) :=
  .of_entries (keepsEntries_fenceRecord s kind index cause) (by decide) ((asideOf_alert _ _).trans (asideOf_telemetry_ringPush s _ _ _ _))

theorem machineKeeps_joinContained (k : Nat) : MachineKeeps s (joinContained s k) := .of_od rfl rfl

theorem machineKeeps_takeFree : MachineKeeps s (takeFree s).2 := .of_od rfl rfl

theorem machineKeeps_activate (a : Nat) : MachineKeeps s (activate s a) := .of_od rfl rfl

theorem machineKeeps_withMc (m : MemSt) : MachineKeeps s { s with mc := m } := .of_od rfl rfl

theorem machineKeeps_withFt {f : FaultSt} (hs : f.suspect = s.ft.suspect) (he : f.expelFrame = s.ft.expelFrame) :
    MachineKeeps s { s with ft := f } :=
  .of_od rfl (by rw [asideOf, asideOf, hs, he])

theorem machineKeeps_memWrite (a : Nat) (bs : List Byte) : MachineKeeps s (memWrite s a bs) := .of_od rfl rfl

theorem machineKeeps_descRaw (b : Nat) (l : List (Fld × Nat)) : MachineKeeps s (descRaw s b l) := .ite (.refl s) (.of_od rfl rfl)

theorem machineKeeps_relink (k : Nat) (l : List Nat) : MachineKeeps s (relink s k l) := by
  induction l generalizing s with
  | nil => exact .refl s
  | cons a l ih =>
    cases l with
    | nil => exact machineKeeps_descRaw _ _ _
    | cons b l => exact (machineKeeps_descRaw s _ _).trans (ih _)

/-! ## Fences (R428 to R431) and fatal errors (R445) -/

theorem machineKeeps_countMove {cls stack a b : Nat} (hc : cls < 8) (hs : stack < 8) (ha : a < 8) (hb : b < 8) :
    MachineKeeps s (countMove s cls stack a b) := by
  have hk : listKey cls stack < 64 := by rw [listKey]; omega
  exact (machineKeeps_odPut s (by decide) (by omega) _).trans (machineKeeps_odPut _ (by decide) (by omega) _)

theorem beadStack_lt (b : Nat) : beadStack b < 8 := Nat.mod_lt _ (by decide)

theorem machineKeeps_beadFence (b : Nat) : MachineKeeps s (beadFence s b) := by
  unfold beadFence
  extract_lets st cls k r c p s1 s2
  have h2 : MachineKeeps s s2 := ((MachineKeeps.of_od rfl rfl : MachineKeeps s s1).trans (machineKeeps_relink s1 _ r)).trans
    (machineKeeps_relink _ _ c)
  have hmove : MachineKeeps s2 (countMove s2 cls (beadStack b) st 5) :=
    machineKeeps_countMove s2 (getF_lt _ BeadDesc.CLASS) (beadStack_lt b) (getF_lt _ BeadDesc.STATE) (by decide)
  exact .ite ((h2.trans hmove).trans (machineKeeps_descRaw _ _ _)) (.refl s)

theorem machineKeeps_fenceRegion {stack region : Nat} (h : stack * 128 + region < 2 ^ 24) (cause : Nat) :
    MachineKeeps s (fenceRegion s stack region cause) := by
  unfold fenceRegion
  extract_lets s1 m s2 s3
  have h1 : MachineKeeps s s1 := machineKeeps_odPut s (by decide) h 3
  have h3 : MachineKeeps s s3 := (h1.trans (.of_od (t := s2) rfl rfl)).trans (.foldl _ _ (fun t b _ => machineKeeps_beadFence t b) s2)
  exact .ite (.refl s) (h3.trans (machineKeeps_fenceRecord _ _ _ _))

theorem machineKeeps_regionCandidate {stack region : Nat} (h : stack * 128 + region < 2 ^ 24) (cause : Nat) :
    MachineKeeps s (regionCandidate s stack region cause) := by
  unfold regionCandidate
  extract_lets s1
  have h1 : MachineKeeps s s1 := machineKeeps_odPut s (by decide) h 1
  exact .ite (.refl s) (.ite (h1.trans (machineKeeps_fenceRegion s1 h cause)) h1)

theorem machineKeeps_odClear {e : Nat} (he : e ∉ OD.DEVICE_STATE :: lockedEntries) : MachineKeeps s (odClear s e) := by
  have h : KeepsEntries [e] s (odClear s e) := fun e' he' i hi =>
    odGet_odClear_entry s e e' i (fun h => he' (h ▸ List.mem_singleton_self e)) hi
  exact .of_entries h (fun _ h hm => he (List.mem_singleton.1 hm ▸ h)) rfl

theorem machineKeeps_bar2Lose : MachineKeeps s (bar2Lose s) :=
  (machineKeeps_odAdd s (e := OD.BAR2_ERRORS) (by decide) (by decide) _).trans (.of_od rfl rfl)

/-- DEVICE_STATE set to FATAL. -/
theorem machineKeeps_fatalState : MachineKeeps s (odSet s OD.DEVICE_STATE 3) where
  locked e he i hi := odGet_odPut_entry s _ 0 3 e i (fun h => absurd (h ▸ he) (by decide)) (by decide) hi
  device := .inr (odGet_odPut_same _ _ _ _)
  aside := rfl

theorem machineKeeps_fatal (cause detail : Nat) : MachineKeeps s (fatal s cause detail) := by
  unfold fatal
  extract_lets s1 s2 s3 f s4 s5 n s6 a s7 s8 s9
  have h2 : MachineKeeps s s2 := ((machineKeeps_bar2Lose s).trans (machineKeeps_fatalState s1)).trans
    (machineKeeps_odPut _ (by decide) (by decide) _)
  have hmap : detail % 8 < 2 ^ 24 := (Nat.mod_lt _ (by decide)).trans (by decide)
  have h3 : MachineKeeps s s3 := .ite (h2.trans (machineKeeps_odPut s2 (by decide) hmap 3)) h2
  have h4 : MachineKeeps s s4 := h3.trans (.of_od rfl rfl)
  have h5 : MachineKeeps s s5 := (h4.trans (machineKeeps_odPut s4 (e := OD.LINK_ENABLE) (by decide) (by decide) 0)).trans
    (machineKeeps_odClear _ (by decide))
  have h7 : MachineKeeps s s7 := h5.trans (.of_od (t := s7) rfl rfl)
  have h8 : MachineKeeps s s8 := .ite (h7.trans (.of_od rfl rfl)) h7
  exact .ite (.refl s) ((h8.trans (machineKeeps_alert s8 14)).trans (machineKeeps_odPut s9 (by decide) (by decide) _))

/-! ## Containment and correction (R208, R212, R216, R217) -/

theorem machineKeeps_noteUncorr {stack : Nat} (h : stack < 8) (line : Nat) : MachineKeeps s (noteUncorr s stack line) := by
  unfold noteUncorr
  extract_lets m s1 mine region here s2 regions
  have h1 : MachineKeeps s s1 := .of_od rfl rfl
  have hr : stack * 128 + region < 2 ^ 24 := by omega
  have h2 : MachineKeeps s s2 := .ite (h1.trans (machineKeeps_regionCandidate s1 hr 6)) h1
  exact .ite (.refl s) (.ite (h2.trans (machineKeeps_fatal s2 5 stack)) h2)

theorem odFind_containmentRing : odFind OD.CONTAINMENT_RING = some ⟨OD.CONTAINMENT_RING, 8, 0, 32, 4096, 0⟩ := by decide +kernel

theorem machineKeeps_containRecord (at_ : Option (Nat × Nat)) {o : Owner} (ho : o.kind < 8) (rd : Reader) :
    MachineKeeps s (containRecord s at_ o rd) := by
  unfold containRecord
  extract_lets fr s1 stack loc r s2 s3 f
  have h1 : MachineKeeps s s1 := .ite (machineKeeps_takeFree s) (.refl s)
  clear_value r s1
  have h2 : MachineKeeps s1 s2 := .of_entries
    (keepsEntries_ringPush s1 (List.mem_singleton_self _) odFind_containmentRing (by decide) (by decide) r) (by decide) (asideOf_ringPush s1 _ r)
  have h3 : MachineKeeps s2 s3 := machineKeeps_odAdd s2 (by decide) (ho.trans (by decide)) 1
  have hs3 : MachineKeeps s s3 := (h1.trans h2).trans h3
  exact hs3.trans (machineKeeps_withFt s3 rfl rfl)

theorem machineKeeps_containLine (at_ : Option (Nat × Nat)) {o : Owner} (ho : o.kind < 8) (rd : Reader) :
    MachineKeeps s (containLine s at_ o rd) := by
  unfold containLine
  extract_lets s1 s2 s3
  have h1 : MachineKeeps s s1 := machineKeeps_containRecord s at_ ho rd
  have h2 : MachineKeeps s s2 := .ite (h1.trans (machineKeeps_joinContained s1 _)) h1
  have h3 : MachineKeeps s s3 := .ite (h2.trans (machineKeeps_joinContained s2 _)) h2
  exact .ite (h3.trans (machineKeeps_joinContained s3 _)) h3

theorem rangeOwner_kind (a : Nat) : (rangeOwner s a).kind < 8 := by
  unfold rangeOwner
  split
  · exact getF_lt _ OwnerRange.KIND
  · exact Nat.zero_lt_succ _

theorem lineOwner_kind (stack a : Nat) : (lineOwner s stack a).kind < 8 := by
  unfold lineOwner
  split
  · exact Nat.one_lt_two.trans (by decide)
  · split
    · exact Nat.lt_of_sub_eq_succ rfl
    · exact rangeOwner_kind s _

theorem machineKeeps_trackCorrection {a : Nat} (h : a < 2 ^ 40) : MachineKeeps s (trackCorrection s a) := by
  unfold trackCorrection
  extract_lets stack l row t least t' n m s1 q
  have h1 : MachineKeeps s s1 := .of_od rfl rfl
  have hstack : 3 * stack + 1 < 2 ^ 24 := by omega
  exact .ite (.ite (.of_od rfl rfl) (h1.trans (machineKeeps_odAdd s1 (by decide) hstack 1))) h1

theorem lineStack_lt {home k : Nat} (h : lineStack s home = some k) : k < 8 := by
  unfold lineStack at h
  split at h
  · cases h; omega
  split at h
  · next hs => cases h; simp only [sramBase] at hs ⊢; omega
  split at h
  · cases h; omega
  · cases h

theorem machineKeeps_noteCorrected (home : Nat) : MachineKeeps s (noteCorrected s home) := by
  unfold noteCorrected
  extract_lets s1
  have h1 : MachineKeeps s s1 := by
    show MachineKeeps s (match lineStack s home with | some k => odAdd s OD.OUTER_CORR k 1 | none => s)
    split
    · next k hk => exact machineKeeps_odAdd s (by decide) ((lineStack_lt s hk).trans (by decide)) 1
    · exact .refl s
  split
  · next hh => exact h1.trans (machineKeeps_trackCorrection s1 hh)
  · exact h1

theorem machineKeeps_noteUncorrectable (home : Nat) (rd : Reader) : MachineKeeps s (noteUncorrectable s home rd) := by
  unfold noteUncorrectable
  split
  · next h =>
    refine machineKeeps_odAdd s (by decide) ?_ 1
    simp only [sramBase] at h ⊢
    omega
  split
  · next h =>
    extract_lets k line s1 o s2
    have hk : k < 8 := by omega
    have h1 : MachineKeeps s s1 := machineKeeps_odAdd s (by decide) (hk.trans (by decide)) 1
    have h2 : MachineKeeps s s2 := (h1.trans (machineKeeps_containLine s1 _ (lineOwner_kind s1 k _) rd)).trans
      (machineKeeps_noteUncorr _ hk _)
    exact .ite (h2.trans (.of_od rfl rfl)) h2
  · extract_lets f a k
    have hk : k < 8 := by omega
    have h1 : MachineKeeps s (odAdd s OD.UNCORRECTABLE k 1) := machineKeeps_odAdd s (by decide) (hk.trans (by decide)) 1
    exact .ite (h1.trans (machineKeeps_containLine _ _ (lineOwner_kind s k _) rd)) (machineKeeps_containLine s _ (rangeOwner_kind s _) rd)

/-! ## Reads and writes (R208, R209, R473) -/

theorem machineKeeps_sampleGranule (a : Nat) : MachineKeeps s (sampleGranule s a) :=
  .ite (.ite (.of_od rfl rfl) (.of_od rfl rfl)) (.refl s)

theorem machineKeeps_readPiece (map : Bool) (rd : Reader) (a n : Nat) : MachineKeeps s (readPiece s map rd a n).1 := by
  unfold readPiece
  split
  · exact .refl s
  split
  · exact machineKeeps_odAdd s (by decide) (by decide) 1
  extract_lets home s1 s2 k
  have h1 : MachineKeeps s s1 := .ite (machineKeeps_sampleGranule s a) (.refl s)
  have h2 : MachineKeeps s s2 := .ite (h1.trans (machineKeeps_activate s1 home)) h1
  split
  · exact h2.trans (.of_od rfl rfl)
  split
  · exact h2
  split
  · exact h2.trans (machineKeeps_noteCorrected s2 home)
  · exact h2.trans (machineKeeps_noteUncorrectable s2 home rd)

theorem machineKeeps_readMem (map : Bool) (rd : Reader) (a n : Nat) : MachineKeeps s (readMem s map rd a n).1 := by
  unfold readMem
  refine MachineKeeps.foldl_fst _ _ (fun x p => ?_) (s, _)
  exact machineKeeps_readPiece x.1 _ _ _ _

theorem machineKeeps_readRec (rd : Reader) (a n : Nat) : MachineKeeps s (readRec s rd a n).1 := machineKeeps_readMem s _ _ _ _

theorem machineKeeps_storeLine (rd : Reader) (home : Nat) (bs : List Byte) : MachineKeeps s (storeLine s rd home bs).1 := by
  unfold storeLine
  extract_lets s1 k s2
  have h1 : MachineKeeps s s1 := .ite (machineKeeps_activate s home) (.refl s)
  have h2 : MachineKeeps s s2 := .ite (h1.trans (machineKeeps_noteCorrected s1 home)) h1
  split
  · exact h1.trans (machineKeeps_noteUncorrectable s1 home rd)
  · exact (h2.trans (machineKeeps_memWrite s2 home bs)).trans (machineKeeps_withMc _ _)

/-- The same bytes stored at lines of several homes. -/
theorem machineKeeps_storeLines (rd : Reader) (bs : List Byte) (at_ : Nat → Nat) (l : List Nat) (x : State × Nat) :
    MachineKeeps x.1 (l.foldl (fun (acc : State × Nat) k =>
      let w := storeLine acc.1 rd (at_ k) bs
      (w.1, if acc.2 = 0 then w.2 else acc.2)) x).1 :=
  MachineKeeps.foldl_fst (fun (acc : State × Nat) k =>
      let w := storeLine acc.1 rd (at_ k) bs
      (w.1, if acc.2 = 0 then w.2 else acc.2)) l (fun y k => machineKeeps_storeLine y.1 rd (at_ k) bs) x

theorem machineKeeps_writePiece (map : Bool) (rd : Reader) (a : Nat) (bs : List Byte) : MachineKeeps s (writePiece s map rd a bs).1 := by
  unfold writePiece
  split
  · exact .refl s
  split
  · exact machineKeeps_odAdd s (by decide) (by decide) 1
  split
  · exact machineKeeps_storeLines rd bs (fun k => sramBase k + (a - sramBcast)) _ (s, 0)
  · exact machineKeeps_storeLine s _ _ _

theorem machineKeeps_writeMem (map : Bool) (rd : Reader) (a : Nat) (bs : List Byte) : MachineKeeps s (writeMem s map rd a bs).1 := by
  unfold writeMem
  refine MachineKeeps.foldl_fst _ _ (fun x p => ?_) (s, _)
  exact machineKeeps_writePiece x.1 _ _ _ _

theorem machineKeeps_ctlPut (a n v : Nat) : MachineKeeps s (ctlPut s a n v) := machineKeeps_writeMem s _ _ _ _
theorem machineKeeps_mapPut (a n v : Nat) : MachineKeeps s (mapPut s a n v) := machineKeeps_writeMem s _ _ _ _
theorem machineKeeps_ctlTouch (a n : Nat) : MachineKeeps s (ctlTouch s a n) := machineKeeps_readMem s _ _ _ _
theorem machineKeeps_descSet (b : Nat) (l : List (Fld × Nat)) : MachineKeeps s (descSet s b l) := machineKeeps_ctlPut s _ _ _
theorem machineKeeps_descTouch (b : Nat) : MachineKeeps s (descTouch s b) := machineKeeps_ctlTouch s _ _

end

end Sys2Proof.Machine

/-! # What the units' commands leave aside

The parts of `asideOf` through the commands of the pool manager, Locket, the region table and the queue pairs. -/

namespace Sys2Proof.Machine

section
variable (s : State)

theorem asideOf_foldl {α : Type} (f : State → α → State) (h : ∀ t x, asideOf (f t x) = asideOf t) (l : List α) :
    asideOf (l.foldl f s) = asideOf s :=
  List.foldlRecOn (motive := fun t => asideOf t = asideOf s) l f rfl fun _ ht x _ => (h _ x).trans ht

theorem asideOf_ite {c : Prop} [Decidable c] {t u : State} (h : asideOf t = asideOf s) (k : asideOf u = asideOf s) :
    asideOf (if c then t else u) = asideOf s := by
  split
  · exact h
  · exact k

theorem asideOf_odPut (e i v : Nat) : asideOf (odPut s e i v) = asideOf s := rfl
theorem asideOf_odAdd (e i n : Nat) : asideOf (odAdd s e i n) = asideOf s := rfl
theorem asideOf_withPool (p : PoolSt) : asideOf { s with pool := p } = asideOf s := rfl
theorem asideOf_poolAnswer (st : Nat) (l : List Nat) : asideOf (poolAnswer s st l) = asideOf s := rfl
theorem asideOf_heldNote (b : Nat) (x : Bool) : asideOf (heldNote s b x) = asideOf s := rfl
theorem asideOf_countMove (c k a b : Nat) : asideOf (countMove s c k a b) = asideOf s := rfl
theorem asideOf_refSumAdd (c k n : Nat) : asideOf (refSumAdd s c k n) = asideOf s := rfl
theorem asideOf_refSumSub (c k n : Nat) : asideOf (refSumSub s c k n) = asideOf s := rfl
theorem asideOf_descSet (b : Nat) (l : List (Fld × Nat)) : asideOf (descSet s b l) = asideOf s := (machineKeeps_descSet s b l).aside
theorem asideOf_descTouch (b : Nat) : asideOf (descTouch s b) = asideOf s := (machineKeeps_descTouch s b).aside
theorem asideOf_poolStale : asideOf (poolStale s) = asideOf s := rfl
theorem asideOf_unitWrite (u r : Nat) : asideOf (unitWrite s u r) = asideOf s := rfl

theorem asideOf_entryRemove (u : Nat) : asideOf (entryRemove s u) = asideOf s := by
  unfold entryRemove
  extract_lets b t
  refine asideOf_ite s rfl ?_
  exact (asideOf_odAdd _ _ _ _).trans ((asideOf_odPut t _ _ _).trans (asideOf_foldl s _ (fun t i => asideOf_unitWrite t (u + i) _) _))

theorem asideOf_prefixDrop (b : Nat) : asideOf (prefixDrop s b) = asideOf s := by
  unfold prefixDrop
  extract_lets u t p
  refine asideOf_ite s ?_ rfl
  exact (asideOf_descSet _ b _).trans ((asideOf_withPool t _).trans (asideOf_entryRemove s u))

theorem asideOf_linkNext (prev : Option (Nat × Nat)) (b : Nat) : asideOf (match prev with
    | some p => descSet s p.2 [(BeadDesc.NEXT, b)]
    | none => s) = asideOf s := by
  cases prev with
  | none => rfl
  | some p => exact asideOf_descSet s p.2 _

theorem asideOf_beadUnref (b : Nat) : asideOf (beadUnref s b) = asideOf s := by
  unfold beadUnref
  extract_lets st refs cls s1 prev s2 s3 s4 p
  refine asideOf_ite s ?_ (asideOf_ite s ?_ ?_)
  · have h1 : asideOf s1 = asideOf s := (asideOf_heldNote _ b false).trans (asideOf_prefixDrop s b)
    have h2 : asideOf s2 = asideOf s := (asideOf_linkNext s1 prev b).trans h1
    have h3 : asideOf s3 = asideOf s := (asideOf_descSet s2 b _).trans h2
    have h4 : asideOf s4 = asideOf s := (asideOf_refSumSub _ _ _ _).trans ((asideOf_countMove s3 _ _ _ _).trans h3)
    exact (asideOf_poolAnswer _ _ _).trans ((asideOf_withPool s4 _).trans h4)
  · exact (asideOf_poolAnswer _ _ _).trans ((asideOf_descSet _ b _).trans (asideOf_refSumSub s _ _ _))
  · exact (asideOf_poolStale _).trans (asideOf_descTouch s b)

theorem asideOf_beadShard (b : Nat) : asideOf (beadShard s b) = asideOf s :=
  asideOf_ite s ((asideOf_poolAnswer _ _ _).trans ((asideOf_descSet _ b _).trans (asideOf_countMove s _ _ _ _)))
    ((asideOf_poolStale _).trans (asideOf_descTouch s b))

theorem asideOf_allocOne (c k slot o row t : Nat) : asideOf (allocOne s c k slot o row t) = asideOf s :=
  (asideOf_refSumAdd _ _ _ _).trans ((asideOf_countMove _ _ _ _ _).trans ((asideOf_descSet _ _ _).trans (asideOf_heldNote s _ _)))

theorem asideOf_beadAlloc (c k n o row t : Nat) : asideOf (beadAlloc s c k n o row t) = asideOf s := by
  unfold beadAlloc
  extract_lets key l got p s1 s2
  have h2 : asideOf s2 = asideOf s := (asideOf_foldl s1 (fun u (p : Nat × Nat) => allocOne u c k p.1 (o + 8 * p.2) row t)
    (fun u p => asideOf_allocOne u c k p.1 _ row t) _).trans (asideOf_withPool s _)
  exact asideOf_ite s rfl (asideOf_ite s (asideOf_poolAnswer s _ _) ((asideOf_poolAnswer s2 _ _).trans h2))

theorem asideOf_mapPut (a n v : Nat) : asideOf (mapPut s a n v) = asideOf s := (machineKeeps_mapPut s a n v).aside
theorem asideOf_mrRegister (i r : Nat) : asideOf (mrRegister s i r).1 = asideOf s := asideOf_mapPut s _ _ _
theorem asideOf_mrDeregister (i : Nat) : asideOf (mrDeregister s i) = asideOf s := asideOf_mapPut s _ _ _
theorem asideOf_setQpSt (q : Nat) (x : QpSt) : asideOf (setQpSt s q x) = asideOf s := rfl
theorem asideOf_qpSet (q : Nat) (l : List (Fld × Nat)) : asideOf (qpSet s q l) = asideOf s := asideOf_mapPut s _ _ _

theorem asideOf_postWqe (q sqe t : Nat) (bs : Option (List Byte)) (who : Serve) : asideOf (postWqe s q sqe t bs who) = asideOf s :=
  (asideOf_setQpSt _ q _).trans ((asideOf_qpSet _ q _).trans (asideOf_mapPut s _ _ _))

end

end Sys2Proof.Machine

/-! # The exchange that places a shard (chapter 21, R435, R440, R441) -/

namespace Sys2Proof.Machine

/-! ## The shards through the messages of the exchange -/

section
variable (s : State)

theorem asideOf_odPuts (e i : Nat) (vs : List Nat) : asideOf (odPuts s e i vs) = asideOf s :=
  asideOf_foldl s (fun t (p : Nat × Nat) => odPut t e p.2 p.1) (fun t p => asideOf_odPut t e p.2 p.1) _

theorem asideOf_directoryShow : asideOf (directoryShow s) = asideOf s := asideOf_odPuts _ _ _ _

theorem asideOf_shardSend (dev hdr : Nat) (fence : Bool) (who : Serve) : asideOf (shardSend s dev hdr fence who).1 = asideOf s := by
  unfold shardSend
  split
  · exact asideOf_postWqe s _ _ _ _ _
  · rfl

theorem asideOf_shardAnswer (dev msg kind : Nat) (l : List (Fld × Nat)) : asideOf (shardAnswer s dev msg kind l) = asideOf s :=
  asideOf_shardSend s _ _ _ _

end

theorem sh_of_aside {s t : State} (h : asideOf t = asideOf s) : t.sh = s.sh := congrArg Aside.sh h

/-- A shard's record put is the one found, where the row had the shard. -/
theorem shardOf_shardPut {s : State} {x y : Shard} (hx : x ∈ s.sh.shards) (hr : x.row = y.row) (hg : x.group = y.group)
    (hi : x.index = y.index) : shardOf (shardPut s y) y.row y.group y.index = some y := by
  have hfind : ∀ l : List Shard, x ∈ l → (l.map fun z => if z.row = y.row ∧ z.group = y.group ∧ z.index = y.index then y else z).find?
      (fun z => z.row == y.row && z.group == y.group && z.index == y.index) = some y := by
    intro l hl
    induction l with
    | nil => cases hl
    | cons z l ih =>
      by_cases hz : z.row = y.row ∧ z.group = y.group ∧ z.index = y.index
      · simp [hz]
      · have hne : x ≠ z := by
          rintro rfl
          exact hz ⟨hr, hg, hi⟩
        have hb : (z.row == y.row && z.group == y.group && z.index == y.index) = false := by
          simpa [and_assoc] using hz
        rw [List.map_cons, if_neg hz, List.find?_cons, hb]
        exact ih ((List.mem_cons.1 hl).resolve_left hne)
  exact hfind s.sh.shards hx

theorem answered_mem {s : State} {dev h place : Nat} {x : Shard} (hx : answered s dev h place = some x) : x ∈ s.sh.shards :=
  List.mem_of_find?_eq_some hx

/-! ## Offers (R435, R441) -/

section
variable {s : State} (hr : claspRuns s = true) (dev msg : Nat)
include hr

theorem shardOffer_closed (hrole : roleOpens (role s) 8 = false) :
    completes (.shardOffer dev msg) s (shardAnswer s dev msg 0x12 [(ShardMsg.STATUS, 4)]) :=
  congrArg (answer s) ((if_neg (by simp [hr])).trans (if_pos hrole))

variable (hrole : roleOpens (role s) 8 = true)
include hrole

theorem shardOffer_suspect (hs : s.ft.suspect = true) :
    completes (.shardOffer dev msg) s (shardAnswer s dev msg 0x12 [(ShardMsg.STATUS, 3)]) :=
  congrArg (answer s) ((if_neg (by simp [hr])).trans ((if_neg (by simp [hrole])).trans (if_pos hs)))

variable (hs : s.ft.suspect = false)
include hs

theorem shardOffer_noClass (hc : shardClass s msg = none) :
    completes (.shardOffer dev msg) s (shardAnswer s dev msg 0x12 [(ShardMsg.STATUS, 2)]) := by
  refine congrArg (answer s) ((if_neg (by simp [hr])).trans ((if_neg (by simp [hrole])).trans ((if_neg (by simp [hs])).trans ?_)))
  rw [hc]

theorem shardOffer_class {c : Nat} (hc : shardClass s msg = some c) : completes (.shardOffer dev msg) s
    (if (kget s.pool.ready (listKey c (shardStack (getF msg ShardMsg.GROUP) (getF msg ShardMsg.SHARD))) []).isEmpty then
      shardAnswer s dev msg 0x12 [(ShardMsg.STATUS, 1)]
    else (shardTake s dev msg c).getD (shardAnswer s dev msg 0x12 [(ShardMsg.STATUS, 1)])) := by
  refine congrArg (answer s) ((if_neg (by simp [hr])).trans ((if_neg (by simp [hrole])).trans ((if_neg (by simp [hs])).trans ?_)))
  rw [hc]

end

/-- A grant puts the shard in the directory, not sealed, under the owner. -/
theorem shardTake_held {s t : State} {dev msg c : Nat} (h : shardTake s dev msg c = some t) : ∃ h, t.sh.held = s.sh.held ++ [h]
    ∧ h.owner = dev ∧ h.rid = getF msg ShardMsg.REQUEST_ID ∧ h.isSealed = false ∧ h.group = getF msg ShardMsg.GROUP
    ∧ h.index = getF msg ShardMsg.SHARD := by
  unfold shardTake at h
  obtain ⟨j, -, ht⟩ := Option.map_eq_some_iff.1 h
  extract_lets s1 b a m x m1 sh1 s2 at ht
  have h1 : asideOf m.1 = asideOf s := (asideOf_mrRegister s1 _ _).trans (asideOf_beadAlloc s _ _ _ _ _ _)
  have h2 : s2.sh.held = m.1.sh.held ++ [x] := congrArg ShardSt.held (sh_of_aside (asideOf_directoryShow _))
  have h3 : t.sh.held = s2.sh.held := congrArg ShardSt.held (sh_of_aside (ht ▸ asideOf_shardAnswer s2 _ _ _ _))
  exact ⟨x, h3.trans (h2.trans (by rw [sh_of_aside h1])), rfl, rfl, rfl, rfl, rfl⟩

theorem shardOffer_clauses (s : State) (dev msg : Nat) (hr : claspRuns s = true) :
    let refused := fun n => shardAnswer s dev msg 0x12 [(ShardMsg.STATUS, n)]
    let st := shardStack (getF msg ShardMsg.GROUP) (getF msg ShardMsg.SHARD)
    (roleOpens (role s) 8 = false → completes (.shardOffer dev msg) s (refused 4))
    ∧ (roleOpens (role s) 8 = true → s.ft.suspect = true → completes (.shardOffer dev msg) s (refused 3))
    ∧ (roleOpens (role s) 8 = true → s.ft.suspect = false →
      (shardClass s msg = none → completes (.shardOffer dev msg) s (refused 2))
      ∧ ∀ c, shardClass s msg = some c → (kget s.pool.ready (listKey c st) [] = [] → completes (.shardOffer dev msg) s (refused 1))
        ∧ (kget s.pool.ready (listKey c st) [] ≠ [] → (shardTake s dev msg c = none → completes (.shardOffer dev msg) s (refused 1))
          ∧ ∀ t, shardTake s dev msg c = some t → completes (.shardOffer dev msg) s t
          ∧ ∃ h, t.sh.held = s.sh.held ++ [h] ∧ h.owner = dev ∧ h.rid = getF msg ShardMsg.REQUEST_ID ∧ h.isSealed = false
            ∧ h.group = getF msg ShardMsg.GROUP ∧ h.index = getF msg ShardMsg.SHARD)) := by
  refine ⟨shardOffer_closed hr dev msg, shardOffer_suspect hr dev msg, fun hrole hs => ⟨shardOffer_noClass hr dev msg hrole hs, fun c hc => ?_⟩⟩
  have hoffer := shardOffer_class hr dev msg hrole hs hc
  refine ⟨fun hl => ?_, fun hl => ⟨fun hn => ?_, fun t ht => ⟨?_, shardTake_held ht⟩⟩⟩
  · rwa [if_pos (by simp [hl])] at hoffer
  · rwa [if_neg (by simpa using hl), hn] at hoffer
  · rwa [if_neg (by simpa using hl), ht] at hoffer

/-! ## Grants, seals and frees (R441) -/

/-- On a device whose clasp unit has stopped no message of the exchange has an effect. -/
theorem shardMessage_stopped {s : State} (hr : claspRuns s = false) (dev msg : Nat) {i : Instr}
    (hi : i ∈ [Instr.shardOffer dev msg, .shardGrant dev msg, .shardSeal dev msg, .shardHeld dev msg, .shardFree dev msg,
      .shardFreed dev msg]) : completes i s s := by
  simp only [List.mem_cons, List.not_mem_nil, or_false] at hi
  obtain rfl | rfl | rfl | rfl | rfl | rfl := hi
  case inr.inr.inr.inr.inr => exact congrArg (answer s) (if_neg (by simp [hr]))
  all_goals exact congrArg (answer s) (if_pos hr)

theorem shardGrant_ignored {s : State} {dev msg : Nat} (h : answered s dev msg 2 = none ∨ passQp s dev = none) :
    completes (.shardGrant dev msg) s s := by
  refine congrArg (answer s) ?_
  cases hr : claspRuns s
  · exact if_pos rfl
  · refine (if_neg (by simp)).trans ?_
    obtain h | h := h
    · rw [h]
    · rw [h]
      cases answered s dev msg 2 <;> rfl

section
variable {s : State} (hr : claspRuns s = true) {dev msg q : Nat} {x : Shard} (hx : answered s dev msg 2 = some x)
  (hq : passQp s dev = some q)
include hr hx hq

theorem shardGrant_refused (hst : getF msg ShardMsg.STATUS ≠ 0) :
    completes (.shardGrant dev msg) s (shardAgain s (shardKey x.row x.group x.index)) := by
  refine congrArg (answer s) ((if_neg (by simp [hr])).trans ?_)
  rw [hx, hq]
  exact if_pos hst

theorem shardGrant_writes (hst : getF msg ShardMsg.STATUS = 0) :
    let sqe := mkRec [(Sqe.OP, 2), (Sqe.LENGTH, classBeadBytes s (strandClass s x.row)), (Sqe.LOCAL_ADDR, (beadPlace s x.bead).1),
      (Sqe.REMOTE_KEY, getF msg ShardMsg.KEY)]
    let a := postWqe s q sqe (rowGet s x.row Row.TENANT) none (.shard (shardKey x.row x.group x.index))
    let b := (shardSend a dev (shardHdr a x 0x13) true (.shard (shardKey x.row x.group x.index))).1
    let t := shardPut b { x with place := 4, offset := getF msg ShardMsg.OFFSET }
    completes (.shardGrant dev msg) s t ∧ shardOf t x.row x.group x.index = some { x with place := 4, offset := getF msg ShardMsg.OFFSET } := by
  intro sqe a b t
  refine ⟨?_, ?_⟩
  · refine congrArg (answer s) ((if_neg (by simp [hr])).trans ?_)
    rw [hx, hq]
    exact if_neg (by simp [hst])
  · have hb : b.sh = s.sh := sh_of_aside ((asideOf_shardSend a _ _ _ _).trans (asideOf_postWqe s _ _ _ _ _))
    have hmem : x ∈ b.sh.shards := hb ▸ answered_mem hx
    exact shardOf_shardPut (y := { x with place := 4, offset := getF msg ShardMsg.OFFSET }) hmem rfl rfl rfl

end

theorem shardHeld_ignored {s : State} {dev msg : Nat} (h : answered s dev msg 4 = none) : completes (.shardHeld dev msg) s s := by
  refine congrArg (answer s) ?_
  cases hr : claspRuns s
  · exact if_pos rfl
  · refine (if_neg (by simp)).trans ?_
    rw [h]

theorem shardHeld_places {s : State} (hr : claspRuns s = true) {dev msg : Nat} {x : Shard} (hx : answered s dev msg 4 = some x) :
    let y := { x with place := 5, key := getF msg ShardMsg.KEY, offset := getF msg ShardMsg.OFFSET }
    let u := shardPut (shardCount s 1 1) y
    completes (.shardHeld dev msg) s (shardTold u y) ∧ shardOf u x.row x.group x.index = some y := by
  intro y u
  have hmem : x ∈ (shardCount s 1 1).sh.shards := (odAdd_sh s _ _ _).symm ▸ answered_mem hx
  refine ⟨?_, shardOf_shardPut (y := y) hmem rfl rfl rfl⟩
  refine congrArg (answer s) ((if_neg (by simp [hr])).trans ?_)
  rw [hx]

theorem shardSeal_ignored {s : State} {dev msg : Nat} (h : heldOf s dev msg = none) : completes (.shardSeal dev msg) s s := by
  refine congrArg (answer s) ?_
  cases hr : claspRuns s
  · exact if_pos rfl
  · refine (if_neg (by simp)).trans ?_
    rw [h]

section
variable {s : State} (hr : claspRuns s = true) {dev msg : Nat} {h : HeldShard} (hh : heldOf s dev msg = some h)
include hr hh

theorem shardSeal_again (hs : h.isSealed = true) : completes (.shardSeal dev msg) s s := by
  refine congrArg (answer s) ((if_neg (by simp [hr])).trans ?_)
  rw [hh]
  exact if_pos hs

theorem shardSeal_noKey (hs : h.isSealed = false) : let a := beadPlace s h.bead
    let u := beadShard (mrDeregister s (h.key % 2 ^ 24)) h.bead
    anyReadKey u (getF msg ShardMsg.TENANT) a.1 (classBeadBytes u a.2) = none → completes (.shardSeal dev msg) s u := by
  intro a u hn
  refine congrArg (answer s) ((if_neg (by simp [hr])).trans ?_)
  rw [hh]
  refine (if_neg (by simp [hs])).trans ?_
  extract_lets
  rw [hn]

theorem shardSeal_seals (hs : h.isSealed = false) : let a := beadPlace s h.bead
    let u := beadShard (mrDeregister s (h.key % 2 ^ 24)) h.bead
    ∀ m, anyReadKey u (getF msg ShardMsg.TENANT) a.1 (classBeadBytes u a.2) = some m → let y := { h with key := m.2, isSealed := true }
    let held := m.1.sh.held.map (fun x => if x = h then y else x)
    let t := directoryShow (shardCount { m.1 with sh := { m.1.sh with held := held } } 2 1)
    completes (.shardSeal dev msg) s (shardAnswer t dev msg 0x14 [(ShardMsg.KEY, m.2), (ShardMsg.OFFSET, a.1)]) ∧ y ∈ t.sh.held := by
  intro a u m hm y held t
  refine ⟨?_, ?_⟩
  · refine congrArg (answer s) ((if_neg (by simp [hr])).trans ?_)
    rw [hh]
    refine (if_neg (by simp [hs])).trans ?_
    extract_lets
    rw [hm]
  · obtain ⟨j, -, hj⟩ := Option.map_eq_some_iff.1 hm
    have hu : asideOf u = asideOf s := (asideOf_beadShard _ _).trans (asideOf_mrDeregister s _)
    have hsh : m.1.sh = s.sh := sh_of_aside (hj ▸ (asideOf_mrRegister u _ _).trans hu)
    have ht : t.sh.held = held := congrArg ShardSt.held (sh_of_aside (asideOf_directoryShow _))
    have hmem : h ∈ m.1.sh.held := by
      rw [hsh]
      exact List.mem_of_find?_eq_some hh
    rw [ht]
    exact List.mem_map.2 ⟨h, hmem, if_pos rfl⟩

theorem shardFree_drops : completes (.shardFree dev msg) s (shardAnswer (heldDrop s h) dev msg 0x16 []) := by
  refine congrArg (answer s) ((if_neg (by simp [hr])).trans ?_)
  rw [hh]

end

theorem heldDrop_held (s : State) (h : HeldShard) : h ∉ (heldDrop s h).sh.held := by
  have hh := congrArg ShardSt.held (sh_of_aside (asideOf_directoryShow
    (let s := beadUnref (mrDeregister s (h.key % 2 ^ 24)) h.bead
    { s with sh := { s.sh with held := s.sh.held.filter (· != h) } })))
  intro hm
  have := List.of_mem_filter (hh ▸ hm : h ∈ List.filter (· != h) _)
  simp at this

theorem shardFree_unknown {s : State} (hr : claspRuns s = true) {dev msg : Nat} (hh : heldOf s dev msg = none) :
    completes (.shardFree dev msg) s (shardAnswer s dev msg 0x16 []) := by
  refine congrArg (answer s) ((if_neg (by simp [hr])).trans ?_)
  rw [hh]

/-- Settles O59: the messages of the exchange, one after another. -/
theorem shardExchange : Obligations.ShardExchange := by
  refine ⟨fun s dev msg i hr => shardMessage_stopped hr dev msg, shardOffer_clauses, fun s dev msg => shardGrant_ignored,
    fun s dev msg q x hr hx hq => ⟨shardGrant_refused hr hx hq, shardGrant_writes hr hx hq⟩, fun s dev msg => shardHeld_ignored,
    fun s dev msg x hr => shardHeld_places hr, fun s dev msg => shardSeal_ignored, fun s dev msg h hr hh => ?_,
    fun s dev msg hr => shardFree_unknown hr, fun s dev msg hr => congrArg (answer s) (if_pos hr)⟩
  exact ⟨shardSeal_again hr hh, fun hs => ⟨shardSeal_noKey hr hh hs, shardSeal_seals hr hh hs⟩, shardFree_drops hr hh, heldDrop_held s h⟩

end Sys2Proof.Machine

/-! # Self-test slices, fences, expulsion and fatal errors (chapter 21, R421 to R445) -/

namespace Sys2Proof.Machine

/-! ## What fences and alerts leave as it was -/

section
variable (s : State)

theorem fenceRecord_frm (kind index cause : Nat) : (fenceRecord s kind index cause).frm = s.frm := by
  rw [fenceRecord, alert_eq, telemetry_ringPush_eq]

theorem alert_ft (b : Nat) : (alert s b).ft = s.ft := by rw [alert_eq]

theorem alert_frm (b : Nat) : (alert s b).frm = s.frm := by rw [alert_eq]

theorem fenceRecord_alert (kind index cause : Nat) : bitOf (od (fenceRecord s kind index cause) OD.ALERT_CAUSES) 11 = true := alert_bit _ _

/-- A cause bit that is set stays set as another alert is raised. -/
theorem alert_bit_mono {b : Nat} (c : Nat) (h : bitOf (od s OD.ALERT_CAUSES) b = true) : bitOf (od (alert s c) OD.ALERT_CAUSES) b = true := by
  obtain rfl | hne := eq_or_ne b c
  · exact alert_bit s b
  · unfold alert
    extract_lets w
    split
    · exact h
    · rw [od_of_od (msix_od _ _), od_odSet_same, bitOf_setBit_ne _ _ _ _ hne]
      exact h

/-- DEGRADED is an alert of its own and, outside suspect mode, HEALTH. -/
theorem degrade_frame : (degrade s).ft = s.ft ∧ (degrade s).frm = s.frm ∧ KeepsEntries [OD.HEALTH, OD.ALERT_CAUSES] s (degrade s) := by
  unfold degrade
  extract_lets t
  have ht : t.ft = s.ft ∧ t.frm = s.frm ∧ KeepsEntries [OD.HEALTH, OD.ALERT_CAUSES] s t := by
    by_cases h : od s OD.HEALTH = 2
    · rw [show t = s from if_pos h]
      exact ⟨rfl, rfl, .of_od rfl⟩
    · rw [show t = odSet s OD.HEALTH 1 from if_neg h]
      exact ⟨rfl, rfl, keepsEntries_odPut s (by decide) (by decide) 1⟩
  obtain ⟨hft, hfrm, hod⟩ := ht
  exact ⟨(alert_ft t 7).trans hft, (alert_frm t 7).trans hfrm, hod.trans (keepsEntries_alert (by decide) t 7)⟩

theorem degrade_alert {b : Nat} (h : bitOf (od s OD.ALERT_CAUSES) b = true) : bitOf (od (degrade s) OD.ALERT_CAUSES) b = true := by
  unfold degrade
  extract_lets t
  refine alert_bit_mono t 7 ?_
  by_cases hh : od s OD.HEALTH = 2
  · rwa [show t = s from if_pos hh]
  · rwa [show t = odSet s OD.HEALTH 1 from if_neg hh, od_odSet_ne s (e := OD.HEALTH) (e' := OD.ALERT_CAUSES) 1 (by decide)]

theorem coresCheck_frame : (coresCheck s).ft = s.ft ∧ (coresCheck s).frm = s.frm
    ∧ KeepsEntries [OD.HEALTH, OD.ALERT_CAUSES] s (coresCheck s) := by
  unfold coresCheck
  split
  · exact degrade_frame s
  · exact ⟨rfl, rfl, .of_od rfl⟩

theorem coresCheck_alert {b : Nat} (h : bitOf (od s OD.ALERT_CAUSES) b = true) : bitOf (od (coresCheck s) OD.ALERT_CAUSES) b = true := by
  unfold coresCheck
  split
  · exact degrade_alert s h
  · exact h

end

/-! ## Self-test slices (R421, R423, R425) -/

section
variable {s : State}

theorem flightOn_bistEnd (f : Flight) (status target slice slices block : Nat) (how : StepEnd) :
    flightOn (bistEnd s f status target slice slices block how) bistUnit = none := flightOn_finishStep_same _ _ _

/-- A core fenced by its test, before the cores that count are looked at. -/
def bistMarked (s : State) (c : Nat) : State := odAdd (fenceRecord (odPut s OD.CORE_MAP c 3) 0 c 1) OD.BIST_RESULTS (2 * c + 1) 1

theorem bistFail_cases (s : State) (c : Nat) : ∃ x : FaultSt, x.bistCore = 200 ∧ bistFail s c = coresCheck { bistMarked s c with ft := x } :=
  ⟨_, rfl, rfl⟩

theorem bistMarked_core (s : State) {c : Nat} (hc : c < 200) : odGet (bistMarked s c) OD.CORE_MAP c = 3 := by
  unfold bistMarked
  rw [odGet_odAdd_entry _ OD.BIST_RESULTS (2 * c + 1) 1 OD.CORE_MAP c (by decide) (by omega) (by omega),
    keepsEntries_fenceRecord _ 0 c 1 OD.CORE_MAP (by decide) c (by omega), odGet_odPut_same]

theorem bistMarked_alert (s : State) {c : Nat} (hc : c < 200) : bitOf (od (bistMarked s c) OD.ALERT_CAUSES) 11 = true := by
  unfold bistMarked
  rw [od_odAdd_ne _ (e := OD.BIST_RESULTS) (e' := OD.ALERT_CAUSES) 1 (by decide) (by omega)]
  exact fenceRecord_alert _ 0 c 1

theorem bistMarked_frm (s : State) (c : Nat) : (bistMarked s c).frm = s.frm := by
  rw [bistMarked, odAdd_frm, fenceRecord_frm, odPut_frm]

theorem odGet_withFt (s : State) (x : FaultSt) (e i : Nat) : odGet { s with ft := x } e i = odGet s e i := rfl

theorem frm_withFt (s : State) (x : FaultSt) : ({ s with ft := x } : State).frm = s.frm := rfl

theorem bistFail_core (s : State) {c : Nat} (hc : c < 200) : odGet (bistFail s c) OD.CORE_MAP c = 3 := by
  obtain ⟨x, -, h⟩ := bistFail_cases s c
  rw [h, (coresCheck_frame _).2.2 OD.CORE_MAP (by decide) c (by omega), odGet_withFt, bistMarked_core s hc]

theorem bistFail_alert (s : State) {c : Nat} (hc : c < 200) : bitOf (od (bistFail s c) OD.ALERT_CAUSES) 11 = true := by
  obtain ⟨x, -, h⟩ := bistFail_cases s c
  rw [h]
  refine coresCheck_alert _ ?_
  rw [od, odGet_withFt]
  exact bistMarked_alert s hc

theorem bistFail_noTest (s : State) (c : Nat) : (bistFail s c).ft.bistCore = 200 := by
  obtain ⟨x, hx, h⟩ := bistFail_cases s c
  rw [h, (coresCheck_frame _).1, hx]

theorem flightOn_bistFail (s : State) (c u : Nat) : flightOn (bistFail s c) u = flightOn s u := by
  obtain ⟨x, -, h⟩ := bistFail_cases s c
  rw [h, flightOn, (coresCheck_frame _).2.1, frm_withFt, bistMarked_frm, flightOn]

variable {f : Flight} (hf : flightOn s bistUnit = some f) (block : Nat)
include hf

theorem slice_badOp (hop : getF f.step StepRec.OPCODE ≠ 1) :
    completes (.slice block) s (bistEnd s f 4 (bistTarget s) 0 0 0 .untouched) := by
  show execSlice block s = _
  rw [execSlice, hf]
  exact if_pos hop

variable (hop : getF f.step StepRec.OPCODE = 1)
include hop

/-- A slice whose step is a BIST step: its descriptor read, then the checks in order. -/
theorem slice_reads : execSlice block s =
    let d := readRec s (stepReader f) (getF f.step StepRec.DESC_ADDR) 64
    let n := getF d.2.1 BistDesc.SLICE_CLK
    if d.2.2.1 ≠ 0 then answer s (bistEnd d.1 f 5 (bistTarget d.1) 0 0 0 .unread)
    else if n < 2000 ∨ 100000 < n ∨ n % 2000 ≠ 0 then answer s (bistEnd d.1 f 7 (bistTarget d.1) 0 0 0 .untouched)
    else if d.1.ft.bistCore = 200 ∨ od d.1 OD.BIST_ENABLE = 0 then answer s (bistEnd d.1 f 0 (bistTarget d.1) 0 0 0 .done)
    else
      let c := d.1.ft.bistCore
      let total := if d.1.ft.bistTotal = 0 then cdiv 384000 n else d.1.ft.bistTotal
      let done := if f.carried then d.1.ft.bistSlices else d.1.ft.bistSlices + 1
      if block ≠ 0 then answer s (bistFail (bistEnd d.1 f 0xD c done total block .done) c)
      else
        let t := bistEnd d.1 f 0 c done total 0 .done
        answer s { t with ft := { t.ft with bistSlices := done, bistTotal := total } } := by
  rw [execSlice, hf]
  exact if_neg (by simp [hop])

end

/-- A slice read, checked and run on the core under test. -/
theorem slice_clauses (s : State) (block : Nat) (f : Flight) (hf : flightOn s bistUnit = some f) :
    let d := readRec s (stepReader f) (getF f.step StepRec.DESC_ADDR) 64
    let n := getF d.2.1 BistDesc.SLICE_CLK
    let bad := n < 2000 ∨ 100000 < n ∨ n % 2000 ≠ 0
    (getF f.step StepRec.OPCODE ≠ 1 → completes (.slice block) s (bistEnd s f 4 (bistTarget s) 0 0 0 .untouched))
    ∧ (getF f.step StepRec.OPCODE = 1 → (d.2.2.1 ≠ 0 → completes (.slice block) s (bistEnd d.1 f 5 (bistTarget d.1) 0 0 0 .unread))
      ∧ (d.2.2.1 = 0 → bad → completes (.slice block) s (bistEnd d.1 f 7 (bistTarget d.1) 0 0 0 .untouched))
      ∧ (d.2.2.1 = 0 → ¬ bad → d.1.ft.bistCore = 200 ∨ od d.1 OD.BIST_ENABLE = 0 →
        completes (.slice block) s (bistEnd d.1 f 0 (bistTarget d.1) 0 0 0 .done))
      ∧ (d.2.2.1 = 0 → ¬ bad → d.1.ft.bistCore < 200 → od d.1 OD.BIST_ENABLE ≠ 0 → let c := d.1.ft.bistCore
        let total := if d.1.ft.bistTotal = 0 then cdiv 384000 n else d.1.ft.bistTotal
        let done := if f.carried then d.1.ft.bistSlices else d.1.ft.bistSlices + 1
        (block = 0 → let t := bistEnd d.1 f 0 c done total 0 .done
          completes (.slice block) s { t with ft := { t.ft with bistSlices := done, bistTotal := total } } ∧ flightOn t bistUnit = none)
        ∧ (block ≠ 0 → let t := bistFail (bistEnd d.1 f 0xD c done total block .done) c
          completes (.slice block) s t ∧ flightOn t bistUnit = none ∧ odGet t OD.CORE_MAP c = 3 ∧ t.ft.bistCore = 200
          ∧ bitOf (od t OD.ALERT_CAUSES) 11 = true))) := by
  refine ⟨slice_badOp hf block, fun hop => ?_⟩
  have hread := slice_reads hf block hop
  refine ⟨fun hm => ?_, fun hm hb => ?_, fun hm hb ht => ?_, fun hm hb hc he => ⟨fun hbl => ⟨?_, ?_⟩, fun hbl => ⟨?_, ?_, ?_, ?_, ?_⟩⟩⟩
  · exact hread.trans (if_pos hm)
  · exact hread.trans ((if_neg (not_not_intro hm)).trans (if_pos hb))
  · exact hread.trans ((if_neg (not_not_intro hm)).trans ((if_neg hb).trans (if_pos ht)))
  · have htest : ¬ (_ = 200 ∨ _ = 0) := not_or.2 ⟨hc.ne, he⟩
    exact hread.trans ((if_neg (not_not_intro hm)).trans ((if_neg hb).trans ((if_neg htest).trans (if_neg (not_not_intro hbl)))))
  · exact flightOn_bistEnd _ _ _ _ _ _ _
  · have htest : ¬ (_ = 200 ∨ _ = 0) := not_or.2 ⟨hc.ne, he⟩
    exact hread.trans ((if_neg (not_not_intro hm)).trans ((if_neg hb).trans ((if_neg htest).trans (if_pos hbl))))
  · exact (flightOn_bistFail _ _ _).trans (flightOn_bistEnd _ _ _ _ _ _ _)
  · exact bistFail_core _ hc
  · exact bistFail_noTest _ _
  · exact bistFail_alert _ hc

theorem slice_idle (s : State) (block : Nat) (hf : flightOn s bistUnit = none) : completes (.slice block) s s := by
  show execSlice block s = _
  rw [execSlice, hf]
  rfl

/-! ## Engines (R428, R430) -/

theorem engineFence_again {s : State} {k : Nat} (h : odGet s OD.ENGINE_MAP k = 3) (cause : Nat) : engineFence s k cause = s := if_pos h

/-- An engine fenced: its record, the frame, the alert. -/
theorem engineFence_fences {s : State} {k : Nat} (hk : k < 8) (h : odGet s OD.ENGINE_MAP k ≠ 3) (cause : Nat) : let t := engineFence s k cause
    odGet t OD.ENGINE_MAP k = 3 ∧ kfind t.ft.engineFault k = some (frameNo s) ∧ bitOf (od t OD.ALERT_CAUSES) 11 = true ∧ t.mem = s.mem := by
  obtain ⟨u, hu⟩ : ∃ u, u = fenceRecord (odPut s OD.ENGINE_MAP k 3) 1 k cause := ⟨_, rfl⟩
  have ht : engineFence s k cause = { u with ft := { u.ft with engineFault := kput u.ft.engineFault k (frameNo u) } } := by
    rw [hu]
    exact if_neg h
  have hkeep : KeepsEntries fenceEntries (odPut s OD.ENGINE_MAP k 3) u := hu ▸ keepsEntries_fenceRecord _ 1 k cause
  have hframe : frameNo u = frameNo s := (hkeep.od (e := OD.FRAME_NUMBER) (by decide)).trans
    (odGet_odPut_entry s OD.ENGINE_MAP k 3 OD.FRAME_NUMBER 0 (by decide) (by omega) (by decide))
  intro t
  rw [show t = _ from ht]
  refine ⟨?_, ?_, ?_, ?_⟩
  · exact (hkeep OD.ENGINE_MAP (by decide) k (by omega)).trans (odGet_odPut_same _ _ _ _)
  · exact (kfind_kput_same _ _ _).trans (congrArg some hframe)
  · exact (congrArg (fun x => bitOf (od x OD.ALERT_CAUSES) 11) hu).trans (fenceRecord_alert _ 1 k cause)
  · exact (congrArg State.mem hu).trans ((fenceRecord_mem _ 1 k cause).trans (odPut_mem s _ _ _))

/-! ## Devices seen expelled (R437) -/

theorem expelShow_frame (s : State) : { expelShow s with od := s.od } = s := by
  rw [expelShow, odPuts_eq]

theorem keepsEntries_expelShow (s : State) : KeepsEntries [OD.EXPELLED_IN_WINDOW] s (expelShow s) := by
  unfold expelShow
  extract_lets l
  refine keepsEntries_odPuts s (by decide) _ ?_
  have hl : l.length ≤ 8 := List.length_take_le _ _
  simp only [List.length_append, List.length_replicate]
  omega

theorem noteExpelled_again {s : State} {dev : Nat} (h : (expelledNow s).contains dev = true) : noteExpelled s dev = s := if_pos h

/-- A device noted: it is among those seen in the window. -/
theorem noteExpelled_notes {s : State} {dev : Nat} (h : (expelledNow s).contains dev = false) : let t := noteExpelled s dev
    t.ft.expelled = s.ft.expelled ++ [(dev, frameNo s)] ∧ { t with od := s.od, ft := s.ft } = s ∧ dev ∈ expelledNow t := by
  obtain ⟨u, hu⟩ : ∃ u : State, u = { s with ft := { s.ft with expelled := s.ft.expelled ++ [(dev, frameNo s)] } } := ⟨_, rfl⟩
  have ht : noteExpelled s dev = expelShow u := by
    rw [hu]
    exact if_neg (ne_true_of_eq_false h)
  intro t
  rw [show t = _ from ht]
  have hframe := expelShow_frame u
  have hft : (expelShow u).ft = u.ft := (congrArg State.ft hframe : _)
  have hexp : (expelShow u).ft.expelled = s.ft.expelled ++ [(dev, frameNo s)] := by rw [hft, hu]
  have hnow : frameNo (expelShow u) = frameNo s :=
    ((keepsEntries_expelShow u).od (e := OD.FRAME_NUMBER) (by decide)).trans (od_of_od (congrArg State.od hu) _)
  refine ⟨hexp, ?_, ?_⟩
  · have := congrArg (fun x : State => { x with od := s.od, ft := s.ft }) hframe
    rw [hu] at this ⊢
    exact this
  · refine List.mem_map.2 ⟨(dev, frameNo s), List.mem_filter.2 ⟨?_, ?_⟩, rfl⟩
    · rw [hexp]
      exact List.mem_append_right _ (List.mem_singleton_self _)
    · rw [hnow]
      exact beq_self_eq_true _

theorem expelled_completes (s : State) (dev : Nat) : completes (.expelled dev) s (noteExpelled s dev) := rfl

/-! ## The end of an expulsion's drain (R438) -/

section
variable (s : State)

/-- Leaving the coherent domain ends with COH_STATE 1, whatever it was. -/
theorem cohDown_frame : od (cohDown s) OD.COH_STATE = 1 ∧ (cohDown s).ft = s.ft ∧ (cohDown s).frm = s.frm := by
  unfold cohDown
  split
  · next h => exact ⟨h, rfl, rfl⟩
  · extract_lets s1 s2 ended fab s3
    obtain ⟨c, q, h⟩ : ∃ c q, s2 = { s1 with freeCtr := c, txq := q } := domainNotices_changes s1 _
    have hod : s3.od = s1.od := (congrArg State.od h :)
    have hft : s3.ft = s.ft := (congrArg State.ft h :)
    have hfrm : s3.frm = s.frm := (congrArg State.frm h :)
    refine ⟨?_, (alert_ft s3 1).trans hft, (alert_frm s3 1).trans hfrm⟩
    rw [od, alert_od_ne s3 1 _ _ (by decide) (by decide), odGet_of_od hod, odGet_odAdd_entry _ OD.COH_COUNTS 5 1 OD.COH_STATE 0 (by decide) (by decide) (by decide)]
    exact od_odSet_same _ _ _

theorem linkState_linkDisable_ne {k l : Nat} (hl : l < 64) (hne : l ≠ k) : linkState (linkDisable s k) l = linkState s l := by
  rw [linkDisable, linkState, odGet_of_od (setLnk_od _ _ _), odGet_odPut_elem _ _ _ _ _ hne, odGet_of_od (vc0_od _ _ _ _),
    keepsEntries_linkDiscard _ _ OD.LINK_STATE (by decide) l (by omega)]
  exact odGet_odPut_entry s OD.LINK_ENABLE 0 _ OD.LINK_STATE l (by decide) (by decide) (by omega)

theorem bitOf_linkEnable_linkDisable_ne {k l : Nat} (hk : k < 64) (hne : l ≠ k) : bitOf (od (linkDisable s k) OD.LINK_ENABLE) l = bitOf (od s OD.LINK_ENABLE) l := by
  have hdiscard := keepsEntries_linkDiscard (linkBit s k false) k OD.LINK_ENABLE (by decide) 0 (by decide)
  rw [linkDisable, od, odGet_of_od (setLnk_od _ _ _), odGet_odPut_entry _ _ _ _ _ _ (by decide) (by omega) (by decide),
    odGet_of_od (vc0_od _ _ _ _)]
  refine (congrArg (bitOf · l) hdiscard).trans ?_
  rw [linkBit, odGet_odPut_same, bitOf_setBit_ne _ _ _ _ hne]

end

/-- Links disabled one after another are all disabled. -/
theorem linksDisabled (s : State) {n : Nat} (hn : n ≤ 64) {l : Nat} (hl : l < n) :
    linkState ((List.range n).foldl linkDisable s) l = 0 ∧ bitOf (od ((List.range n).foldl linkDisable s) OD.LINK_ENABLE) l = false := by
  induction n with
  | zero => cases hl
  | succ n ih =>
    rw [List.range_succ, List.foldl_append, List.foldl_cons, List.foldl_nil]
    obtain rfl | hne := eq_or_ne l n
    · exact ⟨linkState_linkDisable _ _, bitOf_linkEnable_linkDisable _ (by omega)⟩
    · rw [linkState_linkDisable_ne _ (by omega) hne, bitOf_linkEnable_linkDisable_ne _ (by omega) hne]
      exact ih (by omega) (by omega)

/-- EXPEL_DRAIN_END while an expulsion drains; `x` is the state with every link disabled. -/
theorem expelDrainEnd_completes {s x : State} {c : Nat} (hc : s.ft.expelFrame = some c) (hx : (List.range 64).foldl linkDisable s = x) :
    completes .expelDrainEnd s (if s.frm.flights = [] ∨ c + od s OD.DRAIN_LIMIT_CLK ≤ s.clk then
      cohDown { x with ft := { x.ft with expelFrame := none }, frm := { x.frm with flights := [] }, en := { x.en with savedEnable := 0 } }
    else s) := by
  subst hx
  show execExpelDrainEnd s = _
  rw [execExpelDrainEnd, hc]
  rfl

/-- The drain that ends: nothing in flight, every link disabled, the domain down. -/
theorem expelDrainEnd_ends {s : State} {c : Nat} (hc : s.ft.expelFrame = some c)
    (h : s.frm.flights = [] ∨ c + od s OD.DRAIN_LIMIT_CLK ≤ s.clk) : let x := (List.range 64).foldl linkDisable s
    let t := cohDown { x with ft := { x.ft with expelFrame := none }, frm := { x.frm with flights := [] }, en := { x.en with savedEnable := 0 } }
    completes .expelDrainEnd s t ∧ t.frm.flights = [] ∧ t.ft.expelFrame = none ∧ od t OD.COH_STATE = 1
      ∧ ∀ l < 64, odGet t OD.LINK_STATE l = 0 ∧ bitOf (od t OD.LINK_ENABLE) l = false := by
  obtain ⟨y, hy⟩ : ∃ y, (List.range 64).foldl linkDisable s = y := ⟨_, rfl⟩
  have hend := expelDrainEnd_completes hc hy
  have hlinks : ∀ l < 64, linkState y l = 0 ∧ bitOf (od y OD.LINK_ENABLE) l = false := fun l hl => hy ▸ linksDisabled s (Nat.le_refl 64) hl
  rw [if_pos h] at hend
  rw [hy]
  obtain ⟨hcoh, hft, hfrm⟩ := cohDown_frame
    { y with ft := { y.ft with expelFrame := none }, frm := { y.frm with flights := [] }, en := { y.en with savedEnable := 0 } }
  have hkeep := keepsEntries_cohDown
    { y with ft := { y.ft with expelFrame := none }, frm := { y.frm with flights := [] }, en := { y.en with savedEnable := 0 } }
  refine ⟨hend, congrArg FrameSt.flights hfrm, congrArg FaultSt.expelFrame hft, hcoh, fun l hl => ?_⟩
  obtain ⟨hstate, henable⟩ := hlinks l hl
  refine ⟨(hkeep OD.LINK_STATE (by decide) l (by omega)).trans hstate, ?_⟩
  exact (congrArg (bitOf · l) (hkeep.od (e := OD.LINK_ENABLE) (by decide))).trans henable

theorem expelDrainEnd_waits {s : State} {c : Nat} (hc : s.ft.expelFrame = some c) (hf : s.frm.flights ≠ [])
    (hclk : s.clk < c + od s OD.DRAIN_LIMIT_CLK) : completes .expelDrainEnd s s := by
  have hend := expelDrainEnd_completes hc rfl
  rwa [if_neg (not_or.2 ⟨hf, Nat.not_le.2 hclk⟩)] at hend

theorem expelDrainEnd_none {s : State} (hc : s.ft.expelFrame = none) : completes .expelDrainEnd s s := by
  show execExpelDrainEnd s = _
  rw [execExpelDrainEnd, hc]
  rfl

/-! ## Fatal errors (R444, R445) -/

theorem fatal_again {s : State} (h : od s OD.DEVICE_STATE = 3) (cause detail : Nat) : fatal s cause detail = s := if_pos h

/-- DEVICE_STATE and the cause of a fatal error set, and the stack of cause 5 down. -/
def fatalRecorded (s : State) (cause detail : Nat) : State :=
  let x := odSet (odSet (bar2Lose s) OD.DEVICE_STATE 3) OD.FATAL_CAUSE (mkRec [(fld 31 24, cause), (fld 23 0, detail)])
  if cause = 5 then odPut x OD.STACK_MAP (detail % 8) 3 else x

theorem od_odClear_odSet_congr {s t : State} (h : t.od = s.od) (e v e' : Nat) :
    (odClear (odSet t e v) e').od = (odClear (odSet s e v) e').od := by
  simp only [odClear, odPut, h]

/-- A fatal error: what it records, the links down, no step in flight, FATAL raised, condition 0 breached. -/
theorem fatal_cases {s : State} (h : od s OD.DEVICE_STATE ≠ 3) (cause detail : Nat) : ∃ u : State,
    u.od = (odClear (odSet (fatalRecorded s cause detail) OD.LINK_ENABLE 0) OD.LINK_STATE).od ∧ u.frm.flights = []
    ∧ fatal s cause detail = breach (alert u 14) 0 := by
  unfold fatal
  rw [if_neg h]
  extract_lets s1 s2 s3 f s4 s5 n s6 a s7 s8 s9
  have h8 : s8.od = s7.od ∧ s8.frm = s7.frm := by
    show (ite _ _ _ : State).od = _ ∧ (ite _ _ _ : State).frm = _
    split <;> exact ⟨rfl, rfl⟩
  obtain ⟨hod, hfrm⟩ := h8
  have h4 : s4.od = (fatalRecorded s cause detail).od := rfl
  exact ⟨s8, hod.trans (od_odClear_odSet_congr h4 _ _ _), congrArg FrameSt.flights hfrm, rfl⟩

theorem fatalRecorded_od (s : State) (cause detail : Nat) : od (fatalRecorded s cause detail) OD.DEVICE_STATE = 3
    ∧ od (fatalRecorded s cause detail) OD.FATAL_CAUSE = mkRec [(fld 31 24, cause), (fld 23 0, detail)]
    ∧ (cause = 5 → odGet (fatalRecorded s cause detail) OD.STACK_MAP (detail % 8) = 3) := by
  unfold fatalRecorded
  extract_lets x
  have hstate : od x OD.DEVICE_STATE = 3 := (od_odSet_ne _ (e := OD.FATAL_CAUSE) _ (by decide)).trans (od_odSet_same _ _ _)
  have hcause : od x OD.FATAL_CAUSE = mkRec [(fld 31 24, cause), (fld 23 0, detail)] := od_odSet_same _ _ _
  have hmap : detail % 8 < 2 ^ 24 := (Nat.mod_lt _ (by decide)).trans (by decide)
  split
  · have hkeep : KeepsEntries [OD.STACK_MAP] x (odPut x OD.STACK_MAP (detail % 8) 3) := keepsEntries_odPut x (by decide) hmap 3
    exact ⟨(hkeep.od (by decide)).trans hstate, (hkeep.od (by decide)).trans hcause, fun _ => odGet_odPut_same _ _ _ _⟩
  · next h => exact ⟨hstate, hcause, fun h5 => absurd h5 h⟩

/-- A record of two fields that meet at bit `n`. -/
theorem mkRec_adjacent {f g : Fld} {n : Nat} (hf : f.lo = n) (hg : g.lo = 0) (hw : g.width = n) (a b : Nat) :
    mkRec [(f, a), (g, b)] = a % 2 ^ f.width * 2 ^ n + b % 2 ^ n := by
  have hset : setF 0 f a = a % 2 ^ f.width * 2 ^ n := by
    rw [setF, hf, Nat.zero_div, Nat.zero_mul, Nat.zero_mod, Nat.zero_add, Nat.add_zero]
  show setF (setF 0 f a) g b = _
  rw [hset, setF, hg, hw, Nat.zero_add, pow_zero, Nat.mod_one, Nat.mul_one, Nat.add_zero, Nat.mul_div_cancel _ (Nat.two_pow_pos n)]

theorem fatalCause_eq {cause : Nat} (hc : cause ≤ 6) (detail : Nat) :
    mkRec [(fld 31 24, cause), (fld 23 0, detail)] = cause * 2 ^ 24 + detail % 2 ^ 24 := by
  have hcause : cause % 2 ^ (fld 31 24).width = cause := Nat.mod_eq_of_lt (hc.trans_lt (by decide))
  rw [mkRec_adjacent (n := 24) rfl rfl rfl, hcause]

theorem fatal_clauses {s : State} (h : od s OD.DEVICE_STATE ≠ 3) {cause : Nat} (hc : cause ≤ 6) (detail : Nat) : let t := fatal s cause detail
    od t OD.DEVICE_STATE = 3 ∧ od t OD.FATAL_CAUSE = cause * 2 ^ 24 + detail % 2 ^ 24 ∧ t.frm.flights = [] ∧ od t OD.LINK_ENABLE = 0
    ∧ bitOf (od t OD.ALERT_CAUSES) 14 = true ∧ bitOf (od t OD.GUARANTEE_CONDITIONS) 0 = true ∧ t.mem = s.mem
    ∧ (cause = 5 → odGet t OD.STACK_MAP (detail % 8) = 3) := by
  obtain ⟨u, hod, hfl, ht⟩ := fatal_cases h cause detail
  obtain ⟨hstate, hcause, hmap⟩ := fatalRecorded_od s cause detail
  have hclear : KeepsEntries [OD.LINK_STATE] (odSet (fatalRecorded s cause detail) OD.LINK_ENABLE 0) u := fun e he i hi =>
    (odGet_of_od hod e i).trans (odGet_odClear_entry _ _ e i (fun h => he (h ▸ List.mem_singleton_self _)) hi)
  have hlast : KeepsEntries [OD.ALERT_CAUSES, OD.GUARANTEE_CONDITIONS] u (breach (alert u 14) 0) :=
    (keepsEntries_alert (by decide) u 14).trans (keepsEntries_odPut _ (by decide) (by decide) _)
  have hlinks : KeepsEntries [OD.LINK_ENABLE, OD.LINK_STATE] (fatalRecorded s cause detail) u :=
    (keepsEntries_odPut _ (by decide) (by decide) 0).trans (hclear.mono (by decide))
  have hall : KeepsEntries [OD.LINK_ENABLE, OD.LINK_STATE, OD.ALERT_CAUSES, OD.GUARANTEE_CONDITIONS] (fatalRecorded s cause detail)
      (breach (alert u 14) 0) := (hlinks.mono (by decide)).trans (hlast.mono (by decide))
  have hm : detail % 8 < 2 ^ 24 := (Nat.mod_lt _ (by decide)).trans (by decide)
  intro t
  refine ⟨?_, ?_, ?_, ?_, ?_, ?_, fatal_mem s cause detail, fun h5 => ?_⟩ <;> rw [show t = _ from ht]
  · exact (hall.od (e := OD.DEVICE_STATE) (by decide)).trans hstate
  · exact (hall.od (e := OD.FATAL_CAUSE) (by decide)).trans (hcause.trans (fatalCause_eq hc detail))
  · exact (congrArg FrameSt.flights (alert_frm u 14)).trans hfl
  · exact (hlast.od (e := OD.LINK_ENABLE) (by decide)).trans ((hclear.od (e := OD.LINK_ENABLE) (by decide)).trans (od_odSet_same _ _ _))
  · exact (congrArg (bitOf · 14) (od_odSet_ne _ (e := OD.GUARANTEE_CONDITIONS) (e' := OD.ALERT_CAUSES) _ (by decide))).trans (alert_bit u 14)
  · exact (congrArg (bitOf · 0) (od_odSet_same _ OD.GUARANTEE_CONDITIONS _)).trans (bitOf_setBit_same _ _ _)
  · exact (hall OD.STACK_MAP (by decide) _ hm).trans (hmap h5)

/-! ## Suspect mode (R434, R435) -/

theorem asideOf_prefixClear (s : State) : asideOf (prefixClear s) = asideOf s := by
  unfold prefixClear
  split
  · rfl
  · refine asideOf_foldl s _ (fun t u => ?_) _
    extract_lets b kept t1
    exact asideOf_ite t ((asideOf_beadUnref t1 b).trans (asideOf_prefixDrop t b)) (asideOf_prefixDrop t b)

theorem suspectEnter_suspect (s : State) : (suspectEnter s).ft.suspect = true := by
  unfold suspectEnter
  extract_lets f t
  have h : asideOf (prefixClear (alert (odSet t OD.HEALTH 2) 12)) = asideOf t :=
    (asideOf_prefixClear _).trans ((asideOf_alert _ 12).trans (asideOf_odPut t _ _ _))
  exact (congrArg Aside.suspect h :)

/-- With no bank of prefixes, HEALTH and the alert are all that the dictionary shows of it. -/
theorem suspectEnter_alert {s : State} (h : kindGroup s 2 = none) :
    od (suspectEnter s) OD.HEALTH = 2 ∧ bitOf (od (suspectEnter s) OD.ALERT_CAUSES) 12 = true := by
  obtain ⟨u, hu⟩ : ∃ u : State, u = { s with ft := { s.ft with suspect := true, suspectEnding := false } } := ⟨_, rfl⟩
  have hkeep : KeepsEntries [OD.HEALTH, OD.ALERT_CAUSES] s (alert (odSet u OD.HEALTH 2) 12) :=
    ((KeepsEntries.of_od (congrArg State.od hu)).trans (keepsEntries_odPut u (by decide) (by decide) 2)).trans
      (keepsEntries_alert (by decide) _ 12)
  have hgroup : kindGroup (alert (odSet u OD.HEALTH 2) 12) 2 = none := by
    have hbank : ∀ b < 32, odGet (alert (odSet u OD.HEALTH 2) 12) OD.BANK_CONFIG b = odGet s OD.BANK_CONFIG b :=
      fun b hb => hkeep _ (by decide) b (by omega)
    simp only [kindGroup, Option.map_eq_none_iff, List.find?_eq_none, List.mem_range, bankKind, recF] at h ⊢
    intro b hb
    rw [hbank b hb]
    exact h b hb
  have ht : suspectEnter s = alert (odSet u OD.HEALTH 2) 12 := by
    rw [suspectEnter, ← hu, prefixClear, hgroup]
  rw [ht]
  refine ⟨?_, alert_bit _ 12⟩
  rw [od, alert_od_ne _ 12 _ _ (by decide) (by decide)]
  exact od_odSet_same u _ _

theorem derate_clauses (s : State) (v : Nat) : let w := derate s v
    (v = 1 → w.status = 0 ∧ w.st = suspectEnter s ∧ w.st.ft.suspect = true
      ∧ (kindGroup s 2 = none → od w.st OD.HEALTH = 2 ∧ bitOf (od w.st OD.ALERT_CAUSES) 12 = true))
    ∧ (v = 0 → w.status = 0 ∧ w.st = { s with ft := { s.ft with suspectEnding := s.ft.suspect } })
    ∧ (1 < v → w.status = 4 ∧ w.st = s) := by
  refine ⟨?_, ?_, fun hv => ?_⟩
  · rintro rfl
    exact ⟨rfl, rfl, suspectEnter_suspect s, suspectEnter_alert⟩
  · rintro rfl
    exact ⟨rfl, rfl⟩
  · rw [derate, if_pos hv]
    exact ⟨rfl, rfl⟩

/-! ## Regions (R428, R429) -/

theorem regionIndex_lt (v : Nat) : v / 128 % 8 * 128 + v % 128 < 2 ^ 24 := by omega

theorem descRaw_od (s : State) (b : Nat) (f : List (Fld × Nat)) : (descRaw s b f).od = s.od := by
  unfold descRaw
  split <;> rfl

theorem relink_od (s : State) (k : Nat) (l : List Nat) : (relink s k l).od = s.od := by
  induction l generalizing s with
  | nil => rfl
  | cons a l ih =>
    cases l with
    | nil => exact descRaw_od s _ _
    | cons b l => exact (ih _).trans (descRaw_od s _ _)

theorem keepsEntries_beadFence (s : State) (b : Nat) : KeepsEntries [OD.BEAD_STATE_COUNTS] s (beadFence s b) := by
  unfold beadFence
  extract_lets st cls k r c p s1 s2
  have h2 : s2.od = s.od := (relink_od _ _ c).trans (relink_od s1 _ r)
  have hc : cls < 8 := getF_lt _ BeadDesc.CLASS
  have hs : st < 8 := getF_lt _ BeadDesc.STATE
  have hk : listKey cls (beadStack b) < 64 := by
    have := beadStack_lt b
    rw [listKey]
    omega
  have hmove : KeepsEntries [OD.BEAD_STATE_COUNTS] s2 (countMove s2 cls (beadStack b) st 5) :=
    (keepsEntries_odPut s2 (by decide) (by omega) _).trans (keepsEntries_odPut _ (by decide) (by omega) _)
  exact .ite (((KeepsEntries.of_od h2).trans hmove).trans (.of_od (descRaw_od _ _ _))) (.of_od rfl)

theorem fenceRegion_cases {s : State} {k g : Nat} (h : regionFenced s k g = false) (cause : Nat) :
    ∃ u : State, u.od = (odPut s OD.REGION_MAP (k * 128 + g) 3).od
      ∧ fenceRegion s k g cause = fenceRecord ((regionBeads u k g).foldl beadFence u) 2 (k * 128 + g) cause :=
  ⟨{ odPut s OD.REGION_MAP (k * 128 + g) 3 with
      mc := { s.mc with fencedClk := kput s.mc.fencedClk (k * 128 + g) s.clk } }, rfl, if_neg (ne_true_of_eq_false h)⟩

theorem fenceRegion_fences {s : State} {k g : Nat} (hi : k * 128 + g < 2 ^ 24) (h : regionFenced s k g = false) (cause : Nat) :
    odGet (fenceRegion s k g cause) OD.REGION_MAP (k * 128 + g) = 3 ∧ bitOf (od (fenceRegion s k g cause) OD.ALERT_CAUSES) 11 = true := by
  obtain ⟨u, hu, ht⟩ := fenceRegion_cases h cause
  rw [ht]
  refine ⟨?_, fenceRecord_alert _ _ _ _⟩
  rw [keepsEntries_fenceRecord _ _ _ _ OD.REGION_MAP (by decide) _ hi,
    KeepsEntries.foldl beadFence keepsEntries_beadFence _ u OD.REGION_MAP (by decide) _ hi, odGet_of_od hu, odGet_odPut_same]

theorem fenceRegionWrite_clauses (s : State) (v : Nat) : let w := fenceRegionWrite s v
    let k := v / 128 % 8; let g := v % 128
    w.status = 0 ∧ odGet w.st OD.REGION_MAP (k * 128 + g) = 3 ∧ (regionFenced s k g = true → w.st = s)
    ∧ (regionFenced s k g = false → w.st = fenceRegion s k g 7 ∧ bitOf (od w.st OD.ALERT_CAUSES) 11 = true) := by
  intro w k g
  have hi : k * 128 + g < 2 ^ 24 := regionIndex_lt v
  refine ⟨rfl, ?_, fun h => if_pos h, fun h => ⟨rfl, (fenceRegion_fences hi h 7).2⟩⟩
  cases h : regionFenced s k g
  · exact (fenceRegion_fences hi h 7).1
  · rw [show w.st = s from if_pos h]
    exact beq_iff_eq.1 h

/-! ## Expulsion (R436 to R438) -/

theorem expelShow_ft (s : State) : (expelShow s).ft = s.ft := (congrArg State.ft (expelShow_frame s) :)

theorem expelShow_frm (s : State) : (expelShow s).frm = s.frm := (congrArg State.frm (expelShow_frame s) :)

/-- A device noted leaves the drain and the steps as they are. -/
theorem noteExpelled_drain (s : State) (dev : Nat) : (noteExpelled s dev).frm = s.frm ∧ (noteExpelled s dev).ft.expelFrame = s.ft.expelFrame := by
  unfold noteExpelled
  split
  · exact ⟨rfl, rfl⟩
  · rw [expelShow_frm, expelShow_ft]
    exact ⟨rfl, rfl⟩

/-- The members told of an expulsion: messages wait, nothing else changes. -/
theorem expelNotices_changes (s : State) (l : List Nat) : ∃ c q,
    l.foldl (fun t k => if k = ownSlot t then t else sendMgmtSlot t 8 k (frameNo t) []) s = { s with freeCtr := c, txq := q } := by
  refine List.foldlRecOn (motive := fun t => ∃ c q, t = { s with freeCtr := c, txq := q }) _ _ ⟨s.freeCtr, s.txq, rfl⟩ ?_
  rintro t ⟨c, q, rfl⟩ k -
  split
  · exact ⟨c, q, rfl⟩
  · exact sendMgmtSlot_changes { s with freeCtr := c, txq := q } ..

theorem expelHonour_drains (s : State) : (expelHonour s).frm.stopped = true ∧ (expelHonour s).ft.expelFrame = some s.clk := by
  unfold expelHonour
  extract_lets f m s1 s2 s3
  obtain ⟨c, q, h⟩ : ∃ c q, s2 = { s1 with freeCtr := c, txq := q } := expelNotices_changes s1 _
  obtain ⟨hfrm, hft⟩ := noteExpelled_drain (alert s3 13) (ownDevice s3)
  have h3 : s3.frm.stopped = true ∧ s3.ft.expelFrame = some s.clk :=
    ⟨(congrArg (fun x : State => x.frm.stopped) h :), (congrArg (fun x : State => x.ft.expelFrame) h :)⟩
  obtain ⟨hstop, hclk⟩ := h3
  clear_value s3
  rw [hfrm, hft, alert_frm, alert_ft]
  exact ⟨hstop, hclk⟩

theorem fenceCommand_clauses (s : State) (data : List Byte) : let h := leNat (data.take 64)
    let w := fenceCommand s data; let n := getF h FenceCmd.APPROVALS; let t := drawNonce s OD.FENCE_NONCE
    (getF h FenceCmd.MAGIC ≠ 0x444E4645 ∨ n = 0 ∨ 8 < n ∨ getF h FenceCmd.TARGET ≠ ownDevice s → w.status = 4 ∧ w.st = t)
    ∧ (getF h FenceCmd.MAGIC = 0x444E4645 → 1 ≤ n → n ≤ 8 → getF h FenceCmd.TARGET = ownDevice s → data.length = 64 + 392 * n →
      (getF h FenceCmd.NONCE ≠ nonceOf s OD.FENCE_NONCE → w.status = 5 ∧ w.reason = 0x10 ∧ w.st = t)
      ∧ (getF h FenceCmd.NONCE = nonceOf s OD.FENCE_NONCE →
        ((approvals s n data).length < od s OD.QUORUM → w.status = 5 ∧ w.reason = 0x13 ∧ w.st = t)
        ∧ (od s OD.QUORUM ≤ (approvals s n data).length → w.status = 0 ∧ (od s OD.EXPEL_STATE = 1 → w.st = t)
          ∧ (od s OD.EXPEL_STATE ≠ 1 → (od s OD.EXPEL_BUDGET ≤ (expelledNow s).length → w.st = odSet (suspectEnter t) OD.EXPEL_RESULT 2)
            ∧ ((expelledNow s).length < od s OD.EXPEL_BUDGET → w.st = expelHonour t ∧ w.st.frm.stopped = true
              ∧ w.st.ft.expelFrame = some s.clk))))) := by
  intro h w n t
  refine ⟨fun hbad => ?_, fun hm h1 h8 htgt hlen => ?_⟩
  · rw [show w = wBad t 4 from if_pos hbad]
    exact ⟨rfl, rfl⟩
  have hok : ¬ (getF h FenceCmd.MAGIC ≠ 0x444E4645 ∨ n = 0 ∨ 8 < n ∨ getF h FenceCmd.TARGET ≠ ownDevice s) := by
    rintro (h' | h' | h' | h')
    · exact h' hm
    · omega
    · omega
    · exact h' htgt
  have hw : w = if getF h FenceCmd.NONCE ≠ nonceOf s OD.FENCE_NONCE then wRefuse t 0x10
      else if (approvals s n data).length < od s OD.QUORUM then wRefuse t 0x13
      else if od s OD.EXPEL_STATE = 1 then wOk t
      else if od s OD.EXPEL_BUDGET ≤ (expelledNow s).length then wOk (odSet (suspectEnter t) OD.EXPEL_RESULT 2)
      else wOk (expelHonour t) := (if_neg hok).trans (if_neg (not_not_intro hlen))
  refine ⟨fun hn => ?_, fun hn => ⟨fun hq => ?_, fun hq => ?_⟩⟩
  · rw [hw, if_pos hn]
    exact ⟨rfl, rfl, rfl⟩
  · rw [hw, if_neg (not_not_intro hn), if_pos hq]
    exact ⟨rfl, rfl, rfl⟩
  rw [if_neg (not_not_intro hn), if_neg (Nat.not_lt.2 hq)] at hw
  refine ⟨?_, fun he => ?_, fun he => ⟨fun hb => ?_, fun hb => ?_⟩⟩
  · rw [hw]
    split
    · rfl
    · split <;> rfl
  · rw [hw, if_pos he]
  · rw [hw, if_neg he, if_pos hb]
  · rw [hw, if_neg he, if_neg (Nat.not_le.2 hb)]
    exact ⟨rfl, expelHonour_drains t⟩

/-- Settles O58: slices, engines, expelled devices, the drain's end, fatal errors, then the commands of the dictionary. -/
theorem selfTestFaultsAndExpulsion : Obligations.SelfTestFaultsAndExpulsion := by
  refine ⟨slice_clauses, slice_idle, fun s k hk => ?_, fun s k hk => ⟨fun h => ?_, fun h => ⟨?_, engineFence_fences hk h 4⟩⟩,
    fun s dev => ⟨fun h => ?_, fun h => ⟨expelled_completes s dev, noteExpelled_notes h⟩⟩, fun s => expelDrainEnd_none,
    fun s c hc => ⟨expelDrainEnd_ends hc, expelDrainEnd_waits hc⟩, fun s cause detail h1 h6 => ⟨fun h => ?_, fun h => ⟨?_, fatal_clauses h h6 detail⟩⟩,
    fun s cause detail h => ?_,
    fun s off data => ?_⟩
  · exact congrArg (answer s) (if_neg (Nat.not_lt.2 hk))
  · exact congrArg (answer s) ((if_pos hk).trans (engineFence_again h 4))
  · exact congrArg (answer s) (if_pos hk)
  · exact congrArg (answer s) (noteExpelled_again h)
  · exact congrArg (answer s) ((if_pos ⟨h1, h6⟩).trans (fatal_again h cause detail))
  · exact congrArg (answer s) (if_pos ⟨h1, h6⟩)
  · exact congrArg (answer s) (if_neg (by omega))
  · rw [commandWrite_derate, commandWrite_fenceRegion, commandWrite_fenceCommand]
    exact ⟨derate_clauses s (leNat data), fenceRegionWrite_clauses s (leNat data), fenceCommand_clauses s data⟩

end Sys2Proof.Machine

/-! # What Locket's searches and inserts leave alone (R331, R335, R339)

BANK_CONFIG may name a bank far past the 32 there are: a group of COUNT 0 gives every key a bank of its own, up to 2^32. The units of such
a bank lie past LOCKET_VIEW, in other entries, but never in one that `MachineKeeps` speaks of. -/

namespace Sys2Proof.Machine

/-! ## How far units reach -/

theorem crc32cBits_lt (n : Nat) {c : Nat} (h : c < 2 ^ 32) : crc32cBits n c < 2 ^ 32 := by
  induction n generalizing c with
  | zero => exact h
  | succ n ih =>
    rw [crc32cBits, forced_eq]
    have hhalf : c / 2 < 2 ^ 32 := by omega
    refine ih ?_
    split
    · exact Nat.xor_lt_two_pow hhalf (by decide)
    · exact hhalf

theorem crc32cBytes_lt (bs : List Byte) {c : Nat} (h : c < 2 ^ 32) : crc32cBytes bs c < 2 ^ 32 := by
  induction bs generalizing c with
  | nil => exact h
  | cons b bs ih =>
    rw [crc32cBytes, forced_eq]
    exact ih (crc32cBits_lt 8 (Nat.xor_lt_two_pow h (b.isLt.trans (by decide))))

theorem crc32c_lt (bs : List Byte) : crc32c bs < 2 ^ 32 := Nat.xor_lt_two_pow (crc32cBytes_lt bs (by decide)) (by decide)

/-- The bank of a key: below 64, or in a group of COUNT 0 wherever its CRC says. -/
theorem keyBank_lt {s : State} {k key b : Nat} (h : keyBank s k key = some b) : b < 2 ^ 5 + 2 ^ 32 := by
  obtain ⟨g, hg, rfl⟩ := Option.map_eq_some_iff.1 h
  obtain ⟨i, -, rfl⟩ := Option.map_eq_some_iff.1 hg
  have hfirst : recF s OD.BANK_CONFIG i BankCfg.FIRST < 2 ^ 5 := getF_lt _ BankCfg.FIRST
  have hcrc := (Nat.mod_le (crc32c (leBytes (8 * bankWidth s i) key)) (recF s OD.BANK_CONFIG i BankCfg.COUNT)).trans_lt (crc32c_lt _)
  exact Nat.add_lt_add hfirst hcrc

/-! ## Units, entries and counts -/

section
variable (s : State)

theorem odKey_far {e e' i j : Nat} (h : e' < e ∨ e + 2 ^ 20 ≤ e') (hi : i < 2 ^ 44) (hj : j < 2 ^ 24) : odKey e' j ≠ odKey e i := by
  unfold odKey
  omega

/-- An element of Locket's entries, however far, is none of those locked. -/
theorem machineKeeps_locketPut {e i : Nat} (he : e ∈ [OD.LOCKET_VIEW, OD.ENTRY_COUNTS]) (hi : i < 2 ^ 44) (v : Nat) :
    MachineKeeps s (odPut s e i v) := by
  have hfar : ∀ e ∈ [OD.LOCKET_VIEW, OD.ENTRY_COUNTS], ∀ e' ∈ OD.DEVICE_STATE :: lockedEntries, e' < e ∨ e + 2 ^ 20 ≤ e' := by decide
  exact ⟨fun e' he' j hj => odGet_odPut_ne _ _ _ _ _ _ (odKey_far (hfar e he e' (List.mem_cons_of_mem _ he')) hi hj),
    .inl (odGet_odPut_ne _ _ _ _ _ _ (odKey_far (hfar e he _ List.mem_cons_self) hi (by decide))), rfl⟩

theorem machineKeeps_lkCount {i : Nat} (hi : i < 2 ^ 24) : MachineKeeps s (lkCount s i) := machineKeeps_odAdd s (by decide) hi 1

theorem unitWrite_od_eq (u r : Nat) : (unitWrite s u r).od = (odPut s OD.LOCKET_VIEW u r).od := rfl

theorem machineKeeps_unitWrite {u : Nat} (hu : u < 2 ^ 44) (r : Nat) : MachineKeeps s (unitWrite s u r) :=
  (machineKeeps_locketPut s (by decide) hu r).trans (.of_od (unitWrite_od_eq s u r) (asideOf_unitWrite s u r))

theorem bankWidth_le (b : Nat) : bankWidth s b ≤ 8 := Nat.pow_le_pow_right (by decide) (Nat.le_of_lt_succ (getF_lt _ BankCfg.WIDTH))

theorem machineKeeps_entryRemove {u : Nat} (hu : u < 2 ^ 43 + 2 ^ 42) : MachineKeeps s (entryRemove s u) := by
  unfold entryRemove
  extract_lets b t
  have ht : MachineKeeps s t := .foldl _ _ (fun x i hi => machineKeeps_unitWrite x (by
    have := (List.mem_range.1 hi).trans_le (bankWidth_le s b)
    omega) _) s
  have hb : b < 2 ^ 44 := (Nat.div_le_self u 2048).trans_lt (by omega)
  exact .ite (.refl s) ((ht.trans (machineKeeps_locketPut t (by decide) hb _)).trans (machineKeeps_lkCount _ (by decide)))

theorem machineKeeps_entryRewrite {u : Nat} (hu : u < 2 ^ 44) (v : Nat) : MachineKeeps s (entryRewrite s u v) := machineKeeps_unitWrite s hu _

theorem machineKeeps_entryWrite (k key val : Nat) {u w : Nat} (hu : u + w < 2 ^ 44) : MachineKeeps s (entryWrite s k w u key val) :=
  .foldl _ _ (fun x i hi => machineKeeps_unitWrite x (by
    have := List.mem_range.1 hi
    omega) _) s

/-! ## Parity (R339, R340) -/

theorem machineKeeps_recount {b : Nat} (hb : b < 2 ^ 44) : MachineKeeps s (recount s b) := machineKeeps_locketPut s (by decide) hb _

theorem machineKeeps_parityRepair {u : Nat} (hu : u < 2 ^ 43 + 2 ^ 42) : MachineKeeps s (parityRepair s u) := by
  unfold parityRepair
  extract_lets r t
  have hr : MachineKeeps s r.1 := machineKeeps_readRec s _ _ _
  have hb : u / 2048 < 2 ^ 44 := (Nat.div_le_self u 2048).trans_lt (by omega)
  have hfirst : ∀ w, u / w * w < 2 ^ 43 + 2 ^ 42 := fun w => (Nat.div_mul_le_self u w).trans_lt hu
  have ht : MachineKeeps s t := (hr.trans (machineKeeps_unitWrite r.1 (by omega) _)).trans (machineKeeps_lkCount _ (by decide))
  exact .ite (((hr.trans (machineKeeps_unitWrite r.1 (by omega) _)).trans (machineKeeps_lkCount _ (by decide))).trans
    (machineKeeps_recount _ hb)) (ht.trans (machineKeeps_entryRemove t (hfirst _)))

theorem machineKeeps_bankRepair {b : Nat} (hb : b < 2 ^ 5 + 2 ^ 32) : MachineKeeps s (bankRepair s b) :=
  .foldl _ _ (fun t u hu => machineKeeps_parityRepair t (by
    have := beq_iff_eq.1 (List.mem_filter.1 hu).2
    omega)) s

theorem machineKeeps_keyRepair (k key : Nat) : MachineKeeps s (keyRepair s k key) := by
  unfold keyRepair
  split
  · exact .refl s
  · next b hb => exact machineKeeps_bankRepair s (keyBank_lt hb)

/-! ## Searches and inserts (R331, R335) -/

theorem machineKeeps_lkSearchBank (b key : Nat) : MachineKeeps s (lkSearchBank s b key).1 :=
  .ite ((machineKeeps_lkCount s (by decide)).trans (machineKeeps_lkCount _ (by decide))) (machineKeeps_lkCount s (by decide))

/-- A unit of a bank. -/
theorem bankEntry_lt {b u : Nat} (hb : b < 2 ^ 5 + 2 ^ 32) (hu : u ∈ bankEntries s b) : u + bankWidth s b < 2 ^ 43 + 2 ^ 42 := by
  have := (bankEntries_bounds hu).2
  omega

theorem machineKeeps_search (k key : Nat) : MachineKeeps s (search s k key).1
    ∧ ∀ u, (search s k key).2 = some u → u < 2 ^ 43 + 2 ^ 42 := by
  unfold search
  split
  · exact ⟨machineKeeps_lkCount s (by decide), fun u h => nomatch h⟩
  · next b hb =>
    refine ⟨(machineKeeps_lkSearchBank s b key).trans (machineKeeps_bankRepair _ (keyBank_lt hb)), fun u h => ?_⟩
    have := bankEntry_lt s (keyBank_lt hb) (List.mem_of_find?_eq_some h)
    omega

theorem machineKeeps_lkInsertBank {b : Nat} (hb : b < 2 ^ 5 + 2 ^ 32) (key val : Nat) : MachineKeeps s (lkInsertBank s b key val).1
    ∧ (lkInsertBank s b key val).2.2 < 2 ^ 43 + 2 ^ 42 := by
  unfold lkInsertBank
  extract_lets r
  have hr : MachineKeeps s r.1 := machineKeeps_lkSearchBank s b key
  split
  · next u hu =>
    have := bankEntry_lt s hb (List.mem_of_find?_eq_some hu)
    exact ⟨hr.trans (machineKeeps_lkCount _ (by decide)), by simp only; omega⟩
  split
  · exact ⟨hr.trans (machineKeeps_lkCount _ (by decide)), by simp only; omega⟩
  · next u hu =>
    extract_lets fresh t t'
    have hunit : u + bankWidth r.1 b < 2 ^ 43 + 2 ^ 42 := bankEntry_lt r.1 hb (insertSlot_mem hu)
    have ht : MachineKeeps s t := hr.trans (machineKeeps_entryWrite r.1 _ key val (by omega))
    have ht' : MachineKeeps s t' := .ite (ht.trans (machineKeeps_locketPut t (by decide) (by omega) _)) ht
    exact ⟨ht'.trans (machineKeeps_lkCount _ (by decide)), by simp only; omega⟩

theorem machineKeeps_deviceInsert (k key val : Nat) : MachineKeeps s (deviceInsert s k key val).1
    ∧ (deviceInsert s k key val).2.2 < 2 ^ 43 + 2 ^ 42 := by
  have h : MachineKeeps s (lkInsert s k key val).1 ∧ (lkInsert s k key val).2.2 < 2 ^ 43 + 2 ^ 42 := by
    unfold lkInsert
    split
    · exact ⟨machineKeeps_lkCount s (by decide), by simp only; omega⟩
    · next b hb => exact machineKeeps_lkInsertBank s (keyBank_lt hb) key val
  exact ⟨h.1.trans (machineKeeps_keyRepair _ k key), h.2⟩

end

end Sys2Proof.Machine

/-! # Elements of an entry stored together (R364) -/

namespace Sys2Proof.Machine

/-- Values listed under the keys of the elements from `i` on, those at their default left out. -/
def listedCells (key dflt : Nat → Nat) (i : Nat) (vs : List Nat) : KMap Nat :=
  (vs.zipIdx i).filterMap (fun p => if p.1 = dflt p.2 then none else some (key p.2, p.1))

section
variable {key dflt : Nat → Nat}

theorem listedCells_cons (i v : Nat) (vs : List Nat) : listedCells key dflt i (v :: vs) =
    if v = dflt i then listedCells key dflt (i + 1) vs else (key i, v) :: listedCells key dflt (i + 1) vs := by
  by_cases h : v = dflt i
  · rw [if_pos h]
    exact List.filterMap_cons_none (if_pos h)
  · rw [if_neg h]
    exact List.filterMap_cons_some (if_neg h)

theorem kfind_cons_ne {m : KMap Nat} {j k v : Nat} (h : j ≠ k) : kfind ((j, v) :: m) k = kfind m k := by
  simp [kfind, h]

theorem kfind_cons_same (m : KMap Nat) (k v : Nat) : kfind ((k, v) :: m) k = some v := by simp [kfind]

/-- A key of no element of the block is in none of its cells. -/
theorem kfind_listedCells_out {i k : Nat} {vs : List Nat} (h : ∀ j < vs.length, key (i + j) ≠ k) : kfind (listedCells key dflt i vs) k = none := by
  induction vs generalizing i with
  | nil => rfl
  | cons v vs ih =>
    have hrest : kfind (listedCells key dflt (i + 1) vs) k = none := ih fun j hj => by
      have hk := h (j + 1) (Nat.succ_lt_succ hj)
      rwa [show i + (j + 1) = i + 1 + j by omega] at hk
    rw [listedCells_cons]
    split
    · exact hrest
    · have h0 : key i ≠ k := h 0 (Nat.succ_pos _)
      rw [kfind_cons_ne h0, hrest]

theorem kfind_listedCells_in (hkey : Function.Injective key) (i : Nat) {vs : List Nat} {j : Nat} (hj : j < vs.length) :
    (kfind (listedCells key dflt i vs) (key (i + j))).getD (dflt (i + j)) = vs.getD j 0 := by
  induction vs generalizing i j with
  | nil => cases hj
  | cons v vs ih =>
    rw [listedCells_cons]
    cases j with
    | zero =>
      have hrest : kfind (listedCells key dflt (i + 1) vs) (key i) = none :=
        kfind_listedCells_out fun j _ h => by
          have := hkey h
          omega
      simp only [Nat.add_zero, List.getD_cons_zero]
      split
      · next hv => rw [hrest, hv, Option.getD_none]
      · rw [kfind_cons_same, Option.getD_some]
    | succ j =>
      have hin := ih (i + 1) (j := j) (Nat.lt_of_succ_lt_succ hj)
      rw [show i + 1 + j = i + (j + 1) by omega] at hin
      have hne : key i ≠ key (i + (j + 1)) := fun h => by
        have := hkey h
        omega
      rw [List.getD_cons_succ]
      split
      · exact hin
      · rwa [kfind_cons_ne hne]

end

theorem odBlock_od (s : State) (e i : Nat) (vs : List Nat) : (odBlock s e i vs).od = s.od.filter (fun p => decide (p.1 < odKey e i))
    ++ listedCells (odKey e) (odDefault e) i vs ++ s.od.filter (fun p => decide (odKey e (i + vs.length) ≤ p.1)) := rfl

theorem odKey_injective (e : Nat) : Function.Injective (odKey e) := fun _ _ h => Nat.add_left_cancel h

theorem odKey_add (e i j : Nat) : odKey e (i + j) = odKey e i + j := (Nat.add_assoc _ _ _).symm

section
variable (s : State) {e i : Nat} {vs : List Nat}

theorem odGet_odBlock_out {e' j : Nat} (h : odKey e' j < odKey e i ∨ odKey e (i + vs.length) ≤ odKey e' j) :
    odGet (odBlock s e i vs) e' j = odGet s e' j := by
  rw [odKey_add] at h
  have hcells : kfind (listedCells (odKey e) (odDefault e) i vs) (odKey e' j) = none :=
    kfind_listedCells_out fun x hx => by
      rw [odKey_add]
      omega
  have hfind : kfind (odBlock s e i vs).od (odKey e' j) = kfind s.od (odKey e' j) := by
    unfold kfind at hcells ⊢
    rw [odBlock_od, odKey_add, List.find?_append, List.find?_append, Option.map_eq_none_iff.1 hcells, Option.or_none]
    congr 1
    obtain h | h := h
    · rw [kfind_filter s.od _ (fun k => decide (k < odKey e i)) (decide_eq_true h),
        kfind_filter_none s.od _ (fun k => decide (odKey e i + vs.length ≤ k)) (decide_eq_false (by omega)), Option.or_none]
    · rw [kfind_filter_none s.od _ (fun k => decide (k < odKey e i)) (decide_eq_false (by omega)),
        kfind_filter s.od _ (fun k => decide (odKey e i + vs.length ≤ k)) (decide_eq_true h), Option.none_or]
  rw [odGet, odGet, kget, kget, hfind]

theorem odGet_odBlock_in {j : Nat} (hj : j < vs.length) : odGet (odBlock s e i vs) e (i + j) = vs.getD j 0 := by
  have hfind : kfind (odBlock s e i vs).od (odKey e (i + j)) = kfind (listedCells (odKey e) (odDefault e) i vs) (odKey e (i + j)) := by
    unfold kfind
    rw [odBlock_od, odKey_add, odKey_add, List.find?_append, List.find?_append,
      kfind_filter_none s.od _ (fun k => decide (k < odKey e i)) (decide_eq_false (by omega)),
      kfind_filter_none s.od _ (fun k => decide (odKey e i + vs.length ≤ k)) (decide_eq_false (by omega)), Option.none_or, Option.or_none]
  rw [odGet, kget, hfind]
  exact kfind_listedCells_in (odKey_injective e) i hj

/-- A block inside its entry leaves the other entries. -/
theorem keepsEntries_odBlock {es : List Nat} (he : e ∈ es) (hlen : i + vs.length ≤ 2 ^ 24) : KeepsEntries es s (odBlock s e i vs) := by
  intro e' he' j hj
  have hne : e' ≠ e := fun h => he' (h ▸ he)
  refine odGet_odBlock_out s ?_
  unfold odKey
  omega

end

/-- The bytes of an entry set read back. -/
theorem odBytes_odSetBytes (s : State) (e : Nat) (bs : List Byte) : odBytes (odSetBytes s e bs) e bs.length = bs := by
  refine List.ext_getElem (by simp [odBytes]) fun j h1 h2 => ?_
  have hin := odGet_odBlock_in s (e := e) (i := 0) (vs := bs.map BitVec.toNat) (j := j) (by simpa using h2)
  rw [Nat.zero_add] at hin
  simp [odBytes, hin, h2]

/-- Bytes of an entry that no write has touched. -/
theorem odBytes_congr {s t : State} {e n : Nat} (h : ∀ i < n, odGet t e i = odGet s e i) : odBytes t e n = odBytes s e n :=
  List.map_congr_left fun i hi => congrArg (BitVec.ofNat 8) (h i (List.mem_range.1 hi))

theorem keepsEntries_drawNonce {es : List Nat} {e : Nat} (he : e ∈ es) (s : State) : KeepsEntries es s (drawNonce s e) :=
  (KeepsEntries.of_od rfl).trans (keepsEntries_odBlock (takeBytes s 32).2 he (by simp [takeBytes]))

end Sys2Proof.Machine

/-! # Partitions (R397, R401) and the scope they wait for (R390) -/

namespace Sys2Proof.Machine

/-! ## Bytes zeroed -/

section
variable (s : State) (a n : Nat)

theorem memByte_memZero (c : Nat) : memByte (memZero s a n) c = if a ≤ c ∧ c < a + n then 0 else memByte s c := by
  unfold memByte kget memZero
  split
  · next h => rw [kfind_kerase_in _ h]; rfl
  · next h => rw [kfind_kerase_out _ (by omega)]

/-- Besides the bytes, the zeroing touches the memory controller alone. -/
theorem zeroLines_eq : ∃ m, zeroLines s a n = { memZero s a n with mc := m } := by
  unfold zeroLines
  extract_lets z
  split
  · exact List.foldlRecOn (motive := fun t => ∃ m, t = { memZero s a n with mc := m }) (pieces a n) (fun t p => activate t p.1) ⟨_, rfl⟩
      fun t ⟨m, ht⟩ p _ => by
        subst ht
        exact ⟨_, rfl⟩
  · exact ⟨_, rfl⟩

theorem memByte_zeroLines (c : Nat) : memByte (zeroLines s a n) c = if a ≤ c ∧ c < a + n then 0 else memByte s c := by
  obtain ⟨m, h⟩ := zeroLines_eq s a n
  rw [← memByte_memZero, h]
  rfl

theorem zeroLines_od : (zeroLines s a n).od = s.od := by
  obtain ⟨m, h⟩ := zeroLines_eq s a n
  rw [h]
  rfl

theorem zeroLines_sec : (zeroLines s a n).sec = s.sec := by
  obtain ⟨m, h⟩ := zeroLines_eq s a n
  rw [h]
  rfl

/-! ## A partition's bytes zeroed -/

/-- What holds of the range's bytes and is kept by any zeroing holds after all of them. -/
theorem partZero_ind {P : State → Prop} (h0 : P (zeroLines s a n)) (h : ∀ t b m, P t → P (zeroLines t b m)) : P (partZero s a n) :=
  List.foldlRecOn (motive := P) _ (fun t f => zeroLines t (commonsBase + f * 65536) 65536) h0 fun t ht _ _ => h t _ _ ht

theorem partZero_sec : (partZero s a n).sec = s.sec :=
  partZero_ind s a n (P := fun t => t.sec = s.sec) (zeroLines_sec s a n) fun t b m ht => (zeroLines_sec t b m).trans ht

theorem memByte_partZero {c : Nat} (h : a ≤ c ∧ c < a + n) : memByte (partZero s a n) c = 0 := by
  refine partZero_ind s a n (P := fun t => memByte t c = 0) ?_ fun t b m ht => ?_
  · rw [memByte_zeroLines, if_pos h]
  · rw [memByte_zeroLines, ht, ite_self]

theorem partZero_noTier (h : od s OD.TIER_FRAMES = 0) : partZero s a n = zeroLines s a n := by
  rw [partZero, h]
  rfl

theorem memByte_partZero_out (h : od s OD.TIER_FRAMES = 0) {c : Nat} (hc : c < a ∨ a + n ≤ c) : memByte (partZero s a n) c = memByte s c := by
  rw [partZero_noTier s a n h, memByte_zeroLines, if_neg (by omega)]

end

/-! ## The scope that opens (R390) -/

section
variable (s : State)

theorem scopeOpen_idle (h : s.sec.unlocking = none) : scopeOpen s = s := by rw [scopeOpen, h]

/-- A scope in force. -/
def scopeSet (scope : Nat) : State := odSet (odSet { s with sec := { s.sec with unlocking := none } } OD.DEBUG_STATE scope) OD.ATTEST_STATE 3

/-- The scope in force with its breach, before its alert. -/
def scopeForced (scope : Nat) : State := if bitOf scope 0 || bitOf scope 2 then breach (scopeSet s scope) 4 else scopeSet s scope

theorem scopeOpen_some {scope : Nat} (h : s.sec.unlocking = some scope) :
    scopeOpen s = if (List.range 64).any (fun i => partF s i Part.STATE != 0) then s else alert (scopeForced s scope) 9 := by
  rw [scopeOpen, h]
  rfl

theorem scopeOpen_cases : scopeOpen s = s ∨ ∃ scope, s.sec.unlocking = some scope ∧ scopeOpen s = alert (scopeForced s scope) 9 := by
  cases h : s.sec.unlocking with
  | none => exact .inl (scopeOpen_idle s h)
  | some scope =>
    rw [scopeOpen_some s h]
    split
    · exact .inl rfl
    · exact .inr ⟨scope, rfl, rfl⟩

/-- The entries that a scope opening is written in. -/
def scopeEntries : List Nat := [OD.DEBUG_STATE, OD.ATTEST_STATE, OD.GUARANTEE_CONDITIONS, OD.ALERT_CAUSES]

theorem keepsEntries_scopeForced (scope : Nat) : KeepsEntries scopeEntries s (scopeForced s scope) := by
  have h : KeepsEntries scopeEntries s (scopeSet s scope) :=
    (keepsEntries_odPut _ (e := OD.DEBUG_STATE) (by decide) (by decide) scope).trans
      (keepsEntries_odPut _ (e := OD.ATTEST_STATE) (by decide) (by decide) 3)
  exact .ite (h.trans (keepsEntries_odPut _ (e := OD.GUARANTEE_CONDITIONS) (by decide) (by decide) _)) h

theorem scopeForced_rest (scope : Nat) : (scopeForced s scope).mem = s.mem ∧ (scopeForced s scope).net = s.net
    ∧ (scopeForced s scope).sec = { s.sec with unlocking := none } := by
  unfold scopeForced
  split <;> exact ⟨rfl, rfl, rfl⟩

theorem keepsEntries_scopeOpen : KeepsEntries scopeEntries s (scopeOpen s) := by
  obtain h | ⟨scope, -, h⟩ := scopeOpen_cases s <;> rw [h]
  · exact .of_od rfl
  · exact (keepsEntries_scopeForced s scope).trans (keepsEntries_alert (by decide) _ 9)

/-- Outside the dictionary the opening clears the scope that waited and shows its alert. -/
theorem scopeOpen_rest : (scopeOpen s).mem = s.mem ∧ (scopeOpen s).net = s.net
    ∧ { (scopeOpen s).sec with unlocking := none } = { s.sec with unlocking := none } := by
  obtain h | ⟨scope, -, h⟩ := scopeOpen_cases s
  · rw [h]
    exact ⟨rfl, rfl, rfl⟩
  · obtain ⟨hmem, hnet, hsec⟩ := scopeForced_rest s scope
    rw [h, alert_eq]
    exact ⟨hmem, hnet, congrArg (fun x : SecSt => { x with unlocking := none }) hsec⟩

theorem partF_of_keeps {es : List Nat} {s t : State} (h : KeepsEntries es s t) (he : OD.PARTITIONS ∉ es) {i : Nat} (hi : i < 64) (f : Fld) :
    partF t i f = partF s i f := congrArg (getF · f) (h _ he i (hi.trans (by decide)))

theorem partF_scopeOpen {i : Nat} (hi : i < 64) (f : Fld) : partF (scopeOpen s) i f = partF s i f :=
  partF_of_keeps (keepsEntries_scopeOpen s) (by decide) hi f

theorem memByte_scopeOpen (a : Nat) : memByte (scopeOpen s) a = memByte s a := by
  rw [memByte, memByte, (scopeOpen_rest s).1]

theorem scopeForced_clauses (scope : Nat) : let t := scopeForced s scope
    od t OD.DEBUG_STATE = scope ∧ od t OD.ATTEST_STATE = 3 ∧ t.sec.unlocking = none
    ∧ (bitOf scope 0 = true ∨ bitOf scope 2 = true → bitOf (od t OD.GUARANTEE_CONDITIONS) 4 = true) := by
  have hdebug : od (scopeSet s scope) OD.DEBUG_STATE = scope :=
    (od_odSet_ne _ (e := OD.ATTEST_STATE) (e' := OD.DEBUG_STATE) 3 (by decide)).trans (od_odSet_same _ OD.DEBUG_STATE scope)
  have hattest : od (scopeSet s scope) OD.ATTEST_STATE = 3 := od_odSet_same _ _ _
  unfold scopeForced
  split
  · next hb =>
    have hne : ∀ e ∉ [OD.GUARANTEE_CONDITIONS], od (breach (scopeSet s scope) 4) e = od (scopeSet s scope) e := fun e he =>
      od_odSet_ne _ _ (fun h => he (h ▸ List.mem_singleton_self _))
    refine ⟨(hne _ (by decide)).trans hdebug, (hne _ (by decide)).trans hattest, rfl, fun _ => ?_⟩
    rw [breach, od_odSet_same, bitOf_setBit_same]
  · next hb =>
    refine ⟨hdebug, hattest, rfl, fun h => absurd ?_ hb⟩
    rwa [Bool.or_eq_true]

theorem scopeOpen_clauses {scope : Nat} (h : s.sec.unlocking = some scope) (hfree : ∀ j, j < 64 → partF s j Part.STATE = 0) :
    let t := scopeOpen s
    od t OD.DEBUG_STATE = scope ∧ od t OD.ATTEST_STATE = 3 ∧ bitOf (od t OD.ALERT_CAUSES) 9 = true ∧ t.sec.unlocking = none
    ∧ (bitOf scope 0 = true ∨ bitOf scope 2 = true → bitOf (od t OD.GUARANTEE_CONDITIONS) 4 = true) := by
  have hany : ((List.range 64).any fun i => partF s i Part.STATE != 0) = false :=
    List.any_eq_false.2 fun j hj => by simp [hfree j (List.mem_range.1 hj)]
  rw [scopeOpen_some s h, hany]
  obtain ⟨hdebug, hattest, hunlock, hbreach⟩ := scopeForced_clauses s scope
  have hod : ∀ e ≠ OD.ALERT_CAUSES, od (alert (scopeForced s scope) 9) e = od (scopeForced s scope) e := fun e he =>
    alert_od_ne _ 9 e 0 he (by decide)
  refine ⟨(hod _ (by decide)).trans hdebug, (hod _ (by decide)).trans hattest, alert_bit _ 9, ?_, fun hb => ?_⟩
  · rw [if_neg Bool.false_ne_true, alert_eq]
    exact hunlock
  · exact (congrArg (bitOf · 4) (hod _ (by decide))).trans (hbreach hb)

end

/-! ## Erasure (R401) -/

section
variable {s : State} {i : Nat}

theorem partErase_active (h : partF s i Part.STATE = 1) : partErase s i = recSet s OD.PARTITIONS i [(Part.STATE, 2)] := if_pos h

theorem partErase_other (h : partF s i Part.STATE ≠ 1) : partErase s i = s := if_neg h

theorem partErase_record (h : partF s i Part.STATE = 1) : partF (partErase s i) i Part.STATE = 2
    ∧ partF (partErase s i) i Part.BASE = partF s i Part.BASE := by
  have hr : odGet (partErase s i) OD.PARTITIONS i = setFs (odGet s OD.PARTITIONS i) [(Part.STATE, 2)] := by
    rw [partErase_active h, odGet_recSet_same]
  rw [partF, partF, recF, recF, hr]
  exact ⟨getF_setFs_append_cons Part.STATE 2 [] [] _ (by simp), getF_setFs_disjoint Part.BASE [(Part.STATE, 2)] _ (by simp)⟩

/-- A record's state after an erasure asked of record `j`. -/
theorem partF_partErase (s : State) (i j : Nat) : partF (partErase s j) i Part.STATE
    = if i = j ∧ partF s i Part.STATE = 1 then 2 else partF s i Part.STATE := by
  by_cases h : partF s j Part.STATE = 1
  · obtain rfl | hij := eq_or_ne i j
    · rw [(partErase_record h).1, if_pos ⟨rfl, h⟩]
    · rw [partErase_active h, if_neg fun hc => hij hc.1]
      exact congrArg (getF · Part.STATE) (odGet_odPut_elem s _ j _ i hij)
  · rw [partErase_other h, if_neg]
    rintro ⟨rfl, hs⟩
    exact h hs

theorem partF_partErases (s : State) (i : Nat) (l : List Nat) : partF (l.foldl partErase s) i Part.STATE
    = if i ∈ l ∧ partF s i Part.STATE = 1 then 2 else partF s i Part.STATE := by
  induction l generalizing s with
  | nil => simp
  | cons j l ih =>
    rw [List.foldl_cons, ih, partF_partErase]
    by_cases hs : partF s i Part.STATE = 1
    · obtain rfl | hij := eq_or_ne i j
      · simp [hs]
      · simp [hs, hij]
    · simp [hs]

theorem keepsEntries_partErases (s : State) {l : List Nat} (hl : ∀ i ∈ l, i < 64) : KeepsEntries [OD.PARTITIONS] s (l.foldl partErase s) :=
  List.foldlRecOn (motive := KeepsEntries [OD.PARTITIONS] s) l partErase (.of_od rfl) fun t ht i hi =>
    ht.trans (.ite (keepsEntries_odPut t (List.mem_singleton_self _) ((hl i hi).trans (by decide)) _) (.of_od rfl))

theorem recSet_rest (s : State) (e i : Nat) (l : List (Fld × Nat)) : (recSet s e i l).net = s.net ∧ (recSet s e i l).sec = s.sec := ⟨rfl, rfl⟩

theorem partErases_rest (s : State) (l : List Nat) : (l.foldl partErase s).net = s.net ∧ (l.foldl partErase s).sec = s.sec :=
  List.foldlRecOn (motive := fun t => t.net = s.net ∧ t.sec = s.sec) l partErase ⟨rfl, rfl⟩ fun t ⟨hnet, hsec⟩ i _ => by
    by_cases h : partF t i Part.STATE = 1
    · rw [partErase_active h]
      obtain ⟨knet, ksec⟩ := recSet_rest t OD.PARTITIONS i [(Part.STATE, 2)]
      exact ⟨knet.trans hnet, ksec.trans hsec⟩
    · rw [partErase_other h]
      exact ⟨hnet, hsec⟩

end

/-! ## PARTITION_RELEASE, PARTITION_CREATE and PARTITION_ERASED -/

section
variable (s : State)

theorem partRelease_clauses (v : Nat) : let w := partRelease s v
    (v < 64 → w.status = 0 ∧ (partF s v Part.STATE = 1 → partF w.st v Part.STATE = 2 ∧ partF w.st v Part.BASE = partF s v Part.BASE)
      ∧ (partF s v Part.STATE ≠ 1 → w.st = s))
    ∧ (64 ≤ v → w.status = 4 ∧ w.st = s) := by
  intro w
  refine ⟨fun hv => ?_, fun hv => ?_⟩
  · have hw : w = wOk (partErase s v) := if_neg (by omega)
    rw [hw]
    exact ⟨rfl, partErase_record, partErase_other⟩
  · have hw : w = wBad s 4 := if_pos hv
    rw [hw]
    exact ⟨rfl, rfl⟩

/-- An element stored, the dictionary put back: stated for every entry, so that none is searched to check it. -/
theorem odPut_undo (s : State) (e i v : Nat) (o : KMap Nat) : { odPut s e i v with od := o } = { s with od := o } := rfl

/-- The record of a new partition. -/
theorem partRecord_fields (p : Nat) : let r := mkRec [(Part.BASE, getF p Part.BASE), (Part.SIZE, getF p Part.SIZE), (Part.KIND, getF p Part.KIND),
      (Part.TENANT, getF p Part.TENANT), (Part.HIDE_VIEWS, getF p Part.HIDE_VIEWS), (Part.STATE, 1)]
    getF r Part.STATE = 1 ∧ getF r Part.BASE = getF p Part.BASE ∧ getF r Part.SIZE = getF p Part.SIZE
    ∧ getF r Part.KIND = getF p Part.KIND ∧ getF r Part.TENANT = getF p Part.TENANT := by
  have hcut : ∀ f : Fld, getF p f % 2 ^ f.width = getF p f := fun f => Nat.mod_eq_of_lt (getF_lt p f)
  refine ⟨getF_setFs_append_cons Part.STATE 1 [_, _, _, _, _] [] 0 (by simp), ?_, ?_, ?_, ?_⟩
  · exact (getF_setFs_append_cons Part.BASE _ [] [_, _, _, _, _] 0 (by simp)).trans (hcut _)
  · exact (getF_setFs_append_cons Part.SIZE _ [_] [_, _, _, _] 0 (by simp)).trans (hcut _)
  · exact (getF_setFs_append_cons Part.KIND _ [_, _] [_, _, _] 0 (by simp)).trans (hcut _)
  · exact (getF_setFs_append_cons Part.TENANT _ [_, _, _] [_, _] 0 (by simp)).trans (hcut _)

/-- The lowest number that a test accepts. -/
theorem find?_range_lowest {p : Nat → Bool} {i n : Nat} (hi : i < n) (hp : p i = true) (hlow : ∀ j < i, p j = false) :
    (List.range n).find? p = some i := by
  rw [List.find?_range_eq_some]
  exact ⟨hp, List.mem_range.2 hi, fun j hj => by simp [hlow j hj]⟩

theorem partCreate_clauses (data : List Byte) : let w := partCreate s data
    let p := leNat (data.take 32); let a := getF p Part.BASE; let n := getF p Part.SIZE
    (od s OD.DEBUG_STATE ≠ 0 ∨ s.sec.unlocking.isSome = true → w.status = 2 ∧ w.st = s)
    ∧ (od s OD.DEBUG_STATE = 0 → s.sec.unlocking = none → data.length = 32 → (a % 65536 ≠ 0 ∨ n % 65536 ≠ 0 ∨ partPlace s a n = false → w.status = 4 ∧ w.st = s)
      ∧ (a % 65536 = 0 → n % 65536 = 0 → partPlace s a n = true →
        ((∃ i, i < 64 ∧ partF s i Part.STATE ≠ 0 ∧ meets a n (partF s i Part.BASE) (partF s i Part.SIZE) = true) → w.status = 5 ∧ w.reason = 2 ∧ w.st = s)
        ∧ (∀ i, (∀ j, j < 64 → partF s j Part.STATE ≠ 0 → meets a n (partF s j Part.BASE) (partF s j Part.SIZE) = false) → i < 64 →
          partF s i Part.STATE = 0 → (∀ j, j < i → partF s j Part.STATE ≠ 0) → w.status = 0 ∧ partF w.st i Part.STATE = 1
            ∧ partF w.st i Part.BASE = a ∧ partF w.st i Part.SIZE = n ∧ partF w.st i Part.KIND = getF p Part.KIND
            ∧ partF w.st i Part.TENANT = getF p Part.TENANT ∧ { w.st with od := s.od } = s
            ∧ ∀ j, j < 64 → j ≠ i → odGet w.st OD.PARTITIONS j = odGet s OD.PARTITIONS j))) := by
  intro w p a n
  refine ⟨fun h => ?_, fun hdebug hunlock hlen => ⟨fun h => ?_, fun ha hn hplace => ⟨fun ⟨i, hi, hs, hm⟩ => ?_, fun i hfar hi hs hlow => ?_⟩⟩⟩
  · have hw : w = wBad s 2 := if_pos h
    rw [hw]
    exact ⟨rfl, rfl⟩
  all_goals
    have hopen : ¬ (od s OD.DEBUG_STATE ≠ 0 ∨ s.sec.unlocking.isSome = true) := by simp [hdebug, hunlock]
    have hw : w = _ := (if_neg hopen).trans (if_neg (not_not_intro hlen))
  · rw [hw.trans (if_pos h)]
    exact ⟨rfl, rfl⟩
  all_goals
    have hfit : ¬ (a % 65536 ≠ 0 ∨ n % 65536 ≠ 0 ∨ partPlace s a n = false) := by simp [ha, hn, hplace]
    replace hw : w = _ := hw.trans (if_neg hfit)
  · have hany : ((List.range 64).any fun i => partF s i Part.STATE != 0 && meets a n (partF s i Part.BASE) (partF s i Part.SIZE)) = true :=
      List.any_eq_true.2 ⟨i, List.mem_range.2 hi, by simp [hs, hm]⟩
    rw [hw.trans (if_pos hany)]
    exact ⟨rfl, rfl, rfl⟩
  · have hany : ¬ ((List.range 64).any fun i => partF s i Part.STATE != 0 && meets a n (partF s i Part.BASE) (partF s i Part.SIZE)) = true := by
      rw [Bool.not_eq_true]
      refine List.any_eq_false.2 fun j hj h => ?_
      rw [Bool.and_eq_true, bne_iff_ne] at h
      rw [hfar j (List.mem_range.1 hj) h.1] at h
      exact Bool.false_ne_true h.2
    have hfind : (List.range 64).find? (fun i => partF s i Part.STATE == 0) = some i :=
      find?_range_lowest hi (by simp [hs]) (fun j hj => by simp [hlow j hj])
    replace hw : w = _ := hw.trans (if_neg hany)
    rw [hfind] at hw
    rw [hw]
    obtain ⟨hstate, hbase, hsize, hkind, htenant⟩ := partRecord_fields p
    have hread : ∀ v f, partF (odPut s OD.PARTITIONS i v) i f = getF v f := fun v f => congrArg (getF · f) (odGet_odPut_same s _ i v)
    refine ⟨rfl, (hread _ _).trans hstate, (hread _ _).trans hbase, (hread _ _).trans hsize, (hread _ _).trans hkind,
      (hread _ _).trans htenant, odPut_undo s _ i _ s.od, fun j _ hj => odGet_odPut_elem s _ i _ j hj⟩

theorem partitionErased_clauses {i : Nat} (hi : i < 64) (hs : partF s i Part.STATE = 2) :
    let z := odPut (partZero s (partF s i Part.BASE) (partF s i Part.SIZE)) OD.PARTITIONS i 0
    completes (.partitionErased i) s (scopeOpen z) ∧ partF (scopeOpen z) i Part.STATE = 0
    ∧ (∀ a, partF s i Part.BASE ≤ a → a < partF s i Part.BASE + partF s i Part.SIZE → memByte (scopeOpen z) a = 0)
    ∧ (od s OD.TIER_FRAMES = 0 → ∀ a, a < partF s i Part.BASE ∨ partF s i Part.BASE + partF s i Part.SIZE ≤ a →
      memByte (scopeOpen z) a = memByte s a)
    ∧ (s.sec.unlocking = none → scopeOpen z = z) := by
  intro z
  have hmem : ∀ a, memByte (scopeOpen z) a = memByte (partZero s (partF s i Part.BASE) (partF s i Part.SIZE)) a := memByte_scopeOpen z
  refine ⟨congrArg (answer s) (if_pos ⟨hi, hs⟩), ?_, fun a h1 h2 => ?_, fun htier a ha => ?_, fun hun => ?_⟩
  · rw [partF_scopeOpen z hi]
    exact (congrArg (getF · Part.STATE) (odGet_odPut_same _ OD.PARTITIONS i 0)).trans (getF_zero _)
  · rw [hmem, memByte_partZero s _ _ ⟨h1, h2⟩]
  · rw [hmem, memByte_partZero_out s _ _ htier ha]
  · exact scopeOpen_idle z ((congrArg SecSt.unlocking (partZero_sec s _ _)).trans hun)

end

end Sys2Proof.Machine

/-! # Tenant keys (R402 to R407) and debug tokens (R390) -/

namespace Sys2Proof.Machine

section
variable (s : State)

theorem machineKeeps_keyEntryDrop (k : Nat) : MachineKeeps s (keyEntryDrop s k) := by
  obtain ⟨hsearch, hunit⟩ := machineKeeps_search s 5 (keyF s k KeySlot.KEY_ID)
  unfold keyEntryDrop
  extract_lets x
  split
  · next u hu => exact .ite (hsearch.trans (machineKeeps_entryRemove _ (hunit u hu))) hsearch
  · exact hsearch

/-- Where the clasp unit does not run, an access to memory does not start it. -/
theorem claspRuns_of_keeps {s t : State} (h : MachineKeeps s t) (hs : claspRuns s = false) : claspRuns t = false := by
  have hexpel : od t OD.EXPEL_STATE = od s OD.EXPEL_STATE := h.locked _ (by decide) 0 (by decide)
  have hframe : t.ft.expelFrame = s.ft.expelFrame := congrArg Aside.expelFrame h.aside
  unfold claspRuns at hs ⊢
  rw [hexpel, hframe]
  obtain hd | hd := h.device
  · rwa [inRun, hd]
  · rw [inRun, hd]
    rfl

/-- The tenant keys and their segment counters replaced. -/
def withKeys (keys : KMap (List Byte)) (ctr : KMap Nat) : State := { s with net := { s.net with keys := keys, segCtr := ctr } }

theorem odGet_withKeys (keys : KMap (List Byte)) (ctr : KMap Nat) (e i : Nat) : odGet (withKeys s keys ctr) e i = odGet s e i := rfl

theorem recF_withKeys (keys : KMap (List Byte)) (ctr : KMap Nat) (e i : Nat) (f : Fld) : recF (withKeys s keys ctr) e i f = recF s e i f := rfl

theorem net_odAdd (e i n : Nat) : (odAdd s e i n).net = s.net := rfl

theorem ft_odAdd (e i n : Nat) : (odAdd s e i n).ft = s.ft := rfl

theorem ft_recSet (e i : Nat) (l : List (Fld × Nat)) : (recSet s e i l).ft = s.ft := rfl

theorem keys_withKeys (keys : KMap (List Byte)) (ctr : KMap Nat) : (withKeys s keys ctr).net.keys = keys
    ∧ (withKeys s keys ctr).net.segCtr = ctr ∧ (withKeys s keys ctr).ft = s.ft := ⟨rfl, rfl, rfl⟩

theorem net_drawNonce (e : Nat) : (drawNonce s e).net = s.net := rfl

/-! ## KEY_REVOKE (R406) -/

/-- A slot revoked, before the pulls under it are abandoned. -/
def slotZeroed (k : Nat) : State :=
  let s := keyEntryDrop s k
  let s := recSet s OD.KEY_SLOTS k [(KeySlot.STATE, 2), (KeySlot.GEN, keyF s k KeySlot.GEN + 1)]
  keyCount (withKeys s (kdel s.net.keys k) s.net.segCtr) 2

theorem slotRevoke_other {k : Nat} (h : keyF s k KeySlot.STATE ≠ 1) : slotRevoke s k = s := if_pos (.inr h)

theorem slotRevoke_valid {k : Nat} (h0 : k ≠ 0) (h : keyF s k KeySlot.STATE = 1) (hc : claspRuns (slotZeroed s k) = false) :
    slotRevoke s k = slotZeroed s k := by
  unfold slotRevoke
  rw [if_neg (by simp [h0, h])]
  exact if_neg (Bool.not_eq_true _ ▸ hc)

theorem keyF_keyCount (i : Nat) (hi : i < 2 ^ 24) {k : Nat} (hk : k < 256) (f : Fld) : keyF (keyCount s i) k f = keyF s k f :=
  congrArg (getF · f) (odGet_odAdd_entry s OD.KEY_COUNTS i 1 OD.KEY_SLOTS k (by decide) hi (hk.trans (by decide)))

/-- Entries kept, and nothing beside the dictionary that says whether the clasp unit runs. -/
theorem claspRuns_of_entries {es : List Nat} {s t : State} (h : KeepsEntries es s t) (hd : OD.DEVICE_STATE ∉ es) (he : OD.EXPEL_STATE ∉ es)
    (hf : t.ft = s.ft) : claspRuns t = claspRuns s := by
  unfold claspRuns
  rw [inRun, h.od hd, h.od he, hf]

theorem slotZeroed_clauses {k : Nat} (hk : k < 256) (hc : claspRuns s = false) : claspRuns (slotZeroed s k) = false
    ∧ keyF (slotZeroed s k) k KeySlot.STATE = 2 ∧ kfind (slotZeroed s k).net.keys k = none := by
  unfold slotZeroed
  extract_lets s1 s2
  have hk24 : k < 2 ^ 24 := hk.trans (by decide)
  have hslot : odGet s2 OD.KEY_SLOTS k = setFs (odGet s1 OD.KEY_SLOTS k) [(KeySlot.STATE, 2), (KeySlot.GEN, keyF s1 k KeySlot.GEN + 1)] :=
    odGet_recSet_same s1 OD.KEY_SLOTS k _
  have h2 : KeepsEntries [OD.KEY_SLOTS, OD.KEY_COUNTS] s1 s2 := keepsEntries_odPut s1 List.mem_cons_self hk24 _
  have hft : s2.ft = s1.ft := ft_recSet s1 OD.KEY_SLOTS k _
  clear_value s2
  obtain ⟨hkeys, -, kft⟩ := keys_withKeys s2 (kdel s2.net.keys k) s2.net.segCtr
  have h3 : KeepsEntries [OD.KEY_SLOTS, OD.KEY_COUNTS] s2 (withKeys s2 (kdel s2.net.keys k) s2.net.segCtr) := .of_od rfl
  have h4 := keepsEntries_odAdd (es := [OD.KEY_SLOTS, OD.KEY_COUNTS]) (withKeys s2 (kdel s2.net.keys k) s2.net.segCtr) (e := OD.KEY_COUNTS) (i := 2)
    (by decide) (by decide) 1
  refine ⟨?_, ?_, ?_⟩
  · rw [claspRuns_of_entries ((h2.trans h3).trans h4) (by decide) (by decide)
      ((ft_odAdd _ OD.KEY_COUNTS 2 1).trans (kft.trans hft))]
    exact claspRuns_of_keeps (machineKeeps_keyEntryDrop s k) hc
  · rw [keyF_keyCount _ 2 (by decide) hk, keyF, recF_withKeys]
    exact (congrArg (getF · KeySlot.STATE) hslot).trans (getF_setFs_append_cons KeySlot.STATE 2 [] [_] _ (by simp))
  · rw [keyCount, net_odAdd, hkeys, kfind_kdel_same]

theorem keyRevoke_clauses (v : Nat) : let w := keyRevoke s v
    (v = 0 → w.status = 4 ∧ w.st = s)
    ∧ (v ≠ 0 → w.status = 0 ∧ (keyF s v KeySlot.STATE ≠ 1 → w.st = s)
      ∧ (v < 256 → keyF s v KeySlot.STATE = 1 → claspRuns s = false → keyF w.st v KeySlot.STATE = 2 ∧ kfind w.st.net.keys v = none)) := by
  intro w
  refine ⟨fun h => ?_, fun h => ?_⟩
  · have hw : w = wBad s 4 := if_pos h
    rw [hw]
    exact ⟨rfl, rfl⟩
  · have hw : w = wOk (slotRevoke s v) := if_neg h
    rw [hw]
    refine ⟨rfl, slotRevoke_other s, fun hk hs hc => ?_⟩
    obtain ⟨hrun, hclauses⟩ := slotZeroed_clauses s hk hc
    show keyF (slotRevoke s v) v KeySlot.STATE = 2 ∧ kfind (slotRevoke s v).net.keys v = none
    rwa [slotRevoke_valid s h hs hrun]

/-! ## KEY_INSTALL (R403) -/

theorem keyF_drawNonce {e : Nat} (he : OD.KEY_SLOTS ≠ e) {k : Nat} (hk : k < 256) (f : Fld) : keyF (drawNonce s e) k f = keyF s k f :=
  congrArg (getF · f) (keepsEntries_drawNonce (List.mem_singleton_self e) s _ (fun h => he (List.mem_singleton.1 h)) k (hk.trans (by decide)))

/-- A key placed in its slot, before its entry in Locket is written. -/
def keySlotPut (h : Nat) (key : List Byte) : State :=
  let k := getF h InstallRec.SLOT
  let s := odPut s OD.KEY_SLOTS k (mkRec [(KeySlot.STATE, 1), (KeySlot.GEN, getF h InstallRec.GEN), (KeySlot.TENANT, getF h InstallRec.TENANT),
    (KeySlot.BIND, getF h InstallRec.BIND), (KeySlot.KEY_ID, getF h InstallRec.KEY_ID)])
  withKeys s (kput s.net.keys k key) (kput s.net.segCtr k 0)

/-- The key's entry in Locket, inserted or written again. -/
def keyEntryPut (h : Nat) : State :=
  let v := getF h InstallRec.SLOT * 2 ^ 120 + getF h InstallRec.GEN * 2 ^ 112
  let x := deviceInsert s 5 (getF h InstallRec.KEY_ID) v
  if x.2.1 = 2 then entryRewrite x.1 x.2.2 v else x.1

theorem keyPlace_eq (h : Nat) (key : List Byte) : keyPlace s h key = keyCount (keyEntryPut (keySlotPut s h key) h) 0 := rfl

theorem machineKeeps_keyEntryPut (h : Nat) : MachineKeeps s (keyEntryPut s h) := by
  unfold keyEntryPut
  extract_lets v x
  obtain ⟨hins, hunit⟩ := machineKeeps_deviceInsert s 5 (getF h InstallRec.KEY_ID) v
  exact .ite (hins.trans (machineKeeps_entryRewrite _ (hunit.trans (by decide)) v)) hins

theorem keyF_keySlotPut (h : Nat) (key : List Byte) : let t := keySlotPut s h key; let k := getF h InstallRec.SLOT
    keyF t k KeySlot.STATE = 1 ∧ keyF t k KeySlot.TENANT = getF h InstallRec.TENANT := by
  intro t k
  have hr : odGet t OD.KEY_SLOTS k = _ := (odGet_withKeys _ _ _ OD.KEY_SLOTS k).trans (odGet_odPut_same s OD.KEY_SLOTS k _)
  have hten : getF h InstallRec.TENANT % 2 ^ KeySlot.TENANT.width = getF h InstallRec.TENANT := Nat.mod_eq_of_lt (getF_lt h InstallRec.TENANT)
  refine ⟨(congrArg (getF · KeySlot.STATE) hr).trans ?_, ((congrArg (getF · KeySlot.TENANT) hr).trans ?_).trans hten⟩
  · exact getF_setFs_append_cons KeySlot.STATE 1 [] [_, _, _, _] 0 (by simp)
  · exact getF_setFs_append_cons KeySlot.TENANT _ [_, _] [_, _] 0 (by simp)

theorem keys_keySlotPut (h : Nat) (key : List Byte) : kfind (keySlotPut s h key).net.keys (getF h InstallRec.SLOT) = some key
    ∧ kget (keySlotPut s h key).net.segCtr (getF h InstallRec.SLOT) 1 = 0 := by
  unfold keySlotPut
  extract_lets k u
  rw [(keys_withKeys _ _ _).1, (keys_withKeys _ _ _).2.1, kfind_kput_same, kget_kput_same]
  exact ⟨rfl, rfl⟩

/-- Counting the install and drawing the next nonce leave keys and slots as the entry's write left them. -/
theorem keyCounted_clauses {u t : State} (hkeep : MachineKeeps u t) {k : Nat} (hk : k < 256) : let w := drawNonce (keyCount t 0) OD.KEY_NONCE
    (∀ f, keyF w k f = keyF u k f) ∧ w.net.keys = u.net.keys ∧ w.net.segCtr = u.net.segCtr := by
  intro w
  have hnet : w.net = t.net := (net_drawNonce _ _).trans (net_odAdd _ _ _ _)
  refine ⟨fun f => ?_, (congrArg NetSt.keys hnet).trans (congrArg Aside.keys hkeep.aside),
    (congrArg NetSt.segCtr hnet).trans (congrArg Aside.segCtr hkeep.aside)⟩
  have hlock : keyF t k f = keyF u k f := congrArg (getF · f) (hkeep.locked _ (by decide) k (hk.trans (by decide)))
  exact ((keyF_drawNonce _ (by decide) hk f).trans (keyF_keyCount t 0 (by decide) hk f)).trans hlock

theorem keyPlaced_clauses (h : Nat) (key : List Byte) : let t := drawNonce (keyPlace s h key) OD.KEY_NONCE; let k := getF h InstallRec.SLOT
    keyF t k KeySlot.STATE = 1 ∧ keyF t k KeySlot.TENANT = getF h InstallRec.TENANT ∧ kfind t.net.keys k = some key
    ∧ kget t.net.segCtr k 1 = 0 := by
  obtain ⟨hslot, hkeys, hctr⟩ := keyCounted_clauses (machineKeeps_keyEntryPut (keySlotPut s h key) h) (getF_lt h InstallRec.SLOT)
  obtain ⟨hstate, hten⟩ := keyF_keySlotPut s h key
  obtain ⟨hfind, hzero⟩ := keys_keySlotPut s h key
  rw [keyPlace_eq]
  refine ⟨(hslot _).trans hstate, (hslot _).trans hten, ?_, ?_⟩
  · rw [hkeys, hfind]
  · rw [hctr, hzero]

theorem keyInstall_clauses (data : List Byte) : let w := keyInstall s data; let h := leNat (data.take 64); let k := getF h InstallRec.SLOT
    let no := drawNonce (keyCount s 1) OD.KEY_NONCE
    (od s OD.DEBUG_STATE ≠ 0 ∨ s.sec.unlocking.isSome = true → w.status = 2 ∧ w.st = no)
    ∧ (od s OD.DEBUG_STATE = 0 → s.sec.unlocking = none → data.length = 1680 → (k = 0 → w.status = 4 ∧ w.st = no)
      ∧ (k ≠ 0 → (getF h InstallRec.NONCE ≠ nonceOf s OD.KEY_NONCE → w.status = 5 ∧ w.reason = 0x10 ∧ w.st = no)
        ∧ (getF h InstallRec.NONCE = nonceOf s OD.KEY_NONCE → (keyF s k KeySlot.STATE ≠ 0 → w.status = 5 ∧ w.reason = 0x12 ∧ w.st = no)
          ∧ (keyF s k KeySlot.STATE = 0 → let u := Config.kemUnwrap ((data.drop 64).take 1568) (data.drop 1632) (data.take 64)
            (s.sec.derived = false ∨ u = none → w.status = 5 ∧ w.reason = 0x11 ∧ w.st = no)
            ∧ (s.sec.derived = true → ∀ key, u = some key → w.status = 0 ∧ w.st = drawNonce (keyPlace s h (fitBytes 32 key)) OD.KEY_NONCE
              ∧ keyF w.st k KeySlot.STATE = 1 ∧ keyF w.st k KeySlot.TENANT = getF h InstallRec.TENANT
              ∧ kfind w.st.net.keys k = some (fitBytes 32 key) ∧ kget w.st.net.segCtr k 1 = 0))))) := by
  intro w h k no
  refine ⟨fun hdbg => ?_, fun hdebug hunlock hlen => ?_⟩
  · have hw : w = wBad no 2 := if_pos hdbg
    rw [hw]
    exact ⟨rfl, rfl⟩
  have hopen : ¬ (od s OD.DEBUG_STATE ≠ 0 ∨ s.sec.unlocking.isSome = true) := by simp [hdebug, hunlock]
  have hw : w = _ := (if_neg hopen).trans (if_neg (not_not_intro hlen))
  refine ⟨fun hk => ?_, fun hk => ⟨fun hn => ?_, fun hn => ⟨fun hs => ?_, fun hs => ⟨fun hu => ?_, fun hd key hu => ?_⟩⟩⟩⟩
  · rw [hw.trans (if_pos hk)]
    exact ⟨rfl, rfl⟩
  all_goals replace hw : w = _ := hw.trans (if_neg hk)
  · rw [hw.trans (if_pos hn)]
    exact ⟨rfl, rfl, rfl⟩
  all_goals replace hw : w = _ := hw.trans (if_neg (not_not_intro hn))
  · rw [hw.trans (if_pos hs)]
    exact ⟨rfl, rfl, rfl⟩
  all_goals replace hw : w = _ := hw.trans (if_neg (not_not_intro hs))
  · by_cases hd : s.sec.derived = false
    · rw [hw.trans (if_pos hd)]
      exact ⟨rfl, rfl, rfl⟩
    · have hnone : Config.kemUnwrap ((data.drop 64).take 1568) (data.drop 1632) (data.take 64) = none := hu.resolve_left hd
      replace hw : w = _ := hw.trans (if_neg hd)
      rw [hnone] at hw
      rw [hw]
      exact ⟨rfl, rfl, rfl⟩
  · have hsome : Config.kemUnwrap ((data.drop 64).take 1568) (data.drop 1632) (data.take 64) = some key := hu
    replace hw : w = _ := hw.trans (if_neg (by simp [hd]))
    rw [hsome] at hw
    rw [hw]
    exact ⟨rfl, rfl, keyPlaced_clauses s h (fitBytes 32 key)⟩

/-! ## DEBUG_UNLOCK (R390) -/

theorem odGet_zeroed (e i : Nat) (l : List Nat) : odGet (l.foldl (fun t k => odPut t e k 0) s) e i = if i ∈ l then 0 else odGet s e i := by
  induction l using List.reverseRecOn with
  | nil => simp
  | append_singleton l k ih =>
    rw [List.foldl_concat]
    obtain rfl | hik := eq_or_ne i k
    · rw [odGet_odPut_same, if_pos (by simp)]
    · rw [odGet_odPut_elem _ _ _ _ _ hik, ih]
      simp [hik]

theorem mem_span {a n k : Nat} : k ∈ span a n ↔ a ≤ k ∧ k < a + n := by
  simp only [span, List.mem_map, List.mem_range]
  constructor
  · rintro ⟨i, hi, rfl⟩
    omega
  · rintro ⟨h1, h2⟩
    exact ⟨k - a, by omega, by omega⟩

/-- The keys' entries dropped from Locket, each VALID slot's. -/
def keyEntriesDrop : State := (span 1 255).foldl (fun t k => if keyF t k KeySlot.STATE = 1 then keyEntryDrop t k else t) s

theorem machineKeeps_keyEntriesDrop : MachineKeeps s (keyEntriesDrop s) :=
  .foldl _ _ (fun t k _ => .ite (machineKeeps_keyEntryDrop t k) (.refl t)) s

/-- The key slots but 0 zeroised. -/
def slotsZeroed : State := (span 1 255).foldl (fun t k => odPut t OD.KEY_SLOTS k 0) s

theorem keysZero_eq : keysZero s = withKeys (slotsZeroed (keyEntriesDrop s)) [] [] := rfl

theorem odGet_keysZero (e i : Nat) : odGet (keysZero s) e i = odGet (slotsZeroed (keyEntriesDrop s)) e i := by
  rw [keysZero_eq, odGet_withKeys]

theorem keyF_keysZero {k : Nat} (h1 : 1 ≤ k) (h2 : k < 256) (f : Fld) : keyF (keysZero s) k f = 0 := by
  have h : odGet (keysZero s) OD.KEY_SLOTS k = 0 := by
    rw [odGet_keysZero, slotsZeroed, odGet_zeroed, if_pos (mem_span.2 (by omega))]
  exact (congrArg (getF · f) h).trans (getF_zero f)

theorem keepsEntries_slotsZeroed : KeepsEntries [OD.KEY_SLOTS] s (slotsZeroed s) :=
  List.foldlRecOn (motive := KeepsEntries [OD.KEY_SLOTS] s) _ _ (.of_od rfl) fun t ht k hk =>
    ht.trans (keepsEntries_odPut t (List.mem_singleton_self _) ((mem_span.1 hk).2.trans (by decide)) 0)

theorem partF_keysZero {i : Nat} (hi : i < 64) (f : Fld) : partF (keysZero s) i f = partF s i f := by
  have hi24 : i < 2 ^ 24 := hi.trans (by decide)
  refine congrArg (getF · f) ?_
  rw [odGet_keysZero, keepsEntries_slotsZeroed _ _ (by decide) i hi24, (machineKeeps_keyEntriesDrop s).locked _ (by decide) i hi24]

/-- The security state replaced. -/
def withSec (x : SecSt) : State := { s with sec := x }

theorem odGet_withSec (x : SecSt) (e i : Nat) : odGet (withSec s x) e i = odGet s e i := rfl

/-- A token accepted, its scope waiting for the partitions to be erased. -/
def debugWaits (scope : Nat) : State :=
  let s := keysZero (drawNonce s OD.DEBUG_NONCE)
  withSec s { s.sec with derived := false, seedLocked := true, unlocking := some scope }

theorem debugWaits_clauses (scope : Nat) : let t := debugWaits s scope
    t.net.keys = [] ∧ t.sec.derived = false ∧ t.sec.seedLocked = true ∧ (∀ i, i < 64 → ∀ f, partF t i f = partF s i f)
    ∧ ∀ k, 1 ≤ k → k < 256 → ∀ f, keyF t k f = 0 := by
  unfold debugWaits
  extract_lets u
  have hkeys : u.net.keys = [] := congrArg (fun t : State => t.net.keys) (keysZero_eq _)
  have hpart : ∀ i, i < 64 → ∀ f, partF u i f = partF s i f := fun i hi f =>
    (partF_keysZero _ hi f).trans (partF_of_keeps (keepsEntries_drawNonce (List.mem_singleton_self _) s) (by decide) hi f)
  have hslot : ∀ k, 1 ≤ k → k < 256 → ∀ f, keyF u k f = 0 := fun k h1 h2 f => keyF_keysZero _ h1 h2 f
  clear_value u
  exact ⟨hkeys, rfl, rfl, hpart, hslot⟩

theorem debugUnlock_accepted {data : List Byte} (h : tokenOk s data = true) : debugUnlock s data
    = wOk (scopeOpen ((List.range 64).foldl partErase (debugWaits s (getF (leNat (data.take 64)) DebugTok.SCOPE % 8)))) := if_pos h

theorem debugUnlock_clauses (data : List Byte) : let w := debugUnlock s data
    (tokenOk s data = false → w.status = 4 ∧ w.st = drawNonce s OD.DEBUG_NONCE)
    ∧ (tokenOk s data = true → w.status = 0 ∧ w.st.net.keys = [] ∧ w.st.sec.derived = false ∧ w.st.sec.seedLocked = true
      ∧ (∀ i, i < 64 → partF w.st i Part.STATE ≠ 1 ∧ (partF s i Part.STATE = 1 → partF w.st i Part.STATE = 2))
      ∧ ∀ k, 1 ≤ k → k < 256 → keyF w.st k KeySlot.STATE = 0) := by
  intro w
  refine ⟨fun h => ?_, fun h => ?_⟩
  · have hw : w = wBad (drawNonce s OD.DEBUG_NONCE) 4 := if_neg (by simp [h])
    rw [hw]
    exact ⟨rfl, rfl⟩
  · have hw : w = _ := debugUnlock_accepted s h
    rw [hw]
    generalize getF (leNat (data.take 64)) DebugTok.SCOPE % 8 = scope
    obtain ⟨hkeys, hder, hseed, hpart, hslot⟩ := debugWaits_clauses s scope
    generalize debugWaits s scope = d at hkeys hder hseed hpart hslot
    obtain ⟨henet, hesec⟩ := partErases_rest d (List.range 64)
    have herase : KeepsEntries [OD.PARTITIONS] d ((List.range 64).foldl partErase d) :=
      keepsEntries_partErases d fun i hi => List.mem_range.1 hi
    have hstate : ∀ i, i < 64 → partF ((List.range 64).foldl partErase d) i Part.STATE = if partF s i Part.STATE = 1 then 2 else partF s i Part.STATE :=
      fun i hi => by
        rw [partF_partErases, hpart i hi]
        simp [hi]
    generalize (List.range 64).foldl partErase d = e at henet hesec herase hstate
    obtain ⟨-, hnet, hsec⟩ := scopeOpen_rest e
    refine ⟨rfl, ?_, ?_, ?_, fun i hi => ?_, fun k h1 h2 => ?_⟩
    · rw [hnet, henet]
      exact hkeys
    · exact (congrArg SecSt.derived hsec).trans ((congrArg SecSt.derived hesec).trans hder)
    · exact (congrArg SecSt.seedLocked hsec).trans ((congrArg SecSt.seedLocked hesec).trans hseed)
    · have hi' : partF (scopeOpen e) i Part.STATE = _ := (partF_scopeOpen e hi _).trans (hstate i hi)
      rw [hi']
      split
      · next h1 => exact ⟨by decide, fun _ => rfl⟩
      · next h1 => exact ⟨h1, fun h => absurd h h1⟩
    · have hk24 : k < 2 ^ 24 := h2.trans (by decide)
      have hk : odGet (scopeOpen e) OD.KEY_SLOTS k = odGet d OD.KEY_SLOTS k :=
        (keepsEntries_scopeOpen e _ (by decide) k hk24).trans (herase _ (by decide) k hk24)
      exact (congrArg (getF · KeySlot.STATE) hk).trans (hslot k h1 h2 _)

end

end Sys2Proof.Machine

/-! # Attestation reports (R395) and audits (R411 to R413) -/

namespace Sys2Proof.Machine

/-! ## Reports -/

section
variable (s : State)

theorem canSign_withSec (x : SecSt) (hd : x.derived = s.sec.derived) (hu : x.unlocking = s.sec.unlocking) : canSign (withSec s x) = canSign s := by
  unfold canSign
  rw [od, odGet_withSec, withSec, hd, hu]

theorem framesRun_attestState (x : SecSt) (v : Nat) : framesRun (odSet (withSec s x) OD.ATTEST_STATE v) = framesRun s := by
  have hod : ∀ e ≠ OD.ATTEST_STATE, od (odSet (withSec s x) OD.ATTEST_STATE v) e = od s e := fun e he =>
    (od_odSet_ne _ v he).trans (odGet_withSec s x e 0)
  unfold framesRun
  rw [inRun, hod _ (by decide), hod _ (by decide)]
  rfl

/-- The signing of a report that has no snapshot yet: it takes one now where no frames run. -/
theorem attestStart_eq {a : Attest} (ha : a.msg = none) : let t := odSet { s with sec := { s.sec with signing := some a } } OD.ATTEST_STATE 1
    attestStart s a = if framesRun s then t else { t with sec := { t.sec with signing := some { a with msg := some (reportMsg t a.nonce) } } } := by
  intro t
  have hf : framesRun t = framesRun s := framesRun_attestState s _ 1
  have hsnap : attestSnap t = { t with sec := { t.sec with signing := some { a with msg := some (reportMsg t a.nonce) } } } :=
    if_pos (by rw [ha]; rfl)
  show (if framesRun t then t else attestSnap t) = _
  rw [hf, hsnap]

theorem attestRequest_clauses (data : List Byte) : let w := attestRequest s data; let a : Attest := { nonce := data, spdm := false, msg := none }
    (data.length ≠ 32 → w.status = 3 ∧ w.st = s)
    ∧ (data.length = 32 → w.status = 0 ∧ (canSign s = false → w.st = odSet s OD.ATTEST_STATE 3)
      ∧ (canSign s = true → s.sec.signing.isSome = true → w.st = { s with sec := { s.sec with attWaiting := some a } })
      ∧ (canSign s = true → s.sec.signing = none → let t := odSet { s with sec := { s.sec with signing := some a } } OD.ATTEST_STATE 1
        w.st = (if framesRun s then t else { t with sec := { t.sec with signing := some { a with msg := some (reportMsg t data) } } }))) := by
  intro w a
  refine ⟨fun h => ?_, fun h => ?_⟩
  · have hw : w = wBad s 3 := if_pos h
    rw [hw]
    exact ⟨rfl, rfl⟩
  · have hw : w = wOk (attestAsk s data false) := if_neg (not_not_intro h)
    rw [hw]
    refine ⟨rfl, fun hc => if_pos hc, fun hc hs => ?_, fun hc hs => ?_⟩
    · exact (if_neg (by simp [hc])).trans (if_pos hs)
    · exact ((if_neg (by simp [hc])).trans (if_neg (by simp [hs]))).trans (attestStart_eq s (a := a) rfl)

/-- What the end of a signing leaves. -/
theorem execAttestSigned_some {a : Attest} {m : List Byte} (hs : s.sec.signing = some a) (hm : a.msg = some m) :
    let x := { s with sec := { s.sec with signing := none, attWaiting := none } }
    let rep := m ++ fitBytes rsaBytes (Config.signature 0 m) ++ fitBytes slhBytes (Config.signature 1 m)
    let y := odSet (odSetBytes (odClear x OD.ATTEST_REPORT) OD.ATTEST_REPORT rep) OD.ATTEST_STATE 2
    let z := if a.spdm then spdmOut y 0x60 (rep ++ fitBytes rsaBytes (Config.signature 0 (rep ++ a.nonce))) else y
    execAttestSigned s = answer s (if canSign s = false then odSet x OD.ATTEST_STATE 3 else
      match s.sec.attWaiting with
      | some b => attestStart z b
      | none => z) := by
  intro x rep y z
  have hx : canSign x = canSign s := canSign_withSec s _ rfl rfl
  rw [← hx, execAttestSigned, hs]
  simp only [hm]
  rfl

theorem attestSigned_clauses {a : Attest} {m : List Byte} (hs : s.sec.signing = some a) (hm : a.msg = some m) :
    let x := { s with sec := { s.sec with signing := none, attWaiting := none } }
    let rep := m ++ fitBytes rsaBytes (Config.signature 0 m) ++ fitBytes slhBytes (Config.signature 1 m)
    let y := odSet (odSetBytes (odClear x OD.ATTEST_REPORT) OD.ATTEST_REPORT rep) OD.ATTEST_STATE 2
    (canSign s = false → completes .attestSigned s (odSet x OD.ATTEST_STATE 3))
    ∧ (canSign s = true → a.spdm = false → s.sec.attWaiting = none → completes .attestSigned s y)
    ∧ (canSign s = true → a.spdm = false → ∀ b, s.sec.attWaiting = some b → completes .attestSigned s (attestStart y b)) := by
  have h := execAttestSigned_some s hs hm
  refine ⟨fun hc => ?_, fun hc hp hw => ?_, fun hc hp b hw => ?_⟩
  · exact h.trans (congrArg (answer s) (if_pos hc))
  · refine h.trans (congrArg (answer s) ((if_neg (by simp [hc])).trans ?_))
    rw [hw]
    exact if_neg (by simp [hp])
  · refine h.trans (congrArg (answer s) ((if_neg (by simp [hc])).trans ?_))
    rw [hw, hp]
    rfl

theorem attestSigned_none (h : s.sec.signing = none) : completes .attestSigned s s := by
  show execAttestSigned s = answer s s
  rw [execAttestSigned, h]

/-! ## AUDIT_REQUEST (R412) -/

theorem auditRequest_clauses (v : Nat) : let w := auditRequest s v; let f := v / 2 ^ 32 % 2 ^ 32
    (f ≠ 0 → frameLater f (frameNo s) = false → w.status = 4 ∧ w.st = s)
    ∧ (f = 0 ∨ frameLater f (frameNo s) = true → w.status = 0
      ∧ (od s OD.POWER_STATE = 2 → s.aud.running = none → w.st = auditSnap s (v % 1024))
      ∧ (od s OD.POWER_STATE ≠ 2 → s.aud.running = none → w.st = odSet { s with aud := { s.aud with waiting := some (v % 1024, f) } } OD.AUDIT_STATE 1)
      ∧ (s.aud.running.isSome = true → w.st = { s with aud := { s.aud with waiting := some (v % 1024, f) } })) := by
  intro w f
  refine ⟨fun h0 hl => ?_, fun h => ?_⟩
  · have hw : w = wBad s 4 := if_pos ⟨h0, hl⟩
    rw [hw]
    exact ⟨rfl, rfl⟩
  · have hf : ¬ (f ≠ 0 ∧ frameLater f (frameNo s) = false) := fun ⟨h0, hl⟩ => h.elim h0 (by simp [hl])
    have hw : w = _ := if_neg hf
    have hidle : od s OD.POWER_STATE = 2 → s.aud.running = none → w = wOk (auditSnap s (v % 1024)) := fun hp hr =>
      hw.trans (if_pos ⟨hp, by rw [hr]; rfl⟩)
    have hother : ¬ (od s OD.POWER_STATE = 2 ∧ s.aud.running.isNone = true) → w = wOk (if s.aud.running.isNone = true
        then odSet { s with aud := { s.aud with waiting := some (v % 1024, f) } } OD.AUDIT_STATE 1
        else { s with aud := { s.aud with waiting := some (v % 1024, f) } }) := fun hn => hw.trans (if_neg hn)
    refine ⟨?_, fun hp hr => by rw [hidle hp hr], fun hp hr => ?_, fun hr => ?_⟩
    · by_cases hp : od s OD.POWER_STATE = 2 ∧ s.aud.running.isNone = true
      · rw [hw.trans (if_pos hp)]
      · rw [hother hp]
    · rw [hother fun h => hp h.1]
      exact if_pos (by rw [hr]; rfl)
    · have hn : s.aud.running.isNone ≠ true := by
        rw [Option.isSome_iff_ne_none] at hr
        rwa [ne_eq, Option.isNone_iff_eq_none]
      rw [hother fun h => hn h.2]
      exact if_neg hn

end

end Sys2Proof.Machine

/-! # The end of an audit (R411, R413) -/

namespace Sys2Proof.Machine

/-- A law's result published: a mismatch is counted and raises its alert. -/
def auditNote (frame : Nat) (t : State) (r : Nat × Bool × Nat) : State :=
  let t := odPut t OD.AUDIT_RESULTS r.1 (lawResult (if r.2.1 then 2 else 3) frame r.2.2)
  if r.2.1 then t else alert (odAdd t OD.AUDIT_FAILS r.1 1) 10

/-- A law's terms published. -/
def auditTerm (t : State) (x : Nat × List Nat) : State :=
  odBlock t OD.AUDIT_TERMS (4096 * x.1) (x.2 ++ List.replicate (4096 - x.2.length) 0)

/-- The audit's own state replaced. -/
def withAud (s : State) (a : AuditSt) : State := { s with aud := a }

/-- Results and terms published and the audit over, before its state is shown. -/
def auditPublished (s : State) (frame : Nat) : State :=
  let n := s.aud.results.foldl (auditNote frame) s
  let t := n.aud.terms.foldl auditTerm n
  withAud t { t.aud with running := none, results := [], terms := [] }

section
variable {s : State} {a : Nat × Nat}

theorem execAuditDone_walks (h : s.aud.running = some a) (hw : s.pool.walks.any (fun w => w.law) = true) : completes .auditDone s s := by
  show execAuditDone s = answer s s
  rw [execAuditDone, h]
  exact congrArg (answer s) (if_pos hw)

theorem execAuditDone_none (h : s.aud.running = none) : completes .auditDone s s := by
  show execAuditDone s = answer s s
  rw [execAuditDone, h]

theorem execAuditDone_ends (h : s.aud.running = some a) (hw : s.pool.walks.any (fun w => w.law) = false) :
    execAuditDone s = answer s (match (auditPublished s a.2).aud.waiting with
      | none => odSet (auditPublished s a.2) OD.AUDIT_STATE 3
      | some w => if od (auditPublished s a.2) OD.POWER_STATE = 2
          then auditSnap { auditPublished s a.2 with aud := { (auditPublished s a.2).aud with waiting := none } } w.1
          else odSet (auditPublished s a.2) OD.AUDIT_STATE 1) := by
  rw [execAuditDone, h]
  refine congrArg (answer s) ((if_neg (by simp [hw])).trans ?_)
  rfl

end

/-! ## What the publication leaves -/

section
variable (frame : Nat)

/-- Beside the dictionary a note can only show its alert. -/
theorem auditNote_frame (t : State) (r : Nat × Bool × Nat) : ∃ o x h, auditNote frame t r = { t with od := o, out := x, host := h } := by
  unfold auditNote
  extract_lets t1
  have h1 : ∃ o, t1 = { t with od := o } := ⟨_, rfl⟩
  clear_value t1
  obtain ⟨o, rfl⟩ := h1
  split
  · exact ⟨_, _, _, rfl⟩
  · rw [alert_eq]
    exact ⟨_, _, _, rfl⟩

theorem auditTerm_frame (t : State) (x : Nat × List Nat) : ∃ o, auditTerm t x = { t with od := o } := ⟨_, rfl⟩

theorem auditNotes_frame (s : State) (l : List (Nat × Bool × Nat)) : ∃ o x h, l.foldl (auditNote frame) s = { s with od := o, out := x, host := h } :=
  List.foldlRecOn (motive := fun t => ∃ o x h, t = { s with od := o, out := x, host := h }) l (auditNote frame) ⟨_, _, _, rfl⟩
    fun t ⟨o, x, h, ht⟩ r _ => by
      obtain ⟨o', x', h', hr⟩ := auditNote_frame frame t r
      rw [hr, ht]
      exact ⟨_, _, _, rfl⟩

theorem auditTerms_frame (s : State) (l : List (Nat × List Nat)) : ∃ o, l.foldl auditTerm s = { s with od := o } :=
  List.foldlRecOn (motive := fun t => ∃ o, t = { s with od := o }) l auditTerm ⟨_, rfl⟩ fun t ⟨o, ht⟩ x _ => by
    obtain ⟨o', hx⟩ := auditTerm_frame t x
    rw [hx, ht]
    exact ⟨_, rfl⟩

theorem auditPublished_frame (s : State) : ∃ o x h, auditPublished s frame
    = { s with od := o, out := x, host := h, aud := { s.aud with running := none, results := [], terms := [] } } := by
  obtain ⟨o, x, h, hn⟩ := auditNotes_frame frame s s.aud.results
  unfold auditPublished
  extract_lets n t
  obtain ⟨o', ht⟩ : ∃ o', t = { n with od := o' } := auditTerms_frame n n.aud.terms
  replace hn : n = _ := hn
  clear_value t n
  subst ht hn
  exact ⟨o', x, h, rfl⟩

/-- The entries that an audit's results and terms are written in. -/
def auditEntries : List Nat := [OD.AUDIT_RESULTS, OD.AUDIT_FAILS, OD.ALERT_CAUSES, OD.AUDIT_TERMS]

theorem keepsEntries_auditNote (t : State) {r : Nat × Bool × Nat} (hr : r.1 < 10) : KeepsEntries auditEntries t (auditNote frame t r) := by
  have h24 : r.1 < 2 ^ 24 := hr.trans (by decide)
  unfold auditNote
  extract_lets t1
  have h1 : KeepsEntries auditEntries t t1 := keepsEntries_odPut t (by decide) h24 _
  exact .ite h1 ((h1.trans (keepsEntries_odAdd t1 (by decide) h24 1)).trans (keepsEntries_alert (by decide) _ 10))

theorem keepsEntries_auditTerm (t : State) {x : Nat × List Nat} (hx : x.1 < 10 ∧ x.2.length ≤ 4096) :
    KeepsEntries [OD.AUDIT_TERMS] t (auditTerm t x) := by
  refine keepsEntries_odBlock t (List.mem_singleton_self _) ?_
  rw [List.length_append, List.length_replicate]
  omega

theorem keepsEntries_auditTerms (s : State) {l : List (Nat × List Nat)} (hl : ∀ x ∈ l, x.1 < 10 ∧ x.2.length ≤ 4096) :
    KeepsEntries [OD.AUDIT_TERMS] s (l.foldl auditTerm s) :=
  List.foldlRecOn (motive := KeepsEntries [OD.AUDIT_TERMS] s) l auditTerm (.of_od rfl) fun t ht x hx =>
    ht.trans (keepsEntries_auditTerm t (hl x hx))

/-- The terms are published after the results, which leave them as they were. -/
theorem keepsEntries_auditPublished_terms {s : State} (ht : ∀ x ∈ s.aud.terms, x.1 < 10 ∧ x.2.length ≤ 4096) :
    KeepsEntries [OD.AUDIT_TERMS] (s.aud.results.foldl (auditNote frame) s) (auditPublished s frame) := by
  obtain ⟨o, x, h, hn⟩ := auditNotes_frame frame s s.aud.results
  have haud : (s.aud.results.foldl (auditNote frame) s).aud = s.aud := by rw [hn]
  exact (keepsEntries_auditTerms _ fun x hx => ht x (haud ▸ hx)).trans (.of_od rfl)

theorem keepsEntries_auditPublished {s : State} (hr : ∀ r ∈ s.aud.results, r.1 < 10) (ht : ∀ x ∈ s.aud.terms, x.1 < 10 ∧ x.2.length ≤ 4096) :
    KeepsEntries auditEntries s (auditPublished s frame) := by
  have hnotes : KeepsEntries auditEntries s (s.aud.results.foldl (auditNote frame) s) :=
    List.foldlRecOn (motive := KeepsEntries auditEntries s) _ (auditNote frame) (.of_od rfl) fun t hk r hr' =>
      hk.trans (keepsEntries_auditNote frame t (hr r hr'))
  exact hnotes.trans ((keepsEntries_auditPublished_terms frame ht).mono (by decide))

/-! ## The results that are read back -/

theorem odGet_ite {c : Prop} [Decidable c] {t u : State} {e i : Nat} (h : odGet u e i = odGet t e i) : odGet (if c then t else u) e i = odGet t e i := by
  split
  · rfl
  · exact h

theorem odGet_auditNote (t : State) (r : Nat × Bool × Nat) {i : Nat} (hr : r.1 < 10) (hi : i < 10) : odGet (auditNote frame t r) OD.AUDIT_RESULTS i
    = if i = r.1 then lawResult (if r.2.1 then 2 else 3) frame r.2.2 else odGet t OD.AUDIT_RESULTS i := by
  have h24 : i < 2 ^ 24 := hi.trans (by decide)
  have hfail : ∀ u : State, odGet (alert (odAdd u OD.AUDIT_FAILS r.1 1) 10) OD.AUDIT_RESULTS i = odGet u OD.AUDIT_RESULTS i := fun u =>
    (alert_od_ne _ 10 _ i (by decide) h24).trans
      (odGet_odAdd_entry u OD.AUDIT_FAILS r.1 1 OD.AUDIT_RESULTS i (by decide) (hr.trans (by decide)) h24)
  refine (odGet_ite (hfail _)).trans ?_
  by_cases h : i = r.1
  · rw [if_pos h, h, odGet_odPut_same]
  · rw [if_neg h, odGet_odPut_elem t _ r.1 _ i h]

theorem odGet_auditNotes (s : State) {l : List (Nat × Bool × Nat)} (hl : ∀ r ∈ l, r.1 < 10) (hnd : (l.map Prod.fst).Nodup)
    {r : Nat × Bool × Nat} (hr : r ∈ l) : odGet (l.foldl (auditNote frame) s) OD.AUDIT_RESULTS r.1 = lawResult (if r.2.1 then 2 else 3) frame r.2.2 := by
  induction l using List.reverseRecOn with
  | nil => cases hr
  | append_singleton l x ih =>
    have hx : x.1 < 10 := hl x (by simp)
    rw [List.foldl_concat, odGet_auditNote frame _ x hx (hl r hr)]
    obtain hr' | hr' := List.mem_append.1 hr
    · rw [List.map_append, List.nodup_append] at hnd
      obtain ⟨hnd', -, hdis⟩ := hnd
      have hne : r.1 ≠ x.1 := hdis r.1 (List.mem_map_of_mem hr') x.1 (by simp)
      rw [if_neg hne]
      exact ih (fun y hy => hl y (List.mem_append_left _ hy)) hnd' hr'
    · rw [List.mem_singleton.1 hr', if_pos rfl]

theorem auditNote_alert (t : State) {r : Nat × Bool × Nat} (hr : r.1 < 10)
    (h : r.2.1 = false ∨ bitOf (od t OD.ALERT_CAUSES) 10 = true) : bitOf (od (auditNote frame t r) OD.ALERT_CAUSES) 10 = true := by
  have h24 : r.1 < 2 ^ 24 := hr.trans (by decide)
  unfold auditNote
  extract_lets t1
  have h1 : od t1 OD.ALERT_CAUSES = od t OD.ALERT_CAUSES := odGet_odPut_entry t _ r.1 _ _ 0 (by decide) h24 (by decide)
  split
  · next hm => rw [h1]; exact h.resolve_left (by simp [hm])
  · exact alert_bit _ 10

theorem auditNotes_alert (s : State) {l : List (Nat × Bool × Nat)} (hl : ∀ r ∈ l, r.1 < 10) (h : ∃ r ∈ l, r.2.1 = false) :
    bitOf (od (l.foldl (auditNote frame) s) OD.ALERT_CAUSES) 10 = true := by
  induction l using List.reverseRecOn with
  | nil =>
    obtain ⟨r, hr, -⟩ := h
    cases hr
  | append_singleton l x ih =>
    rw [List.foldl_concat]
    refine auditNote_alert frame _ (hl x (by simp)) ?_
    obtain ⟨r, hr, hm⟩ := h
    obtain hr' | hr' := List.mem_append.1 hr
    · exact .inr (ih (fun y hy => hl y (List.mem_append_left _ hy)) ⟨r, hr', hm⟩)
    · exact .inl (List.mem_singleton.1 hr' ▸ hm)

theorem auditPublished_results {s : State} (hr : ∀ r ∈ s.aud.results, r.1 < 10) (hnd : (s.aud.results.map Prod.fst).Nodup)
    (ht : ∀ x ∈ s.aud.terms, x.1 < 10 ∧ x.2.length ≤ 4096) :
    (∀ r ∈ s.aud.results, odGet (auditPublished s frame) OD.AUDIT_RESULTS r.1 = lawResult (if r.2.1 then 2 else 3) frame r.2.2)
    ∧ ((∃ r ∈ s.aud.results, r.2.1 = false) → bitOf (od (auditPublished s frame) OD.ALERT_CAUSES) 10 = true) := by
  have hkeep := keepsEntries_auditPublished_terms frame ht
  refine ⟨fun r hr' => ?_, fun h => ?_⟩
  · exact (hkeep _ (by decide) r.1 ((hr r hr').trans (by decide))).trans (odGet_auditNotes frame s hr hnd hr')
  · exact (congrArg (bitOf · 10) (hkeep.od (e := OD.ALERT_CAUSES) (by decide))).trans (auditNotes_alert frame s hr h)

end

/-! ## AUDIT_DONE -/

section
variable {s : State} {mask frame : Nat}

/-- A scalar stored leaves all but the dictionary. -/
theorem odSet_rest (t : State) (e v : Nat) : (odSet t e v).aud = t.aud ∧ (odSet t e v).mem = t.mem := ⟨rfl, rfl⟩

/-- A scalar stored, the parts that an audit's end may change put back. -/
theorem odPut_frame4 (t : State) (e i v : Nat) (o : KMap Nat) (a : AuditSt) (x : List HostOut) (h : HostSt) :
    { odPut t e i v with od := o, aud := a, out := x, host := h } = { t with od := o, aud := a, out := x, host := h } := rfl

theorem auditDone_done (h : s.aud.running = some (mask, frame)) (hw : s.pool.walks.any (fun w => w.law) = false) (hn : s.aud.waiting = none)
    (hr : ∀ r ∈ s.aud.results, r.1 < 10) (hnd : (s.aud.results.map Prod.fst).Nodup)
    (ht : ∀ x ∈ s.aud.terms, x.1 < 10 ∧ x.2.length ≤ 4096) : ∃ t, completes .auditDone s t
      ∧ { t with od := s.od, aud := s.aud, out := s.out, host := s.host } = s ∧ t.aud.results = [] ∧ od t OD.AUDIT_STATE = 3 ∧ t.aud.running = none
      ∧ (∀ r ∈ s.aud.results, odGet t OD.AUDIT_RESULTS r.1 = lawResult (if r.2.1 then 2 else 3) frame r.2.2)
      ∧ ((∃ r ∈ s.aud.results, r.2.1 = false) → bitOf (od t OD.ALERT_CAUSES) 10 = true)
      ∧ t.mem = s.mem := by
  have hdone := execAuditDone_ends h hw
  obtain ⟨o, x, y, hp⟩ := auditPublished_frame frame s
  obtain ⟨hres, hbit⟩ := auditPublished_results frame hr hnd ht
  have hset : KeepsEntries [OD.AUDIT_STATE] (auditPublished s frame) (odSet (auditPublished s frame) OD.AUDIT_STATE 3) :=
    keepsEntries_odPut _ (List.mem_singleton_self _) (by decide) 3
  obtain ⟨haud, hmem⟩ := odSet_rest (auditPublished s frame) OD.AUDIT_STATE 3
  have hwait : (auditPublished s frame).aud.waiting = none := by rw [hp, hn]
  rw [hwait] at hdone
  refine ⟨_, hdone, ?_, ?_, od_odSet_same _ _ _, ?_, fun r hr' => ?_, fun hx => ?_, ?_⟩
  · exact (odPut_frame4 _ _ _ _ _ _ _ _).trans (by rw [hp])
  · rw [haud, hp]
  · rw [haud, hp]
  · exact (hset _ (by decide) r.1 ((hr r hr').trans (by decide))).trans (hres r hr')
  · exact (congrArg (bitOf · 10) (hset.od (e := OD.ALERT_CAUSES) (by decide))).trans (hbit hx)
  · rw [hmem, hp]

theorem auditDone_waits (h : s.aud.running = some (mask, frame)) (hw : s.pool.walks.any (fun w => w.law) = false)
    (hr : ∀ r ∈ s.aud.results, r.1 < 10) (ht : ∀ x ∈ s.aud.terms, x.1 < 10 ∧ x.2.length ≤ 4096) {w : Nat × Nat}
    (hs : s.aud.waiting = some w) (hpow : od s OD.POWER_STATE ≠ 2) : ∃ t, completes .auditDone s t
      ∧ od t OD.AUDIT_STATE = 1 ∧ t.aud.running = none ∧ t.aud.waiting = some w ∧ t.mem = s.mem := by
  have hdone := execAuditDone_ends h hw
  obtain ⟨o, x, y, hp⟩ := auditPublished_frame frame s
  have hkept : od (auditPublished s frame) OD.POWER_STATE = od s OD.POWER_STATE := (keepsEntries_auditPublished frame hr ht).od (by decide)
  obtain ⟨haud, hmem⟩ := odSet_rest (auditPublished s frame) OD.AUDIT_STATE 1
  have hwait : (auditPublished s frame).aud.waiting = some w := by rw [hp, hs]
  rw [hwait] at hdone
  refine ⟨_, hdone.trans (congrArg (answer s) (if_neg (hkept ▸ hpow))), od_odSet_same _ _ _, ?_, ?_, ?_⟩
  · rw [haud, hp]
  · rw [haud, hwait]
  · rw [hmem, hp]

end

end Sys2Proof.Machine

/-! # Partitions, tenant keys, debug tokens, reports and audits (R389 to R413) -/

namespace Sys2Proof.Machine

theorem partitionErased_other {s : State} {i : Nat} (h : 64 ≤ i ∨ partF s i Part.STATE ≠ 2) : completes (.partitionErased i) s s :=
  congrArg (answer s) (if_neg fun ⟨hi, hs⟩ => h.elim (fun h => by omega) (fun h => h hs))

/-- Settles O57, part by part. -/
theorem partitionsReportsAndAudits : Obligations.PartitionsReportsAndAudits := by
  refine ⟨fun s off data => ⟨?_, ?_, ?_, ?_, ?_, ?_, ?_⟩, fun s i hi hs => partitionErased_clauses s hi hs,
    fun s scope h hfree => scopeOpen_clauses s h hfree, fun s a m hs hm => attestSigned_clauses s hs hm,
    fun s mask frame h => ⟨execAuditDone_walks h, auditDone_done h, fun hw hr ht w hs hp => auditDone_waits h hw hr ht hs hp⟩,
    fun s => ⟨execAuditDone_none, attestSigned_none s, fun i h => partitionErased_other h⟩⟩
  · rw [commandWrite_partitionCreate]
    exact partCreate_clauses s data
  · rw [commandWrite_partitionRelease]
    exact partRelease_clauses s _
  · rw [commandWrite_keyRevoke]
    exact keyRevoke_clauses s _
  · rw [commandWrite_keyInstall]
    exact keyInstall_clauses s data
  · rw [commandWrite_debugUnlock]
    exact debugUnlock_clauses s data
  · rw [commandWrite_attestRequest]
    exact attestRequest_clauses s data
  · rw [commandWrite_auditRequest]
    exact auditRequest_clauses s _

end Sys2Proof.Machine

/-! # Boot: the ROM, the first stage, images over PCIe and the entry to CONFIG (R385 to R391, R420, R470 to R472) -/

namespace Sys2Proof.Machine

/-! ## Images and BOOT_STATUS -/

section
variable (s : State)

theorem bootCheck_le (img : List Byte) : bootCheck s img ≤ 7 := by
  unfold bootCheck
  extract_lets h n i sg
  have hsg : sg ≤ 5 := by
    show twoSigs i (img.take 128) (img.drop (128 + n)) ≤ 5
    unfold twoSigs
    split
    · decide
    · split <;> decide
  split
  · decide
  · split
    · decide
    · split
      · decide
      · split
        · omega
        · split
          · decide
          · split <;> decide

theorem bootCheck_noImage {img : List Byte} (h : img.length < 128 ∨ getF (leNat (img.take 128)) BootHdr.MAGIC ≠ 0x444E4254) :
    bootCheck s img = 1 := if_pos h

theorem bootCheck_format {img : List Byte} (hlen : 128 ≤ img.length) (hmagic : getF (leNat (img.take 128)) BootHdr.MAGIC = 0x444E4254)
    (h : getF (leNat (img.take 128)) BootHdr.FORMAT ≠ 1 ∨ getF (leNat (img.take 128)) BootHdr.BODY_BYTES = 0) : bootCheck s img = 2 := by
  have himg : ¬ (img.length < 128 ∨ getF (leNat (img.take 128)) BootHdr.MAGIC ≠ 0x444E4254) := fun hn =>
    hn.elim (fun hn => absurd hlen (by omega)) (fun hn => hn hmagic)
  exact (if_neg himg).trans (if_pos (h.elim .inl fun h => .inr (.inl h)))

omit s in
/-- A choice that gives 0, one of whose sides does not. -/
theorem of_ite_eq_zero {c : Prop} [Decidable c] {a b : Nat} (ha : c → a ≠ 0) (h : (if c then a else b) = 0) : ¬ c ∧ b = 0 := by
  split at h
  · next hc => exact absurd h (ha hc)
  · next hc => exact ⟨hc, h⟩

theorem bootCheck_accepted {img : List Byte} (h : bootCheck s img = 0) : let h := leNat (img.take 128)
    leNat (sha384 ((img.drop 128).take (getF h BootHdr.BODY_BYTES))) = getF h BootHdr.BODY_DIGEST
    ∧ bitOf (od s OD.ROOT_REVOKED) (getF h BootHdr.ROOT_INDEX) = false ∧ od s OD.FUSED_SVN ≤ getF h BootHdr.SVN := by
  obtain ⟨-, h⟩ := of_ite_eq_zero (fun _ => Nat.one_ne_zero) h
  obtain ⟨-, h⟩ := of_ite_eq_zero (fun _ => by decide) h
  obtain ⟨hdigest, h⟩ := of_ite_eq_zero (fun _ => by decide) h
  obtain ⟨-, h⟩ := of_ite_eq_zero id h
  obtain ⟨hroot, h⟩ := of_ite_eq_zero (fun _ => by decide) h
  obtain ⟨hsvn, -⟩ := of_ite_eq_zero (fun _ => by decide) h
  exact ⟨not_not.1 hdigest, Bool.not_eq_true _ ▸ hroot, Nat.le_of_not_lt hsvn⟩

/-- Source and outcome of an image, as BOOT_STATUS shows them. -/
theorem bootStatus_fields {source code : Nat} (hs : source < 256) (hc : code < 256) (img : List Byte) :
    getF (od (bootStatus s source code img) OD.BOOT_STATUS) (fld 31 24) = source
    ∧ getF (od (bootStatus s source code img) OD.BOOT_STATUS) (fld 23 16) = code := by
  have hread : od (bootStatus s source code img) OD.BOOT_STATUS = _ := od_odSet_same _ _ _
  rw [hread]
  exact ⟨(getF_setFs_append_cons (fld 31 24) source [] [_, _] 0 (by simp)).trans (Nat.mod_eq_of_lt hs),
    (getF_setFs_append_cons (fld 23 16) code [_] [_] 0 (by simp)).trans (Nat.mod_eq_of_lt hc)⟩

end

/-! ## What the stages of boot leave alone -/

/-- The entries in which an image's outcome is written. -/
def bootEntries : List Nat := [OD.BOOT_STATUS, OD.FW_DIGESTS, OD.FIRMWARE_VERSION, OD.ALERT_CAUSES]

/-- What taking or refusing an image leaves: the other entries, the keys' derivation and the seed's lock. -/
structure BootKeeps (s t : State) : Prop where
  entries : KeepsEntries bootEntries s t
  derived : t.sec.derived = s.sec.derived
  locked : t.sec.seedLocked = s.sec.seedLocked

section
variable (s : State)

theorem BootKeeps.trans {s t u : State} (h : BootKeeps s t) (k : BootKeeps t u) : BootKeeps s u :=
  ⟨h.entries.trans k.entries, k.derived.trans h.derived, k.locked.trans h.locked⟩

theorem bootKeeps_odPut {e i : Nat} (he : e ∈ bootEntries) (hi : i < 2 ^ 24) (v : Nat) : BootKeeps s (odPut s e i v) :=
  ⟨keepsEntries_odPut s he hi v, rfl, rfl⟩

theorem bootKeeps_withSec {x : SecSt} (hd : x.derived = s.sec.derived) (hl : x.seedLocked = s.sec.seedLocked) : BootKeeps s (withSec s x) :=
  ⟨.of_od rfl, hd, hl⟩

theorem bootKeeps_bootStatus (source code : Nat) (img : List Byte) : BootKeeps s (bootStatus s source code img) :=
  bootKeeps_odPut s (e := OD.BOOT_STATUS) (by decide) (by decide) _

theorem bootKeeps_digestPut {i : Nat} (hi : i < 4) (d : Nat) : BootKeeps s (digestPut s i d) :=
  bootKeeps_odPut s (e := OD.FW_DIGESTS) (by decide) (hi.trans (by decide)) d

theorem bootKeeps_firstStageRuns (img : List Byte) (boot : Nat) : BootKeeps s (firstStageRuns s img boot) := by
  unfold firstStageRuns
  extract_lets t
  have h : BootKeeps s t := (bootKeeps_digestPut s (by decide) _).trans (bootKeeps_digestPut _ (by decide) _)
  exact h.trans (bootKeeps_withSec t rfl rfl)

theorem bootKeeps_bootFails : BootKeeps s (bootFails s) := by
  have hsec : BootKeeps s (withSec s { s.sec with boot := 7 }) := bootKeeps_withSec s rfl rfl
  have halert : ∀ t : State, BootKeeps t (alert t 8) := fun t =>
    ⟨keepsEntries_alert (by decide) t 8, congrArg (fun a => a.sec.derived) (asideOf_alert t 8),
      congrArg (fun a => a.sec.seedLocked) (asideOf_alert t 8)⟩
  exact hsec.trans (halert _)

theorem bootFails_boot : (bootFails s).sec.boot = 7 := congrArg (fun a => a.sec.boot) (asideOf_alert { s with sec := { s.sec with boot := 7 } } 8)

/-! ## The ROM (R386, R391) -/

/-- The image that the ROM takes, or what it does with none. -/
def romTakes (a b : List Byte) : State :=
  if bootCheck s a = 0 then firstStageRuns (bootStatus s 0 0 a) a 3
  else if bootCheck s b = 0 then firstStageRuns (bootStatus s 1 0 b) b 3
  else if bitOf (od s OD.STRAPS) 5 then { bootStatus s 2 1 [] with sec := { s.sec with boot := 2 } }
  else bootFails (bootStatus s 1 (bootCheck s b) b)

theorem bootKeeps_romTakes (a b : List Byte) : BootKeeps s (romTakes s a b) := by
  unfold romTakes
  split
  · exact (bootKeeps_bootStatus s 0 0 a).trans (bootKeeps_firstStageRuns _ a 3)
  split
  · exact (bootKeeps_bootStatus s 1 0 b).trans (bootKeeps_firstStageRuns _ b 3)
  split
  · exact (bootKeeps_bootStatus s 2 1 []).trans (bootKeeps_withSec _ rfl rfl)
  · exact (bootKeeps_bootStatus s 1 _ b).trans (bootKeeps_bootFails _)

variable {s} in
theorem romTakes_waits {a b : List Byte} (ha : bootCheck s a ≠ 0) (hb : bootCheck s b ≠ 0) (hs : bitOf (od s OD.STRAPS) 5 = true) :
    (romTakes s a b).sec.boot = 2 ∧ getF (od (romTakes s a b) OD.BOOT_STATUS) (fld 31 24) = 2 := by
  have h : romTakes s a b = withSec (bootStatus s 2 1 []) { s.sec with boot := 2 } :=
    ((if_neg ha).trans (if_neg hb)).trans (if_pos hs)
  rw [h, od, odGet_withSec]
  exact ⟨rfl, (bootStatus_fields s (by decide) (by decide) []).1⟩

variable {s} in
theorem romTakes_fails {a b : List Byte} (ha : bootCheck s a ≠ 0) (hb : bootCheck s b ≠ 0) (hs : bitOf (od s OD.STRAPS) 5 = false) :
    (romTakes s a b).sec.boot = 7 ∧ bitOf (od (romTakes s a b) OD.ALERT_CAUSES) 8 = true := by
  have h : romTakes s a b = bootFails (bootStatus s 1 (bootCheck s b) b) :=
    ((if_neg ha).trans (if_neg hb)).trans (if_neg (by simp [hs]))
  rw [h]
  exact ⟨bootFails_boot _, alert_bit _ 8⟩

/-! ### The keys derived -/

/-- The entries in which the ROM writes keys and nonces. -/
def romEntries : List Nat := [OD.ATTEST_STATE, OD.ID_PUBLIC_RSA, OD.ID_PUBLIC_SLH, OD.KEM_PUBLIC, OD.DEBUG_NONCE, OD.KEY_NONCE, OD.FENCE_NONCE]

theorem publicKey_length (key n : Nat) : (publicKey s key n).length = n := by simp [publicKey]

/-- Bytes set from an entry's first on leave the other entries. -/
theorem keepsEntries_odSetBytes {es : List Nat} {e : Nat} (he : e ∈ es) {bs : List Byte} (hlen : bs.length ≤ 2 ^ 24) :
    KeepsEntries es s (odSetBytes s e bs) := keepsEntries_odBlock s he (by rwa [List.length_map, Nat.zero_add])

/-- The public keys placed. -/
def keysPlaced : State :=
  let t := odSetBytes s OD.ID_PUBLIC_RSA (publicKey s 0 384)
  let t := odSetBytes t OD.ID_PUBLIC_SLH (publicKey t 1 48)
  odSetBytes t OD.KEM_PUBLIC (publicKey t 2 1568)

theorem keysPlaced_clauses : KeepsEntries romEntries s (keysPlaced s) ∧ odBytes (keysPlaced s) OD.ID_PUBLIC_SLH 48 = publicKey s 1 48 := by
  unfold keysPlaced
  extract_lets t1 t2
  have hbytes : ∀ (t : State) (e key n : Nat), n ≤ 2 ^ 24 → KeepsEntries [e] t (odSetBytes t e (publicKey t key n)) := fun t e key n hn =>
    keepsEntries_odSetBytes t (List.mem_singleton_self e) (by rwa [publicKey_length])
  have h1 : KeepsEntries [OD.ID_PUBLIC_RSA] s t1 := hbytes s _ 0 384 (by decide)
  have h2 : KeepsEntries [OD.ID_PUBLIC_SLH] t1 t2 := hbytes t1 _ 1 48 (by decide)
  have h3 : KeepsEntries [OD.KEM_PUBLIC] t2 (odSetBytes t2 OD.KEM_PUBLIC (publicKey t2 2 1568)) := hbytes t2 _ 2 1568 (by decide)
  refine ⟨((h1.mono (by decide)).trans (h2.mono (by decide))).trans (h3.mono (by decide)), ?_⟩
  have hkey : publicKey t1 1 48 = publicKey s 1 48 := by
    rw [publicKey, publicKey, h1.od (e := OD.LIFECYCLE) (by decide)]
  have hset : odBytes t2 OD.ID_PUBLIC_SLH 48 = publicKey t1 1 48 := by
    have := odBytes_odSetBytes t1 OD.ID_PUBLIC_SLH (publicKey t1 1 48)
    rwa [publicKey_length] at this
  rw [← hkey, ← hset]
  exact odBytes_congr fun i hi => h3 _ (by decide) i (hi.trans (by decide))

theorem deriveKeys_returned (h : od s OD.LIFECYCLE = 2) : deriveKeys s = odSet (withSec s { s.sec with seedLocked := true }) OD.ATTEST_STATE 3 :=
  if_pos h

/-- The keys derived, and the seed locked. -/
def keysDerived : State :=
  let t := keysPlaced (withSec s { s.sec with seedLocked := true })
  withSec t { t.sec with derived := true }

theorem deriveKeys_placed (h : od s OD.LIFECYCLE ≠ 2) : deriveKeys s = keysDerived s := if_neg h

/-- The three nonces drawn. -/
def noncesDrawn : State := drawNonce (drawNonce (drawNonce s OD.DEBUG_NONCE) OD.KEY_NONCE) OD.FENCE_NONCE

theorem sec_drawNonce (e : Nat) : (drawNonce s e).sec = s.sec := rfl

theorem noncesDrawn_clauses : KeepsEntries [OD.DEBUG_NONCE, OD.KEY_NONCE, OD.FENCE_NONCE] s (noncesDrawn s) ∧ (noncesDrawn s).sec = s.sec :=
  ⟨((keepsEntries_drawNonce (e := OD.DEBUG_NONCE) (by decide) s).trans (keepsEntries_drawNonce (e := OD.KEY_NONCE) (by decide) _)).trans
    (keepsEntries_drawNonce (e := OD.FENCE_NONCE) (by decide) _),
    (sec_drawNonce _ _).trans ((sec_drawNonce _ _).trans (sec_drawNonce _ _))⟩

/-- The keys beside the ROM's choice of an image: derived, or in RETURNED not. -/
theorem romKeys_clauses : let x := noncesDrawn (deriveKeys s)
    KeepsEntries romEntries s x ∧ x.sec.seedLocked = true
    ∧ (od s OD.LIFECYCLE = 2 → od x OD.ATTEST_STATE = 3 ∧ x.sec.derived = s.sec.derived)
    ∧ (od s OD.LIFECYCLE ≠ 2 → x.sec.derived = true ∧ odBytes x OD.ID_PUBLIC_SLH 48 = publicKey s 1 48) := by
  intro x
  obtain ⟨hnonce, hsec⟩ := noncesDrawn_clauses (deriveKeys s)
  have hnonce' : KeepsEntries romEntries (deriveKeys s) x := hnonce.mono (by decide)
  by_cases hl : od s OD.LIFECYCLE = 2
  · have hder := deriveKeys_returned s hl
    have hkeep : KeepsEntries romEntries s (deriveKeys s) := by
      rw [hder]
      exact (KeepsEntries.of_od rfl : KeepsEntries romEntries s (withSec s { s.sec with seedLocked := true })).trans
        (keepsEntries_odPut _ (e := OD.ATTEST_STATE) (by decide) (by decide) 3)
    refine ⟨hkeep.trans hnonce', ?_, fun _ => ⟨?_, ?_⟩, fun h => absurd hl h⟩
    · rw [hsec, hder]
      rfl
    · rw [hnonce.od (e := OD.ATTEST_STATE) (by decide), hder, od_odSet_same]
    · rw [hsec, hder]
      rfl
  · have hder := deriveKeys_placed s hl
    obtain ⟨hplaced, hkey⟩ := keysPlaced_clauses (withSec s { s.sec with seedLocked := true })
    have hkeep : KeepsEntries romEntries s (deriveKeys s) := by
      rw [hder]
      exact ((KeepsEntries.of_od rfl).trans hplaced).trans (.of_od rfl)
    refine ⟨hkeep.trans hnonce', ?_, fun h => absurd h hl, fun _ => ⟨?_, ?_⟩⟩
    · rw [hsec, hder]
      rfl
    · rw [hsec, hder]
      rfl
    · have hbytes : odBytes x OD.ID_PUBLIC_SLH 48 = odBytes (deriveKeys s) OD.ID_PUBLIC_SLH 48 :=
        odBytes_congr fun i hi => hnonce _ (by decide) i (hi.trans (by decide))
      rw [hbytes, hder]
      exact hkey

theorem execBootRomStart_boot (h : s.sec.boot = 1) (a b : List Byte) :
    execBootRomStart a b s = answer s (romTakes (noncesDrawn (deriveKeys s)) a b) := congrArg (answer s) (if_pos h)

theorem bootRomStart_clauses (a b : List Byte) (h : s.sec.boot = 1) :
    let x := noncesDrawn (deriveKeys s)
    ∃ t, completes (.bootRomStart a b) s t ∧ t = (if bootCheck x a = 0 then firstStageRuns (bootStatus x 0 0 a) a 3
        else if bootCheck x b = 0 then firstStageRuns (bootStatus x 1 0 b) b 3
        else if bitOf (od s OD.STRAPS) 5 then { bootStatus x 2 1 [] with sec := { x.sec with boot := 2 } }
        else bootFails (bootStatus x 1 (bootCheck x b) b))
      ∧ t.sec.seedLocked = true ∧ (od s OD.LIFECYCLE = 2 → od t OD.ATTEST_STATE = 3 ∧ t.sec.derived = s.sec.derived)
      ∧ (od s OD.LIFECYCLE ≠ 2 → t.sec.derived = true ∧ odBytes t OD.ID_PUBLIC_SLH 48 = publicKey s 1 48)
      ∧ (bootCheck x a ≠ 0 → bootCheck x b ≠ 0 → bitOf (od s OD.STRAPS) 5 = true → t.sec.boot = 2 ∧ getF (od t OD.BOOT_STATUS) (fld 31 24) = 2)
      ∧ (bootCheck x a ≠ 0 → bootCheck x b ≠ 0 → bitOf (od s OD.STRAPS) 5 = false → t.sec.boot = 7 ∧ bitOf (od t OD.ALERT_CAUSES) 8 = true
        ∧ od t OD.DEVICE_STATE = od s OD.DEVICE_STATE) := by
  obtain ⟨hkeep, hlock, hret, hder⟩ := romKeys_clauses s
  have hexec := execBootRomStart_boot s h a b
  generalize noncesDrawn (deriveKeys s) = x at hkeep hlock hret hder hexec
  obtain ⟨hentries, hderived, hlocked⟩ := bootKeeps_romTakes x a b
  have hstraps : od x OD.STRAPS = od s OD.STRAPS := hkeep.od (by decide)
  refine ⟨romTakes x a b, hexec, ?_, hlocked.trans hlock, fun hl => ?_, fun hl => ?_, fun ha hb hs => ?_, fun ha hb hs => ?_⟩
  · rw [← hstraps]
    rfl
  · exact ⟨(hentries.od (by decide)).trans (hret hl).1, hderived.trans (hret hl).2⟩
  · refine ⟨hderived.trans (hder hl).1, Eq.trans ?_ (hder hl).2⟩
    exact odBytes_congr fun i hi => hentries _ (by decide) i (hi.trans (by decide))
  · exact romTakes_waits ha hb (hstraps ▸ hs)
  · obtain ⟨hboot, halert⟩ := romTakes_fails ha hb (hstraps ▸ hs)
    exact ⟨hboot, halert, (hentries.od (by decide)).trans (hkeep.od (by decide))⟩

/-! ## The test of the cores (R420) -/

/-- The numbers below `n` that pass a test. -/
def passing (p : Nat → Bool) (n : Nat) : List Nat := (List.range n).filter p

theorem passing_succ (p : Nat → Bool) (n : Nat) : passing p (n + 1) = if p n then passing p n ++ [n] else passing p n := by
  unfold passing
  rw [List.range_succ, List.filter_append]
  cases h : p n <;> simp [h]

/-- Elements marked by their rank among those that pass. -/
theorem odGet_ranked (p : Nat → Bool) (g : Nat → Nat) (e n c : Nat) :
    odGet ((passing p n).zipIdx.foldl (fun t x => odPut t e x.1 (g x.2)) s) e c = if c < n ∧ p c then g (passing p c).length else odGet s e c := by
  induction n with
  | zero => simp [passing]
  | succ n ih =>
    rw [passing_succ]
    cases hp : p n with
    | true =>
      rw [if_pos rfl, List.zipIdx_append, List.foldl_append]
      show odGet (odPut _ e n (g (0 + (passing p n).length))) e c = _
      obtain rfl | hc := eq_or_ne c n
      · rw [odGet_odPut_same, if_pos ⟨Nat.lt_succ_self c, hp⟩, Nat.zero_add]
      · have hlt : c < n + 1 ↔ c < n := by omega
        simp only [odGet_odPut_elem _ _ _ _ _ hc, ih, hlt]
    | false =>
      rw [if_neg Bool.false_ne_true, ih]
      obtain rfl | hc := eq_or_ne c n
      · simp [hp]
      · have hlt : c < n + 1 ↔ c < n := by omega
        simp only [hlt]

/-- A core that fails its boot test, fenced. -/
def coreFailed (t : State) (c : Nat) : State := fenceRecord (odPut t OD.CORE_MAP c 3) 0 c 1

theorem odGet_coreFailed (t : State) (c k : Nat) (hk : k < 200) : odGet (coreFailed t c) OD.CORE_MAP k = if k = c then 3 else odGet t OD.CORE_MAP k := by
  have h : odGet (coreFailed t c) OD.CORE_MAP k = odGet (odPut t OD.CORE_MAP c 3) OD.CORE_MAP k :=
    keepsEntries_fenceRecord _ 0 c 1 _ (by decide) k (hk.trans (by decide))
  rw [h]
  split
  · next hkc => rw [hkc, odGet_odPut_same]
  · next hkc => exact odGet_odPut_elem t _ c 3 k hkc

theorem odGet_coresFailed (l : List Nat) {k : Nat} (hk : k < 200) :
    odGet (l.foldl coreFailed s) OD.CORE_MAP k = if k ∈ l then 3 else odGet s OD.CORE_MAP k := by
  induction l using List.reverseRecOn with
  | nil => simp
  | append_singleton l c ih =>
    rw [List.foldl_concat, odGet_coreFailed _ c k hk, ih]
    by_cases hkc : k = c <;> simp [hkc]

theorem coreBist_map (failed : List Nat) {c : Nat} (hc : c < 200) : odGet (coreBist s failed) OD.CORE_MAP c = if failed.contains c then 3
    else if ((List.range c).filter (fun x => !failed.contains x)).length < 192 then 0 else 1 := by
  have hcheck : ∀ t, odGet (coresCheck t) OD.CORE_MAP c = odGet t OD.CORE_MAP c := fun t =>
    (coresCheck_frame (s := t)).2.2 _ (by decide) c (hc.trans (by decide))
  refine (hcheck _).trans ((odGet_coresFailed _ _ hc).trans ?_)
  have hrank := odGet_ranked s (fun c => !failed.contains c) (fun r => if r < 192 then 0 else 1) OD.CORE_MAP 200 c
  rw [passing] at hrank
  rw [hrank]
  cases hf : failed.contains c with
  | true => rw [if_pos (List.mem_filter.2 ⟨List.mem_range.2 hc, hf⟩), if_pos rfl]
  | false =>
    have hnot : c ∉ (List.range 200).filter (fun c => failed.contains c) := fun h =>
      Bool.false_ne_true (hf.symm.trans (List.mem_filter.1 h).2)
    rw [if_neg hnot, if_pos ⟨hc, rfl⟩, if_neg Bool.false_ne_true]
    rfl

/-! ## FIRST_STAGE_LOAD (R388, R420, R462) -/

theorem firstStageLoad_tests (p q base : List Byte) (failed : List Nat) (h : s.sec.boot = 8) : let u := coreBist s failed
    completes (.firstStageLoad p q base failed) s { u with sec := { u.sec with boot := 6 } } := congrArg (answer s) (if_pos h)

theorem firstStageLoad_other (p q base : List Byte) (failed : List Nat) (h3 : s.sec.boot ≠ 3) (h8 : s.sec.boot ≠ 8) :
    completes (.firstStageLoad p q base failed) s s := congrArg (answer s) ((if_neg h8).trans (if_neg h3))

theorem firstStageLoad_flash (p q base : List Byte) (failed : List Nat) (h : s.sec.boot = 3) :
    let img := if bootCheck s p = 0 then p else q
    let src := if bootCheck s p = 0 then 0 else 1
    let x := plannerRuns (bootStatus s src 0 img) img
    completes (.firstStageLoad p q base failed) s (if bootCheck s img ≠ 0 then bootFails (bootStatus s src (bootCheck s img) img)
      else if bootCheck x base ≠ 0 then bootFails (bootStatus x 0 (bootCheck x base) base)
      else let u := coreBist (digestPut x 3 (bootF base BootHdr.BODY_DIGEST)) failed
        { u with sec := { u.sec with boot := 6 } }) := by
  have h8 : s.sec.boot ≠ 8 := by omega
  have hexec : execFirstStageLoad p q base failed s = _ := congrArg (answer s) ((if_neg h8).trans (if_pos h))
  refine hexec.trans ?_
  by_cases hp : bootCheck s p = 0
  · have hb : (bootCheck s p == 0) = true := beq_iff_eq.2 hp
    simp only [hb, if_pos hp]
    rfl
  · have hb : (bootCheck s p == 0) = false := beq_eq_false_iff_ne.2 hp
    simp only [hb, if_neg hp]
    rfl

/-! ## Images over PCIe (R472) and the fused version (R387) -/

theorem bootAwaits_cases {k : Nat} (h : bootAwaits s = some k) : k < 3 := by
  unfold bootAwaits at h
  split at h
  · cases h; decide
  split at h
  · cases h; decide
  split at h
  · cases h; decide
  · cases h

theorem bootLoadWrite_awaited {k : Nat} (h : bootAwaits s = some k) (off : Nat) (data : List Byte) :
    bootLoadWrite s off data = wOk { s with sec := { s.sec with bootLoad := (memWrite { s with mem := s.sec.bootLoad } off data).mem } } :=
  if_neg (by rw [h]; exact Bool.false_ne_true)

/-- A byte staged keeps all but the staging area. -/
theorem bootLoad_frame (m : List Host.Cell) : { ({ s with sec := { s.sec with bootLoad := m } } : State) with
    sec := { s.sec with bootLoad := s.sec.bootLoad } } = s := rfl

theorem bootLoadWrite_clauses {k : Nat} (h : bootAwaits s = some k) (off : Nat) (data : List Byte) : let l := bootLoadWrite s off data
    l.status = 0 ∧ { l.st with sec := { l.st.sec with bootLoad := s.sec.bootLoad } } = s
    ∧ ∀ i, i < data.length → kget l.st.sec.bootLoad (off + i) 0 = data.getD i 0 := by
  rw [bootLoadWrite_awaited s h]
  refine ⟨rfl, bootLoad_frame s _, fun i hi => ?_⟩
  rw [List.getD_eq_getElem _ _ hi]
  exact memByte_memWrite_in { s with mem := s.sec.bootLoad } off data i hi

/-- The outcome of the image staged, shown, and the staging area empty. -/
def imageShown : State :=
  bootStatus (withSec s { s.sec with bootLoad := [] }) 2 (bootCheck s (stagedImage s)) (stagedImage s)

/-- An image of a kind that was accepted, taken. -/
def imageTaken (t : State) (img : List Byte) (k : Nat) : State :=
  if k = 0 then firstStageRuns t img 4
  else if k = 1 then withSec (plannerRuns t img) { (plannerRuns t img).sec with boot := 5 }
  else withSec (digestPut t 3 (bootF img BootHdr.BODY_DIGEST)) { (digestPut t 3 (bootF img BootHdr.BODY_DIGEST)).sec with boot := 8 }

/-- What a BOOT_COMMIT of the kind awaited leaves. -/
def imageCommitted (k : Nat) : State :=
  if bootCheck s (stagedImage s) ≠ 0 then imageShown s else imageTaken (imageShown s) (stagedImage s) k

theorem wOk_ite {c : Prop} [Decidable c] (t u : State) : wOk (if c then t else u) = if c then wOk t else wOk u := apply_ite wOk c t u

theorem bootCommit_awaited {k : Nat} (h : bootAwaits s = some k) : bootCommit s k = wOk (imageCommitted s k) := by
  rw [bootCommit, h, imageCommitted, imageTaken, wOk_ite, wOk_ite, wOk_ite]
  exact if_neg (not_not_intro rfl)

theorem bootCommit_other {k kind : Nat} (h : bootAwaits s = some k) (hk : kind ≠ k) : bootCommit s kind = wBad s 4 := by
  rw [bootCommit, h]
  exact if_pos hk

theorem bootCommit_none (h : bootAwaits s = none) (kind : Nat) : bootCommit s kind = wBad s 2 := by rw [bootCommit, h]

/-- The entries in which an accepted image is recorded. -/
def imageEntries : List Nat := [OD.FW_DIGESTS, OD.FIRMWARE_VERSION]

theorem keepsEntries_digestPut {i : Nat} (hi : i < 4) (d : Nat) : KeepsEntries imageEntries s (digestPut s i d) :=
  keepsEntries_odPut s (e := OD.FW_DIGESTS) (by decide) (hi.trans (by decide)) d

theorem keepsEntries_firstStageRuns (img : List Byte) (boot : Nat) : KeepsEntries imageEntries s (firstStageRuns s img boot) :=
  ((keepsEntries_digestPut s (by decide) _).trans (keepsEntries_digestPut _ (by decide) _)).trans (.of_od rfl)

theorem keepsEntries_plannerRuns (img : List Byte) : KeepsEntries imageEntries s (plannerRuns s img) :=
  (keepsEntries_digestPut s (by decide) _).trans (keepsEntries_odPut _ (e := OD.FIRMWARE_VERSION) (by decide) (by decide) _)

theorem sec_odPut (e i v : Nat) : (odPut s e i v).sec = s.sec := rfl

theorem imageShown_sec : (imageShown s).sec = { s.sec with bootLoad := [] } := sec_odPut _ _ _ _

/-- An image taken: the boot goes on, and the outcome stays shown. -/
theorem imageTaken_clauses (t : State) (img : List Byte) {k : Nat} (hk : k < 3) : (imageTaken t img k).sec.boot = [4, 5, 8].getD k 0
    ∧ (imageTaken t img k).sec.bootLoad = t.sec.bootLoad ∧ KeepsEntries imageEntries t (imageTaken t img k) := by
  obtain rfl | rfl | rfl : k = 0 ∨ k = 1 ∨ k = 2 := by omega
  · exact ⟨rfl, rfl, keepsEntries_firstStageRuns t img 4⟩
  · exact ⟨rfl, rfl, (keepsEntries_plannerRuns t img).trans (.of_od rfl)⟩
  · exact ⟨rfl, rfl, (keepsEntries_digestPut t (by decide) _).trans (.of_od rfl)⟩

theorem imageCommitted_refused (k : Nat) (h : bootCheck s (stagedImage s) ≠ 0) : imageCommitted s k = imageShown s := if_pos h

theorem imageCommitted_accepted (k : Nat) (h : bootCheck s (stagedImage s) = 0) :
    imageCommitted s k = imageTaken (imageShown s) (stagedImage s) k := if_neg (not_not_intro h)

theorem imageCommitted_clauses {k : Nat} (hk : k < 3) : let t := imageCommitted s k
    t.sec.bootLoad = [] ∧ getF (od t OD.BOOT_STATUS) (fld 23 16) = bootCheck s (stagedImage s) ∧ getF (od t OD.BOOT_STATUS) (fld 31 24) = 2
    ∧ (bootCheck s (stagedImage s) ≠ 0 → t.sec.boot = s.sec.boot) ∧ (bootCheck s (stagedImage s) = 0 → t.sec.boot = [4, 5, 8].getD k 0) := by
  intro t
  have hcode : bootCheck s (stagedImage s) < 256 := (bootCheck_le s _).trans_lt (by decide)
  obtain ⟨hsource, houtcome⟩ := bootStatus_fields (withSec s { s.sec with bootLoad := [] }) (source := 2) (by decide) hcode (stagedImage s)
  by_cases h : bootCheck s (stagedImage s) = 0
  · obtain ⟨hboot, hload, hkeep⟩ := imageTaken_clauses (imageShown s) (stagedImage s) hk
    have ht : t = imageTaken (imageShown s) (stagedImage s) k := imageCommitted_accepted s k h
    rw [ht, hkeep.od (e := OD.BOOT_STATUS) (by decide)]
    exact ⟨hload.trans (congrArg SecSt.bootLoad (imageShown_sec s)), houtcome, hsource, fun hn => absurd h hn, fun _ => hboot⟩
  · have ht : t = imageShown s := imageCommitted_refused s k h
    rw [ht, imageShown_sec]
    exact ⟨rfl, houtcome, hsource, fun _ => rfl, fun h0 => absurd h0 h⟩

theorem svnCommit_clauses (v : Nat) : let w := svnCommit s v
    (od s OD.FUSED_SVN ≤ v → v ≤ s.sec.firstSvn → v ≤ 63 → w.status = 0 ∧ w.st = odSet s OD.FUSED_SVN v)
    ∧ (v < od s OD.FUSED_SVN ∨ s.sec.firstSvn < v ∨ 63 < v → w.status = 4 ∧ w.st = s) := by
  intro w
  refine ⟨fun h1 h2 h3 => ?_, fun h => ?_⟩
  · have hw : w = wOk (odSet s OD.FUSED_SVN v) := if_neg (by omega)
    rw [hw]
    exact ⟨rfl, rfl⟩
  · have hw : w = wBad s 4 := if_pos (by omega)
    rw [hw]
    exact ⟨rfl, rfl⟩

theorem leNat_oneByte {kind : Nat} (h : kind < 256) : leNat (leBytes 1 kind) = kind := by
  rw [leNat_leBytes]
  exact Nat.mod_eq_of_lt h

theorem bootCommands_clauses (off : Nat) {kind : Nat} (data : List Byte) (hkind : kind < 256) :
    let w := commandWrite s OD.BOOT_COMMIT off (leBytes 1 kind)
    let l := commandWrite s OD.BOOT_LOAD off data
    (bootAwaits s = none → w.status = 2 ∧ w.st = s ∧ l.status = 2 ∧ l.st = s)
    ∧ ∀ k, bootAwaits s = some k → (kind ≠ k → w.status = 4 ∧ w.st = s)
      ∧ (kind = k → w.status = 0 ∧ w.st.sec.bootLoad = [] ∧ getF (od w.st OD.BOOT_STATUS) (fld 23 16) = bootCheck s (stagedImage s)
        ∧ getF (od w.st OD.BOOT_STATUS) (fld 31 24) = 2 ∧ (bootCheck s (stagedImage s) ≠ 0 → w.st.sec.boot = s.sec.boot)
        ∧ (bootCheck s (stagedImage s) = 0 → w.st.sec.boot = [4, 5, 8].getD k 0))
      ∧ l.status = 0 ∧ { l.st with sec := { l.st.sec with bootLoad := s.sec.bootLoad } } = s
      ∧ ∀ i, i < data.length → kget l.st.sec.bootLoad (off + i) 0 = data.getD i 0 := by
  rw [commandWrite_bootCommit, commandWrite_bootLoad, leNat_oneByte hkind]
  refine ⟨fun hn => ?_, fun k hk => ⟨fun hne => ?_, fun he => ?_, bootLoadWrite_clauses s hk off data⟩⟩
  · have hl : bootLoadWrite s off data = wBad s 2 := if_pos (by rw [hn]; rfl)
    rw [bootCommit_none s hn, hl]
    exact ⟨rfl, rfl, rfl, rfl⟩
  · rw [bootCommit_other s hk hne]
    exact ⟨rfl, rfl⟩
  · have hclauses := imageCommitted_clauses s (bootAwaits_cases s hk)
    rw [he, bootCommit_awaited s hk]
    generalize imageCommitted s k = t at hclauses ⊢
    exact ⟨rfl, hclauses⟩

/-! ## CONFIG_ENTRY (R470, R471) -/

theorem configEntry_clauses (base : List Byte) (overlays : List (List Byte)) :
    let ready := od s OD.DEVICE_STATE = 0 ∧ s.sec.boot = 6 ∧ (s.sec.derived = true ∨ od s OD.LIFECYCLE = 2)
    let x := odSet s OD.DEVICE_STATE 1
    let d := match regionImage 1 base with
      | some img => baseImage x img
      | none => dStatus x 0
    (¬ ready → completes (.configEntry base overlays) s s)
    ∧ (ready → (d.undef = 0 → completes (.configEntry base overlays) s ((overlays.take 16).foldl (fun t o => match regionImage 2 o with
        | some img => (overlayLoad t img).st
        | none => t) d.st))
      ∧ (d.undef ≠ 0 → exec (.configEntry base overlays) s = .fault (.undefinedCase d.undef))) := by
  intro ready x d
  have hguard : (od s OD.DEVICE_STATE ≠ 0 ∨ s.sec.boot ≠ 6 ∨ (s.sec.derived = false ∧ od s OD.LIFECYCLE ≠ 2)) ↔ ¬ ready := by
    show _ ↔ ¬ (_ ∧ _ ∧ (_ ∨ _))
    rw [not_and_or, not_and_or, not_or, Bool.not_eq_true]
  refine ⟨fun h => if_pos (hguard.2 h), fun h => ⟨fun hu => ?_, fun hu => ?_⟩⟩
  · exact (if_neg fun hg => hguard.1 hg h).trans (if_neg (not_not_intro hu))
  · exact (if_neg fun hg => hguard.1 hg h).trans (if_pos hu)

end

/-- Settles O55, stage by stage. -/
theorem bootStages : Obligations.BootStages := by
  refine ⟨fun s a b h => congrArg (answer s) (if_neg h), fun s a b h => bootRomStart_clauses s a b h,
    fun s img => ⟨bootCheck_noImage s, bootCheck_format s, bootCheck_accepted s⟩, fun s p q base failed => ⟨firstStageLoad_tests s p q base failed,
      firstStageLoad_other s p q base failed, fun h => ⟨fun hc => ?_, firstStageLoad_flash s p q base failed h⟩, fun c hc => coreBist_map s failed hc⟩,
    fun s off kind data hkind => bootCommands_clauses s off data hkind, fun s off data => ?_, configEntry_clauses⟩
  · exact (firstStageLoad_flash s p q base failed h).trans (congrArg (answer s) (if_pos hc))
  · rw [commandWrite_svnCommit]
    exact svnCommit_clauses s _

end Sys2Proof.Machine

/-! # The dictionary server (R365 to R384) -/

namespace Sys2Proof.Machine

/-! ## A request that its reach takes -/

section
variable {s x : State} {r : Reach} {h : Nat} {data : List Byte}

/-- A request that the server answers, no longer than its reach carries. -/
theorem request_some (s : State) (hlen : getF h DictReq.LENGTH ≤ reachMost r) {d : DictRes} (hd : serve s r h data = some d) :
    request s r h data = if d.undef ≠ 0 then .fault (.undefinedCase d.undef) else if d.held then answer s d.st
      else answer s (answerReach (noteAnswer d.st d) r h d) := by
  have hshort : ¬ (reachMost r < getF h DictReq.LENGTH ∧ (served s r (getF h DictReq.OP) 0x101001).isSome = true) := fun hc =>
    absurd hc.1 (Nat.not_lt.2 hlen)
  simp only [request, if_neg hshort, hd]

theorem of_ite_none {α : Type} {c : Prop} [Decidable c] {y z : α} (h : (if c then none else some y) = some z) : ¬ c ∧ y = z := by
  split at h
  · cases h
  · next hc => exact ⟨hc, Option.some.inj h⟩

theorem of_ite_some {α : Type} {c : Prop} [Decidable c] {y z : α} (h : (if c then some y else none) = some z) : c ∧ y = z := by
  split at h
  · next hc => exact ⟨hc, Option.some.inj h⟩
  · cases h

/-- What a reach takes it has served; the queue is the one before. -/
theorem reachRequest_submitted (hs : submitted s r h data = some x) : reachRequest s r h data = request x r h data ∧ x.pending = s.pending := by
  cases r with
  | mailbox m =>
    obtain ⟨hopen, rfl⟩ := of_ite_none hs
    exact ⟨if_neg hopen, rfl⟩
  | bus e =>
    obtain ⟨haddr, rfl⟩ := of_ite_some hs
    exact ⟨if_pos haddr, rfl⟩
  | fabric dev =>
    obtain ⟨hopen, rfl⟩ := of_ite_none hs
    rw [Bool.or_eq_true, Bool.or_eq_true, not_or, not_or] at hopen
    obtain ⟨⟨hserved, hkept⟩, hheld⟩ := hopen
    have hnone : s.dct.kept.find? (fun k => k.dev == dev && k.tag == getF h DictReq.TAG) = none := by
      rw [List.find?_eq_none]
      intro k hk hm
      exact hkept (List.any_eq_true.2 ⟨k, hk, hm⟩)
    refine ⟨(if_neg hserved).trans ?_, rfl⟩
    rw [hnone]
    exact if_neg hheld

variable {i : Instr} (hi : exec i s = reachRequest s r h data) (hs : submitted s r h data = some x) (hlen : getF h DictReq.LENGTH ≤ reachMost r)
include hi hs hlen

/-- A request taken, by what the server makes of it. -/
theorem exec_submitted {d : DictRes} (hd : serve x r h data = some d) : exec i s = if d.undef ≠ 0 then .fault (.undefinedCase d.undef)
    else if d.held then answer s d.st else answer s (answerReach (noteAnswer d.st d) r h d) := by
  obtain ⟨hreq, hpend⟩ := reachRequest_submitted hs
  rw [hi, hreq, request_some x hlen hd]
  simp only [answer, hpend]

theorem request_answered {d : DictRes} (hd : serve x r h data = some d) (hu : d.undef = 0) (hh : d.held = false) :
    completes i s (answerReach (noteAnswer d.st d) r h d) :=
  (exec_submitted hi hs hlen hd).trans ((if_neg (not_not_intro hu)).trans (if_neg (by simp [hh])))

theorem request_held {d : DictRes} (hd : serve x r h data = some d) (hu : d.undef = 0) (hh : d.held = true) : completes i s d.st :=
  (exec_submitted hi hs hlen hd).trans ((if_neg (not_not_intro hu)).trans (if_pos hh))

theorem request_undefined {d : DictRes} (hd : serve x r h data = some d) (hu : d.undef ≠ 0) : exec i s = .fault (.undefinedCase d.undef) :=
  (exec_submitted hi hs hlen hd).trans (if_pos hu)

end

/-! ## Answers -/

theorem msix_dct (s : State) (v : Nat) : (msix s v).dct = s.dct := by
  unfold msix
  split
  · rfl
  split
  · split <;> rfl
  · rfl

/-- A BUSY mailbox gets its response and reads DONE. -/
theorem mailboxDone_busy {s : State} {m : Nat} (h : Nat) (d : DictRes) (hb : (kget s.dct.mailboxes m ⟨0, 0, 0, []⟩).state = 1) :
    (kget (mailboxDone s m h d).dct.mailboxes m ⟨0, 0, 0, []⟩).state = 2
    ∧ (kget (mailboxDone s m h d).dct.mailboxes m ⟨0, 0, 0, []⟩).resp = respHeader h d := by
  unfold mailboxDone
  split
  · next hn =>
    rw [kget, hn] at hb
    cases hb
  · next b hf =>
    rw [kget, hf, Option.getD_some] at hb
    rw [if_neg (not_not_intro hb), msix_dct, kget_kput_same]
    exact ⟨rfl, rfl⟩

/-! ## The write of an entry -/

section
variable {x : State} {r : Reach} {e o tag : Nat} {b : List Byte}

/-- The fields of a write request's header. -/
theorem writeHeader_fields (w : DictWr) : let h := writeHeader w
    getF h DictReq.OP = 2 ∧ getF h DictReq.INDEX = w.entry / 256 % 2 ^ 16 ∧ getF h DictReq.SUBINDEX = w.entry % 256
    ∧ getF h DictReq.OFFSET = w.off % 2 ^ 32 ∧ getF h DictReq.LENGTH = w.data.length % 2 ^ 32 ∧ getF h DictReq.TAG = w.tag % 2 ^ 16 := by
  refine ⟨?_, ?_, ?_, ?_, ?_, ?_⟩
  · exact getF_setFs_append_cons DictReq.OP 2 [] [_, _, _, _, _] 0 (by simp)
  · exact getF_setFs_append_cons DictReq.INDEX _ [_] [_, _, _, _] 0 (by simp)
  · exact (getF_setFs_append_cons DictReq.SUBINDEX _ [_, _] [_, _, _] 0 (by simp)).trans (Nat.mod_mod _ _)
  · exact getF_setFs_append_cons DictReq.OFFSET _ [_, _, _] [_, _] 0 (by simp)
  · exact getF_setFs_append_cons DictReq.LENGTH _ [_, _, _, _] [_] 0 (by simp)
  · exact getF_setFs_append_cons DictReq.TAG _ [_, _, _, _, _] [] 0 (by simp)

theorem reachMost_lt (r : Reach) : reachMost r < 2 ^ 32 := by
  unfold reachMost
  split <;> decide

theorem writeHeader_length (hb : b.length ≤ reachMost r) : getF (writeHeader ⟨r, e, o, b, tag⟩) DictReq.LENGTH = b.length :=
  (writeHeader_fields ⟨r, e, o, b, tag⟩).2.2.2.2.1.trans (Nat.mod_eq_of_lt (hb.trans_lt (reachMost_lt r)))

/-- A write that is served is the write of its entry, offset and bytes. -/
theorem serve_writeHeader (he : e < 2 ^ 24) (ho : o < 2 ^ 32) (hb : b.length ≤ reachMost r) (hserved : served x r 2 e = some true) :
    serve x r (writeHeader ⟨r, e, o, b, tag⟩) b = some (serveWrite x ⟨r, e, o, b, tag % 2 ^ 16⟩) := by
  obtain ⟨hop, hindex, hsub, hoff, -, htag⟩ := writeHeader_fields ⟨r, e, o, b, tag⟩
  have hent : e / 256 % 2 ^ 16 * 256 + e % 256 = e := by omega
  unfold serve
  rw [hop, hindex, hsub, hoff, htag, writeHeader_length hb]
  simp only [hent, hserved, Nat.mod_eq_of_lt ho, List.take_length]
  exact congrArg some ((if_neg (by decide)).trans ((if_pos trivial).trans (if_neg (Nat.lt_irrefl _))))

/-- A renewed lease changes neither the device's state nor the frame of the boundary. -/
theorem leaseRenew_keeps {c : Prop} [Decidable c] : inRun (if c then leaseRenew x else x) = inRun x
    ∧ effectFrame (if c then leaseRenew x else x) = effectFrame x := by
  split
  · exact ⟨rfl, rfl⟩
  · exact ⟨rfl, rfl⟩

theorem odFind_ent {ro : OdRow} (h : odFind e = some ro) : ro.ent = e := by
  unfold odFind at h
  have := List.find?_some h
  simpa using this

variable {ro : OdRow} (hro : odFind e = some ro) (hacc : accessCheck x r ro = (0, 0))
include hro hacc

/-- The write of an entry that passes the checks of its access. -/
theorem serveWrite_entry (t : Nat) : serveWrite x ⟨r, e, o, b, t⟩ = if isStaged ro.ent then stageWrite x ro ⟨r, e, o, b, t⟩
    else if !lenOk x ro o b.length then dStatus x 3
    else if isHeldWrite x ro then holdWrite x ro ⟨r, e, o, b, t⟩
    else acceptWrite x ro ⟨r, e, o, b, t⟩ := by
  unfold serveWrite
  rw [hro]
  simp only [hacc]
  rfl

/-- The write of an entry that takes its value whole. -/
theorem serveWrite_whole (t : Nat) (hst : isStaged e = false) (hlen : lenOk x ro o b.length = true) : serveWrite x ⟨r, e, o, b, t⟩
    = if isHeldWrite x ro then holdWrite x ro ⟨r, e, o, b, t⟩ else acceptWrite x ro ⟨r, e, o, b, t⟩ := by
  rw [serveWrite_entry hro hacc, odFind_ent hro, hst, hlen]
  rfl

theorem serveWrite_command (t : Nat) (hst : isStaged e = false) (hlen : lenOk x ro o b.length = true) (hrange : rangesOk ro o b = true)
    (hcmd : ro.acc = 2) : serveWrite x ⟨r, e, o, b, t⟩ = dWrote (commandWrite x e o b) := by
  have hheld : isHeldWrite x ro = false := by rw [isHeldWrite, hcmd]; simp
  have hbase : ro.ent ≠ OD.BASE_IMAGE := by
    rw [odFind_ent hro]
    rintro rfl
    exact absurd hst (by decide)
  rw [serveWrite_whole hro hacc t hst hlen, hheld, acceptWrite, if_neg Bool.false_ne_true, if_pos hcmd, if_neg hbase, hrange, odFind_ent hro]
  rfl

theorem serveWrite_held (t : Nat) (hst : isStaged e = false) (hlen : lenOk x ro o b.length = true) (hrange : rangesOk ro o b = true)
    (hheld : isHeldWrite x ro = true) (h4 : ro.acc ≠ 4) (hroom : x.dct.held.length < 256) : let y := overlayCount x 2
    serveWrite x ⟨r, e, o, b, t⟩ = { dStatus { y with dct := { y.dct with held := y.dct.held ++ [⟨r, e, o, b, t⟩] } } 0 with held := true } := by
  rw [serveWrite_whole hro hacc t hst hlen, hheld, if_pos rfl, holdWrite, if_neg h4, hrange]
  exact (if_neg (by decide)).trans (if_neg (by omega))

/-- A setting that passes its checks, in force at once or accepted for the boundary. -/
theorem serveWrite_setting (t : Nat) (hst : isStaged e = false) (hlen : lenOk x ro o b.length = true) (hrange : rangesOk ro o b = true)
    (hheld : isHeldWrite x ro = false) (h2 : ro.acc ≠ 2) (hrwi : ¬ (ro.acc = 4 ∧ inRun x = true ∧ od x OD.POWER_STATE ≠ 2))
    (hlay : (isLayout e && inRun x) = false) (hown : ownCheck x ro o b = (0, 0)) (hu06 : writesU06 x ro o b = false) :
    let y := if e = OD.ALLOWANCE_UJ then leaseRenew x else x
    serveWrite x ⟨r, e, o, b, t⟩ = if ro.acc = 3 ∧ inRun x = true
      then ⟨{ y with dct := { y.dct with rwf := y.dct.rwf ++ [⟨r, e, o, b, t⟩] } }, 0, 0, effectFrame x, [], 0, false⟩
      else dStatus (takeEffect y ro o b) 0 := by
  intro y
  have hlay' : ¬ (isLayout ro.ent = true ∧ inRun x = true) := by
    rw [odFind_ent hro, ← Bool.and_eq_true, hlay]
    exact Bool.false_ne_true
  have hset : serveWrite x ⟨r, e, o, b, t⟩ = acceptSetting x ro ⟨r, e, o, b, t⟩ := by
    rw [serveWrite_whole hro hacc t hst hlen, hheld, if_neg Bool.false_ne_true, acceptWrite, if_neg h2]
  obtain ⟨hrun, hframe⟩ : inRun y = inRun x ∧ effectFrame y = effectFrame x := leaseRenew_keeps
  have hy : (if ro.ent = OD.ALLOWANCE_UJ then leaseRenew x else x) = y := by rw [odFind_ent hro]
  have hown' : ¬ (ownCheck x ro o b).1 ≠ 0 := by rw [hown]; decide
  have haccept : acceptSetting x ro ⟨r, e, o, b, t⟩ = _ := (if_neg hrwi).trans ((if_neg (by rw [hrange]; decide)).trans
    ((if_neg hlay').trans ((if_neg hown').trans (if_neg (by rw [hu06]; decide)))))
  rw [hset, haccept, hy, ← hrun, ← hframe]

/-- The last byte of a staged value, here its only request. -/
theorem serveWrite_staged (t : Nat) (hst : isStaged e = true) (hlen : stagedLen e b = some b.length) :
    serveWrite x ⟨r, e, 0, b, t⟩ = acceptWrite (stagingSet x r e none) ro ⟨r, e, 0, b, t⟩ := by
  rw [serveWrite_entry hro hacc, odFind_ent hro, hst, if_pos rfl]
  simp only [stageWrite, if_pos, List.nil_append, hlen, List.length_nil, ne_eq, not_true_eq_false, if_false, Nat.lt_irrefl]

theorem serveWrite_baseImage (t : Nat) (hcmd : ro.acc = 2) (hlen : stagedLen e b = some b.length) (he : e = OD.BASE_IMAGE) :
    serveWrite x ⟨r, e, 0, b, t⟩ = baseImage (stagingSet x r e none) b := by
  have hst : isStaged e = true := by rw [he]; decide
  rw [serveWrite_staged hro hacc t hst hlen, acceptWrite, if_pos hcmd, if_pos ((odFind_ent hro).trans he)]

theorem serveWrite_stagedCommand (t : Nat) (hst : isStaged e = true) (hcmd : ro.acc = 2) (hlen : stagedLen e b = some b.length)
    (he : e ≠ OD.BASE_IMAGE) : serveWrite x ⟨r, e, 0, b, t⟩ = dWrote (commandWrite (stagingSet x r e none) e 0 b) := by
  have hrange : rangesOk ro 0 b = true := by
    rw [rangesOk, odFind_ent hro, hst]
    rfl
  rw [serveWrite_staged hro hacc t hst hlen, acceptWrite, if_pos hcmd, odFind_ent hro, if_neg he, hrange]
  rfl

end

theorem baseImage_held (s : State) (img : List Byte) : (baseImage s img).held = false := by
  unfold baseImage
  extract_lets c l x t
  split
  · rfl
  split
  · rfl
  split
  · rfl
  · rfl

/-! ## The commands that are requests -/

section
variable {s x : State} {r : Reach} {h : Nat} {data : List Byte} {i : Instr} (hi : exec i s = reachRequest s r h data)
  (hs : submitted s r h data = some x) (hlen : getF h DictReq.LENGTH ≤ reachMost r)
include hi hs hlen

theorem request_clauses (d : DictRes) (hd : serve x r h data = some d) :
    (d.undef = 0 → d.held = false → completes i s (answerReach (noteAnswer d.st d) r h d))
    ∧ (d.undef = 0 → d.held = true → completes i s d.st) ∧ (d.undef ≠ 0 → exec i s = .fault (.undefinedCase d.undef)) :=
  ⟨request_answered hi hs hlen hd, request_held hi hs hlen hd, request_undefined hi hs hlen hd⟩

theorem request_mailbox {m : Nat} (d : DictRes) (hd : serve x r h data = some d) (hh : d.held = false) (hu : d.undef = 0) (hr : r = .mailbox m)
    (hb : (kget d.st.dct.mailboxes m ⟨0, 0, 0, []⟩).state = 1) : ∃ u, completes i s u ∧ (kget u.dct.mailboxes m ⟨0, 0, 0, []⟩).state = 2
      ∧ (kget u.dct.mailboxes m ⟨0, 0, 0, []⟩).resp = respHeader h d := by
  refine ⟨_, request_answered hi hs hlen hd hu hh, ?_⟩
  subst hr
  exact mailboxDone_busy h d hb

/-- What an entry without a row, an INFO and a read answer. -/
theorem request_reads : let op := getF h DictReq.OP; let n := getF h DictReq.INDEX * 256 + getF h DictReq.SUBINDEX
    let ends := fun (d : DictRes) => completes i s (answerReach (noteAnswer d.st d) r h d)
    served x r op n = some true → (odFind n = none → op = 1 ∨ op = 3 → ends (dStatus x 1))
      ∧ ∀ ro, odFind n = some ro → (op = 3 → ends ⟨x, 0, 0, 0, infoBytes x ro, 0, false⟩)
        ∧ (op = 1 → ro.acc ≠ 2 → lenOk x ro (getF h DictReq.OFFSET) (getF h DictReq.LENGTH) = true →
          ends (dWrote (readEntry x ro (getF h DictReq.OFFSET) (getF h DictReq.LENGTH)))) := by
  intro op n ends hserved
  have hread : op = 1 → serve x r h data = some (serveRead x n (getF h DictReq.OFFSET) (getF h DictReq.LENGTH)) := fun h1 => by
    unfold serve
    simp only [show served x r (getF h DictReq.OP) (getF h DictReq.INDEX * 256 + getF h DictReq.SUBINDEX) = some true from hserved]
    exact congrArg some (if_pos h1)
  have hinfo : op = 3 → serve x r h data = some (serveInfo x n) := fun h3 => by
    unfold serve
    simp only [show served x r (getF h DictReq.OP) (getF h DictReq.INDEX * 256 + getF h DictReq.SUBINDEX) = some true from hserved]
    have h1 : getF h DictReq.OP ≠ 1 := fun hc => by simp [op, hc] at h3
    have h2 : getF h DictReq.OP ≠ 2 := fun hc => by simp [op, hc] at h3
    exact congrArg some ((if_neg h1).trans ((if_neg h2).trans (if_pos h3)))
  have hends : ∀ d, serve x r h data = some d → d.undef = 0 → d.held = false → ends d := fun d => request_answered hi hs hlen
  refine ⟨fun hn hop => hends _ ?_ rfl rfl, fun ro hro => ⟨fun h3 => hends _ ?_ rfl rfl, fun h1 hacc hok => hends _ ?_ rfl rfl⟩⟩
  · obtain h1 | h3 := hop
    · rw [hread h1, serveRead, hn]
    · rw [hinfo h3, serveInfo, hn]
  · rw [hinfo h3, serveInfo, hro]
  · rw [hread h1, serveRead, hro]
    simp only [if_neg hacc, hok]
    rfl

end

/-- What the write of an entry answers, by the kind of the entry. -/
theorem request_writes {s x : State} {r : Reach} {tag e o : Nat} {b : List Byte} {i : Instr}
    (hi : exec i s = reachRequest s r (writeHeader ⟨r, e, o, b, tag⟩) b) (hs : submitted s r (writeHeader ⟨r, e, o, b, tag⟩) b = some x)
    (hb : b.length ≤ reachMost r) (he : e < 2 ^ 24) (ho : o < 2 ^ 32) (hserved : served x r 2 e = some true) {ro : OdRow}
    (hro : odFind e = some ro) (hacc : accessCheck x r ro = (0, 0)) :
    let ends := fun (d : DictRes) => completes i s (answerReach (noteAnswer d.st d) r (writeHeader ⟨r, e, o, b, tag⟩) d)
    (isStaged e = false → lenOk x ro o b.length = true → rangesOk ro o b = true →
      (ro.acc = 2 → ends (dWrote (commandWrite x e o b)))
      ∧ (isHeldWrite x ro = true → ro.acc ≠ 4 → x.dct.held.length < 256 → let y := overlayCount x 2
        completes i s { y with dct := { y.dct with held := y.dct.held ++ [⟨r, e, o, b, tag % 2 ^ 16⟩] } })
      ∧ (isHeldWrite x ro = false → ro.acc ≠ 2 → (isLayout e && inRun x) = false → ownCheck x ro o b = (0, 0) →
        writesU06 x ro o b = false → let y := if e = OD.ALLOWANCE_UJ then leaseRenew x else x
        (ro.acc = 1 ∨ inRun x = false ∨ (ro.acc = 4 ∧ od x OD.POWER_STATE = 2) → ends (dStatus (takeEffect y ro o b) 0))
        ∧ (ro.acc = 3 → inRun x = true → let z := { y with dct := { y.dct with rwf := y.dct.rwf ++ [⟨r, e, o, b, tag % 2 ^ 16⟩] } }
          ends ⟨z, 0, 0, effectFrame x, [], 0, false⟩)))
    ∧ (isStaged e = true → ro.acc = 2 → o = 0 → stagedLen e b = some b.length → let y := stagingSet x r e none
      (e = OD.BASE_IMAGE → (baseImage y b).undef = 0 → ends (baseImage y b))
      ∧ (e ≠ OD.BASE_IMAGE → ends (dWrote (commandWrite y e 0 b)))) := by
  intro ends
  have hlen : getF (writeHeader ⟨r, e, o, b, tag⟩) DictReq.LENGTH ≤ reachMost r := (writeHeader_length hb).trans_le hb
  have hserve := serve_writeHeader (tag := tag) he ho hb hserved
  have hends : ∀ d, serveWrite x ⟨r, e, o, b, tag % 2 ^ 16⟩ = d → d.undef = 0 → d.held = false → ends d := fun d hd =>
    request_answered hi hs hlen (hserve.trans (congrArg some hd))
  refine ⟨fun hst hok hrange => ⟨fun hcmd => ?_, fun hheld h4 hroom => ?_, fun hheld h2 hlay hown hu06 => ⟨fun hnow => ?_, fun h3 hrun => ?_⟩⟩,
    fun hst hcmd h0 hwhole => ⟨fun hbase hu => ?_, fun hbase => ?_⟩⟩
  · exact hends _ (serveWrite_command hro hacc _ hst hok hrange hcmd) rfl rfl
  · exact request_held hi hs hlen (hserve.trans (congrArg some (serveWrite_held hro hacc _ hst hok hrange hheld h4 hroom))) rfl rfl
  · have hrwi : ¬ (ro.acc = 4 ∧ inRun x = true ∧ od x OD.POWER_STATE ≠ 2) := fun ⟨h4, hrun, hp⟩ => by
      obtain h1 | hn | ⟨-, hp2⟩ := hnow
      · omega
      · rw [hrun] at hn
        cases hn
      · exact hp hp2
    have hnot : ¬ (ro.acc = 3 ∧ inRun x = true) := fun ⟨h3, hrun⟩ => by
      obtain h1 | hn | ⟨h4, -⟩ := hnow
      · omega
      · rw [hrun] at hn
        cases hn
      · omega
    exact hends _ ((serveWrite_setting hro hacc _ hst hok hrange hheld h2 hrwi hlay hown hu06).trans (if_neg hnot)) rfl rfl
  · have hrwi : ¬ (ro.acc = 4 ∧ inRun x = true ∧ od x OD.POWER_STATE ≠ 2) := fun ⟨h4, _⟩ => by omega
    exact hends _ ((serveWrite_setting hro hacc _ hst hok hrange hheld h2 hrwi hlay hown hu06).trans (if_pos ⟨h3, hrun⟩)) rfl rfl
  · subst h0
    exact hends _ (serveWrite_baseImage hro hacc _ hcmd hwhole hbase) hu (baseImage_held _ _)
  · subst h0
    exact hends _ (serveWrite_stagedCommand hro hacc _ hst hcmd hwhole hbase) rfl rfl

/-- Each command that writes an entry is a write request of it. -/
theorem exec_writes (s : State) (r : Reach) (tag off e row : Nat) (data : List Byte) :
    ∀ p ∈ [(OD.AUDIT_REQ, off, data, Instr.auditReq r tag off data), (OD.ROW_CONTROL, 0, leBytes 4 (2 ^ 30 + row % 2 ^ 15), .suspend r tag row),
        (OD.ROW_CONTROL, 0, leBytes 4 (2 * 2 ^ 30 + row % 2 ^ 15), .resume r tag row), (OD.MODEL_SLOTS, off, data, .modelSlots r tag off data),
        (OD.ADAPTER_LOAD, off, data, .adapterLoad r tag off data), (OD.ADAPTER_COMMIT, off, data, .adapterCommit r tag off data),
        (OD.GRAMMARS, off, data, .grammars r tag off data), (OD.PEER_LOST, off, data, .peerLost r tag off data),
        (OD.MAP_NEXT, off, data, .mapNext r tag off data), (OD.QP_CONTEXTS, off, data, .qpContexts r tag off data),
        (OD.MR_REGISTER, off, data, .mrRegister r tag off data), (OD.MR_DEREGISTER, off, data, .mrDeregister r tag off data),
        (OD.WICKETS, off, data, .wickets r tag off data), (OD.TRAY_SLOT_DEAD, off, data, .traySlotDead r tag off data),
        (OD.TRAY_MEMBERS, off, data, .trayMembers r tag off data), (OD.TRC_INVAL_ALL, off, data, .trcInvalAll r tag off data),
        (OD.COH_RESET, off, data, .cohReset r tag off data), (OD.ALLOWANCE_UJ, off, data, .allowanceUj r tag off data),
        (OD.PEAK_UJ, off, data, .peakUj r tag off data), (OD.POWER_STATE_REQ, 0, [1], .idleRequest r tag),
        (OD.POWER_STATE_REQ, 0, [2], .activeRequest r tag), (OD.POWER_STATE_REQ, 0, [3], .dormantRequest r tag),
        (OD.BASE_IMAGE, off, data, .baseImage r tag off data), (OD.CYCLIC_STEPS, off, data, .cyclicSteps r tag off data),
        (OD.PROG_IMAGE, off, data, .progImage r tag off data), (OD.OVERLAY_LOAD, off, data, .overlayLoad r tag off data),
        (OD.OVERLAY_ERASE, off, data, .overlayErase r tag off data), (OD.OVERLAY_REQUEST, off, data, .overlayRequest r tag off data),
        (OD.RUN_REQUEST, off, data, .runRequest r tag off data), (OD.ALERT_CLEAR, off, data, .alertClear r tag off data),
        (OD.BAR2_WINDOW, off, data, .bar2Window r tag off data), (OD.BOOT_COMMIT, off, data, .bootCommit r tag off data),
        (OD.SVN_COMMIT, off, data, .svnCommit r tag off data), (OD.DEBUG_UNLOCK, off, data, .debugUnlock r tag off data),
        (OD.KEY_INSTALL, off, data, .keyInstall r tag off data), (OD.KEY_REVOKE, off, data, .keyRevoke r tag off data),
        (OD.ATTEST_REQUEST, off, data, .attestRequest r tag off data), (OD.PARTITION_CREATE, off, data, .partitionCreate r tag off data),
        (OD.PARTITION_RELEASE, off, data, .partitionRelease r tag off data), (OD.AUDIT_REQUEST, off, data, .auditRequest r tag off data),
        (OD.FENCE_REGION, off, data, .fenceRegion r tag off data), (OD.DERATE, 0, [1], .derateEnter r tag), (OD.DERATE, 0, [0], .derateLeave r tag),
        (OD.FENCE_COMMAND, off, data, .fenceCommand r tag off data), (e, off, data, .dictWrite r tag e off data)],
      exec p.2.2.2 s = reachRequest s r (writeHeader ⟨r, p.1, p.2.1, p.2.2.1, tag⟩) p.2.2.1 := by
  simp only [List.forall_mem_cons, List.not_mem_nil, false_implies, implies_true, and_true]
  and_intros <;> rfl

/-- Each command that carries a request's header is that request. -/
theorem exec_requests (s : State) (r : Reach) (tag e m req dev : Nat) (data : List Byte) :
    ∀ p ∈ [(Reach.mailbox m, req, data, Instr.doorbell m req data), (.fabric dev, leNat (data.take 32), data.drop 32, .dictRequest dev data),
        (r, mkRec [(DictReq.OP, 3), (DictReq.INDEX, e / 256), (DictReq.SUBINDEX, e % 256), (DictReq.TAG, tag)], [], .dictInfo r tag e)],
      exec p.2.2.2 s = reachRequest s p.1 p.2.1 p.2.2.1 := by
  simp only [List.forall_mem_cons, List.not_mem_nil, false_implies, implies_true, and_true]
  and_intros <;> rfl

/-! ## The fabric reach (R375) -/

theorem served_fabric_op (s : State) (dev op op' e e' : Nat) : served s (.fabric dev) op e = served s (.fabric dev) op' e' := rfl

theorem dictRequest_closed (s : State) (dev : Nat) (data : List Byte) (h : served s (.fabric dev) 1 0x101001 = none) :
    completes (.dictRequest dev data) s s := by
  rw [served_fabric_op s dev 1 (getF (leNat (data.take 32)) DictReq.OP) 0x101001 0x101001] at h
  exact if_pos (Option.isNone_iff_eq_none.2 h)

theorem dictRequest_kept (s : State) (dev : Nat) (data : List Byte) (k : KeptResp) (h : (served s (.fabric dev) 1 0x101001).isSome = true)
    (hk : s.dct.kept.find? (fun k => k.dev == dev && k.tag == getF (leNat (data.take 32)) DictReq.TAG) = some k) :
    completes (.dictRequest dev data) s (sendMgmt s 10 dev (frameNo s) k.data) := by
  rw [served_fabric_op s dev 1 (getF (leNat (data.take 32)) DictReq.OP) 0x101001 0x101001] at h
  have hopen : ¬ (served s (.fabric dev) (getF (leNat (data.take 32)) DictReq.OP) 0x101001).isNone = true := by
    rwa [Option.isNone_iff_eq_none, ← ne_eq, ← Option.isSome_iff_ne_none]
  have hexec : fabricRequest s dev (leNat (data.take 32)) (data.drop 32) = answer s (sendMgmt s 10 dev (frameNo s) k.data) :=
    (if_neg hopen).trans (by rw [hk])
  exact hexec

/-- Settles O50: a request that its reach takes is answered as the server serves it. -/
theorem dictionaryCommandsAnswer : Obligations.DictionaryCommandsAnswer := by
  refine ⟨?_, ?_, fun s dev data k h hk => dictRequest_kept s dev data k h hk, fun s dev data h => dictRequest_closed s dev data h,
    fun _ _ _ => rfl⟩
  · intro s x r tag off e' o row m data b i hmem hb h ends hs
    have hi := exec_writes s r tag off _ row data _ hmem
    have hlen : getF h DictReq.LENGTH ≤ reachMost r := (writeHeader_length hb).trans_le hb
    refine ⟨fun d hd => ?_, fun he ho hserved ro hro hacc => request_writes hi hs hb he ho hserved hro hacc⟩
    obtain ⟨hans, hheld, hundef⟩ := request_clauses hi hs hlen d hd
    exact ⟨hans, hheld, hundef, fun hh hu hr hbusy => request_mailbox hi hs hlen d hd hh hu hr hbusy⟩
  · intro s x r tag e m req dev h data b i hmem ends op n hlen hs
    have hi := exec_requests s _ tag _ m req dev data _ hmem
    exact ⟨request_clauses hi hs hlen, request_reads hi hs hlen⟩

end Sys2Proof.Machine
